-- ==== Sys2Proof/Word.lean ====
section
/-! DEFINITION. The words of the T824: bytes, register words and 64-bit words, as the tables of spec/13 and spec/14 use them. -/

namespace Sys2Proof

/-- A byte of memory or of a descriptor (R11). -/
abbrev Byte := BitVec 8

/-- A set-up register (R464). -/
abbrev Word := BitVec 32

/-- An 8-byte doorbell, waypost or milestone number. -/
abbrev Word64 := BitVec 64

/-- A sparse table by key: keys strictly rising, no entry equal to the table's default. -/
abbrev SMap (α : Type) := List (Nat × α)

end Sys2Proof
end

