-- ==== Sys2Proof/Syntax.lean ====
section
/-! DEFINITION. The commands of the T824 block: one constructor per row of spec/opcode_table.json, with the operands that the row's rules name. -/

namespace Sys2Proof

/-- The three kinds of die (R466). -/
inductive DieKind where
  | ad
  | gd
  | hd
deriving DecidableEq, Repr

/-- Who makes a register access: a PCIe function (R463) or the owner's register path (R569). -/
inductive Via where
  | tenant (fn : Nat)
  | owner
deriving DecidableEq, Repr

/-- What host memory answers to a read of the module (R424): the bytes, a poisoned response, or a failed translation. -/
inductive HostReply where
  | data (bytes : List Byte)
  | poisoned
  | notTranslated
deriving DecidableEq, Repr

/-- The four operations that move vectors, and the gather of orders (R372). -/
inductive CollOp where
  | reduceScatter
  | allGather
  | allReduce
  | broadcast
  | orderGather
deriving DecidableEq, Repr

/-- The content of a READY packet (R373). -/
structure Ready where
  group : Nat
  milestone : Word64
  tag : Word
  rank : Nat
  op : CollOp
  phase : Nat
  elems : Nat
  inFmt : Nat
  outFmt : Nat
  root : Nat
  digest : List Byte
  orders : Nat
deriving DecidableEq, Repr

/-- The content of an ABORT packet (R379): the key, the status and the rank that raised it. -/
structure AbortMsg where
  group : Nat
  milestone : Word64
  tag : Word
  status : Nat
  rank : Nat
deriving DecidableEq, Repr

/-- A heartbeat of the twin (R538). -/
structure Heartbeat where
  state : Nat
  milestone : Word64
  seq : Nat
  held : Word64
  detaching : Bool
deriving DecidableEq, Repr

/-- The HELLO message of the pairing handshake (R536, step 1). -/
structure HelloMsg where
  endpoint : Nat
  domain : Nat
  serial : List Byte
  nonce : List Byte
deriving DecidableEq, Repr

/-- What link training found on a port (R365): the lanes in service and what the neighbour announced. -/
structure TrainResult where
  lanes : Nat
  neighbour : Nat
  nport : Nat
  domain : Nat
  unavail : Bool
deriving DecidableEq, Repr

/-- What start-up finds in the hardware (R574 to R576): the input, the two flash banks' copies of the management record,
stacks that fail training, dies with a fuse parity error, the capacities behind FM0 and FM1, the tiles whose reference
columns read blank, and the sums of other tiles that are not the ideal ones (tile, A_ideal, A_meas, A_zero over 64 products).
-/
structure PowerOnIn where
  millivolts : Nat
  recordOk : Bool × Bool
  failedStacks : List Nat
  /-- Lanes, channel × 72 + lane, that training finds failed in a stack (R401). -/
  failedLanes : List (Nat × List Nat)
  fuseFaultDies : List (DieKind × Nat)
  farGiB : Nat × Nat
  brake : Bool
  straps : Nat
  blankTiles : List Nat
  refSums : List (Nat × (Nat × Nat × Nat))
deriving DecidableEq, Repr

/-- What a scrub finds: devices that eight resets did not bring down (tile, device; R517), and the readings of reference devices
(tile, device, readings; R56). A device is (row × 1,152 + column) × 2 + half. -/
structure ScrubIn where
  stuck : List (Nat × Nat)
  refs : List (Nat × Nat × List Nat)
deriving DecidableEq, Repr

/-- The queue whose descriptor's far-tier access fails, and whether its read returned poison (R407, R410). -/
structure FarFailure where
  q : Nat
  poison : Bool
deriving DecidableEq, Repr

/-- A write of the event queue of the partition of lowest quadrant `p`, and whether the host accepted it (R432, R448). -/
structure EventWrite where
  p : Nat
  ok : Bool
deriving DecidableEq, Repr

/-- Sensor readings of a telemetry period (R581): six rails, the input, 20 dies and 24 stacks. -/
structure TelemetryIn where
  railW : List Nat
  inputW : Nat
deriving DecidableEq, Repr

/-- The commands of the block, one for each row of spec/opcode_table.json. A queue engine's command names the queue whose
running descriptor it works on; the descriptor's own fields stand in the state. -/
inductive Instr where
  /-- DOORBELL (R433): through function `fn`, a write of `width` bytes of `v` to BAR2 slot `slot`. -/
  | doorbell (fn slot width : Nat) (v : Word64)
  /-- DESCRIPTOR_FETCH (R428): queue `q` fetches its next descriptor, and host memory answers `r`. -/
  | descriptorFetch (q : Nat) (r : HostReply)
  /-- DESCRIPTOR_BEGIN (R429): the pending descriptor of queue `q` begins; `r` answers a read of its argument block in host memory. -/
  | descriptorBegin (q : Nat) (r : HostReply)
  /-- BUDGET_HANDOVER (R41) in the partition of lowest quadrant `p`. -/
  | budgetHandover (p : Nat)
  /-- COMPLETION_POST (R445) for queue `q`; `ok` says whether the host accepted the write. -/
  | completionPost (q : Nat) (ok : Bool)
  /-- EQ_OVERFLOW (R432): the write of an event queue. -/
  | eqOverflow (e : EventWrite)
  | nop (q : Nat)
  /-- WAYPOST_SET (R443); `ok` says whether a host write to REPORT was accepted. -/
  | waypostSet (q : Nat) (ok : Bool)
  /-- COPY (R438); `r` answers a read of a host source, `ok` a write of a host destination. -/
  | copy (q : Nat) (r : HostReply) (ok : Bool)
  | holdRelease (q : Nat)
  | mapLoad (q : Nat) (r : HostReply)
  | groupLoad (q : Nat) (r : HostReply)
  | vprogLoad (q : Nat) (r : HostReply)
  | collGroup (q : Nat) (r : HostReply)
  | forward (q : Nat)
  | dispatch (q : Nat)
  /-- MATMUL (R271); `slabErr` says that a slab read met an uncorrectable error (R281). -/
  | matmul (q : Nat) (slabErr : Bool)
  | row (q : Nat)
  | ingrad (q : Nat) (slabErr : Bool)
  | wgrad (q : Nat) (slabErr : Bool)
  | deriv (q : Nat)
  | vprog (q : Nat)
  | reduceScatter (q : Nat)
  | allGather (q : Nat)
  | allReduce (q : Nat)
  | broadcast (q : Nat)
  | orderGather (q : Nat)
  | updateNorm (q : Nat)
  | updateApply (q : Nat)
  /-- PASS2_BLOCK_RESUME (R38): the next block that waited for a reader is updated. -/
  | pass2BlockResume (q : Nat)
  | updateInit (q : Nat)
  | program (q : Nat)
  /-- PROGRAM_BATCH (R165) in tile `tile`; `readings` holds each device's verify readings, the pre-read first, in 1/6400 G_u. -/
  | programBatch (tile : Nat) (readings : List (List Nat))
  | milestone (q : Nat)
  /-- MILESTONE_CLOSURE (R36) of partition `p`. -/
  | milestoneClosure (p : Nat)
  | snapshot (q : Nat) (ok : Bool)
  | snapshotDeferredStart (q : Nat) (ok : Bool)
  | restore (q : Nat) (r : HostReply)
  /-- VECTOR_LATCH (R65) in tile `tile`. -/
  | vectorLatch (tile : Nat)
  /-- SEGMENT_SAMPLE (R67) in tile `tile`; `dev` gives each column's analogue deviation in 1/6400 unit products. -/
  | segmentSample (tile : Nat) (dev : List (Nat × Int))
  | edgePipeline (tile : Nat)
  | partialPacket (tile : Nat)
  /-- RESIDUAL_ARRIVAL (R124): the residual vector of token `seq`, binary32, reaches closing tile `tile`. -/
  | residualArrival (tile : Nat) (seq : Word) (values : List Word)
  | inputPieceArrival (tile : Nat)
  | idleTimeout (tile : Nat)
  | wakeAdmit (die : Nat)
  | tileWakeDone (tile : Nat)
  | tollAdmit (die : Nat)
  /-- DEBT_CHECK (R482): the die drew `drawn` pJ on its array rails since the last check. -/
  | debtCheck (die : Nat) (drawn : Nat)
  /-- RAIL_MEASURE (R480): partition `p`'s gradient group and memory and hub group drew these mW in the last window. -/
  | railMeasure (p : Nat) (gradientMw memoryMw : Nat)
  | refreshStart (die : Nat)
  | refreshComplete (tile : Nat)
  | probeStart (die : Nat)
  /-- PROBE_SCAN_DONE (R199): `meas` lists (physical row, logical column, V) where V differs from its expectation; `reads` gives
  the verify reads of suspect pairs (row, column, G+, G−) in 1/6400 G_u. -/
  | probeScanDone (tile : Nat) (meas : List (Nat × Nat × Int)) (reads : List (Nat × Nat × Nat × Nat))
  | repairDone (tile : Nat)
  | reserveProgrammed (tile : Nat)
  | refreshReq (via : Via) (die : Nat) (w : Word)
  | probeReq (via : Via) (die : Nat) (w : Word)
  | retireReq (via : Via) (die : Nat) (w : Word)
  | footpathGo (via : Via) (die : Nat) (w : Word)
  /-- FOOTPATH_COMPLETE (R418); `errs` is the number of symbol errors that the access met in its road block. -/
  | footpathComplete (die : Nat) (errs : Nat)
  | queueEnable (via : Via) (hub : Nat) (w : Word)
  | queueDisable (via : Via) (hub : Nat) (w : Word)
  | completionRingEnable (via : Via) (hub : Nat) (w : Word)
  | eventQueueEnable (via : Via) (hub : Nat) (w : Word)
  | portEnableWrite (via : Via) (hub : Nat) (w : Word)
  /-- LATCHED_PAIR_READ (R177): a read of the LO register of a pair. -/
  | latchedPairRead (via : Via) (kind : DieKind) (die off : Nat)
  | wmFifoRead (via : Via)
  /-- REGISTER_WRITE (R470): through function `fn`, a write of `width` bytes at BAR0 address `addr`. -/
  | registerWrite (fn addr width : Nat) (v : Word64)
  | hostWindowRead (fn : Nat) (off : Nat)
  | hostWindowWrite (fn : Nat) (off : Nat) (line : List Byte)
  | configRequest (fn : Nat)
  | snoop (addr : Nat)
  | functionLevelReset (fn : Nat)
  | perst
  | powerBrakeAssert
  | powerBrakeRelease
  /-- DIE_TEMP_SAMPLE (R491): the four sensors' readings in 1/16 °C. -/
  | dieTempSample (kind : DieKind) (die : Nat) (sensors : List Int)
  | clockFault (kind : DieKind) (die : Nat) (source : Nat) (ppm : Int)
  | inputFault (above : Bool) (centivolts : Nat)
  | powerOn (x : PowerOnIn)
  | recoveryImage (bank : Nat) (images : List (List Byte))
  | mgmtRecordWrite
  | standbyCopy
  | mgmtFailover (reason : Nat)
  | telemetryRecord (t : TelemetryIn)
  /-- STANDBY_TEMP_SAMPLE (R580): die temperatures in °C, AD0 to HD3. -/
  | standbyTempSample (temps : List Int)
  | registerPathRead (ctrl : Nat) (die : Byte) (off : Nat)
  | registerPathWrite (ctrl : Nat) (die : Byte) (off : Nat) (w : Word)
  | scrub (ctrl seq : Nat) (quads : Nat)
  /-- SCRUB_COMPLETE (R515): the scrub of the quadrants `quads` ends. -/
  | scrubComplete (quads : Nat) (found : ScrubIn)
  | assign (ctrl seq : Nat) (quads : Nat)
  | stop (ctrl seq : Nat) (quads : Nat)
  | resume (ctrl seq : Nat) (quads : Nat)
  | layout (ctrl seq : Nat) (code : Nat)
  | farAssign (ctrl seq : Nat) (quads base gib : Nat)
  | reset (ctrl seq : Nat) (scope : Nat)
  | fwWrite (ctrl seq : Nat) (bank off : Nat) (bytes : List Byte)
  | fwCommit (ctrl seq : Nat) (bank : Nat)
  /-- KEY_RECORD (R521): algorithm (0 Ed25519, 1 ML-DSA-65), slot, activate or revoke, digest, and the signed record's bytes. -/
  | keyRecord (ctrl seq : Nat) (alg slot : Nat) (activate : Bool) (digest record : List Byte)
  | arbRaise (ctrl seq : Nat) (value : Nat)
  | report (ctrl seq : Nat) (quads : Nat) (nonce : List Byte)
  | telemetry (ctrl seq : Nat) (period : Nat)
  | recordRead (ctrl seq : Nat) (count : Nat)
  | arrayReport (ctrl seq : Nat) (die : Nat)
  | markClear (ctrl seq : Nat) (tile : Nat)
  | certRead (ctrl seq : Nat) (alg off : Nat)
  | bootCfg (ctrl seq : Nat) (keep : Bool)
  | getVersion (fn : Nat)
  | getCapabilities (fn : Nat)
  | negotiateAlgorithms (fn : Nat)
  | getDigests (fn : Nat)
  | getCertificate (fn slot off len : Nat)
  | challenge (fn : Nat) (nonce : List Byte)
  | getMeasurements (fn block : Nat) (nonce : List Byte)
  | keyExchange (fn : Nat) (random : List Byte)
  | finish (fn : Nat) (verified : Bool)
  | endSession (fn : Nat)
  | linkFlitReceive (port : Nat) (flit : List Byte) (uncorr : Option Nat)
  | replayRequest (port : Nat) (ack : Nat)
  | replayTimeout (port : Nat)
  | trainComplete (port : Nat) (t : TrainResult)
  | trainTimeout (port : Nat)
  | linkSignalLoss (port : Nat)
  | packetReceive (port : Nat)
  | readyReceive (p : Nat) (r : Ready)
  | readyResend (p group : Nat) (tag : Word)
  | collDataReceive (p : Nat)
  | abortReceive (p : Nat) (a : AbortMsg)
  | collSettleExpiry (p group : Nat) (tag : Word)
  | collWatchdogExpiry (p group : Nat) (tag : Word)
  /-- STACK_TEMP_SAMPLE (R404): stack `m` reads `t` in 1/16 °C. -/
  | stackTempSample (m : Nat) (t : Int)
  /-- STACK_RETURN (R406): `failedLanes` lists the failed lanes found in training, channel × 72 + lane. -/
  | stackReturn (m : Nat) (failedLanes : List Nat)
  /-- PATROL_READ (R400): road block `rb` of stack `m` shows `errs` symbol errors; `laneErrs` names the lanes that erred. -/
  | patrolRead (m rb errs : Nat) (laneErrs : List Nat)
  /-- FAR_TIMEOUT (R410): no answer within 10 ms, or poison. -/
  | farTimeout (fm : Nat) (f : FarFailure)
  | farLinkDown (fm : Nat)
  | spillCopyDone (p slot : Nat) (ok : Bool)
  | twinEnable (via : Via) (w : Word)
  | twinDetach (via : Via) (w : Word)
  | twinPull (via : Via) (w : Word)
  | hello (m : HelloMsg)
  | chain (edChain mldsaChain : List Byte)
  | ident (record : List Byte)
  | confirm (accept : Bool)
  | pairingTimeout
  | heartbeatSend
  | heartbeatReceive (h : Heartbeat)
  | twinHeartbeatMiss
  | detachEnd
  /-- MIRROR_RECEIVED (R542): an incoming image has been written in full (`whole`) or stopped part-way. -/
  | mirrorReceived (toReturnSlot : Bool) (image : List Byte) (whole : Bool)
  | swTrig (via : Via) (w : Word)
  | abort (via : Via) (w : Word)
  | flush (via : Via) (w : Word)
  | trigInEdge (rising : Bool)
  /-- WAYMARK_STEP (R555): the step's end; `uv` gives each converter's held input in µV after scaling. -/
  | waymarkStep (uv : List Nat)
  | signalPresent (port : Nat)
  | farLinkTrained (fm : Nat)
  | rangeZeroingComplete (base : Nat)
  | mirrorSendComplete
  | returnConfirmed
  | returnRequestReceive
  | hdmDecoderCommit (fn : Nat) (committed : Bool)
  | ideKeyManagement (fn : Nat) (stream keySet : Nat) (activate : Bool) (key : List Byte)
deriving DecidableEq, Repr

end Sys2Proof
end

