-- ==== Sys2Proof/Config.lean ====
section
/-! DEFINITION. What an implementation of the T824 fixes and the spec does not: the free values and the functions of outside standards, all opaque. -/

namespace Sys2Proof.Config

/-- A fresh free value of up to 64 bits for each value of the state's free-value counter (log entry 13). -/
opaque freeValue : Nat → BitVec 64

/-- exp of a binary32 to within 1 ulp, one function for every engine (R303, R350; log entry 11). -/
opaque exp32 : Word → Word
/-- ln of a binary32 to within 1 ulp (R350 FLOG; log entry 11). -/
opaque log32 : Word → Word
/-- 1/√x of a binary32 to within 1 ulp (R350 FRSQ; log entry 11). -/
opaque rsqrt32 : Word → Word
/-- The point functions of FN 3, 4, 6, 7 and 8 of R302 to within 1 ulp (log entry 11). -/
opaque point32 : Nat → Word → Word
/-- f′ of FN 3, 4, 6, 7 and 8 of R310 from the saved value, to within 2 ulp (log entry 11). -/
opaque deriv32 : Nat → Word → Word
/-- α^t in binary64 to within 1 ulp (R331; log entry 11). -/
opaque powT : Word → Word64 → Word64

/-- Ed25519 verification (RFC 8032): public key, message, signature (log entry 12). -/
opaque edVerify : List Byte → List Byte → List Byte → Bool
/-- ML-DSA-65 verification with an empty context (FIPS 204; log entry 12). -/
opaque mldsaVerify : List Byte → List Byte → List Byte → Bool
/-- The 64-byte Ed25519 signature by the Alias key of the running firmware's digests (R523; log entry 12). -/
opaque edSign : List Byte → List Byte → List Byte
/-- The 3,309-byte ML-DSA-65 signature by the Alias key (R523; log entry 12). -/
opaque mldsaSign : List Byte → List Byte → List Byte
/-- DEVID: SHA-512 of the two DeviceID public keys, from the device's secret (R525; log entry 12). -/
opaque deviceId : List Byte
/-- The Alias certificate chain of an algorithm (0 Ed25519, 1 ML-DSA-65) for the running firmware's digests (R523, R524). -/
opaque aliasChain : Nat → List Byte → List Byte
/-- Whether a certificate chain reaches Yalith's roots (R536; log entry 12). -/
opaque chainReachesRoot : Nat → List Byte → Bool
/-- The Alias public key that a certificate chain carries (R536; log entry 12). -/
opaque chainAliasKey : Nat → List Byte → List Byte
/-- The body of the module's answer to an SPDM message of DMTF DSP0274, whose layout the spec leaves to that standard:
request code and request bytes (R524; log entry 12). -/
opaque spdmBody : Nat → List Byte → List Byte
/-- BLK_ID.REVISION of a die: kind and number (R466; log entry 6). -/
opaque revision : Nat → Nat → BitVec 8
/-- The module serial number, 16 bytes (R525, R597; log entry 6). -/
opaque serial : List Byte
/-- The fuse digest of the factory's key of an algorithm, in slot 0 (R521; log entry 6). -/
opaque factoryDigest : Nat → List Byte
/-- The measurements S1, S2 and S3 of the factory's image set (R519, R525; log entry 6). -/
opaque factoryMeas : Nat → List Byte
/-- The bytes of a bank that holds the factory's image set (R519; log entry 6). -/
opaque factoryFlash : Nat → List Byte

/-- The symbol, 0 to 255, that a data bit of a road block belongs to: which lane and beats carry it (R398; log entry 31). -/
opaque symbolOf : Nat → Nat

end Sys2Proof.Config
end

