-- ==== Sys2Proof/Machine/Bits.lean ====
section
/-! DEFINITION. Sparse tables, bytes and bit fields: the helpers that every table of the spec is read with. -/

namespace Sys2Proof.Machine

open Sys2Proof

/-! ### Sparse tables: keys strictly rising -/

/-- The entry of a key. -/
def tfind {α : Type} : SMap α → Nat → Option α
  | [], _ => none
  | (k, v) :: t, i => if i = k then some v else if i < k then none else tfind t i

/-- The entry of a key, or the table's default. -/
def tget {α : Type} (d : α) (m : SMap α) (i : Nat) : α := (tfind m i).getD d

/-- Writes an entry. -/
def tput {α : Type} : SMap α → Nat → α → SMap α
  | [], i, v => [(i, v)]
  | (k, w) :: t, i, v =>
    if i = k then (i, v) :: t else if i < k then (i, v) :: (k, w) :: t else (k, w) :: tput t i v

/-- Removes an entry. -/
def tdel {α : Type} : SMap α → Nat → SMap α
  | [], _ => []
  | (k, w) :: t, i => if i = k then t else if i < k then (k, w) :: t else (k, w) :: tdel t i

/-- Writes an entry, keeping the default unlisted. -/
def tset {α : Type} [DecidableEq α] (d : α) (m : SMap α) (i : Nat) (v : α) : SMap α :=
  if v = d then tdel m i else tput m i v

/-- Changes an entry. -/
def tmod {α : Type} (d : α) (m : SMap α) (i : Nat) (f : α → α) : SMap α := tput m i (f (tget d m i))

/-- Removes the entries of the keys from `lo` up to but not including `hi`. -/
def tclear {α : Type} (m : SMap α) (lo hi : Nat) : SMap α := m.filter fun e => e.1 < lo || hi ≤ e.1

/-- Keys strictly above a bound and strictly rising. -/
def tsorted {α : Type} : Nat → SMap α → Bool
  | _, [] => true
  | lo, (k, _) :: t => decide (lo ≤ k) && tsorted (k + 1) t

/-! ### Bytes (R11: little-endian) -/

/-- The number that little-endian bytes spell. -/
def leNat : List Byte → Nat
  | [] => 0
  | b :: t => b.toNat + 256 * leNat t

/-- The `n` little-endian bytes of a number. -/
def natLe : Nat → Nat → List Byte
  | 0, _ => []
  | n + 1, v => BitVec.ofNat 8 (v % 256) :: natLe n (v / 256)

/-- `n` bytes from offset `o`; a byte beyond the end reads 0. -/
def slice (bs : List Byte) (o n : Nat) : List Byte :=
  let r := (bs.drop o).take n
  r ++ List.replicate (n - r.length) 0

/-- The little-endian number in `n` bytes from offset `o`. -/
def field (bs : List Byte) (o n : Nat) : Nat := leNat (slice bs o n)

/-- Bits [lo+w−1:lo] of a number. -/
def bits (v lo w : Nat) : Nat := (v >>> lo) % 2 ^ w

/-- Bit `i` of a number. -/
def bit (v i : Nat) : Bool := v.testBit i

/-- 1 for true. -/
def b2n (b : Bool) : Nat := if b then 1 else 0

/-- Bits [lo+w−1:lo] of `v` replaced by `x`. -/
def setBits (v lo w x : Nat) : Nat :=
  v - (bits v lo w) * 2 ^ lo + (x % 2 ^ w) * 2 ^ lo

/-- The bits of `n` bytes from offset `o` are all 0. -/
def zeroBytes (bs : List Byte) (o n : Nat) : Bool := (slice bs o n).all (· == 0)

/-- Bytes of `bs` from offset `o` replaced by `xs`. -/
def patch (bs : List Byte) (o : Nat) (xs : List Byte) : List Byte :=
  bs.take o ++ xs ++ bs.drop (o + xs.length)

/-- A two's-complement field of `w` bits (R12). -/
def signed (w v : Nat) : Int := if v % 2 ^ w < 2 ^ (w - 1) then ((v % 2 ^ w : Nat) : Int) else ((v % 2 ^ w : Nat) : Int) - 2 ^ w

/-- The two's-complement code of `w` bits of an integer (R12). -/
def unsigned (w : Nat) (i : Int) : Nat := (i % (2 ^ w : Int)).toNat

/-- ⌈a / b⌉. -/
def ceilDiv (a b : Nat) : Nat := (a + b - 1) / b

/-- The first multiple of 256 at or after a number. -/
def roadUp (a : Nat) : Nat := ceilDiv a 256 * 256

/-- An integer held within limits. -/
def clampI (lo hi x : Int) : Int := max lo (min hi x)

/-- A counting field that holds at its largest value (R97). -/
def satAdd (top a b : Nat) : Nat := min top (a + b)

/-- Rounding of `n / d` (d > 0) half away from zero (R84, R85). -/
def roundAway (n : Int) (d : Nat) : Int :=
  if 0 ≤ n then (2 * n + d) / (2 * d) else -((2 * (-n) + d) / (2 * d))

/-- Rounding of `n / d` (d > 0) half to even. -/
def roundEven (n : Int) (d : Nat) : Int :=
  let q := n / d
  let r := n % d
  if 2 * r < d then q else if (d : Int) < 2 * r then q + 1 else if q % 2 = 0 then q else q + 1

/-- The integers 0 to n − 1 for which `f` has a value. -/
def collect {α : Type} (n : Nat) (f : Nat → Option α) : List α := (List.range n).filterMap f

/-- The first element that satisfies a test, replaced. -/
def updateFirst {α : Type} (p : α → Bool) (f : α → α) : List α → List α
  | [] => []
  | x :: t => if p x then f x :: t else x :: updateFirst p f t

/-- Parity of the ones of a number below 2^n. -/
def parity : Nat → Nat → Bool
  | 0, _ => false
  | n + 1, v => xor (v.testBit n) (parity n v)

/-- Inserts an element before the first that it does not follow. -/
def insertBy {α : Type} (le : α → α → Bool) (x : α) : List α → List α
  | [] => [x]
  | y :: t => if le x y then x :: y :: t else y :: insertBy le x t

/-- A list in order, equal elements in their first order. -/
def sortBy {α : Type} (le : α → α → Bool) : List α → List α
  | [] => []
  | x :: t => insertBy le x (sortBy le t)

/-- No element occurs twice. -/
def distinct : List Nat → Bool
  | [] => true
  | x :: t => !(t.contains x) && distinct t

/-- Lists of `n` elements each. -/
def chunks {α : Type} (n : Nat) : Nat → List α → List (List α)
  | 0, _ => []
  | k + 1, xs => if xs.isEmpty then [] else xs.take n :: chunks n k (xs.drop n)
def chunk {α : Type} (n : Nat) (xs : List α) : List (List α) := chunks n (xs.length) xs

end Sys2Proof.Machine
end

