-- ==== Sys2Proof/Machine/Flags.lean ====
section
/-! DEFINITION. The status codes (R446, R572), the event and record codes (R447, R582, R602) and how records are laid out. -/

namespace Sys2Proof.Machine

open Sys2Proof

def stOk := 0x0000
def stStepReplay := 0x0001
def stOpcode := 0x0010
def stOpForm := 0x0011
def stAddrRange := 0x0012
def stPhaseOrder := 0x0013
def stStepAbandoned := 0x0014
def stQueueStopped := 0x0015
def stHostError := 0x0016
def stFieldHeld := 0x0017
def stMapForm := 0x0020
def stMapPlace := 0x0021
def stMapBusy := 0x0022
def stMapAbsent := 0x0023
def stOrderRefused := 0x0030
def stOrderForm := 0x0031
def stOrderStale := 0x0032
def stOrderAddr := 0x0033
def stOrderRange := 0x0034
def stStashMissing := 0x0040
def stStashSlot := 0x0041
def stStashFull := 0x0042
def stGroupForm := 0x0050
def stGroupBusy := 0x0051
def stStepSkew := 0x0052
def stSnapshotForm := 0x0053
def stVprogForm := 0x0054
def stCollForm := 0x0060
def stCollBusy := 0x0061
def stCollMismatch := 0x0062
def stMilestoneMismatch := 0x0063
def stCollOverflow := 0x0064
def stCollTimeout := 0x0065
def stPeerUnavailable := 0x0066
def stMemOffline := 0x0070
def stHbmEcc := 0x0071
def stSlabEcc := 0x0072
def stFarError := 0x0073
def stMgmtState := 0x0080
def stMgmtBusy := 0x0081
def stImageRejected := 0x0082

/-- Success statuses (R446). -/
def success (st : Nat) : Bool := st == stOk || st == stStepReplay

def evStepAbandoned := 0x0001
def evFieldHeld := 0x0002
def evNormJump := 0x0003
def evStashDropped := 0x0004
def evStepSkew := 0x0005
def evUpdateNonfinite := 0x0006
def evOrderLogFull := 0x0007
def evOrderRefused := 0x0008
def evDeferOverrun := 0x0009
def evCheckFlag := 0x0010
def evTileRepaired := 0x0011
def evTileRetired := 0x0012
def evBypassEngaged := 0x0013
def evReserveLow := 0x0014
def evLinkDown := 0x0020
def evLinkDegraded := 0x0021
def evCollAborted := 0x0022
def evMemThermal := 0x0030
def evMemOffline := 0x0031
def evMemOnline := 0x0032
def evMemUncorr := 0x0033
def evMemWeak := 0x0034
def evMemLane := 0x0035
def evFarDown := 0x0036
def evQueueError := 0x0040
def evEqOverflow := 0x0041
def evPowerBrake := 0x0050
def evDieThrottle := 0x0051
def evThermalTrip := 0x0052
def evClockFault := 0x0053
def evInputFault := 0x0054
def evPartitionStopping := 0x0060
def evTwinPaired := 0x0070
def evTwinPairFail := 0x0071
def evTwinLost := 0x0072
def evTwinMirrorFail := 0x0073
def evTwinReturned := 0x0074
def evBootDone := 0x0080
def evMgmtFailover := 0x0081
def evRecordsLost := 0x0082
def evMgmtDone := 0x0083
def evStackFail := 0x0084
def evCalFuse := 0x0085
def evRecordLost := 0x0086

/-- A byte block of `n` bytes with fields (offset, width in bytes, value), all other bytes 0. -/
def block (n : Nat) (fs : List (Nat × Nat × Nat)) : List Byte :=
  fs.foldl (fun bs (o, w, v) => patch bs o (natLe w v)) (List.replicate n 0)

/-- The 64-byte record of R447; the fields of the payload give their offsets in the record. -/
def eventRecord (code : Nat) (tag stby : Bool) (seq time ms : Nat) (fs : List (Nat × Nat × Nat)) : List Byte :=
  block 64 ([(0, 2, code), (2, 1, 2 * b2n tag), (3, 1, b2n stby), (4, 4, seq), (8, 8, time), (16, 8, ms)] ++ fs)

/-- The 32-byte completion entry of R444. -/
def completionEntry (desc : List Byte) (sq head status : Nat) (tag skewed : Bool) (result : List Byte) : List Byte :=
  block 16 [(0, 4, field desc 4 4), (4, 2, sq), (6, 2, head), (8, 1, field desc 0 1),
    (9, 1, field desc 1 1 % 8 + 8 * b2n skewed + 128 * b2n tag), (10, 2, status)] ++ slice result 0 16

/-- RESULT with no field set. -/
def result0 : List Byte := List.replicate 16 0

/-- The die byte of FIELD_HELD (R447): number in [2:0], kind in [4:3]. -/
def dieByte (kind d : Nat) : Nat := kind * 8 + d

/-- RESULT of a form or address refusal (R444): the offset of the first offending field, bit 31 set for the argument block. -/
def resultAt (off : Nat) (arg : Bool) : List Byte := natLe 4 (off + b2n arg * 2 ^ 31) ++ List.replicate 12 0

/-- RESULT of a fault inside an image (R444): the offset with bit 30 set. -/
def resultImage (off : Nat) : List Byte := natLe 4 (off % 2 ^ 30 + 2 ^ 30) ++ List.replicate 12 0

end Sys2Proof.Machine
end

