-- ==== Sys2Proof/Machine/Float.lean ====
section
/-! DEFINITION. The number formats of R255 and R134 and their exact arithmetic with one rounding: binary32, binary64, BF16, FP16, E4M3, E5M2. -/

namespace Sys2Proof.Machine

open Sys2Proof

/-- A value of a floating-point format: ±m·2^e exactly, an infinity, or NaN. -/
inductive Fl where
  | nan
  | inf (neg : Bool)
  | fin (neg : Bool) (m : Nat) (e : Int)
deriving DecidableEq, Repr

/-- A binary format: significand bits with the hidden one, exponent field bits. -/
structure Fmt where
  p : Nat
  w : Nat
deriving DecidableEq, Repr

/-- IEEE binary32. -/
def fmt32 : Fmt := ⟨24, 8⟩
/-- IEEE binary64. -/
def fmt64 : Fmt := ⟨53, 11⟩
/-- BF16. -/
def fmtBf16 : Fmt := ⟨8, 8⟩
/-- IEEE binary16. -/
def fmt16 : Fmt := ⟨11, 5⟩
/-- E5M2, with IEEE specials. -/
def fmtE5m2 : Fmt := ⟨3, 5⟩
/-- E4M3 with its exponents; its specials are handled apart (R255). -/
def fmtE4m3 : Fmt := ⟨4, 4⟩

/-- The least exponent of a unit in the last place of a format. -/
def Fmt.ulpMin (f : Fmt) : Int := 3 - 2 ^ (f.w - 1) - (f.p : Int)

/-- The value of a code, with the IEEE specials. -/
def decode (f : Fmt) (v : Nat) : Fl :=
  let neg := bit v (f.p + f.w - 1)
  let ex := bits v (f.p - 1) f.w
  let fr := bits v 0 (f.p - 1)
  if ex = 2 ^ f.w - 1 then (if fr = 0 then .inf neg else .nan)
  else if ex = 0 then .fin neg fr f.ulpMin
  else .fin neg (fr + 2 ^ (f.p - 1)) (f.ulpMin + ((ex : Int) - 1))

/-- Rounds m·2^e to a multiple of 2^u, to nearest even: the multiple. -/
def roundTo (m : Nat) (e u : Int) : Nat :=
  if u ≤ e then m * 2 ^ (e - u).toNat else
    let k := (u - e).toNat
    let q := m / 2 ^ k
    let r := m % 2 ^ k
    let h := 2 ^ (k - 1)
    if r < h then q else if h < r then q + 1 else if q % 2 = 0 then q else q + 1

/-- The exponent of the unit in the last place that m·2^e has in a format. -/
def ulpOf (f : Fmt) (m : Nat) (e : Int) : Int :=
  max f.ulpMin (e + (Nat.log2 m : Int) + 1 - (f.p : Int))

/-- The code of a value rounded to nearest even: subnormals kept, overflow to ±infinity, NaN canonical (R128). -/
def encode (f : Fmt) : Fl → Nat
  | .nan => (2 ^ f.w - 1) * 2 ^ (f.p - 1) + 2 ^ (f.p - 2)
  | .inf neg => b2n neg * 2 ^ (f.p + f.w - 1) + (2 ^ f.w - 1) * 2 ^ (f.p - 1)
  | .fin neg m e =>
    let s := b2n neg * 2 ^ (f.p + f.w - 1)
    if m = 0 then s else
      let u := ulpOf f m e
      let q := roundTo m e u
      let ex := (u - f.ulpMin).toNat
      -- q below 2^(p−1) is subnormal; a carry to 2^p raises the exponent by itself
      let c := if q < 2 ^ (f.p - 1) then q else q + ex * 2 ^ (f.p - 1)
      if (2 ^ f.w - 1) * 2 ^ (f.p - 1) ≤ c then s + (2 ^ f.w - 1) * 2 ^ (f.p - 1) else s + c

/-- Neither NaN nor infinite. -/
def Fl.finite : Fl → Bool
  | .fin .. => true
  | _ => false

/-- Is NaN. -/
def Fl.isNan : Fl → Bool
  | .nan => true
  | _ => false

/-- Is a zero. -/
def Fl.isZero : Fl → Bool
  | .fin _ m _ => m == 0
  | _ => false

/-- Has its sign bit set. -/
def Fl.sign : Fl → Bool
  | .nan => false
  | .inf n => n
  | .fin n _ _ => n

/-- −x. -/
def Fl.neg : Fl → Fl
  | .nan => .nan
  | .inf n => .inf (!n)
  | .fin n m e => .fin (!n) m e

/-- |x|. -/
def Fl.abs : Fl → Fl
  | .nan => .nan
  | .inf _ => .inf false
  | .fin _ m e => .fin false m e

/-- The signed mantissa. -/
def sgn (neg : Bool) (m : Nat) : Int := if neg then -(m : Int) else m

/-- i·2^e; a zero result is +0. -/
def ofIntE (i : Int) (e : Int) : Fl := .fin (decide (i < 0)) i.natAbs e

/-- The exact sum by IEEE rules; an exact zero of unlike signs is +0. -/
def Fl.add : Fl → Fl → Fl
  | .nan, _ => .nan
  | _, .nan => .nan
  | .inf a, .inf b => if a = b then .inf a else .nan
  | .inf a, .fin .. => .inf a
  | .fin .., .inf b => .inf b
  | .fin a m e, .fin b n f =>
    if m = 0 ∧ n = 0 then .fin (a && b) 0 0 else
      let u := min e f
      ofIntE (sgn a (m * 2 ^ (e - u).toNat) + sgn b (n * 2 ^ (f - u).toNat)) u

/-- The exact product by IEEE rules. -/
def Fl.mul : Fl → Fl → Fl
  | .nan, _ => .nan
  | _, .nan => .nan
  | .inf a, .inf b => .inf (xor a b)
  | .inf a, .fin b n _ => if n = 0 then .nan else .inf (xor a b)
  | .fin a m _, .inf b => if m = 0 then .nan else .inf (xor a b)
  | .fin a m e, .fin b n f => .fin (xor a b) (m * n) (e + f)

/-- x·2^k exactly. -/
def Fl.scale : Fl → Int → Fl
  | .fin n m e, k => .fin n m (e + k)
  | x, _ => x

/-- The quotient with a sticky bit far below any format's last place, by IEEE rules: one rounding then is correct. -/
def Fl.div : Fl → Fl → Fl
  | .nan, _ => .nan
  | _, .nan => .nan
  | .inf _, .inf _ => .nan
  | .inf a, .fin b _ _ => .inf (xor a b)
  | .fin a _ _, .inf b => .fin (xor a b) 0 0
  | .fin a m e, .fin b n f =>
    if n = 0 then (if m = 0 then .nan else .inf (xor a b))
    else
      let k := 130 + Nat.log2 n
      let q := m * 2 ^ k / n
      let r := m * 2 ^ k % n
      .fin (xor a b) (2 * q + (if r = 0 then 0 else 1)) (e - f - k - 1)

/-- The integer square root by bits, from bit `k` down. -/
def isqrt : Nat → Nat → Nat → Nat
  | 0, _, r => r
  | k + 1, n, r =>
    let t := r + 2 ^ k
    isqrt k n (if t * t ≤ n then t else r)

/-- The square root with a sticky bit, by IEEE rules. -/
def Fl.sqrt : Fl → Fl
  | .nan => .nan
  | .inf a => if a then .nan else .inf false
  | .fin a m e =>
    if m = 0 then .fin a 0 0 else if a then .nan else
      let k : Nat := 140 + (if (e % 2) = 0 then 0 else 1)
      let n := m * 2 ^ k
      let r := isqrt (Nat.log2 n / 2 + 1) n 0
      .fin false (2 * r + (if r * r = n then 0 else 1)) ((e - k) / 2 - 1)

/-- Exact comparison x < y; false where either is NaN. -/
def Fl.lt : Fl → Fl → Bool
  | .nan, _ => false
  | _, .nan => false
  | .inf a, .inf b => a && !b
  | .inf a, .fin .. => a
  | .fin .., .inf b => !b
  | .fin a m e, .fin b n f =>
    let u := min e f
    decide (sgn a (m * 2 ^ (e - u).toNat) < sgn b (n * 2 ^ (f - u).toNat))

/-- Exact comparison x = y; false where either is NaN. -/
def Fl.eq : Fl → Fl → Bool
  | .nan, _ => false
  | _, .nan => false
  | x, y => !(x.lt y) && !(y.lt x)

/-- Exact comparison x ≤ y. -/
def Fl.le (x y : Fl) : Bool := x.lt y || x.eq y

/-- floor(log2 |x|) of a finite non-zero value. -/
def Fl.log2 : Fl → Int
  | .fin _ m e => e + Nat.log2 m
  | _ => 0

/-- The integer nearest a finite value, half to even. -/
def Fl.rne : Fl → Int
  | .fin n m e => sgn n (roundTo m e 0)
  | _ => 0

/-- floor of a finite value. -/
def Fl.floor : Fl → Int
  | .fin n m e => if 0 ≤ e then sgn n (m * 2 ^ e.toNat) else (sgn n m) / (2 ^ (-e).toNat : Int)
  | _ => 0

/-! ### binary32 and binary64 operations with one rounding -/

/-- The value of a binary32 code. -/
def f32 (w : Word) : Fl := decode fmt32 w.toNat
/-- rne32. -/
def r32 (x : Fl) : Word := BitVec.ofNat 32 (encode fmt32 x)
/-- The value of a binary64 code. -/
def f64 (w : Word64) : Fl := decode fmt64 w.toNat
/-- rne64. -/
def r64 (x : Fl) : Word64 := BitVec.ofNat 64 (encode fmt64 x)

/-- Sum in binary32. -/
def add32 (a b : Word) : Word := r32 ((f32 a).add (f32 b))
/-- Difference in binary32. -/
def sub32 (a b : Word) : Word := r32 ((f32 a).add (f32 b).neg)
/-- Product in binary32. -/
def mul32 (a b : Word) : Word := r32 ((f32 a).mul (f32 b))
/-- Quotient in binary32, correctly rounded. -/
def div32 (a b : Word) : Word := r32 ((f32 a).div (f32 b))
/-- Fused multiply-add in binary32. -/
def fma32 (a b c : Word) : Word := r32 (((f32 a).mul (f32 b)).add (f32 c))
/-- Sum in binary64. -/
def add64 (a b : Word64) : Word64 := r64 ((f64 a).add (f64 b))
/-- Product in binary64. -/
def mul64 (a b : Word64) : Word64 := r64 ((f64 a).mul (f64 b))
/-- Difference in binary64. -/
def sub64 (a b : Word64) : Word64 := r64 ((f64 a).add (f64 b).neg)

/-- An integer as a value. -/
def flInt (i : Int) : Fl := ofIntE i 0
/-- An integer in binary32. -/
def int32 (i : Int) : Word := r32 (flInt i)
/-- 1.0 in binary32. -/
def one32 : Word := 0x3F800000
/-- Canonical NaN of binary32 (R128). -/
def nan32 : Word := 0x7FC00000

/-- A binary32 code is neither NaN nor infinite. -/
def fin32 (w : Word) : Bool := (f32 w).finite

/-- BF16 of a binary32: rounded to nearest even (R134). -/
def bf16 (w : Word) : Nat := encode fmtBf16 (f32 w)

/-- The value of an E4M3 element: no infinity, NaN 0x7F and 0xFF (R255). -/
def e4m3 (v : Nat) : Fl :=
  if v % 128 = 127 then .nan else
    let neg := bit v 7
    let ex := bits v 3 4
    let fr := bits v 0 3
    if ex = 0 then .fin neg fr (-9) else .fin neg (fr + 8) ((ex : Int) - 10)

/-- The value of an E5M2 element (R255). -/
def e5m2 (v : Nat) : Fl := decode fmtE5m2 v

/-- The E4M3 element nearest a finite value, saturating to ±448, with a mark when it saturated (R134). -/
def toE4m3 (x : Fl) : Nat × Bool :=
  match x with
  | .nan => (0x7F, false)
  | .inf n => (b2n n * 128 + 0x7E, false)
  | .fin n m e =>
    let s := b2n n * 128
    if m = 0 then (s, false) else
      let u : Int := max (-9) (e + Nat.log2 m + 1 - 4)
      let q := roundTo m e u
      let c := if q < 8 then q else q + (u + 9).toNat * 8
      if 0x7E < c then (s + 0x7E, true) else (s + c, false)

/-- The E5M2 element nearest a value: a finite overflow saturates to ±57,344, with a mark (R272). -/
def toE5m2 (x : Fl) : Nat × Bool :=
  match x with
  | .nan => (0x7F, false)
  | .inf n => (b2n n * 128 + 0x7C, false)
  | .fin n m e =>
    let c := encode fmtE5m2 (.fin n m e)
    if c % 128 = 0x7C then (b2n n * 128 + 0x7B, true) else (c, false)

/-- Block exponent of an FP8 block: floor(log2 max) − emax within ±127, −127 without a non-zero finite value (R134, R272). -/
def blockExp (emax : Int) (vs : List Fl) : Int :=
  match (vs.filter fun v => v.finite && !v.isZero).map Fl.log2 with
  | [] => -127
  | l :: ls => clampI (-127) 127 (ls.foldl max l - emax)

/-- The square of a binary32 in binary64, exactly (R271, R334). -/
def sq64 (w : Word) : Fl := (f32 w).mul (f32 w)

/-- 2^i as a value. -/
def pow2 (i : Int) : Fl := .fin false 1 i

/-- The largest magnitude of the finite values of a list, +0 for none. -/
def maxAbs (vs : List Fl) : Fl :=
  vs.foldl (fun m v => if v.finite && m.lt v.abs then v.abs else m) (.fin false 0 0)

end Sys2Proof.Machine
end

