-- ==== Sys2Proof/Machine/RegTable.lean ====
section
/-! DEFINITION. The register fields of the spec's tables (14 R462 to R478 and each chapter's register tables): offset, bits, access code, reset value, scope, view and held unit. -/

namespace Sys2Proof.Machine

open Sys2Proof

/-- The access codes of R14; `cal` is CAL_USER, whose class decides (R475). -/
inductive Access where
  | ro
  | rw
  | w1c
  | wo
  | rws
  | rwh
  | cal
deriving DecidableEq, Repr

/-- Which blocks of a kind carry the register (R463): each die's, the partition's lowest-numbered die's, one view of a
module-wide register, or one die's alone. -/
inductive Scope where
  | each
  | low
  | module
  | hd0
  | hd3
  | hd12
deriving DecidableEq, Repr

/-- Who reaches the field (R465): owner only, tenants too, or tenants read only (R387). -/
inductive View where
  | hidden
  | tenant
  | readOnly
deriving DecidableEq, Repr

/-- The held unit of an RWH field (R471). -/
inductive Held where
  | free
  | step
  | engines
  | window
  | port
  | fabric
  | colls
  | queue
  | ring
  | eventQ
  | twin
  | waymark
deriving DecidableEq, Repr

/-- One field of a register table. -/
structure RegField where
  off : Nat
  lo : Nat
  width : Nat
  acc : Access
  reset : Nat
  scope : Scope
  view : View
  unit : Held
deriving DecidableEq, Repr

/-- Fields of the blocks of every die at offsets from 0x000. -/
def regsAll0 : List RegField := [
  ⟨0x000, 0, 2, .ro, 0x0, .each, .tenant, .free⟩,  -- BLK_ID.KIND (R466)
  ⟨0x000, 2, 3, .ro, 0x0, .each, .tenant, .free⟩,  -- BLK_ID.NUMBER (R466)
  ⟨0x000, 8, 8, .ro, 0x0, .each, .tenant, .free⟩,  -- BLK_ID.REVISION (R466)
  ⟨0x004, 0, 1, .ro, 0x0, .each, .tenant, .free⟩,  -- BLK_PEND.PENDING (R467)
  ⟨0x010, 0, 4, .rw, 0x0, .each, .hidden, .free⟩,  -- CAL_SEL.CLASS (R474)
  ⟨0x010, 4, 27, .rw, 0x0, .each, .hidden, .free⟩,  -- CAL_SEL.INDEX (R474)
  ⟨0x014, 0, 16, .ro, 0x0, .each, .hidden, .free⟩,  -- CAL_FACTORY.FACTORY (R476)
  ⟨0x018, 0, 16, .cal, 0x0, .each, .hidden, .free⟩,  -- CAL_USER.USER (R476)
  ⟨0x018, 16, 1, .ro, 0x0, .each, .hidden, .free⟩,  -- CAL_USER.CLAMPED (R476)
  ⟨0x01c, 0, 16, .ro, 0x0, .each, .hidden, .free⟩,  -- CAL_EFF.EFF (R476)
  ⟨0x020, 0, 8, .ro, 0x0, .each, .tenant, .free⟩,  -- THERM_STAT.TEMP (R502)
  ⟨0x020, 8, 7, .ro, 0x64, .each, .tenant, .free⟩]  -- THERM_STAT.SHARE (R502)

/-- Fields of the array die blocks at offsets from 0x040. -/
def regsAd1 : List RegField := [
  ⟨0x040, 0, 16, .rws, 0x14, .each, .tenant, .free⟩,  -- AD_TILEPWR.IDLE_TO (R79)
  ⟨0x040, 16, 1, .rws, 0x1, .each, .tenant, .free⟩,  -- AD_TILEPWR.SLEEP_EN (R79)
  ⟨0x044, 0, 16, .rw, 0x0, .each, .tenant, .free⟩,  -- AD_TILESEL.TILE (R80)
  ⟨0x048, 0, 3, .ro, 0x0, .each, .tenant, .free⟩,  -- AD_TILESTAT.STATE (R81)
  ⟨0x048, 3, 1, .ro, 0x0, .each, .tenant, .free⟩,  -- AD_TILESTAT.BANK_A (R81)
  ⟨0x048, 4, 1, .ro, 0x0, .each, .tenant, .free⟩,  -- AD_TILESTAT.BANK_B (R81)
  ⟨0x048, 5, 2, .ro, 0x0, .each, .tenant, .free⟩,  -- AD_TILESTAT.HELD (R81)
  ⟨0x048, 8, 8, .w1c, 0x0, .each, .tenant, .free⟩,  -- AD_TILESTAT.IN_SAT (R81)
  ⟨0x04c, 0, 16, .w1c, 0x0, .each, .tenant, .free⟩,  -- AD_CLIPSTAT.CLIP_DATA (R94)
  ⟨0x04c, 16, 8, .w1c, 0x0, .each, .tenant, .free⟩,  -- AD_CLIPSTAT.CLIP_CHK (R94)
  ⟨0x04c, 24, 8, .w1c, 0x0, .each, .tenant, .free⟩,  -- AD_CLIPSTAT.CLIP_REF (R94)
  ⟨0x050, 0, 16, .w1c, 0x0, .each, .tenant, .free⟩,  -- AD_DETOURSTAT.DETOURS (R95)
  ⟨0x050, 16, 16, .w1c, 0x0, .each, .tenant, .free⟩,  -- AD_DETOURSTAT.EXHAUSTED (R95)
  ⟨0x054, 0, 32, .w1c, 0x0, .each, .tenant, .free⟩,  -- AD_CLIPDIE.CLIP_TOTAL (R96)
  ⟨0x058, 0, 8, .w1c, 0x0, .each, .tenant, .free⟩,  -- AD_EUSTAT.QSAT (R141)
  ⟨0x058, 8, 8, .w1c, 0x0, .each, .tenant, .free⟩,  -- AD_EUSTAT.COMB_SAT (R141)
  ⟨0x058, 16, 8, .w1c, 0x0, .each, .tenant, .free⟩,  -- AD_EUSTAT.NONFINITE (R141)
  ⟨0x05c, 0, 16, .ro, 0x4000, .each, .hidden, .free⟩,  -- AD_TRIMSTAT.TRIM (R142)
  ⟨0x060, 0, 16, .rws, 0x3e8, .each, .hidden, .free⟩,  -- AD_WEARCFG.PERIOD (R174)
  ⟨0x060, 16, 3, .rws, 0x3, .each, .hidden, .free⟩,  -- AD_WEARCFG.RAISE_MAX (R174)
  ⟨0x064, 0, 32, .rws, 0x800000, .each, .hidden, .free⟩,  -- AD_WEARBUDGET.BUDGET (R175)
  ⟨0x068, 0, 3, .ro, 0x0, .each, .hidden, .free⟩,  -- AD_WEARSTAT.RAISE (R176)
  ⟨0x068, 16, 16, .ro, 0x0, .each, .hidden, .free⟩,  -- AD_WEARSTAT.DEFERRED (R176)
  ⟨0x06c, 0, 32, .ro, 0x0, .each, .hidden, .free⟩,  -- AD_WEARCNT.PERIOD_COUNT (R177)
  ⟨0x070, 0, 32, .ro, 0x0, .each, .hidden, .free⟩,  -- AD_WEARLIFE_LO.LIFE_LO (R177)
  ⟨0x074, 0, 32, .ro, 0x0, .each, .hidden, .free⟩,  -- AD_WEARLIFE_HI.LIFE_HI (R177)
  ⟨0x078, 0, 4, .rws, 0x4, .each, .hidden, .free⟩,  -- AD_DRIFTCFG.WIN (R186)
  ⟨0x078, 4, 16, .rws, 0x4666, .each, .hidden, .free⟩,  -- AD_DRIFTCFG.TRIM_LIMIT (R186)
  ⟨0x078, 20, 12, .rws, 0x40, .each, .hidden, .free⟩,  -- AD_DRIFTCFG.AGE_LIMIT (R186)
  ⟨0x07c, 0, 1, .wo, 0x0, .each, .hidden, .free⟩,  -- AD_REFRESHCFG.REQ (R187)
  ⟨0x07c, 1, 1, .rws, 0x1, .each, .hidden, .free⟩,  -- AD_REFRESHCFG.URGENT_EN (R187)
  ⟨0x07c, 2, 8, .rws, 0x40, .each, .hidden, .free⟩]  -- AD_REFRESHCFG.REFRESH_MAX (R187)

/-- Fields of the array die blocks at offsets from 0x080. -/
def regsAd2 : List RegField := [
  ⟨0x080, 0, 1, .ro, 0x0, .each, .hidden, .free⟩,  -- AD_REFRESHSTAT.DUE (R188)
  ⟨0x080, 1, 1, .ro, 0x0, .each, .hidden, .free⟩,  -- AD_REFRESHSTAT.RUNNING (R188)
  ⟨0x080, 2, 2, .ro, 0x0, .each, .hidden, .free⟩,  -- AD_REFRESHSTAT.CAUSE (R188)
  ⟨0x080, 16, 16, .ro, 0x0, .each, .hidden, .free⟩,  -- AD_REFRESHSTAT.AGE (R188)
  ⟨0x084, 0, 8, .ro, 0x0, .each, .hidden, .free⟩,  -- AD_STUCKSTAT.STUCK (R178)
  ⟨0x084, 8, 8, .ro, 0x0, .each, .hidden, .free⟩,  -- AD_STUCKSTAT.INEXACT (R178)
  ⟨0x088, 0, 8, .rws, 0x20, .each, .hidden, .free⟩,  -- AD_CHECKCFG.TOL_STEPS (R216)
  ⟨0x088, 8, 8, .rws, 0x8, .each, .hidden, .free⟩,  -- AD_CHECKCFG.TOL_MASS (R216)
  ⟨0x088, 16, 8, .rws, 0x4, .each, .hidden, .free⟩,  -- AD_CHECKCFG.N (R216)
  ⟨0x088, 24, 1, .rws, 0x1, .each, .hidden, .free⟩,  -- AD_CHECKCFG.ACTION (R216)
  ⟨0x08c, 0, 16, .rws, 0x100, .each, .hidden, .free⟩,  -- AD_CHECKWIN.M (R217)
  ⟨0x090, 0, 8, .rws, 0x30, .each, .hidden, .free⟩,  -- AD_PROBECFG.PROBE_TOL (R218)
  ⟨0x090, 8, 8, .rws, 0x8, .each, .hidden, .free⟩,  -- AD_PROBECFG.COL_LIMIT (R218)
  ⟨0x090, 16, 8, .rws, 0x8, .each, .hidden, .free⟩,  -- AD_PROBECFG.ROW_LIMIT (R218)
  ⟨0x090, 24, 4, .rws, 0x3, .each, .hidden, .free⟩,  -- AD_PROBECFG.ADC_LIMIT (R218)
  ⟨0x090, 28, 1, .rws, 0x1, .each, .hidden, .free⟩,  -- AD_PROBECFG.SCAN_ON_REFRESH (R218)
  ⟨0x094, 0, 1, .wo, 0x0, .each, .hidden, .free⟩,  -- AD_FAULTCTL.PROBE_REQ (R219)
  ⟨0x094, 1, 1, .wo, 0x0, .each, .hidden, .free⟩,  -- AD_FAULTCTL.RETIRE_REQ (R219)
  ⟨0x098, 0, 6, .ro, 0x0, .each, .hidden, .free⟩,  -- AD_FAULTSTAT.ROWS_USED (R221)
  ⟨0x098, 6, 6, .ro, 0x0, .each, .hidden, .free⟩,  -- AD_FAULTSTAT.ROWS_DEAD (R221)
  ⟨0x098, 12, 6, .ro, 0x0, .each, .hidden, .free⟩,  -- AD_FAULTSTAT.COLS_USED (R221)
  ⟨0x098, 18, 6, .ro, 0x0, .each, .hidden, .free⟩,  -- AD_FAULTSTAT.COLS_DEAD (R221)
  ⟨0x098, 24, 8, .w1c, 0x0, .each, .hidden, .free⟩,  -- AD_FAULTSTAT.FLAGS (R221)
  ⟨0x09c, 0, 11, .ro, 0x400, .each, .hidden, .free⟩,  -- AD_RESERVESTAT.FREE (R222)
  ⟨0x09c, 16, 16, .ro, 0x0, .each, .hidden, .free⟩,  -- AD_RESERVESTAT.BYPASSED (R222)
  ⟨0x0a0, 0, 2, .rw, 0x0, .each, .hidden, .free⟩,  -- AD_REMAPSEL.KIND (R223)
  ⟨0x0a0, 2, 10, .rw, 0x0, .each, .hidden, .free⟩,  -- AD_REMAPSEL.INDEX (R223)
  ⟨0x0a4, 0, 32, .ro, 0x0, .each, .hidden, .free⟩,  -- AD_REMAPDATA.ENTRY (R224)
  ⟨0x0a8, 0, 16, .ro, 0x0, .each, .tenant, .free⟩,  -- AD_TILEMAP.LAYER (R251)
  ⟨0x0a8, 16, 6, .ro, 0x0, .each, .tenant, .free⟩,  -- AD_TILEMAP.POS (R251)
  ⟨0x0a8, 22, 1, .ro, 0x0, .each, .tenant, .free⟩,  -- AD_TILEMAP.CLOSING (R251)
  ⟨0x0a8, 23, 1, .ro, 0x0, .each, .tenant, .free⟩,  -- AD_TILEMAP.PLACED (R251)
  ⟨0x0a8, 24, 4, .ro, 0x0, .each, .tenant, .free⟩,  -- AD_TILEMAP.LOAD (R251)
  ⟨0x0a8, 28, 1, .ro, 0x0, .each, .tenant, .free⟩,  -- AD_TILEMAP.BYPASSED (R251)
  ⟨0x0b0, 0, 3, .rws, 0x1, .each, .hidden, .free⟩,  -- TG_CFG.PROG_SHARE (R499)
  ⟨0x0b0, 3, 5, .rws, 0x19, .each, .hidden, .free⟩,  -- TG_CFG.RISE (R499)
  ⟨0x0b4, 0, 16, .ro, 0x0, .each, .hidden, .free⟩,  -- TG_STAT.LEVEL (R500)
  ⟨0x0b4, 16, 1, .ro, 0x0, .each, .hidden, .free⟩,  -- TG_STAT.BURST (R500)
  ⟨0x0b4, 17, 1, .ro, 0x0, .each, .hidden, .free⟩,  -- TG_STAT.BRAKE (R500)
  ⟨0x0b4, 24, 8, .w1c, 0x0, .each, .hidden, .free⟩,  -- TG_STAT.DEBT (R500)
  ⟨0x0b8, 0, 16, .w1c, 0x0, .each, .hidden, .free⟩,  -- TG_WAITCNT.TOLLWAITS (R501)
  ⟨0x0b8, 16, 16, .w1c, 0x0, .each, .hidden, .free⟩]  -- TG_WAITCNT.WAKEWAITS (R501)

/-- Fields of the gradient die blocks at offsets from 0x100. -/
def regsGd4 : List RegField := [
  ⟨0x100, 0, 4, .rws, 0x4, .low, .tenant, .free⟩,  -- GD_NORMWATCH.SHIFT (R143)
  ⟨0x100, 4, 3, .rws, 0x2, .low, .tenant, .free⟩,  -- GD_NORMWATCH.JUMP (R143)
  ⟨0x100, 7, 1, .rws, 0x0, .low, .tenant, .free⟩,  -- GD_NORMWATCH.HOLD_EN (R143)
  ⟨0x100, 8, 8, .rws, 0x8, .low, .tenant, .free⟩,  -- GD_NORMWATCH.WARMUP (R143)
  ⟨0x110, 0, 5, .rwh, 0x14, .low, .hidden, .step⟩,  -- GD_DEFERCFG.CAP_LOG2 (R179)
  ⟨0x110, 5, 1, .rwh, 0x0, .low, .hidden, .step⟩,  -- GD_DEFERCFG.EN (R179)
  ⟨0x114, 8, 24, .rwh, 0x0, .low, .hidden, .step⟩,  -- GD_DEFERBASE_LO.BASE_LO (R180)
  ⟨0x118, 0, 9, .rwh, 0x0, .low, .hidden, .step⟩,  -- GD_DEFERBASE_HI.BASE_HI (R180)
  ⟨0x11c, 0, 27, .ro, 0x0, .low, .hidden, .free⟩,  -- GD_DEFERSTAT.ENTRIES (R180)
  ⟨0x120, 0, 32, .w1c, 0x0, .low, .hidden, .free⟩]  -- GD_DEFEROVR.OVERRUN (R180)

/-- Fields of the gradient die blocks at offsets from 0x140. -/
def regsGd5 : List RegField := [
  ⟨0x140, 0, 3, .rwh, 0x0, .each, .tenant, .engines⟩,  -- GD_MXCFG.BYPASS_ENG (R277)
  ⟨0x144, 0, 6, .ro, 0x0, .each, .tenant, .free⟩,  -- GD_MXSTAT.BUSY (R278)
  ⟨0x144, 8, 8, .w1c, 0x0, .each, .tenant, .free⟩,  -- GD_MXSTAT.OVF (R278)
  ⟨0x144, 16, 8, .w1c, 0x0, .each, .tenant, .free⟩,  -- GD_MXSTAT.LOADCONV (R278)
  ⟨0x144, 24, 8, .w1c, 0x0, .each, .tenant, .free⟩,  -- GD_MXSTAT.QSAT (R278)
  ⟨0x148, 0, 32, .w1c, 0x0, .each, .tenant, .free⟩]  -- GD_MXNONFIN.NONFINITE (R279)

/-- Fields of the gradient die blocks at offsets from 0x180. -/
def regsGd6 : List RegField := [
  ⟨0x180, 8, 24, .rwh, 0x0, .low, .tenant, .step⟩,  -- GD_STASHBASE_LO.BASE_LO (R314)
  ⟨0x184, 0, 9, .rwh, 0x0, .low, .tenant, .step⟩,  -- GD_STASHBASE_HI.BASE_HI (R314)
  ⟨0x188, 0, 24, .rwh, 0x0, .low, .tenant, .step⟩,  -- GD_STASHSIZE.SIZE (R315)
  ⟨0x18c, 0, 1, .rwh, 0x0, .low, .tenant, .step⟩,  -- GD_STASHCFG.SPILL_EN (R316)
  ⟨0x18c, 1, 3, .rwh, 0x2, .low, .tenant, .step⟩,  -- GD_STASHCFG.RESERVE (R316)
  ⟨0x190, 20, 12, .rwh, 0x0, .low, .tenant, .step⟩,  -- GD_SPILLBASE_LO.BASE_LO (R317)
  ⟨0x194, 0, 10, .rwh, 0x0, .low, .tenant, .step⟩,  -- GD_SPILLBASE_HI.BASE_HI (R317)
  ⟨0x198, 0, 24, .rwh, 0x0, .low, .tenant, .step⟩,  -- GD_SPILLSIZE.SIZE (R317)
  ⟨0x19c, 0, 24, .ro, 0x0, .low, .tenant, .free⟩,  -- GD_STASHSTAT.USED (R318)
  ⟨0x1a0, 0, 16, .w1c, 0x0, .low, .tenant, .free⟩,  -- GD_STASHCNT.DROPPED (R319)
  ⟨0x1a0, 16, 16, .w1c, 0x0, .low, .tenant, .free⟩,  -- GD_STASHCNT.SPILLED (R319)
  ⟨0x1a4, 0, 16, .w1c, 0x0, .each, .tenant, .free⟩,  -- GD_ROWSTAT.OVERFLOWS (R320)
  ⟨0x1a4, 16, 16, .w1c, 0x0, .each, .tenant, .free⟩]  -- GD_ROWSTAT.EMPTYROWS (R320)

/-- Fields of the gradient die blocks at offsets from 0x1c0. -/
def regsGd7 : List RegField := [
  ⟨0x1c0, 8, 24, .rwh, 0x0, .low, .tenant, .step⟩,  -- GD_ORDERLOG_LO.BASE_LO (R353)
  ⟨0x1c4, 0, 9, .rwh, 0x0, .low, .tenant, .step⟩,  -- GD_ORDERLOG_HI.BASE_HI (R353)
  ⟨0x1c8, 0, 5, .rwh, 0x14, .low, .tenant, .step⟩,  -- GD_ORDERLOG_CFG.CAP_LOG2 (R354)
  ⟨0x1cc, 0, 8, .rw, 0x0, .low, .tenant, .free⟩,  -- GD_GROUPSEL.GROUP (R355)
  ⟨0x1d0, 0, 32, .ro, 0x0, .low, .tenant, .free⟩,  -- GD_LASTT_LO.LASTT_LO (R356)
  ⟨0x1d4, 0, 32, .ro, 0x0, .low, .tenant, .free⟩,  -- GD_LASTT_HI.LASTT_HI (R356)
  ⟨0x1d8, 0, 8, .w1c, 0x0, .low, .tenant, .free⟩,  -- GD_UPDSTAT.NONFIN (R357)
  ⟨0x1d8, 8, 8, .w1c, 0x0, .low, .tenant, .free⟩,  -- GD_UPDSTAT.SAT (R357)
  ⟨0x1d8, 16, 8, .w1c, 0x0, .low, .tenant, .free⟩,  -- GD_UPDSTAT.REPLAY (R357)
  ⟨0x1d8, 24, 8, .w1c, 0x0, .low, .tenant, .free⟩,  -- GD_UPDSTAT.SKEW (R357)
  ⟨0x1dc, 0, 29, .ro, 0x0, .low, .tenant, .free⟩,  -- GD_ORDERCNT.USED (R358)
  ⟨0x1e0, 0, 32, .w1c, 0x0, .low, .tenant, .free⟩]  -- GD_UPDSTAT_LOGFULL.LOGFULL (R358)

/-- Fields of the hub die blocks at offsets from 0x200. -/
def regsHd8 : List RegField := [
  ⟨0x200, 0, 2, .rw, 0x0, .each, .tenant, .free⟩,  -- NF_PORTSEL.PORT (R382)
  ⟨0x204, 0, 1, .rw, 0x1, .each, .tenant, .free⟩,  -- NF_PORTCFG.EN (R383)
  ⟨0x204, 1, 1, .rwh, 0x1, .each, .tenant, .port⟩,  -- NF_PORTCFG.X4_ALLOW (R383)
  ⟨0x208, 0, 3, .ro, 0x0, .each, .tenant, .free⟩,  -- NF_PORTSTAT.STATE (R384)
  ⟨0x208, 3, 1, .ro, 0x0, .each, .tenant, .free⟩,  -- NF_PORTSTAT.UNAVAIL (R384)
  ⟨0x208, 4, 1, .ro, 0x0, .each, .tenant, .free⟩,  -- NF_PORTSTAT.FOREIGN (R384)
  ⟨0x208, 8, 12, .ro, 0x0, .each, .tenant, .free⟩,  -- NF_PORTSTAT.NEIGHBOUR (R384)
  ⟨0x208, 20, 4, .ro, 0x0, .each, .tenant, .free⟩,  -- NF_PORTSTAT.NPORT (R384)
  ⟨0x208, 24, 8, .w1c, 0x0, .each, .tenant, .free⟩,  -- NF_PORTSTAT.RETRAINS (R384)
  ⟨0x20c, 0, 16, .w1c, 0x0, .each, .tenant, .free⟩,  -- NF_ERRCNT.UNCORR (R385)
  ⟨0x20c, 16, 16, .w1c, 0x0, .each, .tenant, .free⟩,  -- NF_ERRCNT.REPLAY (R385)
  ⟨0x210, 0, 16, .w1c, 0x0, .each, .tenant, .free⟩,  -- NF_DROPCNT.DOMAIN (R386)
  ⟨0x210, 16, 16, .w1c, 0x0, .each, .tenant, .free⟩,  -- NF_DROPCNT.ROUTE (R386)
  ⟨0x220, 0, 12, .rwh, 0x0, .module, .readOnly, .fabric⟩,  -- NF_IDENT.ENDPOINT (R387)
  ⟨0x220, 16, 16, .rwh, 0x0, .module, .readOnly, .fabric⟩,  -- NF_IDENT.DOMAIN (R387)
  ⟨0x224, 0, 12, .rw, 0x0, .low, .tenant, .free⟩,  -- NF_ROUTESEL.DEST (R389)
  ⟨0x228, 0, 4, .rwh, 0xf, .low, .tenant, .colls⟩,  -- NF_ROUTEDATA.PORT (R389)
  ⟨0x22c, 0, 16, .rws, 0x64, .low, .tenant, .free⟩,  -- NF_COLLWD.TIMEOUT (R390)
  ⟨0x22c, 16, 8, .rws, 0xa, .low, .tenant, .free⟩,  -- NF_COLLWD.SETTLE (R390)
  ⟨0x230, 0, 12, .ro, 0x0, .low, .tenant, .free⟩,  -- NF_COLLSTAT.ACTIVE (R391)
  ⟨0x230, 16, 16, .w1c, 0x0, .low, .tenant, .free⟩]  -- NF_COLLSTAT.ABORTS (R391)

/-- Fields of the gradient die blocks at offsets from 0x240. -/
def regsGd9 : List RegField := [
  ⟨0x240, 0, 2, .rw, 0x0, .each, .tenant, .free⟩,  -- GD_STACKSEL.STACK (R413)
  ⟨0x244, 0, 2, .ro, 0x0, .each, .tenant, .free⟩,  -- GD_STACKSTAT.STATE (R414)
  ⟨0x244, 2, 1, .ro, 0x0, .each, .tenant, .free⟩,  -- GD_STACKSTAT.ONLINE (R414)
  ⟨0x244, 3, 1, .w1c, 0x0, .each, .tenant, .free⟩,  -- GD_STACKSTAT.LOST (R414)
  ⟨0x244, 4, 8, .ro, 0x0, .each, .tenant, .free⟩,  -- GD_STACKSTAT.TEMP (R414)
  ⟨0x244, 12, 7, .ro, 0x0, .each, .tenant, .free⟩,  -- GD_STACKSTAT.SPARED (R414)
  ⟨0x248, 0, 24, .w1c, 0x0, .each, .tenant, .free⟩,  -- GD_ECCCNT.CORR (R415)
  ⟨0x248, 24, 8, .w1c, 0x0, .each, .tenant, .free⟩,  -- GD_ECCCNT.UNCORR (R415)
  ⟨0x24c, 0, 8, .rws, 0x18, .each, .tenant, .free⟩,  -- GD_PATROL.HOURS (R416)
  ⟨0x250, 3, 29, .rw, 0x0, .each, .hidden, .free⟩,  -- GD_FPADDR_LO.ADDR_LO (R417)
  ⟨0x254, 0, 9, .rw, 0x0, .each, .hidden, .free⟩,  -- GD_FPADDR_HI.ADDR_HI (R417)
  ⟨0x258, 0, 32, .rw, 0x0, .each, .hidden, .free⟩,  -- GD_FPDATA_LO.DATA_LO (R417)
  ⟨0x25c, 0, 32, .rw, 0x0, .each, .hidden, .free⟩,  -- GD_FPDATA_HI.DATA_HI (R417)
  ⟨0x260, 0, 1, .wo, 0x0, .each, .hidden, .free⟩,  -- GD_FPCTL.GO (R418)
  ⟨0x260, 1, 1, .rw, 0x0, .each, .hidden, .free⟩,  -- GD_FPCTL.WRITE (R418)
  ⟨0x260, 2, 1, .rw, 0x0, .each, .hidden, .free⟩,  -- GD_FPCTL.RAW (R418)
  ⟨0x260, 3, 1, .ro, 0x0, .each, .hidden, .free⟩,  -- GD_FPCTL.BUSY (R418)
  ⟨0x260, 4, 2, .ro, 0x0, .each, .hidden, .free⟩,  -- GD_FPCTL.RESULT (R418)
  ⟨0x264, 0, 13, .rwh, 0x0, .low, .tenant, .window⟩,  -- GD_WINBASE.BASE (R419)
  ⟨0x268, 0, 13, .rwh, 0x0, .low, .tenant, .window⟩]  -- GD_WINSIZE.SIZE (R420)

/-- Fields of the hub die blocks at offsets from 0x280. -/
def regsHd10 : List RegField := [
  ⟨0x280, 0, 13, .ro, 0x0, .hd12, .tenant, .free⟩,  -- FM_STAT.CAP (R421)
  ⟨0x280, 13, 2, .ro, 0x0, .hd12, .tenant, .free⟩,  -- FM_STAT.LINK (R421)
  ⟨0x280, 16, 8, .w1c, 0x0, .hd12, .tenant, .free⟩,  -- FM_STAT.POISON (R421)
  ⟨0x280, 24, 8, .w1c, 0x0, .hd12, .tenant, .free⟩,  -- FM_STAT.TIMEOUT (R421)
  ⟨0x290, 0, 3, .ro, 0x0, .low, .tenant, .free⟩,  -- PWR_STAT.PHASE (R503)
  ⟨0x290, 3, 1, .ro, 0x0, .low, .tenant, .free⟩,  -- PWR_STAT.BRAKE (R503)
  ⟨0x290, 16, 16, .ro, 0x0, .low, .tenant, .free⟩,  -- PWR_STAT.POWER (R503)
  ⟨0x298, 0, 32, .ro, 0x0, .module, .tenant, .free⟩,  -- LTIME_LO.LTIME_LO (R504)
  ⟨0x29c, 0, 32, .ro, 0x0, .module, .tenant, .free⟩]  -- LTIME_HI.LTIME_HI (R504)

/-- Fields of the hub die blocks at offsets from 0x300. -/
def regsHd12 : List RegField := [
  ⟨0x300, 0, 14, .rw, 0x0, .each, .tenant, .free⟩,  -- HQ_QSEL.INDEX (R451)
  ⟨0x304, 12, 20, .rwh, 0x0, .each, .tenant, .queue⟩,  -- HQ_QBASE_LO.BASE_LO (R451)
  ⟨0x308, 0, 32, .rwh, 0x0, .each, .tenant, .queue⟩,  -- HQ_QBASE_HI.BASE_HI (R451)
  ⟨0x30c, 0, 4, .rwh, 0x0, .each, .tenant, .queue⟩,  -- HQ_QCFG.SIZE (R452)
  ⟨0x30c, 4, 12, .rwh, 0x0, .each, .tenant, .queue⟩,  -- HQ_QCFG.CQ (R452)
  ⟨0x30c, 16, 2, .rw, 0x0, .each, .tenant, .free⟩,  -- HQ_QCFG.PRIO (R452)
  ⟨0x30c, 18, 1, .rw, 0x0, .each, .tenant, .free⟩,  -- HQ_QCFG.EN (R452)
  ⟨0x310, 0, 16, .ro, 0x0, .each, .tenant, .free⟩,  -- HQ_QSTAT.HEAD (R453)
  ⟨0x310, 16, 3, .ro, 0x0, .each, .tenant, .free⟩,  -- HQ_QSTAT.STATE (R453)
  ⟨0x310, 24, 8, .w1c, 0x0, .each, .tenant, .free⟩,  -- HQ_QSTAT.IGNORED (R453)
  ⟨0x314, 0, 10, .rw, 0x0, .each, .tenant, .free⟩,  -- HQ_CQSEL.INDEX (R454)
  ⟨0x318, 12, 20, .rwh, 0x0, .each, .tenant, .ring⟩,  -- HQ_CQBASE_LO.BASE_LO (R454)
  ⟨0x31c, 0, 32, .rwh, 0x0, .each, .tenant, .ring⟩,  -- HQ_CQBASE_HI.BASE_HI (R454)
  ⟨0x320, 0, 4, .rwh, 0x0, .each, .tenant, .ring⟩,  -- HQ_CQCFG.SIZE (R455)
  ⟨0x320, 4, 11, .rwh, 0x0, .each, .tenant, .ring⟩,  -- HQ_CQCFG.VECTOR (R455)
  ⟨0x320, 15, 1, .rw, 0x0, .each, .tenant, .free⟩,  -- HQ_CQCFG.EN (R455)
  ⟨0x320, 16, 1, .rw, 0x0, .each, .tenant, .free⟩,  -- HQ_CQCFG.IRQ_ALL (R455)
  ⟨0x324, 0, 16, .ro, 0x0, .each, .tenant, .free⟩,  -- HQ_CQSTAT.TAIL (R456)
  ⟨0x324, 16, 16, .ro, 0x0, .each, .tenant, .free⟩,  -- HQ_CQSTAT.HEAD (R456)
  ⟨0x328, 12, 20, .rwh, 0x0, .low, .tenant, .eventQ⟩,  -- HQ_EQBASE_LO.BASE_LO (R457)
  ⟨0x32c, 0, 32, .rwh, 0x0, .low, .tenant, .eventQ⟩,  -- HQ_EQBASE_HI.BASE_HI (R457)
  ⟨0x330, 0, 4, .rwh, 0x0, .low, .tenant, .eventQ⟩,  -- HQ_EQCFG.SIZE (R458)
  ⟨0x330, 4, 11, .rwh, 0x0, .low, .tenant, .eventQ⟩,  -- HQ_EQCFG.VECTOR (R458)
  ⟨0x330, 15, 1, .rw, 0x0, .low, .tenant, .free⟩,  -- HQ_EQCFG.EN (R458)
  ⟨0x334, 0, 16, .ro, 0x0, .low, .tenant, .free⟩,  -- HQ_EQSTAT.TAIL (R459)
  ⟨0x334, 16, 16, .w1c, 0x0, .low, .tenant, .free⟩,  -- HQ_EQSTAT.DROPPED (R459)
  ⟨0x338, 0, 16, .w1c, 0x0, .low, .tenant, .free⟩]  -- HQ_DBSTAT.FOREIGN (R605)

/-- Fields of the hub die blocks at offsets from 0x340. -/
def regsHd13 : List RegField := [
  ⟨0x340, 0, 2, .ro, 0x0, .low, .tenant, .free⟩,  -- PART_STAT.LAYOUT (R530)
  ⟨0x340, 2, 4, .ro, 0x0, .low, .tenant, .free⟩,  -- PART_STAT.QUADS (R530)
  ⟨0x340, 6, 3, .ro, 0x0, .low, .tenant, .free⟩,  -- PART_STAT.STATE (R530)
  ⟨0x340, 16, 16, .ro, 0x0, .low, .tenant, .free⟩,  -- PART_STAT.SCRUBS (R530)
  ⟨0x344, 0, 6, .ro, 0x0, .low, .tenant, .free⟩,  -- SEC_STAT.ARB (R531)
  ⟨0x344, 8, 6, .ro, 0x0, .low, .tenant, .free⟩,  -- SEC_STAT.SVN (R531)
  ⟨0x344, 16, 8, .ro, 0x1, .low, .tenant, .free⟩,  -- SEC_STAT.ED_SLOTS (R531)
  ⟨0x344, 24, 8, .ro, 0x1, .low, .tenant, .free⟩,  -- SEC_STAT.MLDSA_SLOTS (R531)
  ⟨0x348, 0, 2, .ro, 0x0, .low, .tenant, .free⟩,  -- SEC_USE.ED_SLOT (R532)
  ⟨0x348, 2, 2, .ro, 0x0, .low, .tenant, .free⟩,  -- SEC_USE.MLDSA_SLOT (R532)
  ⟨0x348, 4, 1, .ro, 0x0, .low, .tenant, .free⟩,  -- SEC_USE.BANK (R532)
  ⟨0x360, 0, 1, .rw, 0x0, .hd3, .tenant, .free⟩,  -- TW_CFG.EN (R547)
  ⟨0x360, 1, 8, .rws, 0x1, .hd3, .tenant, .free⟩,  -- TW_CFG.K (R547)
  ⟨0x360, 9, 7, .rws, 0x14, .hd3, .tenant, .free⟩,  -- TW_CFG.MISS (R547)
  ⟨0x360, 16, 12, .rwh, 0x0, .hd3, .tenant, .twin⟩,  -- TW_CFG.PEER (R547)
  ⟨0x360, 28, 1, .wo, 0x0, .hd3, .tenant, .free⟩,  -- TW_CFG.PULL (R547)
  ⟨0x364, 20, 12, .rwh, 0x0, .hd3, .tenant, .twin⟩,  -- TW_MIRBASE_LO.BASE_LO (R548)
  ⟨0x368, 0, 9, .rwh, 0x0, .hd3, .tenant, .twin⟩,  -- TW_MIRBASE_HI.BASE_HI (R548)
  ⟨0x36c, 0, 16, .rwh, 0x0, .hd3, .tenant, .twin⟩,  -- TW_MIRSIZE.SIZE (R548)
  ⟨0x370, 0, 3, .ro, 0x0, .hd3, .tenant, .free⟩,  -- TW_STAT.STATE (R549)
  ⟨0x370, 3, 1, .ro, 0x0, .hd3, .tenant, .free⟩,  -- TW_STAT.MIRRORING (R549)
  ⟨0x370, 4, 1, .ro, 0x0, .hd3, .tenant, .free⟩,  -- TW_STAT.RET_VALID (R549)
  ⟨0x370, 16, 12, .ro, 0x0, .hd3, .tenant, .free⟩,  -- TW_STAT.PEER_EP (R549)
  ⟨0x374, 0, 32, .ro, 0x0, .hd3, .tenant, .free⟩,  -- TW_HELDMS_LO.HELDMS_LO (R549)
  ⟨0x378, 0, 32, .ro, 0x0, .hd3, .tenant, .free⟩]  -- TW_HELDMS_HI.HELDMS_HI (R549)

/-- Fields of the hub die blocks at offsets from 0x380. -/
def regsHd14 : List RegField := [
  ⟨0x380, 0, 1, .rw, 0x0, .hd0, .hidden, .free⟩,  -- WM_CFG.ARM (R560)
  ⟨0x380, 1, 2, .rwh, 0x3, .hd0, .hidden, .waymark⟩,  -- WM_CFG.SRC (R560)
  ⟨0x380, 3, 2, .rwh, 0x1, .hd0, .hidden, .waymark⟩,  -- WM_CFG.EDGE (R560)
  ⟨0x380, 5, 2, .rwh, 0x0, .hd0, .hidden, .waymark⟩,  -- WM_CFG.MS_QUAD (R560)
  ⟨0x380, 8, 8, .rwh, 0x0, .hd0, .hidden, .waymark⟩,  -- WM_CFG.PASSES (R560)
  ⟨0x380, 16, 8, .rwh, 0x0, .hd0, .hidden, .waymark⟩,  -- WM_CFG.CONV_EN (R560)
  ⟨0x384, 0, 1, .wo, 0x0, .hd0, .hidden, .free⟩,  -- WM_CTRL.SW_TRIG (R561)
  ⟨0x384, 1, 1, .wo, 0x0, .hd0, .hidden, .free⟩,  -- WM_CTRL.ABORT (R561)
  ⟨0x384, 2, 1, .wo, 0x0, .hd0, .hidden, .free⟩,  -- WM_CTRL.FLUSH (R561)
  ⟨0x388, 0, 3, .rw, 0x0, .hd0, .hidden, .free⟩,  -- WM_SEQSEL.CONV (R562)
  ⟨0x388, 3, 4, .rw, 0x0, .hd0, .hidden, .free⟩,  -- WM_SEQSEL.ENTRY (R562)
  ⟨0x38c, 0, 6, .rwh, 0x1f, .hd0, .hidden, .waymark⟩,  -- WM_SEQDATA.INPUT (R562)
  ⟨0x38c, 6, 3, .rwh, 0x0, .hd0, .hidden, .waymark⟩,  -- WM_SEQDATA.STIME (R562)
  ⟨0x38c, 9, 3, .rwh, 0x0, .hd0, .hidden, .waymark⟩,  -- WM_SEQDATA.GAIN (R562)
  ⟨0x38c, 12, 1, .rwh, 0x1, .hd0, .hidden, .waymark⟩,  -- WM_SEQDATA.LAST (R562)
  ⟨0x390, 0, 16, .rwh, 0x0, .hd0, .hidden, .waymark⟩,  -- WM_PROBESEL.DEVICES (R563)
  ⟨0x394, 0, 13, .ro, 0x0, .hd0, .hidden, .free⟩,  -- WM_STAT.LEVEL (R564)
  ⟨0x394, 13, 1, .ro, 0x0, .hd0, .hidden, .free⟩,  -- WM_STAT.RUNNING (R564)
  ⟨0x394, 16, 8, .w1c, 0x0, .hd0, .hidden, .free⟩,  -- WM_STAT.TRIG_MISS (R564)
  ⟨0x394, 24, 8, .w1c, 0x0, .hd0, .hidden, .free⟩,  -- WM_STAT.LOST (R564)
  ⟨0x398, 0, 32, .ro, 0x0, .hd0, .hidden, .free⟩,  -- WM_FIFO_LO.FIFO_LO (R563)
  ⟨0x39c, 0, 32, .ro, 0x0, .hd0, .hidden, .free⟩]  -- WM_FIFO_HI.FIFO_HI (R563)

/-- The fields of the blocks of a kind of die: 0 AD, 1 GD, 2 HD. -/
def regFields (kind : Nat) : List RegField :=
  match kind with
  | 0 => regsAll0 ++ regsAd1 ++ regsAd2
  | 1 => regsAll0 ++ regsGd4 ++ regsGd5 ++ regsGd6 ++ regsGd7 ++ regsGd9
  | _ => regsAll0 ++ regsHd8 ++ regsHd10 ++ regsHd12 ++ regsHd13 ++ regsHd14

/-- The fields of one register. -/
def regAt (kind off : Nat) : List RegField := (regFields kind).filter fun f => f.off == off

/-- The reset value of a register (R473). -/
def regReset (kind off : Nat) : Nat := (regAt kind off).foldl (fun v f => v + f.reset * 2 ^ f.lo) 0

end Sys2Proof.Machine
end

