-- ==== Sys2Proof/Machine/Sha.lean ====
section
/-! DEFINITION. SHA-512 (R345, R519, R573), its constants computed from the primes that define them, and the CRC-64 of link flits (R362). -/

namespace Sys2Proof.Machine

open Sys2Proof

/-! ### Constants: fractional parts of roots of primes -/

/-- The first `n` primes from `p` on, given the smaller ones. -/
def primesFrom (known : List Nat) (p : Nat) : Nat → Nat → List Nat
  | 0, _ => known
  | _, 0 => known
  | fuel + 1, n + 1 =>
    if known.any fun q => p % q == 0 then primesFrom known (p + 1) fuel (n + 1)
    else primesFrom (known ++ [p]) (p + 1) fuel n
def primes (n : Nat) : List Nat := primesFrom [] 2 (6 * n) n

/-- The integer `k`-th root of `v`, bit by bit from bit `i` − 1 down, given the bits above. -/
def rootBelow (k v : Nat) : Nat → Nat → Nat
  | 0, r => r
  | i + 1, r => rootBelow k v i (if (r + 2 ^ i) ^ k ≤ v then r + 2 ^ i else r)
/-- The first 64 bits of the fractional part of the `k`-th root of a prime below 512. -/
def rootWord (k p : Nat) : Nat := rootBelow k (p * 2 ^ (64 * k)) 69 0 % 2 ^ 64

/-! ### Words as numbers below 2^64 -/

def word64 (n : Nat) : Nat := n % 2 ^ 64
def rotr (x n : Nat) : Nat := x >>> n ||| word64 (x <<< (64 - n))
/-- The sum modulo 2 of three rotations, or of two and a shift where `shift`. -/
def mix (x a b c : Nat) (shift : Bool) : Nat := rotr x a ^^^ rotr x b ^^^ (if shift then x >>> c else rotr x c)

/-- Sixteen schedule words, of which the oldest is used, and the eight working words. -/
structure ShaState where
  window : List Nat
  work : List Nat
deriving DecidableEq, Repr

/-- The window one word on. -/
def slide (w : List Nat) : List Nat :=
  let at_ := fun (i : Nat) => w.getD i 0
  w.drop 1 ++ [word64 (at_ 0 + mix (at_ 1) 1 8 7 true + at_ 9 + mix (at_ 14) 19 61 6 true)]

/-- A round with constant `k`: each working word moves down one place, and two of the eight are new. -/
def ShaState.round (x : ShaState) (k : Nat) : ShaState :=
  let at_ := fun (i : Nat) => x.work.getD i 0
  let choose := ((at_ 5 ^^^ at_ 6) &&& at_ 4) ^^^ at_ 6
  let most := (at_ 0 &&& at_ 1) ||| (at_ 2 &&& (at_ 0 ||| at_ 1))
  let t := at_ 7 + mix (at_ 4) 14 18 41 false + choose + k + x.window.getD 0 0
  let top := word64 (t + mix (at_ 0) 28 34 39 false + most)
  ⟨slide x.window, top :: (x.work.take 3 ++ word64 (at_ 3 + t) :: (x.work.drop 4).take 3)⟩

/-- A block of 128 bytes goes into the hash value. -/
def shaBlock (ks hash : List Nat) (blk : List Byte) : List Nat :=
  let words := (List.range 16).map fun i => leNat (((blk.drop (8 * i)).take 8).reverse)
  let x := ks.foldl ShaState.round ⟨words, hash⟩
  List.zipWith (fun a b => word64 (a + b)) hash x.work

/-- The message with its closing bit, zeros, and length in bits as a 128-bit big-endian number. -/
def shaPadded (m : List Byte) : List Byte :=
  m ++ 0x80 :: (List.replicate ((239 - m.length % 128) % 128) 0 ++ (natLe 16 (8 * m.length)).reverse)

/-- The 64-byte SHA-512 digest of a message. -/
def sha512 (m : List Byte) : List Byte :=
  let ks := (primes 80).map (rootWord 3)
  ((chunk 128 (shaPadded m)).foldl (shaBlock ks) ((primes 8).map (rootWord 2))).flatMap fun x => (natLe 8 x).reverse

/-- One bit of the reflected CRC-64 of ECMA-182. -/
def crcBit (c : BitVec 64) : BitVec 64 :=
  if c.getLsbD 0 then (c >>> 1) ^^^ 0xC96C5795D7870F42 else c >>> 1

/-- One byte of the CRC. -/
def crcByte (c : BitVec 64) (b : Byte) : BitVec 64 :=
  let x := c ^^^ b.setWidth 64
  crcBit (crcBit (crcBit (crcBit (crcBit (crcBit (crcBit (crcBit x)))))))

/-- CRC-64 with initial value all ones and inverted result (R362). -/
def crc64 (bs : List Byte) : BitVec 64 := ~~~ (bs.foldl crcByte 0xFFFFFFFFFFFFFFFF)

end Sys2Proof.Machine
end

