-- ==== Sys2Proof/Machine/State.lean ====
section
/-! DEFINITION. The state of the T824: every register, table, queue, memory and counter that the spec names, as plain data, with the queue of waiting commands, and the state after reset. -/

namespace Sys2Proof.Machine

open Sys2Proof

/-! ### What the module puts out -/

/-- What leaves the module through a port, in order. -/
inductive Output where
  /-- A write of host memory by function `fn` (R424). -/
  | hostWrite (fn addr : Nat) (bytes : List Byte)
  /-- An MSI-X interrupt (R450). -/
  | msix (fn vector : Nat)
  /-- A link flit on port 0 to 7 or 8 for T (R362). -/
  | flit (port : Nat) (bytes : List Byte)
  /-- The value that a register read returns (R464, R569). -/
  | regRead (status : Nat) (v : Word)
  /-- What a register-path write returns (R569). -/
  | regWrite (status : Nat)
  /-- A host-window line, with CXL poison (R412). -/
  | windowData (poison : Bool) (bytes : List Byte)
  /-- The answer to a configuration request (R512): 0 normal, 1 Request Retry Status, 2 none, 3 normal with Memory_Active 0. -/
  | config (fn kind : Nat)
  /-- A snoop is answered as a miss (R423). -/
  | snoopMiss
  /-- A PCIe AER uncorrectable internal error (R448). -/
  | aer (fn : Nat)
  /-- An SPDM message (R524). -/
  | spdm (fn code : Nat) (bytes : List Byte)
  /-- A mailbox response (R570). -/
  | mailbox (cmd seq status : Nat) (args : List Byte)
deriving DecidableEq, Repr

/-! ### Layer maps -/

/-- A tile entry of the map image (R228). -/
structure TileEntry where
  tile : Nat
  pos : Nat
  load : Nat
  chain : Nat
  outBase : Nat
  widths : Nat
deriving DecidableEq, Repr

/-- A layer record (R227) with its tile entries and the tables that MAP_LOAD read (R234). -/
structure Layer where
  num : Nat
  chainLen : Nat
  shape : Nat
  a : Nat
  ns : Nat
  range : Nat
  adaptive : Bool
  nseg : Nat
  mass : Nat
  act : Nat
  preload : Nat
  preact : Bool
  pool : Nat
  win : Nat
  outFmt : Nat
  rot : Nat
  baseDyn : Bool
  measured : Bool
  fineTop : Bool
  bypass : Bool
  staticB : Nat
  seed : Nat
  inputs : Nat
  outputs : Nat
  next : Nat
  scaleAddr : Nat
  biasAddr : Nat
  actAddr : Nat
  copyAddr : Nat
  tiles : List TileEntry
  /-- FP16 column scales by chain × 1,024 + data column. -/
  scales : SMap Nat
  /-- Binary32 biases by chain × 1,024 + data column. -/
  biases : SMap Nat
  actTable : List Byte
  /-- The read-back of R164 is complete. -/
  readBack : Bool
deriving DecidableEq, Repr

/-! ### Tiles -/

/-- The states of R71. -/
inductive TileState where
  | off
  | sleep
  | idle
  | active
  | program
  | probe
  | retired
deriving DecidableEq, Repr

/-- A product of a descriptor: the queue, the descriptor's number among those that began in the partition, the layer that it named,
the layer that the product is of, its number among the layer's products of the descriptor (R130), the destination row that it
leads to, and its token sequence number. -/
structure Token where
  q : Nat
  gen : Nat
  root : Nat
  layer : Nat
  idx : Nat
  row : Nat
  seq : Word
deriving DecidableEq, Repr

/-- An input vector bound for a tile, with its base and shifts (R59, R100, R137). -/
structure Vec where
  tok : Token
  codes : List Byte
  b : Nat
  shifts : List Nat
deriving DecidableEq, Repr

/-- A piece of an input vector from one closing tile, the number of pieces of the vector, and whether it has arrived (R244). -/
structure Piece where
  vec : Vec
  want : Nat
  got : Bool
deriving DecidableEq, Repr

/-- A vector in the row drivers or whose product is being converted (R65 to R69). -/
structure Prod where
  vec : Vec
  /-- Drift trim when the vector was latched (R121). -/
  tau : Nat
  /-- Segments chosen (R99 to R103). -/
  n : Nat
  /-- Non-zero segments not yet sampled, ascending (R64). -/
  todo : List Nat
  /-- The toll of the next segment: 0 not requested, 1 waiting, 2 admitted (R481). -/
  toll : Nat
  /-- Raw codes by segment: logical column to raw code; a column not listed reads 0 (R58). -/
  codes : List (Nat × SMap Int)
  /-- User corrections of the tile's columns when the vector was latched (R477), by calibration key. -/
  user : SMap Int
deriving DecidableEq, Repr

/-- A device pair of one row and logical column: conductances of G+ and G− in 1/6400 G_u (R46, R47; log entry 7). -/
structure Cell where
  gp : Nat
  gm : Nat
deriving DecidableEq, Repr

/-- A weight, the check digits of a group, or a reference digit being written in one row (R56, R156, R161). -/
structure Job where
  /-- Physical row. -/
  prow : Nat
  /-- Data column of slice 0, 1,024 + check group, or 2,048 + reference column. -/
  col : Nat
  slices : Nat
  value : Int
  /-- Target digits, slice 0 first. -/
  digits : List Int
  /-- The held target digits that a rewrite without an order was begun from (R184, R202, R207). -/
  held : List Int
  /-- Devices of this weight that have been counted as written, slice × 2 + half (R167). -/
  counted : List Nat
  /-- Analogue value still owed (R156), in 1/6400 unit. -/
  owed : Int
  /-- The slice being written plus 1; 0 when all are done. -/
  left : Nat
  /-- Devices of the slice still to be written, in order: 0 G+, 1 G− (R156). -/
  halves : List Nat
  /-- Levels found in the devices of the slice that have been written, by half. -/
  found : SMap Nat
  /-- The slice has slipped once and is written again (R157). -/
  slipped : Bool
  inexact : Bool
  /-- Every set device is reset first (R184). -/
  force : Bool
  /-- The order that causes the writes, with its queue; 65,536 more for an entry of the deferral list (R171). -/
  order : Option (Nat × Nat)
deriving DecidableEq, Repr

/-- One output of a product: its number, binary32 value and clip mark. -/
structure OutVal where
  out : Nat
  val : Word
  clip : Bool
deriving DecidableEq, Repr

/-- A partial packet of a chain (R236): its product, position and outputs, and whether its tile has taken it. -/
structure Partial where
  tok : Token
  pos : Nat
  got : Bool
  vals : List OutVal
deriving DecidableEq, Repr

/-- The packet that a position sends on next of a descriptor's layer: the product's number and the packet's position (R236). -/
structure ChainAt where
  tok : Token
  idx : Nat
  pos : Nat
deriving DecidableEq, Repr

/-- The sum of a product's partials that the closing tile forms as they arrive: positions 0 to `next` − 1 are in it (R236). -/
structure ChainSum where
  tok : Token
  next : Nat
  vals : List OutVal
deriving DecidableEq, Repr

/-- What a closing tile keeps of a descriptor's layer: the next product to close, and the pooling window being formed with its
first product (R130, R131). -/
structure PoolAcc where
  q : Nat
  gen : Nat
  root : Nat
  layer : Nat
  next : Nat
  first : Token
  vals : List OutVal
deriving DecidableEq, Repr

/-- A residual vector that has arrived (R124). -/
structure Residual where
  seq : Word
  vals : List Word
deriving DecidableEq, Repr

/-- Comparison and disagreement counts of a check group (R193). -/
structure Check where
  m : Nat
  n : Nat
deriving DecidableEq, Repr

/-- One of the 33,792 tiles of an array die (R71). -/
structure Tile where
  st : TileState
  /-- Input vectors that wait at the tile of this placement for the row drivers (R66, R74). -/
  slots : List Vec
  /-- The vector in the row drivers and products still converting, oldest first (R67, R69). -/
  prods : List Prod
  /-- Bank A and bank B hold a sample (R67). -/
  bankA : Bool
  bankB : Bool
  /-- The last sample went into bank B. -/
  lastB : Bool
  /-- Pieces of vectors that closing tiles supply (R244). -/
  pieces : List Piece
  /-- Partial packets that have arrived, and the position's own that have not left (R236). -/
  partials : List Partial
  /-- The packets that the position sends on next, and at the closing tile the sums being formed (R236). -/
  chain : List ChainAt
  sums : List ChainSum
  /-- Residual vectors that have arrived (R124). -/
  residuals : List Residual
  /-- Pooling accumulators (R131). -/
  pool : List PoolAcc
  /-- Output norm accumulator, binary32; none before the first product since it was cleared (R132). -/
  normAcc : Option Word
  /-- Conductances by physical row × 1,152 + logical column (R46); a cell not listed is at 0, or at the nominal levels of its
  digit in a reference column that holds its digits. -/
  cells : SMap Cell
  /-- The reference columns hold their digits (R56). -/
  refs : Bool
  /-- Drift trim τ in 2.14 (R142). -/
  trim : Nat
  aIdeal : Word64
  aMeas : Word64
  aZero : Word64
  driftN : Nat
  /-- Comparison and disagreement counts per check group (R193). -/
  checks : SMap Check
  flagged : Bool
  flagTime : Nat
  probeReq : Bool
  retireReq : Bool
  /-- Stuck table (R160). -/
  stuck : List Nat
  /-- Row and column remap entries by spare number (R204, R205). -/
  rowMap : SMap Nat
  colMap : SMap Nat
  /-- Reference columns excluded from drift measurement (R200). -/
  refExcl : List Nat
  /-- Spares changed and devices rewritten in the present probe (R215). -/
  probeCols : Nat
  probeRows : Nat
  probeDevs : Nat
  /-- Lifetime and period counts (R168) and the raise (R169). -/
  life : Nat
  period : Nat
  raise : Nat
  /-- Refresh due (R183) with its cause, urgent or not. -/
  due : Option Nat
  urgent : Bool
  /-- The refresh was due when the partition entered the backward phase (R185). -/
  ready : Bool
  /-- A refresh runs (R184). -/
  refresh : Bool
  /-- Rows to be rewritten from the narrow copy, in order: physical row × 4,096 + what: a run's slice-0 column, 1,024 + check
  group, 4,093 all runs and checks, 4,094 the reference columns, 4,095 all of these (R56, R184, R202, R207). -/
  work : List Nat
  /-- Weights programmed since the tile was newly placed, row × 1,024 + column (R233). -/
  known : List Nat
  /-- The position has been bypassed, and the weights written since, row × 1,024 + column (R285). -/
  wasBypassed : Bool
  rewritten : List Nat
  /-- A probe scan or its repairs run: in PROBE, or within a refresh (R196). -/
  scanning : Bool
  /-- Toll of the scan: 0 none outstanding, 1 waiting, 2 admitted (R198). -/
  scanToll : Nat
  /-- A scrub cut a scan or repair short: the tile is scanned after its next programming of phase 0 (R213). -/
  rescan : Bool
  /-- Milestones since the last refresh or first programming (R183). -/
  age : Nat
  /-- Orders held or waiting to be written, with the queue of their PROGRAM descriptor (R165, R189). -/
  orders : List (Nat × Nat)
  /-- Writes of the row in progress (R165). -/
  jobs : List Job
  /-- Toll of the next batch: 0 not requested, 1 waiting, 2 admitted (R165, R483). -/
  batchToll : Nat
  /-- Program as a reserve (R207). -/
  reserveProg : Bool
  /-- Power-on mark: 0 none, 1 kept, 2 unreliable (R577). -/
  mark : Nat
  /-- Outcome of the start-up array check: 0 none, 1 blank, 2 kept, 3 unreliable (R576), and recorded τ. -/
  outcome : Nat
  recTrim : Nat
  /-- Inexact weights, row × 1,024 + column, with the VALUE that was ordered (R157). -/
  inexact : SMap Int
  /-- Devices counted unverified in their last write, (row × 1,152 + column) × 2 + half (R155). -/
  unverified : List Nat
  /-- Class of the wake request that is pending (R489): 1 vectors, 2 orders, refresh, probe, 3 power-up. -/
  wake : Nat
  /-- Admitted and on its way to IDLE (R72). -/
  waking : Bool
  /-- Counts a refresh begun in the step (R185). -/
  begun : Bool
deriving DecidableEq, Repr

/-- A tile as made: OFF, reference digits written (R56), no other conductance, trim 1.0. -/
def Tile.fresh : Tile where
  st := .off
  slots := []
  prods := []
  bankA := false
  bankB := false
  lastB := false
  pieces := []
  partials := []
  chain := []
  sums := []
  residuals := []
  pool := []
  normAcc := none
  cells := []
  refs := true
  trim := 0x4000
  aIdeal := 0
  aMeas := 0
  aZero := 0
  driftN := 0
  checks := []
  flagged := false
  flagTime := 0
  probeReq := false
  retireReq := false
  stuck := []
  rowMap := []
  colMap := []
  refExcl := []
  probeCols := 0
  probeRows := 0
  probeDevs := 0
  life := 0
  period := 0
  raise := 0
  due := none
  urgent := false
  ready := false
  refresh := false
  work := []
  known := []
  wasBypassed := false
  rewritten := []
  scanning := false
  scanToll := 0
  rescan := false
  age := 0
  orders := []
  jobs := []
  batchToll := 0
  reserveProg := false
  mark := 0
  outcome := 0
  recTrim := 0x4000
  inexact := []
  unverified := []
  wake := 0
  waking := false
  begun := false

/-! ### The roads of an array die (R239 to R242) -/

/-- What a packet on the roads carries. -/
inductive Cargo where
  /-- An input vector to tiles (R245). -/
  | vector (v : Vec)
  /-- A piece of an input vector from a closing tile (R244). -/
  | piece (p : Piece)
  /-- A partial packet (R236). -/
  | packet (p : Partial)
  /-- Results of a closing tile for the descriptor's destination (R246, R460). -/
  | result (k : Token) (vals : List OutVal)
deriving DecidableEq, Repr

/-- A packet in transit: its lane, its length in flits, the flits that each destination still waits for, what it carries, and
the array dies with placement tiles that its gradient die sends it on to (R241, R244). A destination is an endpoint × 65,536 +
the placement tile it is meant for; an endpoint is a tile of the die, or 33,792 + a bridge. -/
structure RoadPkt where
  lane : Nat
  size : Nat
  left : List (Nat × Nat)
  cargo : Cargo
  onward : List (Nat × List Nat)
deriving DecidableEq, Repr

/-- A flit of a packet with the destinations that this copy of it goes to. -/
structure Flit where
  pkt : Nat
  dsts : List Nat
deriving DecidableEq, Repr

/-- The roads of an array die: junctions with their input buffers, and the packets on them. A port of a junction is 0 to 3 for
the roads toward lower x, higher x, lower y and higher y, 4 for a bridge, and 5 + the tile of the block. -/
structure Road where
  /-- Number of the next packet, and the packets in transit. -/
  next : Nat
  pkts : SMap RoadPkt
  /-- Packets that wait at a sender, with the flits still to be sent, by (junction × 72 + port) × 4 + lane. -/
  src : SMap (List (Nat × Nat))
  /-- Flits in the input buffers, oldest first, by the same key (R241). -/
  buf : SMap (List Flit)
  /-- The input port that an output served last, by (junction × 72 + output) × 4 + lane (R242). -/
  turn : SMap Nat
  /-- What has reached an endpoint and has not been taken yet: destination and packet. -/
  due : List (Nat × RoadPkt)
deriving DecidableEq, Repr

/-- Empty roads. -/
def Road.empty : Road where
  next := 0
  pkts := []
  src := []
  buf := []
  turn := []
  due := []

/-- A toll request waiting at the tollgate, in arrival order (R486): tile, energy in pJ, from the program bucket. -/
structure TollReq where
  tile : Nat
  pj : Nat
  program : Bool
  waited : Bool
deriving DecidableEq, Repr

/-- A wake that waits for admission (R489): tile, class 1 to 3, and whether it has been counted as waiting (R501). -/
structure WakeReq where
  tile : Nat
  cls : Nat
  waited : Bool
deriving DecidableEq, Repr

/-- The tollgate of an array die (R484 to R489). Bucket levels are in 1/5120 pJ. -/
structure Gate where
  prod : Int
  prog : Int
  reqs : List TollReq
  /-- Start of the present 1 µs window of local time and the pJ admitted in it and in the last whole one (R488). -/
  winStart : Nat
  cur : Nat
  prev : Nat
  /-- Refill of the present and of the last whole window, in 1/5120 pJ (R500). -/
  curFill : Nat
  prevFill : Nat
  /-- Tolls charged since the last debt check, in pJ (R482). -/
  charged : Nat
  /-- Wakes waiting, in arrival order; wakes admitted and the µs they fall in (R489). -/
  wakes : List WakeReq
  wakeAt : Nat
  wakeN : Nat
deriving DecidableEq, Repr

/-- Both buckets empty (R485). -/
def Gate.empty : Gate where
  prod := 0
  prog := 0
  reqs := []
  winStart := 0
  cur := 0
  prev := 0
  curFill := 0
  prevFill := 0
  charged := 0
  wakes := []
  wakeAt := 0
  wakeN := 0

/-- A die's temperature in 1/16 °C, its hottest corrected sensor, share factor in 1/320 and throttle state (R491). -/
structure Die where
  temp : Int
  share : Nat
  throttled : Bool
  /-- Local time at which the die last read 92 °C or more, and of its last DIE_THROTTLE. -/
  hotAt : Nat
  evAt : Nat
  /-- Clock cycles skipped of every 16 (R480). -/
  skip : Nat
  /-- TEMP and SHARE of the last renewal of the tenant view (R528). -/
  tTemp : Int
  tShare : Nat
deriving DecidableEq, Repr

/-- A die at reset: THERM_STAT reads 0 and 0x64 (R502). -/
def Die.reset : Die where
  temp := 0
  share := 320
  throttled := false
  hotAt := 0
  evAt := 0
  skip := 0
  tTemp := 0
  tShare := 100

/-- An HBM stack (R398 to R406). -/
structure Stack where
  thermal : Nat
  online : Bool
  lost : Bool
  temp : Int
  tTemp : Int
  /-- Spare lanes in use, and lanes that MEM_LANE named and the next training spares, channel × 72 + lane (R401, R402). -/
  spared : List Nat
  toSpare : List Nat
  /-- Road blocks corrected in the last patrol pass (R400) and corrections per lane in this pass (R402). -/
  corrected : List Nat
  laneErr : SMap Nat
  /-- Pass parity of each road block seen: the present pass's corrections. -/
  pass : List Nat
  /-- Requests admitted at a lower rate by the rail budget (R480). -/
  slowed : Bool
  /-- A training failure keeps the stack out of service (R401). -/
  failed : Bool
deriving DecidableEq, Repr

/-- A stack before training. -/
def Stack.reset : Stack where
  thermal := 0
  online := false
  lost := false
  temp := 0
  tTemp := 0
  spared := []
  toSpare := []
  corrected := []
  laneErr := []
  pass := []
  slowed := false
  failed := false

/-- A gradient die: accumulator stores of the matrix engines (R253), row-engine side memory (R305), footpath (R418), sums (R313), norm collectors of its array die. -/
structure GradDie where
  /-- Wide totals by engine × 4,096 + place in its output tile, binary64; 0 where not listed (R253, R266). -/
  accs : SMap Word64
  sideIdx : List (Nat × Nat × Nat × Bool)
  side : SMap Nat
  sideUsed : Nat
  fpBusy : Bool
  fpResult : Nat
  /-- Address, WRITE, RAW and the word of the footpath access that GO started (R418). -/
  fpAt : Nat
  fpWrite : Bool
  fpRaw : Bool
  fpWord : List Byte
  /-- Gradient square sums per layer, binary64 (R313). -/
  gradSq : SMap Word64
  /-- Output norm collector of the array die of the same number, binary32 per layer (R133). -/
  collector : SMap (Option Word)
deriving DecidableEq, Repr

/-- No side records, no sums. -/
def GradDie.reset : GradDie where
  accs := []
  sideIdx := []
  side := []
  sideUsed := 0
  fpBusy := false
  fpResult := 0
  fpAt := 0
  fpWrite := false
  fpRaw := false
  fpWord := []
  gradSq := []
  collector := []

/-! ### Queues -/

/-- What a descriptor that runs over several steps still has to do. -/
structure Work where
  /-- The opcode's first step has been taken. -/
  started : Bool
  /-- Settings of the layers when the descriptor began (R18). -/
  layers : List Layer
  /-- Group records when it began (R18, R359). -/
  t : Nat
  /-- Result rows still to be written (FORWARD, DISPATCH), as destination rows. -/
  rows : List Nat
  /-- Outputs collected per row: row × 2^24 + output to binary32 and clip mark. -/
  buf : SMap (Option (Word × Bool))
  clips : Nat
  bypassed : Nat
  slotState : Nat
  /-- Blocks of an UPDATE_APPLY that wait for a reader, or other items left. -/
  todo : List Nat
  n0 : Nat
  n1 : Nat
  n2 : Nat
  skewed : Bool
  /-- A SNAPSHOT waits for closure (R344). -/
  deferred : Bool
  /-- The group record and vector program that an UPDATE_APPLY or VPROG began with (R18, R359). -/
  record : List Byte
  prog : List Word
  /-- Registers and user calibration in effect when the descriptor began; its staged fields keep these values (R18). -/
  regs : SMap Nat
  cal : SMap Int
  /-- Ranges of device memory that a FORWARD, DISPATCH, PROGRAM or UPDATE_APPLY in progress works on (R405). -/
  areas : List (Nat × Nat)
  /-- The descriptor's number among those that began in its partition (the model's own; log entry 112). -/
  gen : Nat
  /-- Its place among the finished descriptors whose completions wait (R445; the model's own; log entry 112). -/
  doneNo : Nat
deriving DecidableEq, Repr

/-- No work. -/
def Work.none : Work where
  started := false
  layers := []
  t := 0
  rows := []
  buf := []
  clips := 0
  bypassed := 0
  slotState := 0
  todo := []
  n0 := 0
  n1 := 0
  n2 := 0
  skewed := false
  deferred := false
  record := []
  prog := []
  regs := []
  cal := []
  areas := []
  gen := 0
  doneNo := 0

/-- The descriptor at the head of a queue, from its beginning or its failed check until its completion is posted. -/
structure Running where
  desc : List Byte
  args : List Byte
  /-- It began (R429); a descriptor that fails its checks while pending completes without beginning (R437). -/
  began : Bool
  /-- Status and RESULT once it has finished. -/
  done : Option (Nat × List Byte)
  work : Work
deriving DecidableEq, Repr

/-- A fetched descriptor that has not begun, with the status it must complete with once its step is abandoned or its queue is disabled (R43, R452). -/
structure Slot where
  desc : List Byte
  fate : Option Nat
  /-- Its waypost wait has been satisfied while it stood first in its queue (R429, R442). -/
  met : Bool
deriving DecidableEq, Repr

/-- A submission queue (R428, R449). -/
structure SubQ where
  head : Nat
  tail : Nat
  /-- Descriptors fetched and not begun, in ring order. -/
  fetched : List Slot
  running : Option Running
  /-- The reason the queue stopped for, 0 while it has not (R449). -/
  stopped : Nat
deriving DecidableEq, Repr

/-- Head and tail 0 (R452). -/
def SubQ.reset : SubQ where
  head := 0
  tail := 0
  fetched := []
  running := none
  stopped := 0

/-- A completion ring (R431). -/
structure Ring where
  tail : Nat
  head : Nat
  tag : Bool
  stopped : Bool
deriving DecidableEq, Repr

/-- Tail and head 0, phase tag 1 (R455). -/
def Ring.reset : Ring where
  tail := 0
  head := 0
  tag := true
  stopped := false

/-- The event queue of a partition (R432, R447). -/
structure EventQ where
  tail : Nat
  head : Nat
  tag : Bool
  stopped : Bool
  seq : Nat
  /-- Events lost since the last EQ_OVERFLOW record. -/
  lost : Nat
deriving DecidableEq, Repr

/-- Tail and head 0, phase tag 1, SEQ 0 (R458). -/
def EventQ.reset : EventQ where
  tail := 0
  head := 0
  tag := true
  stopped := false
  seq := 0
  lost := 0

/-! ### Collectives -/

/-- A collective group (R370): this partition's rank and the members (endpoint, partition) in ring order. -/
structure CollGroup where
  loaded : Bool
  rank : Nat
  members : List (Nat × Nat)
  /-- The last 1,024 tags at the current milestone (R371). -/
  tags : List Nat
deriving DecidableEq, Repr

/-- No group. -/
def CollGroup.none : CollGroup where
  loaded := false
  rank := 0
  members := []
  tags := []

/-- A packet delivered to a partition (R366): source endpoint and partition, kind, group, MTAG, tag, offset, payload. -/
structure Packet where
  domain : Nat
  dst : Nat
  dstPart : Nat
  src : Nat
  srcPart : Nat
  kind : Nat
  hops : Nat
  group : Nat
  mtag : Nat
  tag : Nat
  offset : Nat
  vc : Nat
  payload : List Byte
deriving DecidableEq, Repr

/-- A running collective (R373 to R380). -/
structure Coll where
  q : Nat
  mine : Ready
  /-- This member's rank and the members in ring order. -/
  rank : Nat
  members : List (Nat × Nat)
  /-- Ranks whose READY agreed, with their order counts, and ranks that have sent data. -/
  ready : List (Nat × Nat)
  heard : List Nat
  /-- Boundaries in blocks of the members' ranges: the split table, or the equal split (R372). -/
  split : List Nat
  dst : Nat
  staging : Nat
  srcs : List Nat
  cap : Nat
  /-- Memory of its sources, and of its destination, staging region and inbox: address, bytes. -/
  reads : List (Nat × Nat)
  writes : List (Nat × Nat)
  /-- Own orders of an ORDER_GATHER (R378). -/
  orders : List Nat
  /-- First free value of the read order of several local sources (R375). -/
  free0 : Nat
  /-- Stages of REDUCE_SCATTER and of ALL_GATHER that have been sent (R374). -/
  stage : Nat
  stage2 : Nat
  /-- Accumulators of owned blocks, binary32, and the number of peers added to each (R375). -/
  acc : SMap (List Word)
  cnt : SMap Nat
  /-- The owned blocks are final and written. -/
  final : Bool
  /-- Bytes received per rank, and blocks or orders of peers placed. -/
  got : SMap Nat
  placed : Nat
  /-- Packets that wait: orders before all counts are known, and copies to be forwarded along the ring. -/
  held : List Packet
  /-- Blocks sent along the ring of a BROADCAST. -/
  passed : Nat
  /-- Causes raised or received: status, rank (R379). -/
  causes : List (Nat × Nat)
deriving DecidableEq, Repr

/-- The stage of a collective that a flit belongs to: the two parts of the key, and the stage (R374); none for other traffic. -/
abbrev FlitStage := Option (Nat × Nat × Nat)

/-- A data flit that waits to be sent: its virtual channel, its input (the port it came in by, 9 for the partition's own), SOP,
EOP, the stage it belongs to, and its payload (R364). -/
structure TxFlit where
  vc : Nat
  input : Nat
  sop : Bool
  eop : Bool
  stage : FlitStage
  payload : List Byte
deriving DecidableEq, Repr

/-- A fabric port (R362 to R365). -/
structure Port where
  /-- 0 DOWN; 1 TRAIN; 2 UP; 3 DEGRADED; 4 RETRAIN. -/
  st : Nat
  signal : Bool
  neighbour : Nat
  nport : Nat
  unavail : Bool
  foreign : Bool
  /-- Next SEQ to send and next expected (R363). -/
  txSeq : Nat
  rxSeq : Nat
  /-- Replay buffer: SEQ, stage and flit (R363). -/
  replay : List (Nat × FlitStage × List Byte)
  /-- A replay request has been sent for the present gap. -/
  asked : Bool
  /-- Consecutive replays without ACK progress. -/
  tries : Nat
  /-- Running counts of buffers freed here and seen from the peer, and flits sent, per VC (R364). -/
  freed : List Nat
  peerFreed : List Nat
  sentVc : List Nat
  /-- Flits of other channels sent since the last one of VC2. -/
  since2 : Nat
  /-- Flits that wait to be sent. -/
  txq : List TxFlit
  /-- The input whose turn was last, per VC (R364; log entry 76). -/
  turn : List Nat
  /-- Packet parts received and not complete, per VC. -/
  asm : List (Nat × List (List Byte))
  /-- Whole packets received, not yet routed: VC and bytes. -/
  rxq : List (Nat × List Byte)
deriving DecidableEq, Repr

/-- A port in DOWN. -/
def Port.down : Port where
  st := 0
  signal := false
  neighbour := 0
  nport := 0
  unavail := false
  foreign := false
  txSeq := 0
  rxSeq := 0
  replay := []
  asked := false
  tries := 0
  freed := [0, 0, 0, 0]
  peerFreed := [0, 0, 0, 0]
  sentVc := [0, 0, 0, 0]
  since2 := 0
  txq := []
  turn := [9, 9, 9, 9]
  asm := []
  rxq := []

/-! ### Partitions -/

/-- A parameter group's entry (R322): the record in effect, staged record, LAST_T. -/
structure Group where
  used : Bool
  record : List Byte
  staged : Option (List Byte)
  stale : Bool
  lastT : Word64
deriving DecidableEq, Repr

/-- An unused entry. -/
def Group.unused : Group where
  used := false
  record := []
  staged := none
  stale := false
  lastT := 0

/-- The partition states of R509, in the code of PART_STAT.STATE (R530). -/
inductive PState where
  | absent
  | scrubbing
  | vacant
  | inService
  | stopped
deriving DecidableEq, Repr

/-- A reader of block records whose reading holds pass 2 back (R38): a mirror, running or due, or a SNAPSHOT that waited for
closure, with the blocks that it has read, group × 2^40 + block. -/
structure Reader where
  /-- 65,536 for a mirror, else the queue of the SNAPSHOT. -/
  owner : Nat
  milestone : Nat
  /-- It has begun to read. -/
  begun : Bool
  read : List Nat
deriving DecidableEq, Repr

/-- A partition, keyed by its lowest quadrant. -/
structure Part where
  st : PState
  quads : List Nat
  milestone : Word64
  /-- The partition's current phase, 0 while no descriptor of the step has begun (R429, R43). -/
  phase : Nat
  /-- A step is in progress (R43). -/
  stepOn : Bool
  /-- The phase in which the last step was abandoned, until a descriptor of phase code 1 to 7 begins (R44). -/
  abandoned : Option Nat
  /-- A norm-watch hold is pending (R36). -/
  hold : Bool
  /-- Local time of the last closure; staged writes of that cycle wait for the next one (R17, R478). -/
  closedAt : Option Nat
  /-- Inboxes of the step's order all-gathers whose orders no PROGRAM has been given yet (R34). -/
  gathered : List Nat
  /-- Budget phase granted, and the incoming phase while the outgoing one's budget is withdrawn (R41). -/
  granted : Nat
  incoming : Option Nat
  /-- Descriptors that have begun (the model's own; log entry 112). -/
  begun : Nat
  /-- Pass 2 has begun in the step (R344). -/
  applyBegun : Bool
  /-- Events raised in the step: ORDER_REFUSED count, DEFER_OVERRUN, ORDER_LOG_FULL, STASH_DROPPED, groups with UPDATE_NONFINITE. -/
  nRefused : Nat
  deferOver : Bool
  logFull : Nat
  dropEvent : Bool
  lastCkpt : Nat
  nonfinGroups : List Nat
  layers : List Layer
  groups : SMap Group
  /-- Program slots: instruction words (R347). -/
  progs : SMap (List Word)
  collGroups : SMap CollGroup
  colls : List Coll
  /-- READYs and ABORTs held (R373, R379). -/
  heldReady : List Ready
  heldAbort : List AbortMsg
  /-- Keys of completed and aborted collectives at this milestone: packets for them are discarded (R371). -/
  doneKeys : List (Nat × Nat)
  /-- Delivered packets of collective data (R368). -/
  delivered : List Packet
  eq : EventQ
  /-- Orders in the order log (R342). -/
  logCount : Nat
  /-- Entries of the deferral list that are in use, from GD_DEFERBASE on (R170, R180). -/
  deferCount : Nat
  /-- A wear period ended: remaining entries are applied in the next programming phase (R171). -/
  flushDefer : Bool
  /-- Forward allocation pointer, bytes allocated in the recompute reserve and spill region (R293, R296). -/
  stashNext : Nat
  spillNext : Nat
  spilled : Bool
  dropped : Bool
  /-- Slots that hold space in the forward space or the reserve: slot, address, length (R296, R298). -/
  live : List (Nat × Nat × Nat)
  /-- Slots to be released when their last reader completes (R321). -/
  wantRelease : List Nat
  /-- What a slot was written with in the step: OUTFMT code, rows and columns of its tensor (R294; log entry 21). -/
  slotFmts : SMap (Nat × Nat × Nat)
  /-- Spill copies in progress: slot, reserve address, far address, length (R297). -/
  spills : List (Nat × Nat × Nat × Nat)
  /-- Norm watch per layer × 2 + kind: average (binary64) and steps seen (R133, R313). -/
  watch : SMap (Word64 × Nat)
  /-- HDM decoder committed (R411). -/
  hdm : Bool
  /-- Far-tier range: base and length in bytes (R394). -/
  far : Nat × Nat
  /-- SPDM: session open, nonce, IDE stream keys (R524). -/
  spdmState : Nat
  session : Bool
  ideKeys : List (Nat × Nat × Bool × List Byte)
  readers : List Reader
  /-- Power of the partition in mW over the last window and its tenant view (R503, R528). -/
  powerMw : Nat
  tPowerMw : Nat
deriving DecidableEq, Repr

/-- A partition that does not exist (R509). -/
def Part.absent : Part where
  st := .absent
  quads := []
  milestone := 0
  phase := 0
  stepOn := false
  abandoned := none
  hold := false
  closedAt := none
  gathered := []
  granted := 0
  incoming := none
  begun := 0
  applyBegun := false
  nRefused := 0
  deferOver := false
  logFull := 0
  dropEvent := false
  lastCkpt := 0xFFFF
  nonfinGroups := []
  layers := []
  groups := []
  progs := []
  collGroups := []
  colls := []
  heldReady := []
  heldAbort := []
  doneKeys := []
  delivered := []
  eq := EventQ.reset
  logCount := 0
  deferCount := 0
  flushDefer := false
  stashNext := 0
  spillNext := 0
  spilled := false
  dropped := false
  live := []
  wantRelease := []
  slotFmts := []
  spills := []
  watch := []
  hdm := false
  far := (0, 0)
  spdmState := 0
  session := false
  ideKeys := []
  readers := []
  powerMw := 0
  tPowerMw := 0

/-! ### Twin, waymark, management -/

/-- Twin states in the code of TW_STAT.STATE (R549). -/
inductive TwinState where
  | unpaired
  | pairing
  | paired
  | holding
  | returning
deriving DecidableEq, Repr

/-- The twin of the partition holding Q3 (R534 to R549). -/
structure Twin where
  st : TwinState
  /-- The state that PAIRING left. -/
  from_ : TwinState
  /-- Handshake steps passed by the peer: HELLO 1, CHAIN 2, IDENT 3, CONFIRM 4 (R536). -/
  progress : Nat
  nonceOwn : List Byte
  noncePeer : List Byte
  peerChains : List Byte × List Byte
  peerEp : Nat
  peerSerial : List Byte
  /-- Running heartbeat sequence number, and DETACHING heartbeats being sent (R541). -/
  hbSeq : Nat
  detaching : Bool
  /-- Newest complete peer image: slot 0 or 1, its milestone; none held (R542). -/
  held : Option Nat
  heldMs : Word64
  retValid : Bool
  /-- A mirror is being sent, of which milestone; others that are due, oldest first (R39); a return is due (R544). -/
  mirroring : Bool
  mirrorMs : Nat
  mirrorsDue : List Nat
  returnDue : Bool
  /-- A return image is being sent; a PULL waits for the mirror being sent (R550). -/
  returnSent : Bool
  pullDue : Bool
  /-- The peer's state of its last heartbeat. -/
  peerState : Nat
deriving DecidableEq, Repr

/-- No twin. -/
def Twin.reset : Twin where
  st := .unpaired
  from_ := .unpaired
  progress := 0
  nonceOwn := []
  noncePeer := []
  peerChains := ([], [])
  peerEp := 0
  peerSerial := []
  hbSeq := 0
  detaching := false
  held := none
  heldMs := 0
  retValid := false
  mirroring := false
  mirrorMs := 0
  mirrorsDue := []
  returnDue := false
  returnSent := false
  pullDue := false
  peerState := 0

/-- The waymark converters (R555 to R564). -/
structure Waymark where
  running : Bool
  pass : Nat
  step : Nat
  trigTime : Nat
  fifo : List Word64
  trigLevel : Bool
  /-- Conductances in 1/6400 G_u of probe devices that have been rewritten, by quadrant × 16 + device; the others hold what the
  factory wrote, the nominal value of their level (R552; log entry 125). -/
  probes : SMap Nat
deriving DecidableEq, Repr

/-- Idle, FIFO empty. -/
def Waymark.reset : Waymark where
  running := false
  pass := 0
  step := 0
  trigTime := 0
  fifo := []
  trigLevel := false
  probes := []

/-- A scrub, layout change or reset in progress (R570): CMD, SEQ, quadrants; CMD 0 is the scrub of start-up (R574 step 12). -/
structure Long where
  cmd : Nat
  seq : Nat
  quads : List Nat
  /-- Quadrants still being scrubbed. -/
  left : List Nat
  /-- The layout to be created, or the scope of a reset. -/
  arg : Nat
deriving DecidableEq, Repr

/-- What the management record keeps of a tile (R206, R573). -/
structure TileRecord where
  retired : Bool
  stuck : List Nat
  rowMap : SMap Nat
  colMap : SMap Nat
  refExcl : List Nat
  life : Nat
deriving DecidableEq, Repr

/-- The management record (R573). -/
structure Record where
  tiles : SMap TileRecord
  /-- The tables of the tiles of an array die that are not listed. -/
  tileDefs : SMap TileRecord
  retire : SMap Nat
  faultLog : List (List Byte)
  ppr : List Nat
  calUser : SMap Int
  calClamped : SMap Bool
  /-- Registers for the owner only, NF_IDENT among them. -/
  regs : SMap Nat
  far : List (Nat × Nat × Nat)
  layout : Nat
  keep : Bool
  select : Nat
deriving DecidableEq, Repr

/-- Factory defaults. -/
def Record.factory : Record where
  tiles := []
  tileDefs := []
  retire := []
  faultLog := []
  ppr := []
  calUser := []
  calClamped := []
  regs := []
  far := []
  layout := 0
  keep := false
  select := 0

/-- The management plane (R566 to R582). -/
structure Mgmt where
  /-- The standby is active. -/
  standbyActive : Bool
  /-- The standby's copy of the active controller's responses and unread records (R566). -/
  copy : Bool
  copyResp : List (Nat × Nat × Nat × List Byte)
  copyRecords : List (List Byte)
  booting : Bool
  recovery : Bool
  /-- Last 16 responses: CMD, SEQ, STATUS, arguments (R570). -/
  resp : List (Nat × Nat × Nat × List Byte)
  /-- Unread management records, oldest first (R582), and records lost. -/
  records : List (List Byte)
  lost : Nat
  /-- Telemetry period and running SEQ of telemetry records (R581). -/
  telePeriod : Nat
  teleSeq : Nat
  /-- The two copies of the management record with their write counts (R573). -/
  recCounts : Nat × Nat
  recs : Record × Record
  long : List Long
  bootLayout : Nat
  arrayKeep : Bool
  /-- Rows awaiting post-package repair: stack × 2^32 + road block (R400). -/
  ppr : List Nat
  faultLog : List (List Byte)
  /-- Far-tier ranges being zeroed: base and length (R518). -/
  zeroing : List (Nat × Nat)
  straps : Nat
  /-- Standby-sensed die temperatures in °C (R580). -/
  stbyTemps : List Int
  /-- The data plane went down by a trip and restarts only on command (R492). -/
  tripped : Bool
  /-- Standby time in ns of a clock fault whose 100 µs have not been followed by a trip (R505). -/
  clockAt : Option Nat
  /-- Quadrants whose scrub a loss of power cut short (R505). -/
  rescrub : List Nat
  /-- Far-tier ranges assigned: quadrant mask, base, bytes (R394, R518). -/
  farRanges : List (Nat × Nat × Nat)
  /-- Quadrants that belong to no partition (R506, R575). -/
  badQuads : List Nat
  /-- What start-up still has to run: 0 nothing, 1 the data plane (RESET scope 1), 2 all of it (RESET scope 0), 3 from step 3 on
  (after recovery). -/
  bootFrom : Nat
deriving DecidableEq, Repr

/-- Nothing recorded. -/
def Mgmt.reset : Mgmt where
  standbyActive := false
  copy := false
  copyResp := []
  copyRecords := []
  booting := false
  recovery := false
  resp := []
  records := []
  lost := 0
  telePeriod := 0
  teleSeq := 0
  recCounts := (0, 0)
  recs := (Record.factory, Record.factory)
  long := []
  bootLayout := 0
  arrayKeep := false
  ppr := []
  faultLog := []
  zeroing := []
  straps := 0
  stbyTemps := []
  tripped := false
  clockAt := none
  rescrub := []
  farRanges := []
  badQuads := []
  bootFrom := 0

/-- Fuses, flash and the running image set (R519 to R522). -/
structure Security where
  /-- Key slots: algorithm × 4 + slot to state (0 blank, 1 active, 2 revoked) and digest (R521). -/
  slotState : List Nat
  slotDigest : List (List Byte)
  /-- Slot states and counter of the present boot (R522). -/
  bootSlots : List Nat
  bootArb : Nat
  arb : Nat
  /-- Flash banks: the bytes of each bank's image set by offset (R519); none while a bank holds the factory's. -/
  bank0 : Option (List Byte)
  bank1 : Option (List Byte)
  bootBank : Nat
  runBank : Nat
  svn : Nat
  edSlot : Nat
  mldsaSlot : Nat
  meas : List (List Byte)
deriving DecidableEq, Repr

/-- Slot 0 of each algorithm active (R521). -/
def Security.reset : Security where
  slotState := [1, 0, 0, 0, 1, 0, 0, 0]
  slotDigest := [[], [], [], [], [], [], [], []]
  bootSlots := [1, 0, 0, 0, 1, 0, 0, 0]
  bootArb := 0
  arb := 0
  bank0 := none
  bank1 := none
  bootBank := 0
  runBank := 0
  svn := 0
  edSlot := 0
  mldsaSlot := 0
  meas := [[], [], []]

/-- A counter field (R97, R527): the owner's count, the exact count since the tenant's last clear, the value the tenant
reads (renewed at closure), a pending tenant clear, and the events counted in the road-clock cycle of the last one. -/
structure Counter where
  owner : Nat
  tenant : Nat
  view : Nat
  clear : Bool
  cycle : Nat
  recent : Nat
deriving DecidableEq, Repr

/-- A cleared counter. -/
def Counter.zero : Counter where
  owner := 0
  tenant := 0
  view := 0
  clear := false
  cycle := 0
  recent := 0

/-- The state of the block. -/
structure State where
  /-- Commands that wait, first in first out. -/
  pending : List Instr
  /-- What the module has put out, oldest first. -/
  out : List Output
  /-- Counter of the free values taken (the model's own; log entry 13). -/
  free : Nat
  /-- Local time in ns (R494) and standby time in ns (R580). -/
  ltime : Nat
  stbyNs : Nat
  /-- Input within range (R496) and data plane powered (R497). -/
  input : Bool
  powered : Bool
  /-- PWRBRK_N asserted and in effect (R490). -/
  brake : Bool
  layout : Nat
  parts : SMap Part
  queues : SMap SubQ
  /-- Queue last served by hub die × 8 + kind of engine, for the round robin of R430. -/
  turns : SMap Nat
  rings : SMap Ring
  wayposts : SMap Word64
  /-- Register values written, in effect (absent: the reset value), and last written for staged fields, with the local time
  of the write (R14, R17). -/
  regs : SMap Nat
  staged : SMap (Nat × Nat)
  counters : SMap Counter
  /-- HI latches by path × 2^40 + key (R177). -/
  latches : SMap Nat
  /-- User calibration in effect, staged, and CLAMPED, by item (R475, R476); factory values. -/
  calUser : SMap Int
  calStaged : SMap (Int × Nat)
  calClamped : SMap Bool
  calFactory : SMap Int
  /-- HBM and far-tier bytes by device address (R393). -/
  mem : List Host.Cell
  /-- Road blocks marked uncorrectable, by address / 256 (R399). -/
  poison : SMap Bool
  /-- Data bits that footpath RAW writes have set apart from the coded bytes (R403). -/
  raw : List Host.Cell
  /-- Slab bytes by gradient die × 2^27 + offset (R253). -/
  slab : List Host.Cell
  tiles : SMap Tile
  /-- The tile that stands for every tile of an array die that `tiles` does not list. -/
  tileDef : SMap Tile
  /-- Retirement map by array die × 1,024 + reserve: PLACEMENT and STATE (R224). -/
  retire : SMap Nat
  gates : SMap Gate
  /-- Roads by array die (R239). -/
  roads : SMap Road
  /-- Dies by kind × 8 + number. -/
  dies : SMap Die
  grads : SMap GradDie
  hbm : SMap Stack
  /-- Far-memory ports: capacity in GiB, LINK (R421). -/
  farPorts : SMap (Nat × Nat)
  ports : SMap Port
  /-- Routing entries by partition × 4,096 + DEST, held as port + 1; 0 is unreachable (R389). -/
  routes : SMap Nat
  twin : Twin
  wm : Waymark
  mgmt : Mgmt
  sec : Security
  /-- Scrubs of each quadrant since manufacture (R525). -/
  scrubs : SMap Nat
deriving DecidableEq, Repr

/-- The machine right after reset: nothing powered, no partition, every table empty (log entry 1). -/
def State.reset : State where
  pending := []
  out := []
  free := 0
  ltime := 0
  stbyNs := 0
  input := false
  powered := false
  brake := false
  layout := 0
  parts := []
  queues := []
  turns := []
  rings := []
  wayposts := []
  regs := []
  staged := []
  counters := []
  latches := []
  calUser := []
  calStaged := []
  calClamped := []
  calFactory := []
  mem := []
  poison := []
  raw := []
  slab := []
  tiles := []
  tileDef := []
  retire := []
  gates := []
  roads := []
  dies := []
  grads := []
  hbm := []
  farPorts := []
  ports := []
  routes := []
  twin := Twin.reset
  wm := Waymark.reset
  mgmt := Mgmt.reset
  sec := Security.reset
  scrubs := []

/-- Why a command stops the model: it names hardware that the module does not have. All are safe. -/
inductive Fault where
  /-- A tile identifier of an invalid block or die (R13). Raised by the tile commands. Safe. -/
  | noSuchTile (tile : Nat)
  /-- A die that the package does not have (R8). Raised by the events of a die. Safe. -/
  | noSuchDie (die : Nat)
  /-- A quadrant above 3, or a partition named by a quadrant that is not its lowest (R506). Safe. -/
  | noSuchPartition (p : Nat)
  /-- A queue number above 65,535 (R427). Safe. -/
  | noSuchQueue (q : Nat)
  /-- A fabric port above 8 (R360). Safe. -/
  | noSuchPort (p : Nat)
  /-- A stack above 23 (R7). Safe. -/
  | noSuchStack (m : Nat)
  /-- A PCIe function above 3 (R425). Safe. -/
  | noSuchFunction (fn : Nat)
  /-- A far-memory port above 1 (R407). Safe. -/
  | noSuchFarPort (fm : Nat)
  /-- A controller other than primary (0) and standby (1) (R566). Safe. -/
  | noSuchController (c : Nat)
deriving DecidableEq, Repr

/-- Why a command is turned away. -/
inductive Refusal where
  /-- The command has no meaning in this model yet. Raised by the arms of exec alone. Safe. -/
  | notModelled (mnemonic : String)
deriving DecidableEq, Repr

end Sys2Proof.Machine
end

