-- ==== Sys2Proof/Machine/Ops.lean ====
section
/-! DEFINITION. The named operations over the state: tables, registers, counters, events, management records and memory. Taking an exception does not apply: a block has no exception entry. -/

namespace Sys2Proof.Machine

open Sys2Proof

/-- What a command answers. -/
abbrev Result := Host.Outcome State Fault Refusal

/-! ### Tables of the state -/

def State.part (s : State) (p : Nat) : Part := tget Part.absent s.parts p
def State.setPart (s : State) (p : Nat) (x : Part) : State := { s with parts := tput s.parts p x }
def State.modPart (s : State) (p : Nat) (f : Part → Part) : State := s.setPart p (f (s.part p))
def State.queue (s : State) (q : Nat) : SubQ := tget SubQ.reset s.queues q
def State.setQueue (s : State) (q : Nat) (x : SubQ) : State := { s with queues := tput s.queues q x }
def State.ring (s : State) (r : Nat) : Ring := tget Ring.reset s.rings r
def State.setRing (s : State) (r : Nat) (x : Ring) : State := { s with rings := tput s.rings r x }
def State.die (s : State) (kind d : Nat) : Die := tget Die.reset s.dies (kind * 8 + d)
def State.setDie (s : State) (kind d : Nat) (x : Die) : State := { s with dies := tput s.dies (kind * 8 + d) x }
def State.gate (s : State) (d : Nat) : Gate := tget Gate.empty s.gates d
def State.setGate (s : State) (d : Nat) (x : Gate) : State := { s with gates := tput s.gates d x }
def State.road (s : State) (d : Nat) : Road := tget Road.empty s.roads d
def State.setRoad (s : State) (d : Nat) (x : Road) : State := { s with roads := tput s.roads d x }
def State.grad (s : State) (d : Nat) : GradDie := tget GradDie.reset s.grads d
def State.setGrad (s : State) (d : Nat) (x : GradDie) : State := { s with grads := tput s.grads d x }
def State.stack (s : State) (m : Nat) : Stack := tget Stack.reset s.hbm m
def State.setStack (s : State) (m : Nat) (x : Stack) : State := { s with hbm := tput s.hbm m x }
def State.port (s : State) (n : Nat) : Port := tget Port.down s.ports n
def State.setPort (s : State) (n : Nat) (x : Port) : State := { s with ports := tput s.ports n x }
def State.waypost (s : State) (w : Nat) : Word64 := tget 0 s.wayposts w
def State.setWaypost (s : State) (w : Nat) (v : Word64) : State := { s with wayposts := tput s.wayposts w v }
def State.emit (s : State) (o : Output) : State := { s with out := s.out ++ [o] }

/-- The die of a tile identifier (R13). -/
def tileDie (t : Nat) : Nat := t / 65536
/-- The block of a tile identifier (R13). -/
def tileBlock (t : Nat) : Nat := t / 64 % 1024
/-- Reserve tiles lie in blocks 512 to 527 (R13). -/
def isReserve (t : Nat) : Bool := 512 ≤ tileBlock t
/-- A tile identifier that exists (R13). -/
def tileExists (t : Nat) : Bool := t < 2 ^ 19 && tileBlock t < 528

def State.tile (s : State) (t : Nat) : Tile := (tfind s.tiles t).getD (tget Tile.fresh s.tileDef (tileDie t))
def State.setTile (s : State) (t : Nat) (x : Tile) : State := { s with tiles := tput s.tiles t x }
def State.modTile (s : State) (t : Nat) (f : Tile → Tile) : State := s.setTile t (f (s.tile t))
/-- Changes every tile of a die. -/
def State.modTiles (s : State) (d : Nat) (f : Nat → Tile → Tile) : State :=
  { s with
    tiles := s.tiles.map fun e => if tileDie e.1 = d then (e.1, f e.1 e.2) else e
    tileDef := tput s.tileDef d (f (d * 65536) (tget Tile.fresh s.tileDef d)) }
/-- The listed tiles of a die. -/
def State.tilesOf (s : State) (d : Nat) : SMap Tile := s.tiles.filter fun e => tileDie e.1 == d

/-- A fresh free value (log entry 13). -/
def State.freeVal (s : State) : BitVec 64 := Config.freeValue s.free
/-- The state once a free value has been taken. -/
def State.useFree (s : State) : State := { s with free := s.free + 1 }

/-! ### Partitions (R506, R507) -/

/-- The quadrant of a die: two array and two gradient dies each, one hub die. -/
def dieQuad (kind d : Nat) : Nat := if kind = 2 then d else d / 2

/-- The partition, named by its lowest quadrant, that holds a quadrant. -/
def State.owner (s : State) (quad : Nat) : Option Nat :=
  (s.parts.find? fun e => e.2.st != .absent && e.2.quads.contains quad).map (·.1)

/-- The partition of a queue, ring or waypost on hub die `h`. -/
def State.ownerD (s : State) (quad : Nat) : Nat := (s.owner quad).getD quad

/-- The lowest-numbered die of a kind in the partition of lowest quadrant `p` (R463). -/
def lowDie (kind p : Nat) : Nat := if kind = 2 then p else 2 * p

def Part.inService (x : Part) : Bool := x.st == .inService
def Part.holds (x : Part) (quad : Nat) : Bool := x.quads.contains quad
/-- The dies of a kind of a partition, ascending. -/
def Part.dies (x : Part) (kind : Nat) : List Nat :=
  if kind = 2 then x.quads else x.quads.flatMap fun q => [2 * q, 2 * q + 1]

/-- Quadrants of a mask. -/
def quadsOf (mask : Nat) : List Nat := collect 4 fun q => if mask.testBit q then some q else none
/-- Mask of quadrants. -/
def quadMask (qs : List Nat) : Nat := qs.foldl (fun m q => m ||| 2 ^ q) 0

/-! ### Registers (R462 to R478) -/

/-- Base of a die's block in BAR0 (R462). -/
def blockBase (kind d : Nat) : Nat := kind * 0x800000 + d * 0x100000

/-- Key of a register: its BAR0 address and, for a register behind a selector, the selected index. -/
def regKey (kind d off idx : Nat) : Nat := blockBase kind d + off + idx * 2 ^ 26

/-- The value of a register in effect (R14). -/
def State.reg (s : State) (kind d off : Nat) (idx : Nat := 0) : Nat :=
  (tfind s.regs (regKey kind d off idx)).getD (regReset kind off)
/-- Sets the value of a register in effect. -/
def State.setReg (s : State) (kind d off idx v : Nat) : State := { s with regs := tput s.regs (regKey kind d off idx) v }
/-- A field of a register in effect. -/
def State.regf (s : State) (kind d off lo w : Nat) (idx : Nat := 0) : Nat := bits (s.reg kind d off idx) lo w
/-- Replaces a field of a register in effect. -/
def State.setRegf (s : State) (kind d off lo w v : Nat) (idx : Nat := 0) : State :=
  s.setReg kind d off idx (setBits (s.reg kind d off idx) lo w v)
/-- A field of a register of the partition's lowest-numbered die of a kind (R463). -/
def State.pregf (s : State) (p kind off lo w : Nat) : Nat := s.regf kind (lowDie kind p) off lo w
/-- A LO and HI pair of the partition as one number. -/
def State.ppair (s : State) (p kind off : Nat) : Nat :=
  s.reg kind (lowDie kind p) off + s.reg kind (lowDie kind p) (off + 4) * 2 ^ 32

/-- Key of a counter: its register, its lowest bit and the selected index. -/
def counterKey (kind d off lo idx : Nat) : Nat := (blockBase kind d + off) * 32 + lo + idx * 2 ^ 31

def State.counter (s : State) (k : Nat) : Counter := tget Counter.zero s.counters k
/-- What a counter keeps when it is cleared at local time `now`: the events of that road-clock cycle (R97). -/
def Counter.kept (c : Counter) (now : Nat) : Nat := if c.cycle = now then c.recent else 0
/-- `n` events more at local time `now`. -/
def Counter.add (c : Counter) (now n : Nat) : Counter :=
  { c with owner := c.owner + n, tenant := c.tenant + n, cycle := now, recent := c.kept now + n }
/-- Counts `n` in a counter, in the owner's view and in the tenant's (R97, R527). -/
def State.count (s : State) (kind d off lo : Nat) (n : Nat) (idx : Nat := 0) : State :=
  let k := counterKey kind d off lo idx
  let c := s.counter k
  if n = 0 then s else { s with counters := tput s.counters k (c.add s.ltime n) }
/-- Sets a W1C flag or a count that is no event counter. -/
def State.setCount (s : State) (kind d off lo v : Nat) (idx : Nat := 0) : State :=
  let k := counterKey kind d off lo idx
  { s with counters := tput s.counters k { s.counter k with owner := v, tenant := v } }

/-- Key of a calibration item: block, class and INDEX (R474, R475). -/
def calKey (kind d cls index : Nat) : Nat := ((kind * 8 + d) * 16 + cls) * 2 ^ 27 + index
/-- The effective value of a calibration item: factory plus user correction (R476). -/
def State.cal (s : State) (kind d cls index : Nat) : Int :=
  tget 0 s.calFactory (calKey kind d cls index) + tget 0 s.calUser (calKey kind d cls index)

/-- The block that a register or counter key lies in. -/
def keyBlock (k : Nat) : Nat := k % 2 ^ 26 / 0x100000
/-- The block number of a die in BAR0. -/
def dieBlock (kind d : Nat) : Nat := kind * 8 + d
/-- Block numbers of all dies of the quadrants. -/
def quadBlocks (qs : List Nat) : List Nat :=
  qs.flatMap fun q => [2 * q, 2 * q + 1, 8 + 2 * q, 8 + 2 * q + 1, 16 + q]

/-- The kind of die and the offset that a register key names. -/
def keyKind (k : Nat) : Nat := if keyBlock k < 8 then 0 else if keyBlock k < 16 then 1 else 2
def keyOff (k : Nat) : Nat := k % 0x100000
/-- A register's value with its staged fields (R14) taken from another value. -/
def mergeStaged (k v new : Nat) : Nat :=
  ((regAt (keyKind k) (keyOff k)).filter fun f => f.acc == .rws).foldl (fun x f => setBits x f.lo f.width (bits new f.lo f.width)) v

/-- Staged writes of a partition's blocks take effect (R36, R468, R469), calibration with them (R477); those made at local time
`but` wait for the following boundary (R17, R478). -/
def State.applyStaged (s : State) (quads : List Nat) (but : Option Nat) : State :=
  let mine := fun (e : Nat × (Nat × Nat)) => (quadBlocks quads).contains (keyBlock e.1) && but != some e.2.2
  let calMine := fun (e : Nat × (Int × Nat)) => (quadBlocks quads).contains (e.1 / 2 ^ 31) && but != some e.2.2
  { s with
    regs := (s.staged.filter mine).foldl
      (fun m e => tput m e.1 (mergeStaged e.1 ((tfind m e.1).getD (regReset (keyKind e.1) (keyOff e.1))) e.2.1)) s.regs
    staged := s.staged.filter fun e => !mine e
    calUser := (s.calStaged.filter calMine).foldl (fun m e => tset 0 m e.1 e.2.1) s.calUser
    calStaged := s.calStaged.filter fun e => !calMine e }

/-- The state as the settings of the descriptor that queue `q` runs show it: registers and user calibration as they were when
it began (R18). Read staged fields and calibration of a descriptor's work in this view. -/
def State.asBegan (s : State) (q : Nat) : State :=
  match (s.queue q).running with
  | some r => if r.began then { s with regs := r.work.regs, calUser := r.work.cal } else s
  | none => s

/-- Staged writes of the quadrants are discarded (R469). -/
def State.dropStaged (s : State) (quads : List Nat) : State :=
  { s with
    staged := s.staged.filter fun e => !(quadBlocks quads).contains (keyBlock e.1)
    calStaged := s.calStaged.filter fun e => !(quadBlocks quads).contains (e.1 / 2 ^ 31) }

/-! ### Management stream (R581, R582) -/

/-- Writes a record to the stream; one that finds it full is lost. -/
def State.pushRecord (s : State) (r : List Byte) : State :=
  if 1024 ≤ s.mgmt.records.length then { s with mgmt := { s.mgmt with lost := s.mgmt.lost + 1 } }
  else { s with mgmt := { s.mgmt with records := s.mgmt.records ++ [r] } }

/-- The time of a management record, and whether it is standby time (R582). -/
def State.recordTime (s : State) : Nat := if s.powered then s.ltime else s.stbyNs / 1000000

/-- Writes a record that belongs to no partition; the spec gives its SEQ and MILESTONE no value (log entry 14). -/
def State.mgmtRecord (s : State) (code : Nat) (fs : List (Nat × Nat × Nat)) : State :=
  let r := eventRecord code false (!s.powered) (s.freeVal.toNat % 2 ^ 32) s.recordTime (Config.freeValue (s.free + 1)).toNat fs
  { s.pushRecord r with free := s.free + 2 }

/-- The lost records travel in one MGMT_RECORDS_LOST record once there is space (R582). -/
def State.flushLost (s : State) : State :=
  if s.mgmt.lost = 0 || 1024 ≤ s.mgmt.records.length then s
  else
    let t := s.mgmtRecord evRecordsLost [(24, 4, s.mgmt.lost)]
    { t with mgmt := { t.mgmt with lost := 0 } }

/-! ### Events (R432, R447, R450, R458, R603) -/

def eqCfg := 0x330
def eqStat := 0x334

/-- Records that the partition's event queue holds. -/
def State.eqSize (s : State) (p : Nat) : Nat := 2 ^ (min (s.pregf p 2 eqCfg 0 4) 10 + 6)
def State.eqOn (s : State) (p : Nat) : Bool :=
  s.pregf p 2 eqCfg 15 1 == 1 && !(s.part p).eq.stopped && (s.part p).inService
/-- Unread records behind the head last returned. -/
def eqUsed (e : EventQ) (size : Nat) : Nat := (e.tail + size - e.head) % size
def State.eqRoom (s : State) (p : Nat) : Bool := eqUsed (s.part p).eq (s.eqSize p) < s.eqSize p - 1

/-- Writes one record at the tail of an event queue that has room, and interrupts. -/
def State.eqPut (s : State) (p code : Nat) (fs : List (Nat × Nat × Nat)) : State :=
  let x := s.part p
  let n := s.eqSize p
  let r := eventRecord code x.eq.tag false x.eq.seq s.ltime x.milestone.toNat fs
  let wrap := x.eq.tail + 1 == n
  let e := { x.eq with
    tail := if wrap then 0 else x.eq.tail + 1
    tag := if wrap then !x.eq.tag else x.eq.tag
    seq := (x.eq.seq + 1) % 2 ^ 32 }
  ((s.setPart p { x with eq := e }).emit (.hostWrite p (s.ppair p 2 0x328 + 64 * x.eq.tail) r)).emit
    (.msix p (s.pregf p 2 eqCfg 4 11))

/-- When space returns, one EQ_OVERFLOW record carries the number lost (R432). -/
def State.eqFlush (s : State) (p : Nat) : State :=
  let lost := (s.part p).eq.lost
  if lost = 0 || !s.eqOn p || !s.eqRoom p then s
  else (s.eqPut p evEqOverflow [(24, 4, lost)]).modPart p fun x => { x with eq := { x.eq with lost := 0 } }

/-- Writes an event to the partition's event queue, or counts it as lost. -/
def State.eqEvent (s : State) (p code : Nat) (fs : List (Nat × Nat × Nat)) : State :=
  let t := s.eqFlush p
  if t.eqOn p && t.eqRoom p then t.eqPut p code fs
  else
    (t.modPart p fun x => { x with eq := { x.eq with seq := (x.eq.seq + 1) % 2 ^ 32, lost := x.eq.lost + 1 } }).count
      2 p eqStat 16 1

/-- Raises an event of a partition: tenant view to its queue, management view (`ms`) to the stream (R447, R602). -/
def State.raiseM (s : State) (p code : Nat) (fs ms : List (Nat × Nat × Nat)) : State :=
  let x := s.part p
  let r := eventRecord code false false x.eq.seq s.ltime x.milestone.toNat (fs ++ ms)
  (s.eqEvent p code fs).pushRecord r

/-- Raises an event whose two views agree. -/
def State.raise (s : State) (p code : Nat) (fs : List (Nat × Nat × Nat)) : State := s.raiseM p code fs []

/-- Raises an event of every partition that holds one of the quadrants. -/
def State.raiseAll (s : State) (quads : List Nat) (code : Nat) (fs : List (Nat × Nat × Nat)) : State :=
  let ps := s.parts.filter fun e => e.2.st != .absent && e.2.quads.any quads.contains
  ps.foldl (fun t e => t.raise e.1 code fs) s

/-! ### Memory (R393 to R412) -/

/-- Bytes of HBM per quadrant. -/
def quadBytes : Nat := 0x6000000000
/-- End of HBM. -/
def hbmEnd : Nat := 4 * quadBytes
/-- The far tier (R393). -/
def farBase : Nat := 0x20000000000
def farEnd : Nat := 0xA0000000000

/-- The stack of an HBM address (R395). -/
def stackOf (a : Nat) : Nat :=
  let q := a / quadBytes
  6 * q + (a - q * quadBytes) / 256 % 6
/-- The road block of an address within its stack (R395). -/
def stackBlock (a : Nat) : Nat := a % quadBytes / 256 / 6
/-- The address of a road block of a stack. -/
def stackAddr (m rb : Nat) : Nat := m / 6 * quadBytes + (rb * 6 + m % 6) * 256

/-- HBM that a partition owns (R394). -/
def Part.hbmRange (x : Part) : Nat × Nat :=
  match x.quads with
  | [] => (0, 0)
  | q :: _ => (q * quadBytes, (q + x.quads.length) * quadBytes)
def inRange (lo hi a n : Nat) : Bool := lo ≤ a && a + n ≤ hi
/-- A range of device addresses lies in the partition's HBM or in its far-tier range (R394). -/
def Part.owns (x : Part) (a n : Nat) : Bool :=
  inRange x.hbmRange.1 x.hbmRange.2 a n || inRange x.far.1 (x.far.1 + x.far.2) a n

/-- What a byte of memory that nothing has written reads as: 0 (R574 step 8; log entries 8 and 9). -/
def memDefault : Byte := 0
/-- One byte of memory. -/
def memByte (m : List Host.Cell) (a : Nat) : Byte := tget memDefault m a
/-- Writes one byte, keeping the canonical form. -/
def memSet (m : List Host.Cell) (a : Nat) (b : Byte) : List Host.Cell := tset memDefault m a b
/-- `n` bytes from an address. -/
def memRead (m : List Host.Cell) (a n : Nat) : List Byte := (List.range n).map fun i => memByte m (a + i)
/-- Writes bytes from an address. -/
def memWrite : List Host.Cell → Nat → List Byte → List Host.Cell
  | m, _, [] => m
  | m, a, b :: t => memWrite (memSet m a b) (a + 1) t
/-- Clears `n` bytes from an address. -/
def memZero (m : List Host.Cell) (a n : Nat) : List Host.Cell := tclear m a (a + n)
/-- The canonical form: addresses strictly rising, and no entry equal to what an unlisted address reads as. -/
def Memory.wf (m : List Host.Cell) : Bool := tsorted 0 m && m.all fun c => c.2 != memDefault

/-- The road blocks of a range. -/
def roadFirst (a : Nat) : Nat := a / 256
def roadLast (a n : Nat) : Nat := (a + n - 1) / 256

/-- A stack with a road block in the range satisfies a test: of each quadrant the first six road blocks of the range decide
(R395). -/
def rangeStacks (a n : Nat) (f : Nat → Bool) : Bool :=
  n != 0 && (List.range 4).any fun q =>
    let lo := max (a / 256) (q * (quadBytes / 256))
    let hi := min ((a + n - 1) / 256 + 1) ((q + 1) * (quadBytes / 256))
    (List.range (min (hi - lo) 6)).any fun i => f (stackOf ((lo + i) * 256))

/-- A road block of the range lies in an offline stack (R405). -/
def State.offline (s : State) (a n : Nat) : Bool := rangeStacks a n fun m => !(s.stack m).online
/-- The number of bits in which two bytes differ. -/
def bitDiff (x y : Byte) : List Nat := (List.range 8).filter fun i => (x ^^^ y).getLsbD i
/-- The data bits of a road block that differ from what its check symbols were made for (R403). -/
def State.rawDiff (s : State) (rb : Nat) : List Nat :=
  (s.raw.filter fun c => c.1 / 256 == rb).flatMap fun c => (bitDiff c.2 (memByte s.mem c.1)).map fun i => c.1 % 256 * 8 + i
/-- They lie in more than the 16 symbols of 8 bits that the code corrects (R398). The spec does not say which lane and beats carry
a bit, so the symbols touched are open between the fewest that hold the bits and one for each (log entry 31). -/
def State.rawBad (s : State) (rb : Nat) : Bool :=
  let ds := s.rawDiff rb
  16 < max (ceilDiv ds.length 8) ((ds.map fun b => Config.symbolOf b % 256).eraseDups).length
/-- Road blocks that a RAW write has left different from their check symbols. -/
def State.rawBlocks (s : State) : List Nat := (s.raw.map fun c => c.1 / 256).eraseDups
/-- A road block reads as uncorrectable (R398, R399). -/
def State.badBlock (s : State) (rb : Nat) : Bool := (tfind s.poison rb).isSome || s.rawBad rb
/-- The uncorrectable road blocks of a range. -/
def State.badBlocks (s : State) (a n : Nat) : List Nat :=
  if n = 0 then []
  else ((s.poison.map (·.1)) ++ s.rawBlocks.filter s.rawBad).filter fun rb => roadFirst a ≤ rb && rb ≤ roadLast a n
/-- A road block of the range is uncorrectable (R399). -/
def State.poisoned (s : State) (a n : Nat) : Bool := !(s.badBlocks a n).isEmpty

/-- Both far-memory ports carry expanders of equal capacity, and the far tier is interleaved (R408). -/
def State.farEven (s : State) : Bool := (tget (0, 0) s.farPorts 0).1 == (tget (0, 0) s.farPorts 1).1
/-- The far-memory port of a far-tier address (R408). -/
def State.farPortOf (s : State) (a : Nat) : Nat :=
  if s.farEven then (a - farBase) / 4096 % 2 else if a - farBase < (tget (0, 0) s.farPorts 0).1 * 2 ^ 30 then 0 else 1
/-- The range touches a far-memory port whose link is not up (R410). -/
def State.farDown (s : State) (a n : Nat) : Bool :=
  n != 0 && farBase ≤ a + n - 1 && [a, a + n - 1].any fun b =>
    farBase ≤ b && ((tget (0, 0) s.farPorts (s.farPortOf b)).2 != 2
      || (s.farEven && 4096 < n && (tget (0, 0) s.farPorts (1 - s.farPortOf b)).2 != 2))

/-- The status that an access to device memory completes its descriptor with (R399, R405, R410, R422), if it fails. -/
def State.memStatus (s : State) (write : Bool) (a n : Nat) : Option Nat :=
  if s.offline a n then some stMemOffline
  else if !write && s.poisoned a n then some (if a < hbmEnd then stHbmEcc else stFarError)
  else if s.farDown a n then some stFarError
  else none

/-- Counts an uncorrectable read: of an HBM stack (R399), or a poisoned one of the far tier (R410, R421). -/
def State.countUncorr (s : State) (a : Nat) : State :=
  if a < hbmEnd then s.count 1 (stackOf a / 3) 0x248 24 1 (stackOf a % 3) else s.count 2 (1 + s.farPortOf a) 0x280 16 1
/-- Counts a corrected read (R399). -/
def State.countCorr (s : State) (a : Nat) : State := s.count 1 (stackOf a / 3) 0x248 0 1 (stackOf a % 3)
/-- A road block is marked uncorrectable. -/
def State.poisonBlock (s : State) (a : Nat) : State := { s with poison := tput s.poison (a / 256) true }

/-- The road blocks that a write of `n` bytes covers in part (R397). -/
def partBlocks (a n : Nat) : List Nat :=
  if n = 0 then []
  else ((if a % 256 = 0 then [] else [a / 256]) ++ if (a + n) % 256 = 0 then [] else [roadLast a n]).eraseDups
/-- The read of a read-modify-write: corrected, or uncorrectable and then written poisoned (R397, R399). -/
def State.modifyBlock (s : State) (rb : Nat) : State :=
  if s.badBlock rb then (s.poisonBlock (rb * 256)).countUncorr (rb * 256)
  else if s.rawBlocks.contains rb then s.countCorr (rb * 256) else s
/-- The same of every road block that a write covers in part. -/
def State.modifyBlocks (s : State) (a n : Nat) : State :=
  if s.poison.isEmpty && s.raw.isEmpty then s else (partBlocks a n).foldl State.modifyBlock s

/-- Writes device memory; whole road blocks lose their poison (R399), and writes to an offline stack are discarded (R405). -/
def State.writeMem (s : State) (a : Nat) (bs : List Byte) : State :=
  if s.offline a bs.length then s
  else
    let s := s.modifyBlocks a bs.length
    { s with
      mem := memWrite s.mem a bs
      raw := s.raw.filter fun c => bs.isEmpty || c.1 / 256 < roadFirst a || roadLast a bs.length < c.1 / 256
      poison := s.poison.filter fun e => !(a ≤ e.1 * 256 && e.1 * 256 + 256 ≤ a + bs.length) }
/-- Zeroes a range of device memory. -/
def State.zeroMem (s : State) (a n : Nat) : State :=
  { s with
    mem := memZero s.mem a n
    raw := s.raw.filter fun c => c.1 < a || a + n ≤ c.1
    poison := s.poison.filter fun e => !(a ≤ e.1 * 256 && e.1 * 256 + 256 ≤ a + n) }
/-- The contents of a range become undefined: free values (log entry 13). -/
def State.openMem (s : State) (a n : Nat) : State :=
  { s.writeMem a ((List.range n).map fun i => (Config.freeValue (s.free + i)).setWidth 8) with free := s.free + n }
/-! ### Guards on the hardware that exists -/

def onTile (t : Nat) (k : Result) : Result := if tileExists t then k else .fault (.noSuchTile t)
def onDie (n d : Nat) (k : Result) : Result := if d < n then k else .fault (.noSuchDie d)
def onQueue (q : Nat) (k : Result) : Result := if q < 65536 then k else .fault (.noSuchQueue q)
def onQuad (p : Nat) (k : Result) : Result := if p < 4 then k else .fault (.noSuchPartition p)
def onPort (p : Nat) (k : Result) : Result := if p < 9 then k else .fault (.noSuchPort p)
def onStack (m : Nat) (k : Result) : Result := if m < 24 then k else .fault (.noSuchStack m)
def onFunction (fn : Nat) (k : Result) : Result := if fn < 4 then k else .fault (.noSuchFunction fn)
def onFarPort (f : Nat) (k : Result) : Result := if f < 2 then k else .fault (.noSuchFarPort f)
def onController (c : Nat) (k : Result) : Result := if c < 2 then k else .fault (.noSuchController c)
def onVia (v : Via) (k : Result) : Result :=
  match v with
  | .tenant fn => onFunction fn k
  | .owner => k

end Sys2Proof.Machine
end

