-- ==== Sys2Proof/Machine/Fabric.lean ====
section
/-! DEFINITION. The fabric ports: link flits, replay, virtual channels and credits, link states, packets and routing (R360 to R368), with the twin's changes of state that the link of port T causes (R535, R540, R541). -/

namespace Sys2Proof.Machine

open Sys2Proof

/-! ### Ports (R360, R382) -/

/-- Port T. -/
def portT : Nat := 8
/-- The hub die of a port, and its NF_PORTSEL code. -/
def portHub (n : Nat) : Nat := if n = 8 then 3 else n / 2
def portSel (n : Nat) : Nat := if n = 8 then 2 else n % 2
/-- The port that a hub die's NF_PORTSEL code selects. -/
def portOf (h sel : Nat) : Option Nat := if sel < 2 then some (2 * h + sel) else if sel = 2 && h = 3 then some 8 else none
/-- The partition that a port belongs to. -/
def State.portOwner (s : State) (n : Nat) : Option Nat := s.owner (portHub n)
/-- NF_PORTCFG.EN and X4_ALLOW (R383). -/
def State.portEn (s : State) (n : Nat) : Bool := s.regf 2 (portHub n) 0x204 0 1 (portSel n) == 1
def State.portX4 (s : State) (n : Nat) : Bool := s.regf 2 (portHub n) 0x204 1 1 (portSel n) == 1
/-- Counts in a register of a port. -/
def State.countPort (s : State) (n off lo : Nat) : State := s.count 2 (portHub n) off lo 1 (portSel n)
/-- The module's endpoint and rack domain (R387). -/
def State.endpoint (s : State) : Nat := s.regf 2 0 0x220 0 12
def State.domain (s : State) : Nat := s.regf 2 0 0x220 16 16
/-- Raises an event of a port in the partition that owns it (R365). -/
def State.portEvent (s : State) (n code : Nat) : State :=
  match s.portOwner n with
  | some p => s.raise p code [(24, 1, n)]
  | none => s

/-! ### Flits (R362) -/

/-- Receiver buffers of a virtual channel in flits (R364). -/
def vcBuffers (vc : Nat) : Nat := match vc with | 0 => 1024 | 1 => 64 | 2 => 256 | _ => 16

/-- A link flit. -/
def mkFlit (ty vc : Nat) (sop eop : Bool) (seq ack : Nat) (credit : List Nat) (payload : List Byte) : List Byte :=
  let c := fun (i : Nat) => credit.getD i 0 % 256 * 2 ^ (32 + 8 * i)
  let w := ty % 16 + vc % 4 * 16 + b2n sop * 64 + b2n eop * 128 + seq % 4096 * 2 ^ 8 + ack % 4096 * 2 ^ 20 + c 0 + c 1 + c 2 + c 3
  let body := natLe 8 w ++ slice payload 0 240
  body ++ natLe 8 (crc64 body).toNat

/-- The CRC of a flit holds. -/
def flitOk (f : List Byte) : Bool := f.length == 256 && field f 248 8 == (crc64 (f.take 248)).toNat

/-- SEQ of the last data flit received in order and intact. -/
def Port.ack (x : Port) : Nat := (x.rxSeq + 4095) % 4096
/-- A flit that carries no packet data. -/
def Port.plainFlit (x : Port) (ty : Nat) : List Byte := mkFlit ty 0 false false 0 x.ack x.freed []
/-- A data flit again, with the present ACK and CREDIT. -/
def Port.restamp (x : Port) (f : List Byte) : List Byte :=
  let w := field f 0 8
  mkFlit 1 (bits w 4 2) (bit w 6) (bit w 7) (bits w 8 12) x.ack x.freed (slice f 8 240)
/-- The port carries traffic: UP or DEGRADED (R365). -/
def Port.live (x : Port) : Bool := x.st == 2 || x.st == 3

/-! ### The twin on port T (R535, R540, R541) -/

/-- The partition that holds Q3 and with it the twin. -/
def State.twinPart (s : State) : Option Nat := s.owner 3
/-- A field of TW_CFG. -/
def State.twCfg (s : State) (lo w : Nat) : Nat := s.regf 2 3 0x360 lo w
/-- Owner code of the mirror's reader. -/
def mirrorOwner : Nat := 65536

/-- Mirrors no longer hold pass 2 back: the one of a milestone, or all (R38, R550). -/
def Part.dropMirror (x : Part) (ms : Option Nat) : Part :=
  { x with readers := x.readers.filter fun r => r.owner != mirrorOwner || (match ms with | some m => r.milestone != m | none => false) }

/-- A port that carries traffic announces its partition: an idle flit of TYPE 4, or 0 (R362, R512). -/
def State.announce (s : State) (n ty : Nat) : State :=
  if (s.port n).live then s.emit (.flit n ((s.port n).plainFlit ty)) else s

/-- The port may send more than idle flits of TYPE 4 and link management: its partition is IN_SERVICE (R392, R512), or it is port T
while the heartbeats of a detach still go out (R541). -/
def State.speaks (s : State) (n : Nat) : Bool :=
  match s.portOwner n with
  | some p => (s.part p).inService || (n == portT && s.twin.detaching)
  | none => false

/-- Mirrors end and returns are forgotten (R541, R550). -/
def State.endMirrors (s : State) : State :=
  let t := { s with twin := { s.twin with mirroring := false, mirrorsDue := [], returnDue := false, pullDue := false, returnSent := false } }
  match s.twinPart with
  | some p => t.modPart p fun x => x.dropMirror none
  | none => t

/-- The peer of a PAIRED or RETURNING side is lost or detached: TWIN_LOST and HOLDING (R535, R540, R541). -/
def State.twinLost (s : State) (reason : Nat) : State :=
  if s.twin.st != .paired && s.twin.st != .returning then s
  else
    let t := s.endMirrors
    let t := { t with twin := { t.twin with st := .holding } }
    match s.twinPart with
    | some p => t.raise p evTwinLost [(24, 1, reason), (32, 8, s.twin.heldMs.toNat)]
    | none => t

/-! ### Sending (R363, R364) -/

/-- A virtual channel has a flit to send and a free buffer at the receiver. -/
def Port.canSend (x : Port) (vc : Nat) : Bool :=
  (x.txq.any fun e => e.vc == vc) && x.sentVc.getD vc 0 < x.peerFreed.getD vc 0 + vcBuffers vc
/-- The channel whose flit goes next: 3, 1, 0, 2 by priority, and VC2 at least once in 16 flits (R364). -/
def Port.nextVc (x : Port) : Option Nat :=
  if 15 ≤ x.since2 && x.canSend 2 then some 2 else [3, 1, 0, 2].find? x.canSend

/-- A flit waits on a virtual channel from an input. -/
def Port.waitsFrom (x : Port) (vc i : Nat) : Bool := x.txq.any fun e => e.vc == vc && e.input == i
/-- The input whose flit a virtual channel sends next: a packet that has begun goes on, and then the inputs take turns, packet by
packet (R364). -/
def Port.nextInput (x : Port) (vc : Nat) : Nat :=
  let last := x.turn.getD vc 9
  let begun := match x.txq.find? fun e => e.vc == vc && e.input == last with
    | some e => !e.sop
    | none => false
  if begun then last
  else (((List.range 10).map fun k => (last + 1 + k) % 10).find? (x.waitsFrom vc)).getD last

/-- Sends one data flit. -/
def State.sendFlit (s : State) (n vc : Nat) : State :=
  let x := s.port n
  let i := x.nextInput vc
  match x.txq.find? fun e => e.vc == vc && e.input == i with
  | none => s
  | some e =>
    let f := mkFlit 1 e.vc e.sop e.eop x.txSeq x.ack x.freed e.payload
    (s.setPort n { x with
      txSeq := (x.txSeq + 1) % 4096
      replay := x.replay ++ [(x.txSeq, e.stage, f)]
      sentVc := x.sentVc.set vc (x.sentVc.getD vc 0 + 1)
      since2 := if vc = 2 then 0 else x.since2 + 1
      turn := x.turn.set vc i
      txq := x.txq.eraseP fun e => e.vc == vc && e.input == i }).emit (.flit n f)

/-- Sends data flits while channel, credits and the replay buffer of 1,024 flits allow. -/
def State.pumpLoop (s : State) (n : Nat) : Nat → State
  | 0 => s
  | k + 1 =>
    if !(s.port n).live || !s.speaks n || 1024 ≤ (s.port n).replay.length then s
    else
      match (s.port n).nextVc with
      | none => s
      | some vc => (s.sendFlit n vc).pumpLoop n k
def State.pumpPort (s : State) (n : Nat) : State := s.pumpLoop n (s.port n).txq.length

/-- The partition's own input of a port. -/
def ownInput : Nat := 9
/-- The flits of a packet from an input: SOP on the first, EOP on the last. -/
def packetFlits (vc i : Nat) (stage : FlitStage) (bs : List Byte) : List TxFlit :=
  let n := ceilDiv bs.length 240
  (List.range n).map fun k => ⟨vc, i, k == 0, k + 1 == n, stage, slice bs (240 * k) 240⟩

/-- A packet from input `i` waits at a port, and what may be sent is sent. -/
def State.sendOn (s : State) (n vc i : Nat) (stage : FlitStage) (bs : List Byte) : State :=
  let x := s.port n
  (s.setPort n { x with txq := x.txq ++ packetFlits vc i stage bs }).pumpPort n

/-! ### Link states (R365) -/

/-- The port enters DOWN: replay buffer and received buffers are discarded, and LINK_DOWN is raised. An enabled port with a
signal trains again. At port T the twin's peer is lost (R540). -/
def State.portDown (s : State) (n : Nat) (signal : Bool) : State :=
  let x := s.port n
  let t := (s.setPort n { Port.down with
    signal := signal
    neighbour := x.neighbour
    nport := x.nport
    foreign := x.foreign }).portEvent n evLinkDown
  let t := if n = portT then t.twinLost 1 else t
  if signal && s.portEn n then t.setPort n { t.port n with st := 1 } else t

/-- The port enters RETRAIN with its replay buffer kept (R363). -/
def State.portRetrain (s : State) (n : Nat) : State :=
  let x := s.port n
  (s.setPort n { x with st := 4, tries := 0, asked := false }).countPort n 0x208 24

/-- Resends from ACK + 1 (R363). -/
def State.resend (s : State) (n : Nat) : State :=
  let x := s.port n
  if s.speaks n then x.replay.foldl (fun t e => t.emit (.flit n (x.restamp e.2.2))) s else s

/-- A replay; after 8 in a row without ACK progress the port enters RETRAIN (R363). -/
def State.replayPort (s : State) (n : Nat) : State :=
  let x := s.port n
  if !x.live || x.replay.isEmpty then s
  else if 8 ≤ x.tries then s.portRetrain n
  else ((s.setPort n { x with tries := x.tries + 1 }).countPort n 0x20C 16).resend n

/-- The flits of the replay buffer that an ACK does not cover. -/
def ackReplay (ack : Nat) (r : List (Nat × FlitStage × List Byte)) : List (Nat × FlitStage × List Byte) :=
  if r.any fun e => e.1 == ack then (r.dropWhile fun e => e.1 != ack).drop 1 else r
/-- An ACK has been received. -/
def Port.acked (x : Port) (ack : Nat) : Port :=
  let r := ackReplay ack x.replay
  { x with replay := r, tries := if r.length < x.replay.length then 0 else x.tries }
/-- Running counts of freed buffers have been received: four bytes of the CREDIT field. -/
def Port.credited (x : Port) (credit : Nat) : Port :=
  { x with peerFreed := (List.range 4).map fun i =>
      let old := x.peerFreed.getD i 0
      old + (credit / 256 ^ i % 256 + 256 - old % 256) % 256 }

/-! ### Receiving (R362, R363) -/

/-- One replay request for the present gap (R363). -/
def State.askReplay (s : State) (n : Nat) : State :=
  let x := s.port n
  if x.asked || !s.speaks n then s else (s.setPort n { x with asked := true }).emit (.flit n (x.plainFlit 2))

/-- The payloads of the packet that a virtual channel is receiving. -/
def Port.part (x : Port) (vc : Nat) : List (List Byte) := (x.asm.find? fun e => e.1 == vc).elim [] (·.2)

/-- A data flit in order joins its packet, which is whole at EOP. -/
def Port.accept (x : Port) (vc : Nat) (sop eop : Bool) (pay : List Byte) : Port :=
  let ps := (if sop then [] else x.part vc) ++ [pay]
  let rest := x.asm.filter fun e => e.1 != vc
  let y := { x with rxSeq := (x.rxSeq + 1) % 4096, asked := false }
  if eop then { y with asm := rest, rxq := y.rxq ++ [(vc, ps.flatten)] } else { y with asm := rest ++ [(vc, ps)] }

/-- A flit with an intact CRC; TYPE 4 on port T is a detach by the peer (R541). -/
def State.goodFlit (s : State) (n : Nat) (f : List Byte) : State :=
  let w := field f 0 8
  let ty := bits w 0 4
  if 5 ≤ ty then s
  else
    let y := ((s.port n).acked (bits w 20 12)).credited (bits w 32 32)
    let t := s.setPort n (if ty = 0 || ty = 4 then { y with unavail := ty == 4 } else y)
    let t := if ty = 4 && n = portT then t.twinLost 2 else t
    if ty = 1 then
      if bits w 8 12 = y.rxSeq then t.setPort n (y.accept (bits w 4 2) (bit w 6) (bit w 7) (slice f 8 240))
      else t.askReplay n
    else if ty = 2 then t.replayPort n
    else t

/-- LINK_FLIT_RECEIVE (R362, R363). `uncorr` is given for a flit with a symbol in an uncorrectable codeword (R361): the number of
such codewords that no flit before it had a symbol of, so that each codeword counts once (R385). -/
def execLinkFlitReceive (n : Nat) (f : List Byte) (uncorr : Option Nat) (s : State) : Result :=
  onPort n (
    if !s.powered || !(s.port n).live then .next s
    else
      match uncorr with
      | some k => .next ((s.count 2 (portHub n) 0x20C 0 k (portSel n)).askReplay n)
      | none => if flitOk f then .next ((s.goodFlit n f).pumpPort n) else .next (s.askReplay n))

/-- REPLAY_REQUEST (R363): the sender resends from ACK + 1. -/
def execReplayRequest (n ack : Nat) (s : State) : Result :=
  onPort n (
    if !(s.port n).live then .next s
    else .next (((s.setPort n ((s.port n).acked ack)).replayPort n).pumpPort n))

/-- REPLAY_TIMEOUT (R363): 10 µs without ACK progress while data is unacknowledged. -/
def execReplayTimeout (n : Nat) (s : State) : Result := onPort n (.next (s.replayPort n))

/-- SIGNAL_PRESENT (R365): an enabled port in DOWN trains. -/
def execSignalPresent (n : Nat) (s : State) : Result :=
  onPort n (
    if !s.powered then .next s
    else
      let x := s.port n
      .next (s.setPort n { x with signal := true, st := if x.st = 0 && s.portEn n then 1 else x.st }))

/-- What training found (R365, R367, R384). -/
def State.trained (s : State) (n st : Nat) (r : TrainResult) : State :=
  let x := s.port n
  (s.setPort n { x with
    st := st
    neighbour := r.neighbour % 4096
    nport := r.nport % 16
    unavail := r.unavail
    foreign := r.domain != s.domain })

/-- TRAIN_TIMEOUT (R365): 100 ms in TRAIN, or 10 ms in RETRAIN, without success. -/
def execTrainTimeout (n : Nat) (s : State) : Result :=
  onPort n (
    let x := s.port n
    if x.st = 1 || x.st = 4 then .next (s.portDown n x.signal) else .next s)

/-- LINK_SIGNAL_LOSS (R365, R540). -/
def execLinkSignalLoss (n : Nat) (s : State) : Result :=
  onPort n (
    let x := s.port n
    if x.st = 0 then .next (s.setPort n { x with signal := false }) else .next (s.portDown n false))

/-! ### Packets (R366 to R368) -/

/-- The header and payload of a packet. -/
def Packet.bytes (k : Packet) : List Byte :=
  block 32 [(0, 2, k.domain), (2, 2, k.dst % 4096 + k.dstPart % 4 * 4096), (4, 2, k.src % 4096 + k.srcPart % 4 * 4096),
    (6, 1, k.kind % 16), (7, 1, k.hops), (8, 1, k.group), (9, 1, k.mtag), (12, 4, k.tag), (16, 8, k.offset),
    (24, 4, k.payload.length)] ++ k.payload

/-- The packet that received bytes spell; none for one with reserved bits or a reserved KIND, or whose LENGTH does not fit
(R366). -/
def parsePacket (vc : Nat) (bs : List Byte) : Option Packet :=
  let len := field bs 24 4
  if !zeroBytes bs 10 2 || !zeroBytes bs 28 4 || bits (field bs 2 2) 14 2 != 0 || bits (field bs 4 2) 14 2 != 0 ||
      6 ≤ field bs 6 1 % 16 || 4096 < len || bs.length < 32 + len then none
  else some {
    domain := field bs 0 2
    dst := bits (field bs 2 2) 0 12
    dstPart := bits (field bs 2 2) 12 2
    src := bits (field bs 4 2) 0 12
    srcPart := bits (field bs 4 2) 12 2
    kind := field bs 6 1 % 16
    hops := field bs 7 1
    group := field bs 8 1
    mtag := field bs 9 1
    tag := field bs 12 4
    offset := field bs 16 8
    vc := vc
    payload := slice bs 32 len }

/-- What the routing rule says of a packet (R368). -/
inductive Hop where
  | deliver
  | drop
  | unavailable
  | out (port : Nat)
deriving DecidableEq, Repr

/-- The routing of a packet handled by partition `p`: `hops` is HOPS before the decrement (R368). -/
def State.hopOf (s : State) (p dst dstPart hops : Nat) : Hop :=
  if dst = s.endpoint then (if dstPart = p then .deliver else .drop)
  else if hops ≤ 1 then .drop
  else
    match tget 0 s.routes (p * 4096 + dst) with
    | 0 => .drop
    | k + 1 =>
      if 8 ≤ k || !(s.part p).holds (k / 2) || (s.port k).st = 0 then .drop
      else if (s.port k).unavail then .unavailable
      else .out k

/-- A drop counts at a port: DOMAIN in bits [15:0], ROUTE in [31:16] (R386). -/
def State.dropDomain (s : State) (n : Nat) : State := s.countPort n 0x210 0
def State.dropRoute (s : State) (n : Nat) : State := s.countPort n 0x210 16

/-- A packet reaches partition `p`: collective data waits for the engine; what other packets bring is a command of its own. -/
def State.deliverPacket (s : State) (p : Nat) (k : Packet) : State :=
  if k.kind = 0 then s.modPart p fun x => { x with delivered := x.delivered ++ [k] } else s

/-- Sends a packet of partition `p` (R368); `true` where its route passes a port that announces partition unavailable. -/
def State.sendPacket (s : State) (p : Nat) (stage : FlitStage) (k : Packet) : State × Bool :=
  if s.domain = 0 then (s.dropDomain (2 * p), false)
  else
    match s.hopOf p k.dst k.dstPart k.hops with
    | .out n => (s.sendOn n k.vc ownInput stage { k with hops := k.hops - 1 }.bytes, false)
    | .deliver => (s.deliverPacket p k, false)
    | .unavailable => (s.dropRoute (2 * p), true)
    | .drop => (s.dropRoute (2 * p), false)

/-- The control packet on VC1 that carries a message of a collective from partition `p` to a member; its key stands in the header
(R364, R366). -/
def State.controlPacket (s : State) (p ep part kind group : Nat) (ms : Word64) (tag : Word) (payload : List Byte) : Packet :=
  { domain := s.domain
    dst := ep
    dstPart := part
    src := s.endpoint
    srcPart := p
    kind := kind
    hops := 32
    group := group
    mtag := ms.toNat % 256
    tag := tag.toNat
    offset := 0
    vc := 1
    payload := payload }

/-- The code of an operation in a READY: its opcode. -/
def opCode : CollOp → Nat
  | .reduceScatter => 0x20
  | .allGather => 0x21
  | .allReduce => 0x22
  | .broadcast => 0x23
  | .orderGather => 0x24

/-- The payload of a READY (R373); the byte places are the model's (log entry 122). -/
def readyBytes (r : Ready) : List Byte :=
  block 40 [(0, 8, r.milestone.toNat), (8, 1, opCode r.op), (9, 1, r.phase), (10, 1, r.inFmt), (11, 1, r.outFmt), (12, 2, r.root),
    (16, 8, r.elems), (24, 8, leNat r.digest), (32, 8, r.orders)]
/-- The payload of an ABORT (R379); the byte places are the model's (log entry 122). -/
def abortBytes (m : AbortMsg) : List Byte := block 16 [(0, 8, m.milestone.toNat), (8, 2, m.status), (10, 2, m.rank)]

/-- READY and ABORT of partition `p` to a member (R373, R379). -/
def State.readyPacket (s : State) (p ep part : Nat) (r : Ready) : Packet :=
  s.controlPacket p ep part 1 r.group r.milestone r.tag (readyBytes r)
def State.abortPacket (s : State) (p ep part : Nat) (m : AbortMsg) : Packet :=
  s.controlPacket p ep part 2 m.group m.milestone m.tag (abortBytes m)

/-- The ABORT returned to the source of a packet whose route passes an unavailable port; the spec gives its rank and the
milestone bits that the header lacks no value (R368; log entry 27). -/
def State.returnAbort (s : State) (p : Nat) (k : Packet) : State :=
  if k.kind ≤ 1 then
    let ms := Config.freeValue (s.free + 1)
    let m : AbortMsg := ⟨k.group, ms - BitVec.ofNat 64 (ms.toNat % 256) + BitVec.ofNat 64 k.mtag, BitVec.ofNat 32 k.tag,
      stPeerUnavailable, s.freeVal.toNat % 4096⟩
    (s.useFree.useFree.sendPacket p none (s.abortPacket p k.src k.srcPart m)).1
  else s

/-- A received packet at a port of partition `p` (R366 to R368). -/
def State.routePacket (s : State) (n p vc : Nat) (bs : List Byte) : State :=
  if s.domain = 0 || field bs 0 2 != s.domain then s.dropDomain n
  else
    match parsePacket vc bs with
    | none => s.dropRoute n
    | some k =>
      if n = portT then (if k.kind ≤ 2 then s.dropRoute n else s)
      else
        match s.hopOf p k.dst k.dstPart k.hops with
        | .deliver => s.deliverPacket p k
        | .drop => s.dropRoute n
        | .unavailable => (s.dropRoute n).returnAbort p k
        | .out m => s.sendOn m vc n none { k with hops := k.hops - 1 }.bytes

/-- PACKET_RECEIVE (R366 to R368): the oldest whole packet of a port is checked and delivered, forwarded or dropped; its
buffers are free again (R364). -/
def execPacketReceive (n : Nat) (s : State) : Result :=
  onPort n (
    let x := s.port n
    match x.rxq with
    | [] => .next s
    | (vc, bs) :: rest =>
      let t := s.setPort n { x with rxq := rest, freed := x.freed.set vc (x.freed.getD vc 0 + ceilDiv bs.length 240) }
      match s.portOwner n with
      | none => .next (t.dropRoute n)
      | some p => if (s.part p).inService then .next (t.routePacket n p vc bs) else .next (t.dropRoute n))

/-! ### Messages of the twin (R364, R535, R536) -/

/-- A packet of port T to the peer that TW_CFG.PEER names; GROUP and MTAG are 0 (log entry 122). -/
def State.twinPacket (s : State) (kind vc tag : Nat) (o : Nat × List Byte) : Packet :=
  { domain := s.domain
    dst := s.twCfg 16 12
    dstPart := s.twinPart.getD 0
    src := s.endpoint
    srcPart := s.twinPart.getD 0
    kind := kind
    hops := 32
    group := 0
    mtag := 0
    tag := tag
    offset := o.1
    vc := vc
    payload := o.2 }

/-- A message leaves by port T in packets of at most 4,096 bytes; a port in DOWN sends none, and in domain 0 it is dropped
(R366, R367). -/
def State.twinSend (s : State) (kind vc tag : Nat) (msg : List Byte) : State :=
  if (s.port portT).st = 0 then s
  else if s.domain = 0 then s.dropDomain portT
  else (chunk 4096 msg).zipIdx.foldl (fun t e => t.sendOn portT vc ownInput none (s.twinPacket kind vc tag (4096 * e.2, e.1)).bytes) s

/-- A pairing message on VC3: 1 HELLO, 2 CHAIN, 3 IDENT, 4 CONFIRM, 5 failure, 6 return request, 7 return confirmed (R535, R536,
R544; log entry 122). -/
def State.pairingSend (s : State) (msg : Nat) (bytes : List Byte) : State := s.twinSend 4 3 0 (BitVec.ofNat 8 msg :: bytes)
/-- A heartbeat on VC3 (R538; log entry 122). -/
def State.heartbeatSend (s : State) (h : Heartbeat) : State :=
  s.twinSend 3 3 0 (block 24 [(0, 1, h.state), (1, 1, b2n h.detaching), (4, 4, h.seq), (8, 8, h.milestone.toNat), (16, 8, h.held.toNat)])
/-- An image on VC2, for the peer's slot or its return slot (R542, R544). -/
def State.imageSend (s : State) (toReturn : Bool) (img : List Byte) : State := s.twinSend 5 2 (b2n toReturn) img

/-- A message that the twin receives is a packet: in domain 0 it is dropped and counted (R367). -/
def State.twinMessage (s : State) (r : Result) : Result := if s.domain = 0 then .next (s.dropDomain portT) else r

/-- 32 fresh bytes: free values (R536; log entry 13). -/
def State.nonce (s : State) : List Byte := (List.range 4).flatMap fun i => natLe 8 (Config.freeValue (s.free + i)).toNat

/-- Pairing starts from UNPAIRED or HOLDING once TW_CFG.EN is 1, port T carries traffic and the partition is IN_SERVICE
(R535, R536 step 1; log entry 32). -/
def State.seekTwin (s : State) : State :=
  match s.twinPart with
  | none => s
  | some p =>
    let w := s.twin
    if (w.st != .unpaired && w.st != .holding) || s.twCfg 0 1 = 0 || !(s.port portT).live || !(s.part p).inService then s
    else
      let n := s.nonce
      let t := { s with
        free := s.free + 4
        twin := { w with st := .pairing, from_ := w.st, progress := 0, nonceOwn := n, noncePeer := [], peerChains := ([], []),
                         detaching := false } }
      t.pairingSend 1 (natLe 2 s.endpoint ++ natLe 2 s.domain ++ slice Config.serial 0 16 ++ n)

/-- TRAIN_COMPLETE (R365): UP at x8, DEGRADED at x4 where X4_ALLOW is 1; the replay buffer is sent again from ACK + 1. -/
def execTrainComplete (n : Nat) (r : TrainResult) (s : State) : Result :=
  onPort n (
    let x := s.port n
    let up := fun (t : State) => let u := (t.resend n).pumpPort n; if n = portT then u.seekTwin else u
    if x.st != 1 && x.st != 4 then .next s
    else if 8 ≤ r.lanes then .next (up (s.trained n 2 r))
    else if r.lanes = 4 && s.portX4 n then .next (up ((s.trained n 3 r).portEvent n evLinkDegraded))
    else .next s)

end Sys2Proof.Machine
end

