-- ==== Sys2Proof/Machine/Elementary.lean ====
section
/-! DEFINITION. The functions the spec gives only to within units in the last place (R303, R310, R331, R350): a fixed-point
evaluation with 320 fraction bits says which binary32 codes the bound admits; the free value of Config picks among them (log entry 11). -/

namespace Sys2Proof.Machine

open Sys2Proof

/-- Code `c` where its value lies within `k` units in the last place of `x` (with 2^−20 of a unit for the evaluation), else `x`
rounded. An infinite code counts as the first power of two past the format. -/
def near (f : Fmt) (k : Nat) (x : Fl) (c : Nat) : Nat :=
  match x with
  | .fin n m e =>
    let v := match decode f c with
      | .inf b => Fl.fin b 1 (2 ^ (f.w - 1))
      | v => v
    if v.finite && (v.add (.fin (!n) m e)).abs.le (.fin false (k * 2 ^ 20 + 1) (ulpOf f m e - 20)) then c else encode f x
  | _ => encode f x
/-- `near` in binary32. -/
def near32 (k : Nat) (x : Fl) (c : Word) : Word := BitVec.ofNat 32 (near fmt32 k x c.toNat)

/-- 1.0 in fixed point. -/
def fixOne : Int := 2 ^ 320
/-- A value in fixed point, held within ±128. -/
def fixOf : Fl → Int
  | .nan => 0
  | .inf n => if n then -128 * fixOne else 128 * fixOne
  | .fin n m e =>
    let k := e + 320
    clampI (-128 * fixOne) (128 * fixOne) (sgn n (if 0 ≤ k then m * 2 ^ (min k.toNat 1000) else m / 2 ^ (-k).toNat))
/-- A fixed-point number as a value. -/
def flFix (i : Int) : Fl := ofIntE i (-320)
/-- The fixed-point product. -/
def fixMul (a b : Int) : Int := a * b / fixOne
/-- The fixed-point quotient. -/
def fixDiv (a b : Int) : Int := a * fixOne / b

/-- e^x: the Taylor series of x/1024, squared ten times. -/
def fixExp (x : Int) : Int :=
  let r := x / 1024
  let t := (List.range 48).foldl (fun (a : Int × Int) (i : Nat) =>
    let t := fixMul a.2 r / ((i : Int) + 1)
    (a.1 + t, t)) (fixOne, fixOne)
  (List.range 10).foldl (fun y _ => fixMul y y) t.1
/-- artanh z for |z| ≤ 1/3, by its series. -/
def fixArtanh (z : Int) : Int :=
  let q := fixMul z z
  ((List.range 104).foldl (fun (a : Int × Int) (i : Nat) => (a.1 + a.2 / (2 * i + 1), fixMul a.2 q)) (0, z)).1
/-- ln x of a positive number: x = y·2^k with y in [1, 2). -/
def fixLn (x : Int) : Int :=
  let k := Nat.log2 x.toNat
  let y := x * fixOne / 2 ^ k
  ((k : Int) - 320) * (2 * fixArtanh (fixOne / 3)) + 2 * fixArtanh (fixDiv (y - fixOne) (y + fixOne))

/-- e^x. -/
def Fl.exp (x : Fl) : Fl := flFix (fixExp (fixOf x))
/-- tanh x. -/
def Fl.tanh (x : Fl) : Fl :=
  let e := fixExp (clampI (-128 * fixOne) (128 * fixOne) (2 * fixOf x))
  flFix (fixDiv (e - fixOne) (e + fixOne))
/-- 1/(1 + e^−x). -/
def Fl.sigmoid (x : Fl) : Fl := flFix (fixDiv fixOne (fixOne + fixExp (-fixOf x)))
/-- ln(1 + e^x). -/
def Fl.softplus (x : Fl) : Fl := if (flInt 128).lt x then x else flFix (fixLn (fixOne + fixExp (fixOf x)))

/-- 1/√x with a sticky bit, by IEEE rules. -/
def Fl.rsqrt : Fl → Fl
  | .nan => .nan
  | .inf a => if a then .nan else .fin false 0 0
  | .fin a m e =>
    if m = 0 then .inf a else if a then .nan
    else
      let m := if e % 2 = 0 then m else 2 * m
      let e := if e % 2 = 0 then e else e - 1
      let h := 100 + Nat.log2 m
      let n := 2 ^ (2 * h) / m
      let r := isqrt (Nat.log2 n / 2 + 1) n 0
      .fin false (2 * r + (if r * r * m = 2 ^ (2 * h) then 0 else 1)) (-(e / 2) - h - 1)

/-- The values of FN 3 to 8 of R302. -/
def Fl.point (fn : Nat) (x : Fl) : Fl :=
  let pos := (flInt 0).lt x
  match fn with
  | 3 => x.sigmoid
  | 4 => x.tanh
  | 5 => x.exp
  | 6 => x.softplus
  | 7 => if pos then x else flFix (fixExp (fixOf x) - fixOne)
  | _ => if pos then x.mul x else flInt 0

/-- The values f′ of FN 3, 4, 6, 7 and 8 of R310 from the saved value. -/
def Fl.deriv (fn : Nat) (y : Fl) : Fl :=
  match fn with
  | 3 => y.mul ((flInt 1).add y.neg)
  | 4 => (flInt 1).add (y.mul y).neg
  | 6 => (flInt 1).add y.neg.exp.neg
  | 7 => if (flInt 0).lt y then flInt 1 else y.add (flInt 1)
  | _ => y.sqrt.scale 1

/-- |α|^t in fixed point with 1,400 fraction bits, held below 2^1200: squarings over the 64 bits of t. -/
def fixPow (a : Nat) (t : Nat) : Nat :=
  (List.range 64).foldl (fun y i =>
    let y := min (y * y / 2 ^ 1400) (2 ^ 2600)
    if bit t (63 - i) then min (y * a / 2 ^ 1400) (2 ^ 2600) else y) (2 ^ 1400)
/-- α^t (R331). -/
def Fl.powNat (x : Fl) (t : Nat) : Fl :=
  match x with
  | .fin n m e => .fin (n && t % 2 == 1) (fixPow (roundTo m (e + 1400) 0) t) (-1400)
  | _ => .nan

/-- exp32 within 1 ulp (R303): −∞ gives +0, NaN gives NaN. -/
def expOf (x : Word) : Word :=
  match f32 x with
  | .nan => nan32
  | .inf n => if n then 0 else x
  | .fin .. => near32 1 (f32 x).exp (Config.exp32 x)
/-- FLOG within 1 ulp (R350): no value is stated for 0 and below, which are free. -/
def logOf (x : Word) : Word :=
  match f32 x with
  | .nan => nan32
  | .fin false (m + 1) e => near32 1 (flFix (fixLn (((m : Int) + 1) * 2 ^ (e + 320).toNat))) (Config.log32 x)
  | _ => Config.log32 x
/-- FRSQ within 1 ulp (R350): no value is stated for 0 and below, which are free. -/
def rsqrtOf (x : Word) : Word :=
  match f32 x with
  | .nan => nan32
  | .fin false (_ + 1) _ => near32 1 (f32 x).rsqrt (Config.rsqrt32 x)
  | _ => Config.rsqrt32 x
/-- A point function within 1 ulp (R302, R303). -/
def pointOf (fn : Nat) (x : Word) : Word :=
  if (f32 x).isNan then nan32 else if fn = 5 then expOf x else near32 1 ((f32 x).point fn) (Config.point32 fn x)
/-- f′ from the saved value within 2 ulp (R310); the table derivative stands apart. -/
def derivOf (fn : Nat) (y : Word) : Word :=
  if (f32 y).isNan then nan32
  else if fn = 0 then one32
  else if fn = 1 then (if (flInt 0).lt (f32 y) then one32 else 0)
  else if fn = 5 then y
  else near32 2 ((f32 y).deriv fn) (Config.deriv32 fn y)
/-- p = α^t in binary64 within 1 ulp (R331). -/
def powOf (alpha : Word) (t : Word64) : Word64 :=
  BitVec.ofNat 64 (near fmt64 1 ((f32 alpha).powNat t.toNat) (Config.powT alpha t).toNat)

end Sys2Proof.Machine
end

