-- ==== Sys2Proof/Machine/Operands.lean ====
section
/-! DEFINITION. Every operand form: descriptor fields (R435), opcodes with their phase codes and fields (R438), address forms (R436, R394), argument blocks (R439, R440), the checks of R437, and values in memory by format. -/

namespace Sys2Proof.Machine

open Sys2Proof

/-! ### The common fields of a descriptor (R435) -/

def dOpcode (d : List Byte) : Nat := field d 0 1
def dPhase (d : List Byte) : Nat := field d 1 1 % 8
def dIrq (d : List Byte) : Bool := bit (field d 1 1) 3
def dNocomp (d : List Byte) : Bool := bit (field d 1 1) 4
def dWaitEn (d : List Byte) : Bool := bit (field d 1 1) 5
def dSigEn (d : List Byte) : Bool := bit (field d 1 1) 6
def dFlag (d : List Byte) (i : Nat) : Bool := bit (field d 2 2) i
def dTag (d : List Byte) : Nat := field d 4 4
def dWaitWp (d : List Byte) : Nat := bits (field d 8 2) 0 14
def dSigWp (d : List Byte) : Nat := bits (field d 10 2) 0 14
def dWaitValue (d : List Byte) : Nat := field d 16 8

/-! ### Opcodes (R438) -/

/-- An opcode: allowed phase codes, the bits of its FLAGS and BODY as (first bit, width), and its address fields as
(byte offset, allowed forms), where the forms are bit 0 device, bit 1 slab, bit 2 host (R436). -/
structure OpInfo where
  phases : List Nat
  fields : List (Nat × Nat)
  addrs : List (Nat × Nat)
deriving DecidableEq, Repr

def phasesAll : List Nat := [0, 1, 2, 3, 4, 5, 6, 7]

/-- The opcodes with no argument block. -/
def opInfoPlain (op : Nat) : Option OpInfo :=
  match op with
  | 0x00 => some ⟨phasesAll, [], []⟩
  | 0x01 => some ⟨phasesAll, [(16, 2), (192, 14), (256, 64), (320, 64)], [(40, 5)]⟩
  | 0x02 => some ⟨[0, 1, 2], [(192, 64), (256, 64), (320, 64)], [(24, 7), (32, 7)]⟩
  | 0x03 => some ⟨[0], [], []⟩
  | 0x08 => some ⟨[0], [(192, 64), (256, 64)], [(24, 5)]⟩
  | 0x09 => some ⟨[0], [(192, 64), (256, 16)], [(24, 5)]⟩
  | 0x0A => some ⟨[0], [(192, 4), (208, 16), (256, 64)], [(32, 5)]⟩
  | 0x0B => some ⟨[0], [(192, 64)], [(24, 5)]⟩
  | 0x10 => some ⟨[1, 2], [(16, 1), (192, 16), (208, 16), (224, 24), (256, 64), (320, 64), (384, 32), (416, 16), (432, 2)],
      [(32, 1), (40, 1)]⟩
  | 0x11 => some ⟨[1, 2], [(16, 1), (192, 64), (256, 32), (288, 32), (320, 64), (384, 64), (448, 16), (464, 2), (480, 32)],
      [(24, 1), (40, 1), (48, 1)]⟩
  | 0x16 => some ⟨[2], [(16, 1), (192, 6), (200, 6), (208, 16), (224, 32), (256, 32), (288, 4), (304, 16), (320, 64),
      (384, 64), (448, 64)], [(40, 3), (48, 3), (56, 3)]⟩
  | 0x28 => some ⟨[4], [(16, 2), (192, 8), (224, 32), (256, 64), (320, 64)], []⟩
  | 0x29 => some ⟨[5], [(192, 8), (224, 32), (256, 32), (320, 64)], []⟩
  | 0x2A => some ⟨[0], [(192, 8)], []⟩
  | 0x30 => some ⟨[0, 7], [(192, 64)], [(24, 1)]⟩
  | 0x31 => some ⟨[7], [], []⟩
  | 0x38 => some ⟨[0], [(16, 1), (192, 64), (256, 64)], [(24, 5)]⟩
  | 0x39 => some ⟨[0], [(16, 1), (192, 64), (256, 64), (320, 64)], [(24, 5)]⟩
  | _ => none

/-- The opcodes that take an argument block at ARGS. -/
def opInfoArgs (op : Nat) : Option OpInfo :=
  match op with
  | 0x12 => some ⟨[0, 1, 2], [(192, 64)], [(24, 5)]⟩
  | 0x13 => some ⟨[1, 2], [(16, 2), (192, 64)], [(24, 5)]⟩
  | 0x14 => some ⟨[2], [(192, 64)], [(24, 5)]⟩
  | 0x15 => some ⟨[2], [(16, 1), (192, 64)], [(24, 5)]⟩
  | 0x17 => some ⟨[0, 1, 2], [(192, 64)], [(24, 5)]⟩
  | 0x20 => some ⟨phasesAll, [(192, 64)], [(24, 5)]⟩
  | 0x21 => some ⟨phasesAll, [(192, 64)], [(24, 5)]⟩
  | 0x22 => some ⟨phasesAll, [(192, 64)], [(24, 5)]⟩
  | 0x23 => some ⟨phasesAll, [(192, 64)], [(24, 5)]⟩
  | 0x24 => some ⟨[0, 6], [(192, 64)], [(24, 5)]⟩
  | _ => none

def opInfo (op : Nat) : Option OpInfo := (opInfoPlain op).orElse fun _ => opInfoArgs op

/-- Bytes of the argument block of an opcode; 0 for none (R439, R440). -/
def argsSize (op : Nat) : Nat :=
  if (opInfoArgs op).isNone then 0 else if op = 0x17 then 192 else 128

/-- The bits common to all descriptors (R435). -/
def commonFields : List (Nat × Nat) := [(0, 8), (8, 7), (32, 32), (64, 14), (80, 14), (128, 64)]

/-- The number with a 1 in every bit of the fields. -/
def fieldMask (fs : List (Nat × Nat)) : Nat := fs.foldl (fun m f => m ||| ((2 ^ f.2 - 1) <<< f.1)) 0

/-- The lowest byte of `n` bytes in which a number has a 1. -/
def firstByte (v : Nat) : Nat → Nat → Option Nat
  | _, 0 => none
  | i, n + 1 => if v / 256 ^ i % 256 = 0 then firstByte v (i + 1) n else some i

/-- The byte offset of the first reserved bit that is set, in a block whose fields are given. -/
def reservedAt (bs : List Byte) (n : Nat) (fs : List (Nat × Nat)) : Option Nat :=
  let v := leNat (slice bs 0 n)
  firstByte (v - (v &&& fieldMask fs)) 0 n

/-! ### Addresses (R436, R394) -/

/-- Where an address field points. -/
inductive Place where
  | dev (a : Nat)
  | slab (a : Nat)
  | host (a : Nat)
deriving DecidableEq, Repr

/-- The form of an address field; none for an invalid form. -/
def place (v : Nat) : Option Place :=
  match v / 2 ^ 62 % 4 with
  | 0 => if v < 2 ^ 44 then some (.dev v) else none
  | 1 => if v % 2 ^ 62 < 2 ^ 30 then some (.slab (v % 2 ^ 30)) else none
  | 2 => some (.host (v % 2 ^ 62))
  | _ => none

/-- Bytes of a slab that descriptors reach: its top 32 MiB is reserved for bypass narrow copies (R253). -/
def slabOpen : Nat := 96 * 2 ^ 20

/-- An address field is used as allowed, and its range of `n` bytes lies in the partition (R394, R436). -/
def Part.reach (x : Part) (allow v n : Nat) : Option Place :=
  match place v with
  | some (.dev a) => if bit allow 0 && x.owns a n then some (.dev a) else none
  | some (.slab a) =>
    if bit allow 1 && (x.dies 1).contains (a / 2 ^ 27) && a % 2 ^ 27 + n ≤ slabOpen then some (.slab a) else none
  | some (.host a) => if bit allow 2 then some (.host a) else none
  | none => none

/-- Reads `n` bytes of device memory or slab. -/
def State.readAt (s : State) (pl : Place) (n : Nat) : List Byte :=
  match pl with
  | .dev a => memRead s.mem a n
  | .slab a => memRead s.slab a n
  | .host _ => List.replicate n 0
/-- Writes bytes to device memory, slab, or host memory through function `fn`. -/
def State.writeAt (s : State) (fn : Nat) (pl : Place) (bs : List Byte) : State :=
  match pl with
  | .dev a => s.writeMem a bs
  | .slab a => { s with slab := memWrite s.slab a bs }
  | .host a => s.emit (.hostWrite fn a bs)
/-- The status of an access that fails. -/
def State.placeStatus (s : State) (write : Bool) (pl : Place) (n : Nat) : Option Nat :=
  match pl with
  | .dev a => s.memStatus write a n
  | .slab _ => none
  | .host _ => none
/-- A place some bytes on. -/
def Place.plus (pl : Place) (n : Nat) : Place :=
  match pl with
  | .dev a => .dev (a + n)
  | .slab a => .slab (a + n)
  | .host a => .host (a + n)

/-- The first of a list of (address field, allowed forms, bytes, offset, in the argument block) that breaks R436 or R394. -/
def Part.badRange (x : Part) : List (Nat × Nat × Nat × Nat × Bool) → Option (Nat × List Byte)
  | [] => none
  | (v, allow, n, off, arg) :: t =>
    if (x.reach allow v n).isSome then x.badRange t else some (stAddrRange, resultAt off arg)

/-- The first failing status of a list of (write, place, bytes), MEM_OFFLINE before all others (R422, R600). -/
def State.badAccess (s : State) (xs : List (Bool × Place × Nat)) : Option Nat :=
  let sts := xs.filterMap fun (w, pl, n) => s.placeStatus w pl n
  if sts.contains stMemOffline then some stMemOffline else sts.head?

/-- Counts the uncorrectable road block that fails a descriptor's accesses, in its own stack (R399). -/
def State.countBad (s : State) (st : Nat) (xs : List (Bool × Place × Nat)) : State :=
  if st = stHbmEcc then
    match xs.findSome? fun (w, pl, n) => if s.placeStatus w pl n == some stHbmEcc then
        (match pl with
          | .dev a => (s.badBlocks a n).head?
          | _ => none) else none with
    | some rb => s.countUncorr (rb * 256)
    | none => s
  else s
/-- Counts the corrected road blocks of accesses that succeed (R399). -/
def State.countReads (s : State) (xs : List (Bool × Place × Nat)) : State :=
  if s.raw.isEmpty then s
  else xs.foldl (fun t (w, pl, n) =>
    match pl with
    | .dev a => if w || n = 0 then t
      else (s.rawBlocks.filter fun rb => roadFirst a ≤ rb && rb ≤ roadLast a n).foldl (fun u rb => u.countCorr (rb * 256)) t
    | _ => t) s
/-- Counts what a descriptor's reads find. -/
def State.countAccess (s : State) (xs : List (Bool × Place × Nat)) : State :=
  match s.badAccess xs with
  | some st => s.countBad st xs
  | none => s.countReads xs

/-! ### The checks of a descriptor that becomes pending (R437) -/

/-- Numbers of wayposts outside the partition: the first offending offset. -/
def badNumber (x : Part) (d : List Byte) : Option Nat :=
  if dWaitEn d && !x.holds (dWaitWp d / 4096) then some 8
  else if dSigEn d && !x.holds (dSigWp d / 4096) then some 10
  else if dOpcode d = 0x01 && !x.holds (bits (field d 24 2) 0 14 / 4096) then some 24
  else none

/-- The address fields that a descriptor uses, by opcode: UPDATE_NORM uses OUT or IN by FINAL, REPORT 0 is none. -/
def usedAddrs (d : List Byte) (i : OpInfo) : List (Nat × Nat) :=
  match dOpcode d with
  | 0x01 => if field d 40 8 = 0 then [] else i.addrs
  | 0x28 => if dFlag d 1 then [(40, 1)] else [(32, 1)]
  | _ => i.addrs

/-- The checks of R437 on a pending descriptor: status and RESULT of the first failure. -/
def pendCheck (x : Part) (d : List Byte) : Option (Nat × List Byte) :=
  match opInfo (dOpcode d) with
  | none => some (stOpcode, resultAt 0 false)
  | some i =>
    match reservedAt d 64 (commonFields ++ i.fields) with
    | some o => some (stOpForm, resultAt o false)
    | none =>
      match badNumber x d with
      | some o => some (stOpForm, resultAt o false)
      | none =>
        if !i.phases.contains (dPhase d) then some (stPhaseOrder, resultAt 1 false)
        else x.badRange ((usedAddrs d i).map fun (o, allow) => (field d o 8, allow, 1, o, false))

/-! ### Values by format -/

/-- Little-endian words of `w` bytes. -/
def wordsOf (w : Nat) : Nat → List Byte → List Nat
  | 0, _ => []
  | n + 1, bs => leNat (slice bs 0 w) :: wordsOf w n (bs.drop w)
def words32 (n : Nat) (bs : List Byte) : List Word := (wordsOf 4 n bs).map (BitVec.ofNat 32)
def bytes32 (ws : List Word) : List Byte := ws.flatMap fun w => natLe 4 w.toNat
def bytes64 (ws : List Word64) : List Byte := ws.flatMap fun w => natLe 8 w.toNat

end Sys2Proof.Machine
end

