-- ==== Sys2Proof/Machine/Stash.lean ====
section
/-! DEFINITION. The stash: its place, directory, allocation, release and clearing (R293 to R299, R314 to R319). -/

namespace Sys2Proof.Machine

open Sys2Proof

def mib : Nat := 2 ^ 20

/-- The stash of a partition: base, start of the forward space, start of the reserve, end. -/
structure StashGeom where
  base : Nat
  fwd : Nat
  reserve : Nat
  stop : Nat
deriving DecidableEq, Repr

/-- The recompute reserve of a stash of `size` bytes (R316). -/
def reserveOf (code size : Nat) : Nat :=
  match code with
  | 0 => 0
  | 1 => size / 32
  | 2 => size / 16
  | 3 => size / 8
  | _ => size / 4

def stashShape (code base size : Nat) : StashGeom := ⟨base, base + mib, base + size - reserveOf code size, base + size⟩

/-- The stash that the registers describe; a SIZE of 0, or one whose forward space would be under 1 MiB, takes the upper
half of the partition's HBM (R315). -/
def State.stashGeom (s : State) (p : Nat) : StashGeom :=
  let code := s.pregf p 1 0x18C 1 3
  let size := s.pregf p 1 0x188 0 24 * mib
  let base := s.pregf p 1 0x180 8 24 * 256 + s.pregf p 1 0x184 0 9 * 2 ^ 32
  let lo := (s.part p).hbmRange.1
  let half := ((s.part p).hbmRange.2 - lo) / 2
  if size = 0 || size < mib + reserveOf code size + mib then stashShape code (lo + half) half
  else stashShape code base size

/-- The stash lies in the partition's HBM (R314). -/
def State.stashInside (s : State) (p : Nat) : Bool :=
  let g := s.stashGeom p
  inRange (s.part p).hbmRange.1 (s.part p).hbmRange.2 g.base (g.stop - g.base)

/-- States of a directory entry (R295). -/
def slUnused := 0
def slStashed := 1
def slSpilled := 2
def slDropped := 3
def slRecomputed := 4
def slReleased := 5

/-- Address of a slot's directory entry. -/
def State.dirAddr (s : State) (p slot : Nat) : Nat := (s.stashGeom p).base + 16 * slot
/-- A directory entry. -/
def State.dirEntry (s : State) (p slot : Nat) : Nat := leNat (memRead s.mem (s.dirAddr p slot) 16)
def entryAddr (e : Nat) : Nat := bits e 0 42
def entryState (e : Nat) : Nat := bits e 43 4
def entryCkpt (e : Nat) : Bool := bit e 47
def entryLength (e : Nat) : Nat := bits e 64 40
def mkEntry (addr : Nat) (far : Bool) (st : Nat) (ckpt : Bool) (len : Nat) : Nat :=
  addr % 2 ^ 42 + b2n far * 2 ^ 42 + st * 2 ^ 43 + b2n ckpt * 2 ^ 47 + len % 2 ^ 40 * 2 ^ 64
def State.setEntry (s : State) (p slot e : Nat) : State := s.writeMem (s.dirAddr p slot) (natLe 16 e)

/-- First address of at least `lo`, on a road block, at which `len` bytes lie free of the given ranges and end by `stop`. -/
def firstFit (len stop : Nat) : List (Nat × Nat) → Nat → Option Nat
  | [], a => if a + len ≤ stop then some a else none
  | (b, n) :: t, a =>
    if b + n ≤ a then firstFit len stop t a
    else if a + len ≤ b then (if a + len ≤ stop then some a else none)
    else firstFit len stop t (roadUp (b + n))

/-- Live ranges in address order. -/
def liveRanges (x : Part) : List (Nat × Nat) :=
  sortBy (fun a b => a.1 ≤ b.1) (x.live.map fun e => (e.2.1, e.2.2))

/-- The spill region: base and bytes; it must lie in the partition's far-tier range and in the first 2 TiB (R317, R409). -/
def State.spillRegion (s : State) (p : Nat) : Nat × Nat :=
  (s.pregf p 1 0x190 20 12 * mib + s.pregf p 1 0x194 0 10 * 2 ^ 32, s.pregf p 1 0x198 0 24 * mib)
def State.spillInside (s : State) (p : Nat) : Bool :=
  let r := s.spillRegion p
  let x := s.part p
  inRange x.far.1 (x.far.1 + x.far.2) r.1 r.2 && inRange farBase 0x40000000000 r.1 r.2

/-- What an allocation answers: a refusal, or the new state with the slot's state and the address to write to. -/
inductive Alloc where
  | refused (st : Nat)
  | placed (s : State) (slotState : Nat) (addr : Option Nat)

/-- Why a slot may not be written (R298, R314), tested before anything changes. -/
def State.slotRefusal (s : State) (p slot phase : Nat) : Option Nat :=
  if !s.stashInside p then some stAddrRange
  else
    match s.memStatus false (s.dirAddr p slot) 16 with
    | some st => some st
    | none =>
      let st := entryState (s.dirEntry p slot)
      if phase = 2 then (if st = slDropped then none else some stStashSlot)
      else if st = slUnused then none else some stStashSlot

/-- The slot is dropped: nothing is written, and the first drop of the step raises STASH_DROPPED (R296). -/
def State.dropSlot (s : State) (p slot len : Nat) (ckpt : Bool) : State :=
  let x := s.part p
  let t := (s.setEntry p slot (mkEntry 0 false slDropped ckpt len)).count 1 (lowDie 1 p) 0x1A0 0 1
  let t := t.modPart p fun y => { y with dropped := true }
  if x.dropped then t else t.raise p evStashDropped [(24, 2, slot), (26, 2, x.lastCkpt)]

/-- Space for a slot of `len` bytes (R296, R298). -/
def State.allocSlot (s : State) (p slot len phase : Nat) (ckpt : Bool) : Alloc :=
  match s.slotRefusal p slot phase with
  | some st => .refused st
  | none =>
    let g := s.stashGeom p
    let x := s.part p
    if phase = 2 then
      match firstFit len g.stop (liveRanges x) (roadUp g.fwd) with
      | none => .refused stStashFull
      | some a =>
        .placed ((s.setEntry p slot (mkEntry a false slRecomputed (entryCkpt (s.dirEntry p slot) || ckpt) len)).modPart p
          fun y => { y with live := (slot, a, len) :: y.live }) slRecomputed (some a)
    else
      let a := roadUp (g.fwd + x.stashNext)
      if !x.spilled && !x.dropped && a + len ≤ g.reserve then
        .placed ((s.setEntry p slot (mkEntry a false slStashed ckpt len)).modPart p fun y => { y with
          stashNext := a + len - g.fwd
          live := (slot, a, len) :: y.live
          lastCkpt := if ckpt then slot else y.lastCkpt }) slStashed (some a)
      else
        let r := s.spillRegion p
        let fa := roadUp (r.1 + x.spillNext)
        if s.pregf p 1 0x18C 0 1 = 1 && !x.dropped && r.2 != 0 && fa + len ≤ r.1 + r.2 then
          if !s.spillInside p then .refused stAddrRange
          else
            match firstFit len g.stop (liveRanges x) (roadUp g.reserve) with
            | none => .placed (s.dropSlot p slot len ckpt) slDropped none
            | some b =>
              .placed (((s.setEntry p slot (mkEntry b false slSpilled ckpt len)).modPart p fun y => { y with
                spilled := true
                spillNext := fa + len - r.1
                live := (slot, b, len) :: y.live
                spills := y.spills ++ [(slot, b, fa, len)]
                lastCkpt := if ckpt then slot else y.lastCkpt }).count 1 (lowDie 1 p) 0x1A0 16 1) slSpilled (some b)
        else .placed (s.dropSlot p slot len ckpt) slDropped none

/-- Where a slot's data lies, or the status of a descriptor that reads it (R298, R314). -/
def State.readSlot (s : State) (p slot : Nat) : Nat ⊕ (Nat × Nat) :=
  if !s.stashInside p then .inl stAddrRange
  else
    match s.memStatus false (s.dirAddr p slot) 16 with
    | some st => .inl st
    | none =>
      let e := s.dirEntry p slot
      if [slStashed, slSpilled, slRecomputed].contains (entryState e) then .inr (entryAddr e, entryLength e)
      else .inl stStashMissing

/-- A slot is released: its entry reads released and its space is free for recomputed slots (R299). -/
def State.freeSlot (s : State) (p slot : Nat) : State :=
  let e := s.dirEntry p slot
  if [slStashed, slSpilled, slRecomputed].contains (entryState e) then
    (s.setEntry p slot (setBits e 43 4 slReleased)).modPart p fun y => { y with
      live := y.live.filter fun l => l.1 != slot
      spills := y.spills.filter fun l => l.1 != slot
      wantRelease := y.wantRelease.filter (· != slot) }
  else s

/-- A slot holds a tensor of `rows` × `cols` elements in the format that code `c` of OUTFMT names (R294; log entry 21). -/
def State.noteSlot (s : State) (p slot c rows cols : Nat) : State :=
  s.modPart p fun y => { y with slotFmts := tput y.slotFmts slot (c, rows, cols) }

/-- The row-engine side memory of a partition's gradient dies is cleared (R306). -/
def State.clearSide (s : State) (p : Nat) : State :=
  ((s.part p).dies 1).foldl (fun t d => t.setGrad d { t.grad d with sideIdx := [], side := [], sideUsed := 0 }) s

/-- Every slot is freed, the directory cleared and forward allocation returns to its start (R299). -/
def State.clearStash (s : State) (p : Nat) : State :=
  let t := if s.stashInside p then s.zeroMem (s.stashGeom p).base mib else s
  let t := t.clearSide p
  t.modPart p fun y => { y with
    stashNext := 0
    spillNext := 0
    spilled := false
    dropped := false
    live := []
    wantRelease := []
    slotFmts := []
    spills := []
    lastCkpt := 0xFFFF }

end Sys2Proof.Machine
end

