-- ==== Sys2Proof/Machine/Queue.lean ====
section
/-! DEFINITION. The queue engine: doorbells, fetching, beginning, completing and posting descriptors (R427 to R450), the phase rules (R26 to R28, R429) and the abandonment of a step (R43, R44). -/

namespace Sys2Proof.Machine

open Sys2Proof

/-! ### Queues and rings and their registers (R451 to R459) -/

def queueHub (q : Nat) : Nat := q / 16384
/-- The partition of a queue. -/
def State.queuePart (s : State) (q : Nat) : Nat := s.ownerD (queueHub q)
/-- A field of HQ_QCFG of a queue. -/
def State.qcfg (s : State) (q lo w : Nat) : Nat := s.regf 2 (queueHub q) 0x30C lo w (q % 16384)
def State.queueOn (s : State) (q : Nat) : Bool := s.qcfg q 18 1 == 1
def State.queueSize (s : State) (q : Nat) : Nat := 2 ^ (min (s.qcfg q 0 4) 12 + 4)
def State.queueBase (s : State) (q : Nat) : Nat :=
  s.reg 2 (queueHub q) 0x304 (q % 16384) + s.reg 2 (queueHub q) 0x308 (q % 16384) * 2 ^ 32
def State.queueRing (s : State) (q : Nat) : Nat := s.qcfg q 4 12
def State.ccfg (s : State) (r lo w : Nat) : Nat := s.regf 2 (r / 1024) 0x320 lo w (r % 1024)
def State.ringOn (s : State) (r : Nat) : Bool := s.ccfg r 15 1 == 1
def State.ringSize (s : State) (r : Nat) : Nat := 2 ^ (min (s.ccfg r 0 4) 12 + 4)
def State.ringBase (s : State) (r : Nat) : Nat :=
  s.reg 2 (r / 1024) 0x318 (r % 1024) + s.reg 2 (r / 1024) 0x31C (r % 1024) * 2 ^ 32
/-- The ring that a queue is bound to is of the partition and enabled (R449 reason 4). -/
def State.ringOk (s : State) (p q : Nat) : Bool := (s.part p).holds (s.queueRing q / 1024) && s.ringOn (s.queueRing q)
/-- Entries that stand unread behind the head last returned (R431). -/
def State.ringFull (s : State) (r : Nat) : Bool :=
  (((s.ring r).tail + s.ringSize r - (s.ring r).head) % s.ringSize r) == s.ringSize r - 1

/-- Raises QUEUE_ERROR (R447, R449): kind 0 submission, 1 completion, 2 event. -/
def State.queueError (s : State) (p num kind reason : Nat) : State :=
  s.raise p evQueueError [(24, 2, num), (26, 1, kind), (27, 1, reason)]
/-- A queue stops (R449). -/
def State.stopQueue (s : State) (q reason : Nat) : State :=
  if (s.queue q).stopped != 0 then s
  else (s.setQueue q { s.queue q with stopped := reason }).queueError (s.queuePart q) q 0 reason

/-- The queues of a partition that hold something. -/
def State.queuesOf (s : State) (p : Nat) : SMap SubQ := s.queues.filter fun e => (s.part p).holds (queueHub e.1)
/-- Changes every queue of a partition. -/
def State.modQueues (s : State) (p : Nat) (f : Nat → SubQ → SubQ) : State :=
  { s with queues := s.queues.map fun e => if (s.part p).holds (queueHub e.1) then (e.1, f e.1 e.2) else e }

/-! ### Wayposts (R441, R442) -/

/-- The descriptor that stands first unbegun waits on waypost `w` and its wait is met by `v`. -/
def Slot.meets (f : Slot) (w : Nat) (v : Word64) : Bool := dWaitEn f.desc && dWaitWp f.desc == w && dWaitValue f.desc ≤ v.toNat
def SubQ.meet (x : SubQ) (w : Nat) (v : Word64) : SubQ :=
  match x.fetched with
  | f :: t => if f.meets w v then { x with fetched := { f with met := true } :: t } else x
  | [] => x
/-- A waypost takes a value, and pending waits are tested against it. -/
def State.waypostWrite (s : State) (w : Nat) (v : Word64) : State :=
  (s.setWaypost w v).modQueues (s.ownerD (w / 4096)) fun _ x => x.meet w v

/-! ### Finishing a descriptor -/

/-- A number above those of the finished descriptors whose completions wait (R445). -/
def State.nextDone (s : State) : Nat :=
  (s.queues.map fun e => match e.2.running with | some r => if r.done.isSome then r.work.doneNo + 1 else 0 | none => 0).foldl max 0

/-- The descriptor at the head of queue `q` finishes with a status and RESULT; its waypost signal follows (R442). -/
def State.finish (s : State) (q st : Nat) (res : List Byte) : State :=
  let x := s.queue q
  match x.running with
  | none => s
  | some r =>
    if r.done.isSome then s
    else
      let t := s.setQueue q { x with running := some { r with done := some (st, res), work := { r.work with doneNo := s.nextDone } } }
      if dSigEn r.desc && (s.part (s.queuePart q)).holds (dSigWp r.desc / 4096) then
        t.waypostWrite (dSigWp r.desc) (t.waypost (dSigWp r.desc) + 1)
      else t

/-- Changes the work of the running descriptor of a queue. -/
def State.modWork (s : State) (q : Nat) (f : Work → Work) : State :=
  let x := s.queue q
  match x.running with
  | none => s
  | some r => s.setQueue q { x with running := some { r with work := f r.work } }

/-- The descriptor that has begun in queue `q`, has the opcode `op` and has not finished. -/
def State.runningOp (s : State) (q op : Nat) : Option Running :=
  match (s.queue q).running with
  | some r => if r.began && r.done.isNone && dOpcode r.desc == op then some r else none
  | none => none

/-- A descriptor of an opcode that began before number `n` still runs in the partition (R252, R359). -/
def State.earlier (s : State) (p op n : Nat) (ok : List Byte → Bool) : Bool :=
  (s.queuesOf p).any fun e =>
    match s.runningOp e.1 op with
    | some r => r.work.gen < n && ok r.desc
    | none => false

/-! ### The phase rules (R26, R27, R44, R429) -/

/-- A descriptor of phase code 1 that waits for the milestone belongs to the next step (R27). -/
def Part.nextStep (x : Part) (c : Nat) : Bool := c == 1 && x.stepOn && 2 ≤ x.phase

/-- A descriptor of a phase code from 1 to `c` − 1 runs, or stands first unbegun, in the queue. A descriptor that has
finished with an error counts until its completion is posted. -/
def SubQ.busyBelow (x : SubQ) (y : Part) (c : Nat) : Bool :=
  (match x.running with
    | some r => 1 ≤ dPhase r.desc && dPhase r.desc < c && (match r.done with | none => true | some (st, _) => !success st)
    | none => false) ||
  (match x.fetched with
    | f :: _ => 1 ≤ dPhase f.desc && dPhase f.desc < c && f.fate.isNone && !y.nextStep (dPhase f.desc)
    | [] => false)

/-- The first unbegun descriptor of an enabled queue has been submitted and not been fetched: it is pending, and its phase is
not known before it is fetched (R428, R429; log entry 110). -/
def State.unread (s : State) (q : Nat) : Bool :=
  let x := s.queue q
  s.queueOn q && x.stopped == 0 && x.fetched.isEmpty && x.head != x.tail

/-- A descriptor that began runs in the queue with a phase code other than 0 and `c`. -/
def SubQ.runsOther (x : SubQ) (c : Nat) : Bool :=
  match x.running with
  | some r => dPhase r.desc != 0 && dPhase r.desc != c && r.done.isNone
  | none => false

/-- A queue of the partition holds phase `c` back (R26, R429). -/
def State.heldBack (s : State) (p c : Nat) : Bool :=
  let x := s.part p
  (s.queuesOf p).any fun e => e.2.busyBelow x c || (2 ≤ c && s.unread e.1)

/-- What the phase rules say of a pending descriptor. -/
inductive Verdict where
  | go
  | wait
  | passed
deriving DecidableEq, Repr

/-- The phase rules. The phases of an abandoned step do not overlap those of the step that resumes: its descriptors that still
run are awaited (R2, R26). -/
def State.verdict (s : State) (p c : Nat) : Verdict :=
  let x := s.part p
  if c = 0 then .go
  else
    match x.abandoned with
    | some a =>
      if a < c then .wait
      else if c = 1 && x.hold then .wait
      else if (s.queuesOf p).any fun e => e.2.runsOther c then .wait
      else if s.heldBack p c then .wait else .go
    | none =>
      if c = 1 then (if x.hold || x.nextStep 1 then .wait else .go)
      else if x.stepOn && c < x.phase then .passed
      else if s.heldBack p c then .wait else .go

/-! ### Abandonment (R43, R392, R469) -/

/-- The other members of a collective, in ring order. -/
def Coll.others (c : Coll) : List (Nat × Nat) :=
  collect c.members.length fun i => if i == c.rank then none else c.members[i]?

/-- Sends ABORT to every other member of a collective (R379). -/
def State.sendAbort (s : State) (p : Nat) (c : Coll) (st : Nat) : State :=
  let m : AbortMsg := ⟨c.mine.group, c.mine.milestone, c.mine.tag, st, c.rank⟩
  c.others.foldl (fun t e => (t.sendPacket p none (t.abortPacket p e.1 e.2 m)).1) s

/-- The key of a collective: GROUP, milestone number and TAG (R370). -/
def collKey (g : Nat) (ms : Word64) (tag : Word) : Nat × Nat := (g * 2 ^ 32 + tag.toNat, ms.toNat)
def Coll.key (c : Coll) : Nat × Nat := collKey c.mine.group c.mine.milestone c.mine.tag

/-- A collective leaves the partition's list; packets of its key are discarded from then on (R371). -/
def State.dropColl (s : State) (p : Nat) (c : Coll) : State :=
  s.modPart p fun x => { x with colls := x.colls.filter fun d => d.key != c.key, doneKeys := c.key :: x.doneKeys }

/-- Destination, staging region and inbox of an aborted collective are undefined (R379). -/
def State.openColl (s : State) (c : Coll) : State := c.writes.foldl (fun t e => t.openMem e.1 e.2) s

/-- The collectives of the step complete with ST_STEP_ABANDONED at this member, which sends ABORT with ST_COLL_MISMATCH (R392). -/
def State.abandonColls (s : State) (p : Nat) (all : Bool) : State :=
  ((s.part p).colls.filter fun c => all || c.mine.phase != 0).foldl
    (fun t c => (((t.sendAbort p c stCollMismatch).openColl c).dropColl p c).finish c.q stStepAbandoned result0) s

/-- A queued descriptor of the step is to complete with ST_STEP_ABANDONED (R43). -/
def Slot.abandon (f : Slot) : Slot :=
  if dPhase f.desc != 0 && f.fate.isNone then { f with fate := some stStepAbandoned } else f

/-- A MILESTONE that waits for the closure has had no effect yet and completes with ST_STEP_ABANDONED (R43). -/
def State.abandonMilestones (s : State) (p : Nat) : State :=
  (s.queuesOf p).foldl (fun t e =>
    if (t.runningOp e.1 0x31).isSome then t.finish e.1 stStepAbandoned result0 else t) s

/-- The step of a partition is abandoned in phase `ph` (R43, R461, R469). The budgets of the abandoned phase stay in force until
a phase begins again: the spec names no row of R40 for that time (DESIGN CHOICE, log entry 111). -/
def State.abandon (s : State) (p ph : Nat) : State :=
  let t := s.modPart p fun x => { x with stepOn := false, abandoned := some ph }
  let t := t.applyStaged (s.part p).quads none
  let t := t.modQueues p fun _ x => { x with fetched := x.fetched.map Slot.abandon }
  (t.abandonMilestones p).abandonColls p false

/-- The partition's current phase, 0 while no step is in progress (R43). -/
def Part.phaseNow (x : Part) : Nat := if x.stepOn then x.phase else 0

/-- STEP_ABANDONED, then the abandonment, for a descriptor that completed with an error (R43, R445). -/
def State.abandonBy (s : State) (p q st : Nat) (d : List Byte) : State :=
  let ph := max (s.part p).phaseNow (dPhase d)
  (s.raise p evStepAbandoned [(24, 1, ph), (26, 2, st), (28, 1, dOpcode d), (30, 2, q), (32, 4, dTag d)]).abandon p ph

/-- STEP_ABANDONED for an abandonment that no descriptor causes; the spec gives status, opcode, queue and TAG no value (log entry 15). -/
def State.abandonFree (s : State) (p : Nat) : State :=
  let ph := (s.part p).phaseNow
  let v := s.freeVal.toNat
  let w := (Config.freeValue (s.free + 1)).toNat
  ((s.raise p evStepAbandoned [(24, 1, ph), (26, 2, v % 65536), (28, 1, v / 2 ^ 16 % 256), (30, 2, v / 2 ^ 24 % 65536),
    (32, 4, w % 2 ^ 32)]).abandon p ph).useFree.useFree

/-! ### The pending descriptor -/

/-- A descriptor that may not begin stands at the head of its queue with its status (R437). -/
def State.failHead (s : State) (q : Nat) (f : Slot) (rest : List Slot) (st : Nat) (res : List Byte) : State :=
  (s.setQueue q { s.queue q with
    fetched := rest
    running := some ⟨f.desc, [], false, none, Work.none⟩ }).finish q st res

/-- The checks of a descriptor that has become pending: an abandoned or stopped one, one that fails R437, and one whose phase
has passed (R27) complete at once. -/
def State.settle (s : State) (q : Nat) : State :=
  let p := s.queuePart q
  match (s.queue q).running, (s.queue q).fetched with
  | none, f :: rest =>
    match f.fate with
    | some st => s.failHead q f rest st result0
    | none =>
      match pendCheck (s.part p) f.desc with
      | some (st, res) => s.failHead q f rest st res
      | none =>
        if s.verdict p (dPhase f.desc) = .passed then s.failHead q f rest stPhaseOrder (resultAt 1 false)
        else
          let met := !dWaitEn f.desc || dWaitValue f.desc ≤ (s.waypost (dWaitWp f.desc)).toNat
          s.setQueue q { s.queue q with fetched := { f with met := f.met || met } :: rest }
  | _, _ => s

/-- Settles every queue of a partition. -/
def State.settleAll (s : State) (p : Nat) : State := (s.queuesOf p).foldl (fun t e => t.settle e.1) s

/-! ### Serving order (R430) -/

/-- The engines that a descriptor waits for: 1 array tiles, 2 matrix, 3 row, 4 vector, 5 collective; 0 none. -/
def engineKind (op : Nat) : Nat :=
  if op = 0x10 || op = 0x11 then 1
  else if op = 0x12 || op = 0x14 || op = 0x15 then 2
  else if op = 0x13 then 3
  else if op = 0x16 || op = 0x17 || op = 0x28 || op = 0x29 || op = 0x2A then 4
  else if 0x20 ≤ op && op ≤ 0x24 then 5
  else 0

/-- The head descriptor of a queue may begin (R429, R431). -/
def State.eligible (s : State) (p q : Nat) (x : SubQ) : Bool :=
  x.running.isNone && x.stopped != 4 && s.queueOn q &&
  (match x.fetched with
    | f :: _ => f.fate.isNone && f.met && s.verdict p (dPhase f.desc) == .go
    | [] => false) &&
  s.ringOk p q && !(s.ring (s.queueRing q)).stopped && !s.ringFull (s.queueRing q)

/-- The engines that the head of a queue waits for. -/
def SubQ.kind (x : SubQ) : Nat :=
  match x.fetched with
  | f :: _ => engineKind (dOpcode f.desc)
  | [] => 0

/-- The queue is served before every other one of its hub die that waits for the same engines. -/
def State.itsTurn (s : State) (p q : Nat) : Bool :=
  let k := (s.queue q).kind
  let last := tget 0 s.turns (queueHub q * 8 + k)
  let gap := fun (i : Nat) => (i + 16384 - last % 16384 - 1) % 16384
  k == 0 || (s.queuesOf p).all fun e =>
    e.1 == q || queueHub e.1 != queueHub q || e.2.kind != k || !s.eligible p e.1 e.2 ||
    s.qcfg e.1 16 2 < s.qcfg q 16 2 ||
    (s.qcfg e.1 16 2 == s.qcfg q 16 2 && gap (q % 16384) ≤ gap (e.1 % 16384))

/-! ### The commands of the queue engine -/

/-- A new submission tail is in the ring and does not pass the head (R434). -/
def badTail (x : SubQ) (size tail : Nat) : Bool :=
  size ≤ tail || (tail + size - x.head) % size < (x.tail + size - x.head) % size

/-- A returned head is in its ring and does not move backward past entries not yet returned (R434). -/
def badHead (head tail size new : Nat) : Bool := size ≤ new || (tail + size - head) % size < (new + size - head) % size

/-- A doorbell on an enabled queue (R433, R434). -/
def State.ringDoorbell (s : State) (p q : Nat) (v : Nat) : State :=
  let x := s.queue q
  let r := s.queueRing q
  let kind := bits v 48 2
  let new := bits v 32 16
  let badH :=
    match kind with
    | 0 => false
    | 1 => !s.ringOk p q || badHead (s.ring r).head (s.ring r).tail (s.ringSize r) new
    | 2 => badHead (s.part p).eq.head (s.part p).eq.tail (s.eqSize p) new
    | _ => true
  if badH || (bit v 16 && badTail x (s.queueSize q) (bits v 0 16)) then s.stopQueue q 1
  else
    let s := if bit v 16 then s.setQueue q { x with tail := bits v 0 16 } else s
    if kind = 1 then s.setRing r { s.ring r with head := new }
    else if kind = 2 then s.modPart p fun y => { y with eq := { y.eq with head := new } }
    else s

/-- DOORBELL (R433). A write to a slot that the partition does not own counts in FOREIGN; one narrower than 8 bytes or to a
disabled queue counts in IGNORED. Outside IN_SERVICE writes are discarded (R512). -/
def execDoorbell (fn slot width : Nat) (v : Word64) (s : State) : Result :=
  onFunction fn (
    let x := s.part fn
    if !x.inService then .next s
    else if !x.holds (queueHub slot) then .next (s.count 2 (lowDie 2 fn) 0x338 0 1)
    else if width != 8 || !s.queueOn slot then .next (s.count 2 (queueHub slot) 0x310 24 1 (slot % 16384))
    else .next (s.ringDoorbell fn slot v.toNat))

/-- A queue holds a descriptor of phase code 1 to 7 (R449 reason 2). -/
def SubQ.holdsStep (x : SubQ) : Bool :=
  (x.fetched.any fun f => dPhase f.desc != 0) ||
    match x.running with
    | some r => dPhase r.desc != 0
    | none => false

/-- A descriptor fetch that was poisoned or not translated: the queue stops, and a step in progress of which it holds a descriptor
is abandoned (R43, R449 reason 2). -/
def State.fetchFailed (s : State) (p q : Nat) : State :=
  let t := s.stopQueue q 2
  if (s.part p).stepOn && (s.queue q).holdsStep then (t.abandonFree p).settleAll p else t

/-- DESCRIPTOR_FETCH (R428): the next submitted descriptor is read once. -/
def execDescriptorFetch (q : Nat) (r : HostReply) (s : State) : Result :=
  onQueue q (
    let p := s.queuePart q
    let x := s.queue q
    if !(s.part p).inService || !s.queueOn q || x.stopped != 0 || x.head == x.tail then .next s
    else
      match r with
      | .data bs =>
        if bs.length = 64 then
          .next ((s.setQueue q { x with
            head := (x.head + 1) % s.queueSize q
            fetched := x.fetched ++ [⟨bs, none, false⟩] }).settle q)
        else .next (s.fetchFailed p q)
      | .poisoned => .next (s.fetchFailed p q)
      | .notTranslated => .next (s.fetchFailed p q))

/-- The argument block as the module reads it at the beginning (R439): bytes, or the status of a failed read. -/
def State.readArgs (s : State) (p : Nat) (d : List Byte) (r : HostReply) : Nat ⊕ List Byte :=
  let n := argsSize (dOpcode d)
  if n = 0 then .inr []
  else
    match (s.part p).reach 5 (field d 24 8) n with
    | none => .inl stAddrRange
    | some (.host _) =>
      match r with
      | .data bs => if n ≤ bs.length then .inr (bs.take n) else .inl stHostError
      | .poisoned => .inl stHostError
      | .notTranslated => .inl stHostError
    | some pl =>
      match s.placeStatus false pl n with
      | some st => .inl st
      | none => .inr (s.readAt pl n)

/-- Counts what the read of the argument block finds (R399). -/
def State.countArgs (s : State) (p : Nat) (d : List Byte) : State :=
  let n := argsSize (dOpcode d)
  match (s.part p).reach 5 (field d 24 8) n with
  | some pl => s.countAccess [(false, pl, n)]
  | none => s

/-- The partition's phase when a descriptor of phase code `c` begins (R429, R44, R41). A resumption from phase 6 or before
gathers its orders afresh. -/
def Part.beginPhase (x : Part) (c : Nat) : Part :=
  if c = 0 then x
  else
    { x with
      stepOn := true
      abandoned := none
      gathered := if x.abandoned.isSome && c ≤ 6 then [] else x.gathered
      logFull := if x.stepOn || x.abandoned.isSome then x.logFull else 0
      phase := c
      incoming := if x.granted = c then none else some c }

/-- The partition enters the backward phase: the refreshes that are due may begin in this step (R185). -/
def State.enterBackward (s : State) (p : Nat) : State :=
  ((s.part p).dies 0).foldl (fun t d => t.modTiles d fun _ y => { y with ready := y.due.isSome }) s

/-- The settings that a descriptor of a partition keeps from its beginning (R18, R359): UPDATE_APPLY its group record, UPDATE_APPLY and
VPROG their program, and SNAPSHOT the milestone that it captures: it waits for closure when an UPDATE_APPLY of the step has begun
(R344). -/
def Part.workAt (x : Part) (d args : List Byte) (regs : SMap Nat) (cal : SMap Int) : Work :=
  let rec_ := (tget Group.unused x.groups (field d 24 1)).record
  let w := { Work.none with layers := x.layers, regs := regs, cal := cal, gen := x.begun + 1 }
  match dOpcode d with
  | 0x17 => { w with prog := tget [] x.progs (bits (field args 0 1) 0 4) }
  | 0x29 => { w with record := rec_, prog := tget [] x.progs (bits (field rec_ 1 1) 3 3) }
  | 0x38 => { w with deferred := x.stepOn && x.applyBegun }
  | _ => w

/-- A SNAPSHOT that does not wait for closure holds its blocks from its beginning (R38, R344). -/
def Part.holdBlocks (x : Part) (q : Nat) (d : List Byte) : Part :=
  if dOpcode d == 0x38 && !(x.stepOn && x.applyBegun) then
    { x with readers := x.readers ++ [⟨q, x.milestone.toNat, false, []⟩] }
  else x

/-- A descriptor begins (R429): its queue runs it with the settings in effect (R18), and a resumption from phase 1 clears the
stash (R299). -/
def State.beginDesc (s : State) (p q : Nat) (f : Slot) (rest : List Slot) (args : Nat ⊕ List Byte) : State :=
  let c := dPhase f.desc
  let x := s.part p
  let s := if c = 1 && x.abandoned.isSome then s.clearStash p else s
  let s := s.modPart p fun y => { (y.holdBlocks q f.desc).beginPhase c with
    applyBegun := y.applyBegun || dOpcode f.desc == 0x29
    begun := y.begun + 1 }
  let s := if x.phase < 2 && 2 ≤ c then s.enterBackward p else s
  let s := { s with turns := tset 0 s.turns (queueHub q * 8 + engineKind (dOpcode f.desc)) q }
  let s := s.setQueue q { s.queue q with
    fetched := rest
    running := some ⟨f.desc, (match args with | .inr bs => bs | .inl _ => []), true, none,
      x.workAt f.desc (match args with | .inr bs => bs | .inl _ => []) s.regs s.calUser⟩ }
  match args with
  | .inr _ => s
  | .inl st => s.finish q st (if st = stAddrRange then resultAt 24 false else result0)

/-- DESCRIPTOR_BEGIN (R429): the pending descriptor begins once its predecessor's completion is posted, its wait is met, the
phase rules allow it, its ring has room and it is its turn (R430, R431). -/
def execDescriptorBegin (q : Nat) (r : HostReply) (s : State) : Result :=
  onQueue q (
    let p := s.queuePart q
    if !(s.part p).inService then .next s
    else
      let s := s.settle q
      let x := s.queue q
      match x.running, x.fetched with
      | none, f :: rest =>
        if !s.queueOn q || !f.met || s.verdict p (dPhase f.desc) != .go || x.stopped == 4 then .next s
        else if !s.ringOk p q then .next (s.stopQueue q 4)
        else if !s.eligible p q x || !s.itsTurn p q then .next s
        else .next (((s.countArgs p f.desc).beginDesc p q f rest (s.readArgs p f.desc r)).settleAll p)
      | _, _ => .next s)

/-- The head of a queue after its present descriptor (R444). -/
def State.headAfter (s : State) (q : Nat) : Nat :=
  let n := s.queueSize q
  ((s.queue q).head + n - (s.queue q).fetched.length % n) % n

/-- The descriptor leaves its queue; an error of a phase code from 1 to 7 abandons the step (R43, R445). -/
def State.retireDesc (s : State) (p q : Nat) (r : Running) (st : Nat) : State :=
  let t := s.setQueue q { s.queue q with running := none }
  if dPhase r.desc != 0 && !success st && st != stStepAbandoned then (t.abandonBy p q st r.desc).settleAll p
  else t.settleAll p

/-- A completion is written to its ring, with its interrupt (R444, R450). -/
def State.writeCompletion (s : State) (p q : Nat) (r : Running) (st : Nat) (res : List Byte) : State :=
  let c := s.queueRing q
  let g := s.ring c
  let wrap := g.tail + 1 == s.ringSize c
  let e := completionEntry r.desc q (s.headAfter q) st g.tag r.work.skewed res
  let t := (s.setRing c { g with
    tail := if wrap then 0 else g.tail + 1
    tag := if wrap then !g.tag else g.tag }).emit (.hostWrite p (s.ringBase c + 32 * g.tail) e)
  if dIrq r.desc || !success st || s.ccfg c 16 1 == 1 then t.emit (.msix p (s.ccfg c 4 11)) else t

/-- A completion of another queue of the same ring became due earlier (R445). -/
def State.postsLater (s : State) (p q : Nat) (r : Running) : Bool :=
  (s.queuesOf p).any fun e => e.1 != q && s.queueRing e.1 == s.queueRing q &&
    match e.2.running with
    | some f => f.work.doneNo < r.work.doneNo && match f.done with
      | some (st, _) => !(dNocomp f.desc && st == stOk)
      | none => false
    | none => false

/-- COMPLETION_POST (R445): a finished descriptor's completion is posted once its ring has room; `ok` says whether the host
accepted the write. -/
def execCompletionPost (q : Nat) (ok : Bool) (s : State) : Result :=
  onQueue q (
    let p := s.queuePart q
    let c := s.queueRing q
    match (s.queue q).running with
    | none => .next s
    | some r =>
      match r.done with
      | none => .next s
      | some (st, res) =>
        if dNocomp r.desc && st == stOk then .next (s.retireDesc p q r st)
        else if s.postsLater p q r then .next s
        else if !s.ringOk p q then .next ((s.stopQueue q 4).retireDesc p q r st)
        else if (s.ring c).stopped || s.ringFull c then .next s
        else if !ok then
          .next (((s.setRing c { s.ring c with stopped := true }).queueError p c 1 3).retireDesc p q r st)
        else .next ((s.writeCompletion p q r st res).retireDesc p q r st))

/-- BUDGET_HANDOVER (R41): the outgoing phase's budget is withdrawn and the incoming one granted. -/
def execBudgetHandover (p : Nat) (s : State) : Result :=
  onQuad p (
    match (s.part p).incoming with
    | some c => .next (s.modPart p fun x => { x with granted := c, incoming := none })
    | none => .next s)

/-- A write of the event queue that the host refuses reaches the host as an AER error, and the queue takes no more records until it
is enabled again (R448; log entry 129). -/
def State.eqRefused (s : State) (p : Nat) : State :=
  if s.eqOn p then (s.modPart p fun x => { x with eq := { x.eq with stopped := true } }).emit (.aer p) else s

/-- EQ_OVERFLOW (R432). -/
def execEqOverflow (e : EventWrite) (s : State) : Result :=
  onQuad e.p (.next (if e.ok then s.eqFlush e.p else s.eqRefused e.p))

end Sys2Proof.Machine
end

