-- ==== Sys2Proof/Machine/Power.lean ====
section
/-! DEFINITION. Power, heat and clocks: phase budgets, the tollgate, wake admission, the brake, temperatures and the loss of the data plane (R40 to R42, R479 to R505). -/

namespace Sys2Proof.Machine

open Sys2Proof

/-- The array, gradient and memory and hub budgets of a phase in the 1-partition layout, in W (R40). -/
def phaseBudget (ph : Nat) : Nat × Nat × Nat :=
  match ph with
  | 0 => (100, 300, 400)
  | 1 => (1100, 600, 600)
  | 2 => (300, 1200, 800)
  | 3 => (100, 600, 900)
  | 4 => (100, 800, 900)
  | 5 => (100, 1000, 1000)
  | 6 => (100, 500, 900)
  | _ => (800, 600, 900)

/-- What a scrubbing quadrant draws, in W, written as a budget of the whole module (R516). -/
def scrubCap : Nat := 4 * 300

/-- The budgets in effect: the granted phase's, or the lower of each group until the incoming phase's are granted (R41); the cap of
a scrub replaces them (R505, R516). -/
def Part.budget (x : Part) : Nat × Nat × Nat :=
  let b := phaseBudget x.granted
  if x.st = .scrubbing then (scrubCap, scrubCap, scrubCap) else
  match x.incoming with
  | none => b
  | some c => (min b.1 (phaseBudget c).1, min b.2.1 (phaseBudget c).2.1, min b.2.2 (phaseBudget c).2.2)

/-- The array budget that governs an array die, for the whole module: an eighth of it is the die's (R484). -/
def State.arrayBudget (s : State) (d : Nat) : Nat :=
  match s.owner (d / 2) with
  | some p => (s.part p).budget.1
  | none => (phaseBudget 0).1

/-- The granted phase of the partition that holds an array die. -/
def State.grantedPhase (s : State) (d : Nat) : Nat :=
  match s.owner (d / 2) with
  | some p => (s.part p).granted
  | none => 0

/-- Program work is pending on a tile: orders, a batch, a refresh, a scan or reserve programming (R484). -/
def Tile.programWork (t : Tile) : Bool :=
  !t.orders.isEmpty || !t.jobs.isEmpty || !t.work.isEmpty || t.refresh || t.scanning
def State.programWork (s : State) (d : Nat) : Bool := (s.tilesOf d).any fun e => e.2.programWork

/-- Bucket levels are in 1/5120 pJ: one ns of B/8 W is B × 125 pJ, times the share factor in 1/320 and eighths of PROG_SHARE. -/
def bucketUnit : Nat := 5120
def productCap : Nat := 437500000000 * bucketUnit
def programCap : Nat := 54700000000 * bucketUnit

/-- Eighths of the refill for the program bucket (R499). -/
def progShare (v : Nat) : Nat := if v = 0 then 1 else min v 4

/-- The refill of the product and of the program bucket in one ns (R484, R490, R491). -/
def State.refill (s : State) (d : Nat) : Nat × Nat :=
  let unit := s.arrayBudget d * 125 * (s.die 0 d).share * (if s.brake then 1 else 2)
  if s.grantedPhase d = 7 then (0, unit * 8)
  else if s.programWork d then
    let m := progShare (s.regf 0 d 0xB0 0 3)
    (unit * (8 - m), unit * m)
  else (unit * 8, 0)

/-- One ns of a tollgate: the 1 µs window of R488 turns over, and both buckets fill. -/
def Gate.tick (g : Gate) (now : Nat) (r : Nat × Nat) : Gate :=
  let g := if now % 1000 = 0 then
      { g with winStart := now, prev := g.cur, cur := 0, prevFill := g.curFill, curFill := 0 } else g
  { g with
    prod := min (productCap : Int) (g.prod + r.1)
    prog := min (programCap : Int) (g.prog + r.2)
    curFill := g.curFill + r.1 + r.2 }

/-- The tenant views of power and temperature are renewed every 100 ms of local time (R528). -/
def State.renewViews (s : State) : State :=
  { s with
    parts := s.parts.map fun e => (e.1, { e.2 with tPowerMw := e.2.powerMw })
    dies := s.dies.map fun e => (e.1, { e.2 with tTemp := e.2.temp, tShare := e.2.share * 100 / 320 })
    hbm := s.hbm.map fun e => (e.1, { e.2 with tTemp := e.2.temp }) }

/-- One period of the road clock (R494), which is what the block does while no command waits (log entry 2). -/
def State.tick (s : State) : State :=
  let s := if s.input then { s with stbyNs := s.stbyNs + 1 } else s
  if !s.powered then s
  else
    let now := s.ltime + 1
    let t := { s with ltime := now, gates := s.gates.map fun e => (e.1, e.2.tick now (s.refill e.1)) }
    if now % 100000000 = 0 then t.renewViews else t

/-! ### Toll admission (R481 to R488) -/

/-- The toll of a converted segment in pJ (R481). -/
def segmentToll (mass load : Nat) : Nat := 700 + ceilDiv (mass * 35 * (load + 1)) 65536

/-- The energy in pJ that one 1 µs window may admit: 225 W, or the halved refill rate under the brake, times the share factor
(R484, R490, R491). -/
def State.ceiling (s : State) (d : Nat) : Nat :=
  let f := (s.die 0 d).share
  if s.brake then s.arrayBudget d * 125000 * f / 640 else 225000000 * f / 320

/-- The rise limit of a window in pJ (R488, R499). -/
def State.riseLimit (s : State) (d : Nat) : Nat := (s.gate d).prev + max (s.regf 0 d 0xB0 3 5) 4 * 1000000

/-- A request can be admitted: its bucket holds the full toll, and ceiling and rise allow it (R486, R488). -/
def State.admits (s : State) (d : Nat) (r : TollReq) : Bool :=
  let g := s.gate d
  (r.pj * bucketUnit : Int) ≤ (if r.program then g.prog else g.prod) &&
    g.cur + r.pj ≤ s.ceiling d && g.cur + r.pj ≤ s.riseLimit d

/-- Of each bucket only the earliest request may be admitted; the earliest in arrival order that can be (R486). -/
def State.nextToll (s : State) (d : Nat) : Option TollReq :=
  let rs := (s.gate d).reqs
  let firsts := ((rs.find? fun r => !r.program).toList ++ (rs.find? (·.program)).toList).filter (s.admits d)
  rs.find? fun r => firsts.contains r

/-- The toll of a tile's next segment or batch is taken. -/
def Tile.tollTaken (t : Tile) (program : Bool) : Tile :=
  if program then (if t.scanToll = 1 then { t with scanToll := 2 } else { t with batchToll := 2 })
  else { t with prods := updateFirst (fun p => p.toll == 1) (fun p => { p with toll := 2 }) t.prods }

def removeFirst {α : Type} [DecidableEq α] (x : α) : List α → List α
  | [] => []
  | y :: t => if y = x then t else y :: removeFirst x t

/-- Asks the tollgate for a toll (R486). -/
def State.askToll (s : State) (tile pj : Nat) (program : Bool) : State :=
  let d := tileDie tile
  let g := s.gate d
  s.setGate d { g with reqs := g.reqs ++ [⟨tile, pj, program, false⟩] }

/-- TOLL_ADMIT (R486): the tollgate of die `d` takes the toll of the next request, or counts that it waits (R501). -/
def execTollAdmit (d : Nat) (s : State) : Result :=
  onDie 8 d (
    let g := s.gate d
    match s.nextToll d with
    | some r =>
      let g := { g with
        reqs := removeFirst r g.reqs
        prod := if r.program then g.prod else g.prod - r.pj * bucketUnit
        prog := if r.program then g.prog - r.pj * bucketUnit else g.prog
        cur := g.cur + r.pj
        charged := g.charged + r.pj }
      .next ((s.setGate d g).modTile r.tile fun t => t.tollTaken r.program)
    | none =>
      let fresh := g.reqs.filter fun r => !r.waited
      .next ((s.setGate d { g with reqs := g.reqs.map fun r => { r with waited := true } }).count 0 d 0xB8 0 fresh.length))

/-- DEBT_CHECK (R482): energy drawn beyond the tolls charged is taken from the product bucket. -/
def execDebtCheck (d drawn : Nat) (s : State) : Result :=
  onDie 8 d (
    let g := s.gate d
    let excess := drawn - g.charged
    let t := s.setGate d { g with
      charged := 0
      prod := if excess = 0 then g.prod else max (-((productCap / 8 : Nat) : Int)) (g.prod - excess * bucketUnit) }
    .next (if excess = 0 then t else t.count 0 d 0xB4 24 1))

/-- The least number of cycles skipped of every 16 that brings a draw within a budget, at most 12 (R480, R491). -/
def skipFor (drawn budget : Nat) : Nat :=
  ((List.range 13).find? fun k => drawn * (16 - k) ≤ 16 * budget).getD 12

/-- A die's budget share is multiplied by its share factor (R491). -/
def State.dieShare (s : State) (kind d budget : Nat) : Nat := budget * (s.die kind d).share / 320

/-- RAIL_MEASURE (R480, R491): the gradient group and the memory and hub group are held within their budgets, each die taken to draw
its equal part of its group; a hub die skips cycles only while it is throttled (log entry 16). The partition's power
is the measured draw with the tolls of the last whole window (R503; log entry 16). A scrubbing partition is held to the scrub's cap
over all groups, and reads of its stacks fill what is left of it, to within 5 % (R516; log entry 124). -/
def execRailMeasure (p gradientMw memoryMw : Nat) (s : State) : Result :=
  onQuad p (
    let x := s.part p
    if x.st = .absent then .next s
    else
      let b := x.budget
      let share := fun (w : Nat) => w * 1000 * x.quads.length / 4 / (if s.brake then 2 else 1)
      let array := ((x.dies 0).map fun d => (s.gate d).prev / 1000).sum
      let scrubs := x.st == .scrubbing
      let slow := share b.2.2 < (if scrubs then gradientMw + memoryMw + array else memoryMw)
      let drawn := if scrubs then share scrubCap * (950 + s.freeVal.toNat % 101) / 1000 else gradientMw + memoryMw + array
      let s := if scrubs then s.useFree else s
      let s := (x.dies 1).foldl (fun t d => t.setDie 1 d { t.die 1 d with skip := skipFor gradientMw (t.dieShare 1 d (share b.2.1)) }) s
      let s := (x.dies 2).foldl (fun t d => t.setDie 2 d { t.die 2 d with
        skip := if (t.die 2 d).share < 320 then skipFor memoryMw (t.dieShare 2 d (share b.2.2)) else 0 }) s
      let s := (x.quads.flatMap fun q => (List.range 6).map (6 * q + ·)).foldl
        (fun t m => t.setStack m { t.stack m with slowed := slow }) s
      .next (s.modPart p fun y => { y with powerMw := drawn }))

/-! ### Wake admission (R489) -/

/-- A wake of a tile in SLEEP or OFF waits for admission, unless one already does or the tile is on its way (R73). -/
def State.askWake (s : State) (tile cls : Nat) : State :=
  let d := tileDie tile
  let g := s.gate d
  let x := s.tile tile
  if (g.wakes.any fun w => w.tile == tile) || x.waking || (x.st != .sleep && x.st != .off) then s
  else (s.setGate d { g with wakes := g.wakes ++ [⟨tile, cls, false⟩] }).modTile tile fun t => { t with wake := cls }

/-- The next wake in the order of R489. -/
def Gate.nextWake (g : Gate) : Option WakeReq :=
  (g.wakes.find? (·.cls == 1)).orElse fun _ => (g.wakes.find? (·.cls == 2)).orElse fun _ => g.wakes.head?

/-- WAKE_ADMIT (R489): die `d` admits its next wake, at most 256 in each 1 µs period of local time. -/
def execWakeAdmit (d : Nat) (s : State) : Result :=
  onDie 8 d (
    let g := s.gate d
    let g := if g.wakeAt = s.ltime / 1000 then g else { g with wakeAt := s.ltime / 1000, wakeN := 0 }
    match g.nextWake with
    | none => .next (s.setGate d g)
    | some w =>
      if g.wakeN < 256 then
        .next ((s.setGate d { g with wakes := removeFirst w g.wakes, wakeN := g.wakeN + 1 }).modTile w.tile
          fun t => { t with waking := true, wake := 0 })
      else
        let fresh := g.wakes.filter fun r => !r.waited
        .next ((s.setGate d { g with wakes := g.wakes.map fun r => { r with waited := true } }).count 0 d 0xB8 16 fresh.length))

/-! ### The brake (R490) -/

/-- Both buckets of every tollgate are empty (R485, R490). -/
def State.emptyBuckets (s : State) : State :=
  { s with gates := s.gates.map fun e => (e.1, { e.2 with prod := 0, prog := 0 }) }

def allQuads : List Nat := [0, 1, 2, 3]

/-- POWER_BRAKE_ASSERT (R490). -/
def execPowerBrakeAssert (s : State) : Result :=
  if s.brake then .next s
  else .next (({ s.emptyBuckets with brake := true }).raiseAll allQuads evPowerBrake [(24, 1, 1)])

/-- POWER_BRAKE_RELEASE (R490): the halving ends, budgets are granted as at a phase change, and the buckets start empty. -/
def execPowerBrakeRelease (s : State) : Result :=
  if s.brake then .next (({ s.emptyBuckets with brake := false }).raiseAll allQuads evPowerBrake [(24, 1, 0)])
  else .next s

/-! ### The loss of the data plane (R492, R495, R496) -/

/-- What a tile keeps without power: its cells and the tables that describe the silicon (R48, R206). -/
def Tile.kept (t : Tile) : Tile :=
  { Tile.fresh with
    st := if t.st = .retired then .retired else .off
    cells := t.cells
    refs := t.refs
    stuck := t.stuck
    rowMap := t.rowMap
    colMap := t.colMap
    refExcl := t.refExcl
    life := t.life
    flagTime := t.flagTime
    mark := t.mark
    outcome := t.outcome
    recTrim := t.recTrim }

/-- Registers for the management-plane owner only keep their values, which Choevesal restores (R473). -/
def ownerOnly (k : Nat) : Bool :=
  let b := keyBlock k
  (regAt (if b < 8 then 0 else if b < 16 then 1 else 2) (k % 0x100000)).all fun f => f.view != .tenant

/-- The data plane loses power: HBM, slabs, queues, partitions and registers are lost; cells, fuses, the expanders' contents
and the management plane's tables stay (R492, R496), and the waymark converters with their counts, which run on V_STBY (R565).
-/
def State.powerDown (s : State) : State :=
  { s with
    powered := false
    parts := []
    queues := []
    turns := []
    rings := []
    wayposts := []
    regs := s.regs.filter fun e => ownerOnly e.1
    staged := []
    counters := s.counters.filter fun e => e.1 % 2 ^ 31 / 32 == blockBase 2 0 + 0x394
    latches := []
    calStaged := []
    mem := s.mem.filter fun c => farBase ≤ c.1
    poison := s.poison.filter fun e => farBase ≤ e.1 * 256
    raw := []
    slab := []
    roads := []
    tiles := s.tiles.map fun e => (e.1, e.2.kept)
    tileDef := s.tileDef.map fun e => (e.1, e.2.kept)
    gates := []
    dies := []
    grads := []
    hbm := s.hbm.map fun e => (e.1, { Stack.reset with spared := e.2.spared, toSpare := e.2.toSpare })
    farPorts := s.farPorts.map fun e => (e.1, (e.2.1, 0))
    ports := []
    routes := []
    twin := Twin.reset
    mgmt := { s.mgmt with
      clockAt := none
      long := []
      booting := false
      bootFrom := 0
      stbyTemps := []
      rescrub := (s.parts.filter fun e => e.2.st == .scrubbing || e.2.st == .absent).flatMap (·.2.quads) } }

/-- DIE_THROTTLE in the partition that holds the die (R498). -/
def State.throttleEvent (s : State) (kind d : Nat) (on : Bool) : State :=
  s.raiseAll [dieQuad kind d] evDieThrottle [(24, 1, dieByte kind d), (25, 1, b2n on)]

/-- The share factor of a temperature in 1/16 °C, in 1/320 (R491). -/
def shareOf (t : Int) : Nat :=
  if t < 1520 then 320 else if t ≤ 1680 then (320 - (t - 1520)).toNat else 80

/-- The hottest corrected reading and its sensor (R477, R491). -/
def State.hottest (s : State) (kind d : Nat) : List Int → Nat → Option (Int × Nat)
  | [], _ => none
  | r :: rest, i =>
    let v := r + s.cal kind d 5 i
    match s.hottest kind d rest (i + 1) with
    | some (w, j) => if v < w then some (w, j) else some (v, i)
    | none => some (v, i)

/-- THERMAL_TRIP is recorded (R498). -/
def State.tripRecord (s : State) (kind d sensor : Nat) (t : Int) : State :=
  s.mgmtRecord evThermalTrip [(24, 1, dieByte kind d), (25, 1, sensor), (26, 2, unsigned 16 t)]
/-- THERMAL_TRIP is recorded and the rails are removed (R492, R498). -/
def State.trip (s : State) (kind d sensor : Nat) (t : Int) : State :=
  let r := (s.tripRecord kind d sensor t).powerDown
  { r with mgmt := { r.mgmt with tripped := true } }
/-- A trip within 100 µs of a clock fault, which has already taken the data plane down, is recorded as well (R505). -/
def State.tripAfterClock (s : State) (kind d sensor : Nat) (t : Int) : State :=
  match s.mgmt.clockAt with
  | none => s
  | some c =>
    if 1760 ≤ t && s.stbyNs ≤ c + 100000 then
      let r := s.tripRecord kind d sensor t
      { r with mgmt := { r.mgmt with clockAt := none } }
    else s

/-- Number of dies of a kind. -/
def dieCount : DieKind → Nat
  | .ad => 8
  | .gd => 8
  | .hd => 4
/-- Kind code of R466. -/
def kindCode : DieKind → Nat
  | .ad => 0
  | .gd => 1
  | .hd => 2

/-- A die's state and events after a temperature sample below the trip (R491). -/
def State.dieSample (s : State) (kind d : Nat) (t : Int) : State :=
  let x := s.die kind d
  let f := shareOf t
  let hot := if 1472 ≤ t then s.ltime else x.hotAt
  let x := { x with temp := t, share := f, hotAt := hot }
  if f < 320 && !x.throttled then
    (s.setDie kind d { x with throttled := true, evAt := s.ltime }).throttleEvent kind d true
  else if x.throttled && 1680 < t && x.evAt + 10000000 ≤ s.ltime then
    (s.setDie kind d { x with evAt := s.ltime }).throttleEvent kind d true
  else if x.throttled && t < 1472 && hot + 10000000 ≤ s.ltime then
    (s.setDie kind d { x with throttled := false }).throttleEvent kind d false
  else s.setDie kind d x

/-- DIE_TEMP_SAMPLE (R491, R492, R505). -/
def execDieTempSample (kind : DieKind) (d : Nat) (sensors : List Int) (s : State) : Result :=
  onDie (dieCount kind) d (
    let k := kindCode kind
    match s.hottest k d sensors 0 with
    | none => .next s
    | some (t, i) =>
      if !s.powered then .next (s.tripAfterClock k d i t)
      else if 1760 ≤ t then .next (s.trip k d i t)
      else .next (s.dieSample k d t))

/-- CLOCK_FAULT (R495, R498): recorded, and the data plane goes down as in a trip. -/
def execClockFault (kind : DieKind) (d source : Nat) (ppm : Int) (s : State) : Result :=
  onDie (dieCount kind) d (
    let b := if source = 1 then 0xFF else dieByte (kindCode kind) d
    let t := s.mgmtRecord evClockFault [(24, 1, b), (25, 1, source), (28, 4, if source = 1 then unsigned 32 ppm else 0)]
    let t := if t.powered then { t.powerDown with mgmt := { t.powerDown.mgmt with clockAt := some s.stbyNs } } else t
    if !s.input || s.mgmt.recovery then .next s
    else .next { t with mgmt := { t.mgmt with tripped := true, booting := false, bootFrom := 0 } })

/-- INPUT_FAULT (R496, R498): the input has left 44 V to 60 V for 1 ms. -/
def execInputFault (above : Bool) (centivolts : Nat) (s : State) : Result :=
  if !s.input then .next s
  else
    let t := s.mgmtRecord evInputFault [(24, 1, b2n above), (26, 2, centivolts)]
    .next { (if t.powered then t.powerDown else t) with input := false }

end Sys2Proof.Machine
end

