-- ==== Sys2Proof/Machine/Simple.lean ====
section
/-! DEFINITION. The descriptors that only order, copy and release: NOP, WAYPOST_SET, COPY and HOLD_RELEASE (R438, R443, R36). -/

namespace Sys2Proof.Machine

open Sys2Proof

/-- Works on the running descriptor of queue `q` if it has the opcode; otherwise nothing happens (log entry 3). -/
def onRunning (q op : Nat) (s : State) (k : Running → State) : Result :=
  onQueue q (match s.runningOp q op with
    | none => .next s
    | some r => .next (k r))

/-- The first failing check. -/
def firstFail : List (Option (Nat × List Byte)) → Option (Nat × List Byte)
  | [] => none
  | some e :: _ => some e
  | none :: t => firstFail t

/-- A check that refuses with ST_OP_FORM and names the field (R444). -/
def formIf (bad : Bool) (off : Nat) (arg : Bool) : Option (Nat × List Byte) :=
  if bad then some (stOpForm, resultAt off arg) else none

/-- A check that refuses with a status alone. -/
def statusIf (bad : Bool) (st : Nat) : Option (Nat × List Byte) := if bad then some (st, result0) else none

/-- Finishes with a status and no RESULT, counting an uncorrectable read. -/
def State.fail (s : State) (q st : Nat) (xs : List (Bool × Place × Nat)) : State := (s.countBad st xs).finish q st result0
/-- The accesses of the descriptor of queue `q`: it ends with the status of the one that fails, or goes on with its corrected reads
counted (R399, R405, R422). -/
def State.access (s : State) (q : Nat) (xs : List (Bool × Place × Nat)) (k : State → State) : State :=
  match s.badAccess xs with
  | some st => s.fail q st xs
  | none => k (s.countReads xs)

/-- NOP (R438). -/
def execNop (q : Nat) (s : State) : Result := onRunning q 0x00 s fun _ => s.finish q stOk result0

/-- The value of a waypost after WAYPOST_SET (R443). -/
def waypostOp (op : Nat) (old v : Word64) : Word64 := if op = 0 then v else if op = 1 then old + v else old

/-- WAYPOST_SET (R443); `ok` says whether a host write to REPORT was accepted (R449). -/
def execWaypostSet (q : Nat) (ok : Bool) (s : State) : Result :=
  onRunning q 0x01 s fun r =>
    let d := r.desc
    let p := s.queuePart q
    let op := field d 2 2 % 4
    let report := field d 40 8
    let w := bits (field d 24 2) 0 14
    let v := waypostOp op (s.waypost w) (BitVec.ofNat 64 (field d 32 8))
    let pl := (s.part p).reach 5 report 8
    match firstFail [formIf (op == 3) 2 false,
        if report != 0 && pl.isNone then some (stAddrRange, resultAt 40 false) else none] with
    | some (st, res) => s.finish q st res
    | none =>
      match (if report = 0 then none else pl) with
      | none => (s.waypostWrite w v).finish q stOk (slice (natLe 8 v.toNat) 0 16)
      | some a =>
        match s.placeStatus true a 8 with
        | some st => s.finish q st result0
        | none =>
          let t := s.waypostWrite w v
          match a, ok with
          | .host _, false => t.finish q stHostError result0
          | a, _ => (t.writeAt p a (natLe 8 v.toNat)).finish q stOk (slice (natLe 8 v.toNat) 0 16)

/-- Two ranges of one address space overlap. -/
def overlap (a b : Place) (n : Nat) : Bool :=
  n != 0 && match a, b with
    | .dev x, .dev y => x < y + n && y < x + n
    | .slab x, .slab y => x < y + n && y < x + n
    | .host x, .host y => x < y + n && y < x + n
    | _, _ => false

/-- The bytes that a read of `n` bytes at a place gives: of device memory and slab their content, of host memory the reply;
none for a failed host read (R449). -/
def State.source (s : State) (pl : Place) (n : Nat) (r : HostReply) : Option (List Byte) :=
  match pl with
  | .host _ =>
    match r with
    | .data bs => if n ≤ bs.length then some (bs.take n) else none
    | .poisoned => none
    | .notTranslated => none
  | pl => some (s.readAt pl n)

def Place.isHost : Place → Bool
  | .host _ => true
  | _ => false

/-- The read of `n` bytes at a place by the descriptor of queue `q`, of host memory by the reply (R399, R422, R449). -/
def State.fetch (s : State) (q : Nat) (pl : Place) (n : Nat) (r : HostReply) (k : List Byte → State → State) : State :=
  s.access q [(false, pl, n)] fun t =>
    match t.source pl n r with
    | none => t.finish q stHostError result0
    | some bs => k bs t

/-- COPY (R438). -/
def execCopy (q : Nat) (r : HostReply) (ok : Bool) (s : State) : Result :=
  onRunning q 0x02 s fun run =>
    let d := run.desc
    let p := s.queuePart q
    let n := field d 40 8
    let x := s.part p
    let form :=
      match place (field d 24 8), place (field d 32 8) with
      | some a, some b => formIf (overlap a b n) 32 false
      | _, _ => none
    match firstFail [form, x.badRange [(field d 24 8, 7, n, 24, false), (field d 32 8, 7, n, 32, false)]] with
    | some (st, res) => s.finish q st res
    | none =>
      match x.reach 7 (field d 24 8) n, x.reach 7 (field d 32 8) n with
      | some a, some b =>
        let xs := [(false, a, n), (true, b, n)]
        s.access q xs fun s =>
          match s.source a n r with
          | none => s.finish q stHostError result0
          | some bs =>
            if b.isHost && !ok then s.finish q stHostError result0
            else (s.writeAt p b bs).finish q stOk (slice (natLe 8 n) 0 16)
      | _, _ => s.finish q stAddrRange result0

/-- HOLD_RELEASE lifts a norm-watch hold; none is no error (R36, R438). -/
def execHoldRelease (q : Nat) (s : State) : Result :=
  onRunning q 0x03 s fun _ => (s.modPart (s.queuePart q) fun x => { x with hold := false }).finish q stOk result0

end Sys2Proof.Machine
end

