-- ==== Sys2Proof/Machine/Tensor.lean ====
section
/-! DEFINITION. Tensors in memory (R134, R272, R604), activations (R125 to R128), rotation (R135, R136) and input codes (R59, R137). -/

namespace Sys2Proof.Machine

open Sys2Proof

/-! ### Formats of results -/

/-- Formats that a tensor is stored in. -/
inductive TFmt where
  | f32
  | bf16
  | e4m3
  | e5m2
deriving DecidableEq, Repr

/-- The OUTFMT code of an element format (R259). -/
def TFmt.code : TFmt → Nat
  | .f32 => 0
  | .bf16 => 1
  | .e4m3 => 2
  | .e5m2 => 3

/-- Bytes of an element. -/
def TFmt.size : TFmt → Nat
  | .f32 => 4
  | .bf16 => 2
  | .e4m3 => 1
  | .e5m2 => 1
/-- The format has E8M0 scales (R604). -/
def TFmt.blocked : TFmt → Bool
  | .f32 => false
  | .bf16 => false
  | .e4m3 => true
  | .e5m2 => true

/-- A row converted to a format: element bytes, scale bytes, saturated finite values and non-finite values (R134, R606). -/
structure Conv where
  elems : List Byte
  scales : List Byte
  sat : Nat
  nonfin : Nat
deriving DecidableEq, Repr

def nonFinite (vs : List Word) : Nat := (vs.filter fun v => !fin32 v).length

/-- NaN is the canonical quiet NaN (R128). -/
def canon32 (w : Word) : Word := if (f32 w).isNan then nan32 else w

/-- One FP8 block of at most 32 values (R134, R272). -/
def convBlock (five : Bool) (vs : List Word) : Conv :=
  let fs := vs.map f32
  let x := blockExp (if five then 15 else 8) fs
  let es := fs.map fun v => if five then toE5m2 (v.scale (-x)) else toE4m3 (v.scale (-x))
  ⟨es.map fun e => BitVec.ofNat 8 e.1, [BitVec.ofNat 8 (unsigned 8 (x + 127))],
    ((fs.zip es).filter fun e => e.1.finite && e.2.2).length, nonFinite vs⟩

/-- A row in a format. -/
def convRow (f : TFmt) (vs : List Word) : Conv :=
  match f with
  | .f32 => ⟨bytes32 (vs.map canon32), [], 0, nonFinite vs⟩
  | .bf16 => ⟨vs.flatMap fun v => natLe 2 (bf16 v), [],
      (vs.filter fun v => fin32 v && !(decode fmtBf16 (bf16 v)).finite).length, nonFinite vs⟩
  | f =>
    let bs := (chunk 32 vs).map (convBlock (f == .e5m2))
    ⟨bs.flatMap (·.elems), bs.flatMap (·.scales), (bs.map (·.sat)).sum, (bs.map (·.nonfin)).sum⟩

/-- Bytes that a tensor of `rows` rows at a stride of `stride` elements occupies (R604). -/
def tensorBytes (f : TFmt) (rows stride : Nat) : Nat :=
  if f.blocked then roadUp (rows * stride) + rows * ceilDiv stride 32 else rows * stride * f.size

/-- The writes of row `r` of a tensor: offsets from its address, and bytes. -/
def rowWrites (f : TFmt) (rows stride r : Nat) (c : Conv) : List (Nat × List Byte) :=
  if f.blocked then [(r * stride, c.elems), (roadUp (rows * stride) + r * ceilDiv stride 32, c.scales)]
  else [(r * stride * f.size, c.elems)]

/-- Writes at offsets from a place. -/
def State.writeAll (s : State) (fn : Nat) (pl : Place) (ws : List (Nat × List Byte)) : State :=
  ws.foldl (fun t w => t.writeAt fn (pl.plus w.1) w.2) s

/-- The value of an FP8 element under its scale byte, rounded to binary32 where it lies outside (R375, R255): a scale of 255
is NaN. -/
def fp8Value (five : Bool) (e scale : Nat) : Word :=
  if scale = 255 then nan32 else r32 ((if five then e5m2 e else e4m3 e).scale ((scale : Int) - 127))

/-- `n` elements of row `r` of a tensor, as binary32. -/
def State.loadRow (s : State) (f : TFmt) (pl : Place) (rows stride r n : Nat) : List Word :=
  match f with
  | .f32 => words32 n (s.readAt (pl.plus (r * stride * 4)) (4 * n))
  | .bf16 => (wordsOf 2 n (s.readAt (pl.plus (r * stride * 2)) (2 * n))).map fun v => r32 (decode fmtBf16 v)
  | f =>
    let es := s.readAt (pl.plus (r * stride)) n
    let ss := s.readAt (pl.plus (roadUp (rows * stride) + r * ceilDiv stride 32)) (ceilDiv n 32)
    (List.range n).map fun i =>
      fp8Value (f == .e5m2) ((es.getD i 0).toNat) ((ss.getD (i / 32) 0).toNat)

/-! ### Activations -/

/-- A table may be loaded (R126). -/
def actTableOk (t : List Byte) : Bool :=
  let h := signed 8 (field t 4 1)
  fin32 (BitVec.ofNat 32 (field t 0 4)) && decide (-24 ≤ h) && decide (h ≤ 7) && zeroBytes t 5 11 &&
    (List.range 128).all fun j => fin32 (BitVec.ofNat 32 (field t (16 + 4 * j) 4))

def tabX0 (t : List Byte) : Word := BitVec.ofNat 32 (field t 0 4)
def tabH (t : List Byte) : Int := signed 8 (field t 4 1)
def tabA (t : List Byte) (j : Nat) : Word := BitVec.ofNat 32 (field t (16 + 8 * j) 4)
def tabB (t : List Byte) (j : Nat) : Word := BitVec.ofNat 32 (field t (20 + 8 * j) 4)

/-- The interval of a finite input (R127). -/
def tabIndex (t : List Byte) (x : Word) : Nat :=
  match f32 (sub32 x (tabX0 t)) with
  | .inf n => if n then 0 else 63
  | v => (clampI 0 63 (v.scale (-(tabH t))).floor).toNat

/-- What the end interval gives for an infinite input (R128). -/
def tabEnd (a b : Word) (neg : Bool) : Word :=
  if (f32 a).isZero then b else r32 (.inf (xor neg (f32 a).sign))

/-- Stage 9 (R125 to R128). -/
def activate (act : Nat) (t : List Byte) (x : Word) : Word :=
  match f32 x with
  | .nan => nan32
  | .inf n =>
    if act = 0 then x else if act = 1 then (if n then 0 else x)
    else if n then tabEnd (tabA t 0) (tabB t 0) true else tabEnd (tabA t 63) (tabB t 63) false
  | .fin n m _ =>
    if act = 0 then x
    else if act = 1 then (if !n && m != 0 then x else 0)
    else
      let j := tabIndex t x
      fma32 (tabA t j) x (tabB t j)

/-! ### Rotation -/

/-- Signs from a rotation seed: true is −1 (R136). -/
def rotSigns : Nat → Nat → List Bool
  | 0, _ => []
  | n + 1, st =>
    let lsb := st % 2 == 1
    lsb :: rotSigns n (if lsb then (st / 2) ^^^ 0x80200003 else st / 2)

/-- One stage of the Walsh–Hadamard transform (R135). -/
def whtStage (h : Nat) (v : List Word) : List Word :=
  (chunk (2 * h) v).flatMap fun c =>
    let a := c.take h
    let b := c.drop h
    List.zipWith add32 a b ++ List.zipWith sub32 a b

/-- `k` stages from width `h`. -/
def wht : Nat → Nat → List Word → List Word
  | 0, _, v => v
  | k + 1, h, v => wht k (2 * h) (whtStage h v)

/-- The normalisation c_R of R = 2^k (R135). -/
def rotNorm (k : Nat) : Word :=
  match k with
  | 5 => 0x3E3504F3
  | 6 => 0x3E000000
  | 7 => 0x3DB504F3
  | 8 => 0x3D800000
  | 9 => 0x3D3504F3
  | _ => 0x3D000000

def negate32 (w : Word) : Word := w ^^^ 0x80000000

/-- Rotation of elements `first` onward of a vector with ROT code `rot` (R135). -/
def rotate (rot seed first : Nat) (v : List Word) : List Word :=
  if rot = 0 then v
  else
    let k := rot + 4
    let signs := (rotSigns (first + v.length) seed).drop first
    let w := List.zipWith (fun (n : Bool) x => if n then negate32 x else x) signs v
    (chunk (2 ^ k) w).flatMap fun b => (wht k 1 b).map fun x => mul32 x (rotNorm k)

/-- The inverse of the rotation: Qᵀ = D · H · c_R (R287). -/
def unrotate (rot seed : Nat) (v : List Word) : List Word :=
  if rot = 0 then v
  else
    let k := rot + 4
    let w := (chunk (2 ^ k) v).flatMap fun b => (wht k 1 b).map fun x => mul32 x (rotNorm k)
    List.zipWith (fun (n : Bool) x => if n then negate32 x else x) (rotSigns v.length seed) w

/-! ### Input codes -/

/-- The largest magnitude of an input width a (R59). -/
def inputMax (a : Nat) : Nat := if a = 1 then 1 else 2 ^ (a - 1) - 1

/-- Scale segments and their number from the code NS. -/
def nsOf (code : Nat) : Nat := 2 ^ code

/-- The scale word of R294. -/
def scaleWord (b : Nat) (shifts : List Nat) : Nat :=
  b + (shifts.zipIdx.foldl (fun v e => v + e.1 % 4 * 4 ^ e.2) 0) * 256

/-- Input codes of elements of one 1,024-input block: (row, code), base, shifts, and counts. -/
structure Quant where
  codes : List (Nat × Nat)
  b : Nat
  shifts : List Nat
  sat : Nat
  nonfin : Nat
deriving DecidableEq, Repr

/-- A finite magnitude m is at most Q·2^i. -/
def withinScale (m : Fl) (q : Nat) (i : Int) : Bool := m.le (.fin false q i)

/-- The least base that holds the largest magnitude (R137). -/
def dynBase (q : Nat) (m : Fl) : Nat :=
  if m.isZero then 127 else ((List.range 255).find? fun (b : Nat) => withinScale m q ((b : Int) - 127 + 3)).getD 254

/-- Quantises elements (row, value) for a receiving layer of input width `a` and `ns` scale segments, with a static base or a
dynamic one (R137). -/
def quantise (a ns : Nat) (base : Option Nat) (vs : List (Nat × Word)) : Quant :=
  let q := inputMax a
  let nf := (vs.filter fun v => !fin32 v.2).length
  if a = 1 then
    let b := base.getD 127
    ⟨vs.map fun v => (v.1, b2n (fin32 v.2 && (Fl.fin false 1 ((b : Int) - 128)).le (f32 v.2))), b,
      List.replicate ns 0, 0, nf⟩
  else
    let seg := fun (r : Nat) => r * ns / 1024
    let ms := (List.range ns).map fun t => maxAbs ((vs.filter fun v => seg v.1 == t).map fun v => f32 v.2)
    let b := base.getD (dynBase q (ms.foldl (fun m v => if m.lt v then v else m) (.fin false 0 0)))
    let es := ms.map fun m => ((List.range 4).find? fun (e : Nat) => withinScale m q ((b : Int) - 127 + e)).getD 3
    let cs := vs.map fun v =>
      if fin32 v.2 then
        let x := ((f32 v.2).scale (-((b : Int) - 127 + (es.getD (seg v.1) 0 : Nat)))).rne
        let m := min x.natAbs q
        (v.1, (if x < 0 then 128 else 0) + m, decide (q < x.natAbs))
      else (v.1, 0, false)
    ⟨cs.map fun c => (c.1, c.2.1), b, es, (cs.filter (·.2.2)).length, nf⟩

end Sys2Proof.Machine
end

