-- ==== Sys2Proof/Machine/Layout.lean ====
section
/-! DEFINITION. What a layer map places where: weight runs (R51, R52), chains (R229, R235), digits and the narrow and measured copies (R54, R162, R234), spares (R204, R205), reserves that stand in and positions on the bypass (R207, R208, R248). -/

namespace Sys2Proof.Machine

open Sys2Proof

/-! ### Widths and runs -/

/-- The WIDTHS code of a check group (R228). -/
def groupCode (widths g : Nat) : Nat := bits widths (4 * g) 4
/-- Slices of a weight whose width has the code; 0 for a group that holds no run (R51). -/
def slicesOf (code : Nat) : Nat := if code < 8 then code / 2 + 1 else 0

/-- A weight run: slice-0 data column, slices and width (R52). -/
structure Run where
  col : Nat
  s : Nat
  w : Nat
deriving DecidableEq, Repr

/-- Consecutive three-slice groups from `g` on, at most `n`. -/
def threeSlice (widths : Nat) : Nat → Nat → Nat
  | 0, _ => 0
  | n + 1, g => if slicesOf (groupCode widths g) = 3 then threeSlice widths n (g + 1) + 1 else 0

/-- The runs of one group of 1, 2 or 4 slices, or of `m` consecutive groups of 3. -/
def groupRuns (widths g m s : Nat) : List Run :=
  (List.range (64 * m / s)).map fun i => ⟨64 * g + s * i, s, groupCode widths ((64 * g + s * i) / 64) + 1⟩

/-- The runs of the groups from `g` on. -/
def runsFrom (widths : Nat) : Nat → Nat → List Run
  | 0, _ => []
  | n + 1, g =>
    if 16 ≤ g then []
    else
      match slicesOf (groupCode widths g) with
      | 0 => runsFrom widths n (g + 1)
      | 3 => groupRuns widths g (threeSlice widths (16 - g) g) 3 ++ runsFrom widths n (g + threeSlice widths (16 - g) g)
      | s => groupRuns widths g 1 s ++ runsFrom widths n (g + 1)

/-- The weight runs of a tile, ascending slice-0 column (R52, R229). -/
def runsOf (widths : Nat) : List Run := runsFrom widths 16 0

/-- The run that holds a data column. -/
def runAt (rs : List Run) (c : Nat) : Option Run := rs.find? fun r => r.col ≤ c && c < r.col + r.s

/-- The largest weight of a width (R51). -/
def weightMax (w : Nat) : Nat := if w ≤ 2 then 1 else 2 ^ (w - 1) - 1

/-! ### Chains -/

/-- The number of chains of a layer (R231). -/
def Layer.chains (l : Layer) : Nat := l.tiles.foldl (fun n e => max n (e.chain + 1)) 0
/-- The entries of a chain in ascending position. -/
def Layer.chain (l : Layer) (c : Nat) : List TileEntry := sortBy (fun a b => a.pos ≤ b.pos) (l.tiles.filter (·.chain == c))
/-- The first entry of a chain, whose OUT_BASE and WIDTHS all its entries carry (R231). -/
def Layer.chainHead (l : Layer) (c : Nat) : Option TileEntry := l.tiles.find? (·.chain == c)
/-- The runs of a chain. -/
def Layer.chainRuns (l : Layer) (c : Nat) : List Run := ((l.chainHead c).map fun e => runsOf e.widths).getD []
/-- The closing tile of a chain (R235). -/
def Layer.closing (l : Layer) (c : Nat) : Option TileEntry := l.tiles.find? fun e => e.chain == c && e.pos + 1 == l.chainLen
/-- The chain whose outputs hold output `o`, with the run's place in it. -/
def Layer.chainOf (l : Layer) (o : Nat) : Option (Nat × Nat) :=
  (l.tiles.find? fun e => e.outBase ≤ o && o < e.outBase + (runsOf e.widths).length).map fun e => (e.chain, o - e.outBase)
/-- The layer of a number in a map. -/
def findLayer (ls : List Layer) (n : Nat) : Option Layer := ls.find? (·.num == n)
/-- The entry of a placement tile: its layer, index within the layer, and entry. -/
def Layer.entryOf (l : Layer) (t : Nat) : Option (Nat × TileEntry) :=
  (l.tiles.zipIdx.find? fun e => e.1.tile == t).map fun e => (e.2, e.1)
def findEntry (ls : List Layer) (t : Nat) : Option (Layer × Nat × TileEntry) :=
  ls.findSome? fun l => (l.entryOf t).map fun e => (l, e.1, e.2)

/-- FP16 column scale of a run of a chain, in binary32 (R120). -/
def Layer.scaleOf (l : Layer) (c col : Nat) : Word := r32 (Machine.decode fmt16 (tget 0 l.scales (c * 1024 + col)))
/-- Binary32 bias of a run of a chain (R123). -/
def Layer.biasOf (l : Layer) (c col : Nat) : Word := BitVec.ofNat 32 (tget 0 l.biases (c * 1024 + col))

/-- 1,024-input blocks of a layer. -/
def Layer.blocks (l : Layer) : Nat := ceilDiv l.inputs 1024

/-! ### Digits (R54) and the copies (R162, R163, R234) -/

/-- The canonical digits of a weight over `s` slices, slice 0 first (R54). -/
def canonDigits : Nat → Int → List Int
  | 0, _ => []
  | 1, v => [v]
  | s + 1, v =>
    let d := (v + 1) % 4 - 1
    d :: canonDigits s ((v - d) / 4)

/-- The value of a digit string. -/
def digitsValue : List Int → Int
  | [] => 0
  | d :: t => d + 4 * digitsValue t

/-- Bytes of a tile's narrow copy. -/
def copyBytes : Nat := 0x80000
/-- Address of the narrow copy of a layer's tile entry `i` (R234). -/
def Layer.narrowAddr (l : Layer) (i : Nat) : Nat := l.copyAddr + copyBytes * i

/-- A target digit in the narrow copy at `a`: row i at 512 bytes, column c in byte c/2, low half when even (R162). -/
def State.digit (s : State) (a row col : Nat) : Int :=
  signed 4 ((memByte s.mem (a + 512 * row + col / 2)).toNat / (if col % 2 = 0 then 1 else 16) % 16)
/-- Writes a target digit. -/
def State.setDigit (s : State) (a row col : Nat) (d : Int) : State :=
  let b := a + 512 * row + col / 2
  let v := (memByte s.mem b).toNat
  let n := if col % 2 = 0 then v / 16 * 16 + unsigned 4 d else v % 16 + unsigned 4 d * 16
  s.writeMem b [BitVec.ofNat 8 n]
/-- The target digits of a run. -/
def State.runDigits (s : State) (a row : Nat) (r : Run) : List Int := (List.range r.s).map fun k => s.digit a row (r.col + k)
/-- Writes the target digits of a run. -/
def State.setRunDigits (s : State) (a row : Nat) (r : Run) (ds : List Int) : State :=
  ds.zipIdx.foldl (fun t e => t.setDigit a row (r.col + e.2) e.1) s
/-- The weight that the narrow copy holds. -/
def State.heldWeight (s : State) (a row : Nat) (r : Run) : Int := digitsValue (s.runDigits a row r)

/-- Weights of the entries before entry `i` of a layer, in its parameter order (R290, R234). -/
def Layer.weightBase (l : Layer) (i : Nat) : Nat := ((l.tiles.take i).map fun e => 1024 * (runsOf e.widths).length).sum
/-- All weights of a layer. -/
def Layer.weights (l : Layer) : Nat := l.weightBase l.tiles.length
/-- Address of the measured value of a weight: entry `i`, row, place of its run. -/
def Layer.measuredAddr (l : Layer) (i row r : Nat) : Nat :=
  let n := ((l.tiles[i]?).map fun e => (runsOf e.widths).length).getD 0
  l.copyAddr + copyBytes * l.tiles.length + 2 * (l.weightBase i + row * n + r)

/-! ### Logical and physical places (R55, R204, R205) -/

/-- The logical column of a data column. -/
def dataCol (c : Nat) : Nat := 68 * (c / 64) + c % 64
/-- The logical column of check column `j` of group `g`. -/
def checkCol (g j : Nat) : Nat := 68 * g + 64 + j
/-- The target number that a column remap entry uses for a logical column; none for a reference or spare column. -/
def colTarget (j : Nat) : Option Nat :=
  if 1088 ≤ j then none else if j % 68 < 64 then some (j / 68 * 64 + j % 68) else some (1024 + j / 68 * 4 + (j % 68 - 64))
/-- The state of a remap entry: row entries hold it from bit 10, column entries from bit 11. -/
def rowState (e : Nat) : Nat := bits e 10 2
def colState (e : Nat) : Nat := bits e 11 2

/-- The physical row of a logical row. -/
def Tile.prow (t : Tile) (row : Nat) : Nat :=
  ((t.rowMap.find? fun e => rowState e.2 == 1 && bits e.2 0 10 == row).map fun e => 1024 + e.1).getD row
/-- The logical row that a physical row holds, if any. -/
def Tile.lrow (t : Tile) (p : Nat) : Option Nat :=
  if 1024 ≤ p then
    let e := tget 0 t.rowMap (p - 1024)
    if rowState e = 1 then some (bits e 0 10) else none
  else if t.prow p = p then some p else none
/-- The logical column that serves a target: the spare that stands for it, or its own. -/
def Tile.colOf (t : Tile) (target : Nat) : Nat :=
  ((t.colMap.find? fun e => colState e.2 == 1 && bits e.2 0 11 == target).map fun e => 1120 + e.1).getD
    (if target < 1024 then dataCol target else checkCol ((target - 1024) / 4) ((target - 1024) % 4))
/-- The logical column of a data column, through the remap table. -/
def Tile.dcol (t : Tile) (c : Nat) : Nat := t.colOf c
/-- The logical column of a check column, through the remap table. -/
def Tile.ccol (t : Tile) (g j : Nat) : Nat := t.colOf (1024 + 4 * g + j)

/-- The digit of a reference column (R56). -/
def refDigit (j : Nat) : Int := if j < 1096 then 1 else if j < 1104 then 3 else if j < 1112 then -2 else 0
/-- The device levels of a reference column. -/
def refLevels (j : Nat) : Nat × Nat := if j < 1096 then (1, 0) else if j < 1104 then (3, 0) else if j < 1112 then (0, 2) else (2, 2)
/-- The cell of a logical column that a tile does not list: nominal in a reference column that holds its digits (R47, R56). -/
def Tile.cellBase (x : Tile) (lcol : Nat) : Cell :=
  if x.refs && 1088 ≤ lcol && lcol < 1120 then ⟨6400 * (refLevels lcol).1, 6400 * (refLevels lcol).2⟩ else ⟨0, 0⟩
/-- The reference columns hold their digits from now on; the cells stay as they are. -/
def Tile.markRefs (x : Tile) : Tile :=
  if x.refs then x
  else
    let y := { x with refs := true }
    { y with cells := (List.range (1056 * 32)).foldl (fun m n =>
        let key := n / 32 * 1152 + 1088 + n % 32
        tset (y.cellBase (1088 + n % 32)) m key (tget ⟨0, 0⟩ m key)) x.cells }
/-- The reference columns are blank (R576). -/
def Tile.blankRefs (x : Tile) : Tile :=
  { x with refs := false, cells := x.cells.filter fun c => c.1 % 1152 < 1088 || 1120 ≤ c.1 % 1152 }

/-! ### Reserves and the bypass (R207 to R212, R224, R248) -/

/-- The identifier of reserve `r` of a die (R223). -/
def reserveTile (d r : Nat) : Nat := d * 65536 + 512 * 64 + r
/-- The retirement map entry of a reserve tile. -/
def State.retireEntry (s : State) (t : Nat) : Nat := tget 0 s.retire (tileDie t * 1024 + t % 65536 - 512 * 64)
/-- The placement tile that a tile serves: its own number, or what the retirement map gives a reserve. -/
def State.servedBy (s : State) (t : Nat) : Option Nat :=
  if isReserve t then
    let e := s.retireEntry t
    if [1, 2].contains (bits e 16 2) then some (tileDie t * 65536 + bits e 0 16) else none
  else some t
/-- The reserve that stands in for a placement tile, programmed (STATE 1) or being programmed (STATE 2). -/
def State.reserveFor (s : State) (t st : Nat) : Option Nat :=
  (s.retire.find? fun e => e.1 / 1024 == tileDie t && bits e.2 0 16 == t % 65536 && bits e.2 16 2 == st).map
    fun e => reserveTile (tileDie t) (e.1 % 1024)
/-- The tile whose cells serve a placement tile (R208). -/
def State.physTile (s : State) (t : Nat) : Nat :=
  if (s.tile t).st = .retired then
    ((s.reserveFor t 1).orElse fun _ => s.reserveFor t 2).getD t
  else t
/-- The role of a tile in its partition's map: layer, entry index and entry (R208, R251). -/
def State.role (s : State) (t : Nat) : Option (Nat × Layer × Nat × TileEntry) :=
  match s.owner (tileDie t / 2), s.servedBy t with
  | some p, some pl => (findEntry (s.part p).layers pl).map fun e => (p, e.1, e.2.1, e.2.2)
  | _, _ => none

/-! ### Settings of a product -/

/-- The settings of a product's layer as its descriptor began (R18, R88); none once the descriptor is gone. -/
def State.tokLayer (s : State) (k : Token) : Option Layer :=
  match (s.queue k.q).running with
  | some r => if r.began && r.done.isNone && r.work.gen == k.gen then findLayer r.work.layers k.layer else none
  | none => none

/-! ### The deferral list (R170, R180) -/

/-- Entries that the list can hold (R179). -/
def State.deferCap (s : State) (p : Nat) : Nat :=
  let c := s.regf 1 (lowDie 1 p) 0x110 0 5
  2 ^ (if 10 ≤ c && c ≤ 26 then c else 20)
/-- Its HBM address (R180). -/
def State.deferBase (s : State) (p : Nat) : Nat :=
  s.regf 1 (lowDie 1 p) 0x114 8 24 * 256 + s.regf 1 (lowDie 1 p) 0x118 0 9 * 2 ^ 32
/-- The list lies within the partition's HBM (R180); where it does not, nothing is deferred (log entry 102). -/
def State.deferFits (s : State) (p : Nat) : Bool :=
  inRange (s.part p).hbmRange.1 (s.part p).hbmRange.2 (s.deferBase p) (8 * s.deferCap p)
/-- The entries, as HBM holds them. -/
def State.deferList (s : State) (p : Nat) : List Nat :=
  let n := (s.part p).deferCount
  wordsOf 8 n (memRead s.mem (s.deferBase p) (8 * n))
/-- Writes the list. -/
def State.setDeferList (s : State) (p : Nat) (os : List Nat) : State :=
  (s.writeMem (s.deferBase p) (os.flatMap (natLe 8))).modPart p fun x => { x with deferCount := os.length }

/-- Free reserves of a die. -/
def State.freeReserves (s : State) (d : Nat) : Nat :=
  1024 - (s.retire.filter fun e => e.1 / 1024 == d && bits e.2 16 2 != 0).length

/-- A tile is called to diagnosis, by a flag or by PROBE_REQ (R194, R219). -/
def Tile.called (x : Tile) : Bool := x.flagged || x.probeReq
/-- A tile called to diagnosis has its turn among the 16 of its die (R195). -/
def State.probeTurn (s : State) (t : Nat) : Bool :=
  let ts := s.tilesOf (tileDie t)
  (ts.filter fun e => e.2.st == .probe).length + (ts.filter fun e => e.2.called && e.2.st != .probe && e.1 < t).length < 16
/-- Later vectors of a tile go to the bypass: it is in PROBE or is leaving service (R195, R220, R248). -/
def State.diverted (s : State) (t : Nat) : Bool :=
  let x := s.tile t
  x.st == .probe || x.retireReq || (x.called && !x.scanning && s.probeTurn t)
/-- A placement tile's position runs on the bypass (R248). -/
def State.bypassed (s : State) (l : Layer) (t : Nat) : Bool :=
  l.bypass ||
    (if (s.tile t).st = .retired then
      match s.reserveFor t 1 with
      | some r => s.diverted r
      | none => true
    else s.diverted t)

end Sys2Proof.Machine
end

