-- ==== Sys2Proof/Machine/Roads.lean ====
section
/-! DEFINITION. The roads of an array die: mesh, bridges, routes, lanes, flits and credits (R235 to R245, R250). -/

namespace Sys2Proof.Machine

open Sys2Proof

/-! ### The mesh, its routes and the bridges (R239, R250) -/

/-- Mesh column and row of a block's junction (R239). -/
def meshX (b : Nat) : Nat := b % 24
def meshY (b : Nat) : Nat := b / 24
/-- Mesh distance of two junctions. -/
def meshDist (a b : Nat) : Nat :=
  (meshX a - meshX b) + (meshX b - meshX a) + (meshY a - meshY b) + (meshY b - meshY a)

/-- The junction of bridge `k` (R250). -/
def bridgeBlock (k : Nat) : Nat := [3, 9, 15, 21].getD k 0
/-- The nearer of two bridges; ties go to the lower-numbered one, which is named first. -/
def nearerBridge (b j k : Nat) : Nat := if meshDist b (bridgeBlock k) < meshDist b (bridgeBlock j) then k else j
/-- The bridge between the junction of block `b` of array die `d` and gradient die `g` of its quadrant (R250). -/
def bridgeFor (d g b : Nat) : Nat := if d = g then nearerBridge b 0 1 else nearerBridge b 2 3

/-- The endpoint number of a bridge; a tile of the die is its own number. -/
def bridgeEnd (k : Nat) : Nat := 33792 + k
def isBridge (e : Nat) : Bool := 33792 ≤ e
/-- The junction and the port that an endpoint stands at. -/
def endBlock (e : Nat) : Nat := if isBridge e then bridgeBlock (e - 33792) else e / 64
def endPort (e : Nat) : Nat := if isBridge e then 4 else 5 + e % 64

/-- The output of junction `j` toward an endpoint: along x, then along y, then out (R239). -/
def routePort (j e : Nat) : Nat :=
  let b := endBlock e
  if meshX j < meshX b then 1 else if meshX b < meshX j then 0
  else if meshY j < meshY b then 3 else if meshY b < meshY j then 2 else endPort e
/-- The junction behind a road output, and the port at which the road enters it. -/
def roadEnd (j port : Nat) : Nat × Nat :=
  match port with
  | 0 => (j - 1, 1)
  | 1 => (j + 1, 0)
  | 2 => (j - 24, 3)
  | _ => (j + 24, 2)

/-- Quadrants crossed from `a` up or down to `b` over the links Q0–Q1, Q1–Q2, Q2–Q3 and Q3–Q0 (R396). -/
def quadSteps (up : Bool) (a b : Nat) : List Nat :=
  (List.range ((if up then b + 4 - a else a + 4 - b) % 4)).map fun i => (if up then a + i + 1 else a + 7 - i) % 4
/-- The way of a piece between two quadrants of a partition: the shorter one over its links, ties to ascending numbers (R244). -/
def quadPath (quads : List Nat) (a b : Nat) : List Nat :=
  let up := quadSteps true a b
  let down := quadSteps false a b
  let ok := fun (w : List Nat) => w.all quads.contains
  if ok up && (up.length ≤ down.length || !ok down) then up else down

/-! ### Lengths in flits (R236, R241, R244) -/

/-- A vector: one header and 1,024 codes. -/
def vectorFlits : Nat := 17
/-- A partial packet of `n` outputs: a header, the data and the clip marks. -/
def partialFlits (n : Nat) : Nat := 1 + ceilDiv n 16 + ceilDiv n 512
/-- A header and `n` bytes (log entry 113). -/
def dataFlits (n : Nat) : Nat := 1 + ceilDiv n 64

def Cargo.tok : Cargo → Token
  | .vector v => v.tok
  | .piece p => p.vec.tok
  | .packet p => p.tok
  | .result k _ => k

/-! ### Lanes and buffers (R241) -/

/-- The lanes (R241): vectors 0, partials 1, results and pieces, which leave closing tiles, 2. -/
def Cargo.lane : Cargo → Nat
  | .vector _ => 0
  | .packet _ => 1
  | .piece _ => 2
  | .result _ _ => 2

/-- Key of a buffer: junction, port, lane. -/
def laneKey (j port lane : Nat) : Nat := (j * 72 + port) * 4 + lane
def keyJunction (k : Nat) : Nat := k / 288
def keyPort (k : Nat) : Nat := k / 4 % 72
def keyLane (k : Nat) : Nat := k % 4

/-- Flits that a junction's input port holds for each lane (R241). -/
def bufferDepth : Nat := 16

/-- A packet waits at its sender, the endpoint `e`. -/
def Road.send (r : Road) (e : Nat) (cargo : Cargo) (size : Nat) (dsts : List Nat) (onward : List (Nat × List Nat)) : Road :=
  if dsts.isEmpty then r
  else
    let k := laneKey (endBlock e) (endPort e) cargo.lane
    { r with
      next := r.next + 1
      pkts := tput r.pkts r.next ⟨cargo.lane, size, dsts.map fun d => (d, size), cargo, onward⟩
      src := tput r.src k (tget [] r.src k ++ [(r.next, size)]) }

/-- Packets of an endpoint that have not left their sender whole (R243). -/
def Road.leaving (r : Road) (e : Nat) : Nat :=
  ((List.range 4).map fun l => (tget [] r.src (laneKey (endBlock e) (endPort e) l)).length).sum

/-- A vector has begun to enter an endpoint. -/
def RoadPkt.entering (p : RoadPkt) (dst : Nat) : Bool := p.left.any fun (e : Nat × Nat) => e.1 == dst && e.2 != 0 && e.2 != p.size
/-- Vectors that are entering an endpoint or have just entered it. -/
def Road.taken (r : Road) (dst : Nat) : Nat :=
  (r.pkts.filter fun e => e.2.lane == 0 && e.2.entering dst).length + (r.due.filter fun e => e.1 == dst && e.2.lane == 0).length

/-- The head flit of a buffer may leave by output `o` toward the destinations `via`: the road holds a credit, or the endpoint
takes it; a tile's credits on lane 0 are whole vectors, `room` of them (R241; log entry 113). -/
def Road.credit (room : RoadPkt → Nat → Nat) (r : Road) (j o lane pkt : Nat) (via : List Nat) : Bool :=
  if o < 4 then
    let n := roadEnd j o
    (tget [] r.buf (laneKey n.1 n.2 lane)).length < bufferDepth
  else if lane != 0 then true
  else
    match tfind r.pkts pkt with
    | none => true
    | some p => via.all fun d => p.entering d || r.taken d < room p d

/-- The destinations of a flit that output `o` of junction `j` leads to. -/
def Flit.via (f : Flit) (j o : Nat) : List Nat := f.dsts.filter fun d => routePort j (d / 65536) == o

/-- The input ports of junction `j` whose head flit on `lane` waits for output `o` and holds a credit, ascending. -/
def Road.ready (room : RoadPkt → Nat → Nat) (r : Road) (j o lane : Nat) : List Nat :=
  r.buf.filterMap fun e =>
    if keyJunction e.1 = j && keyLane e.1 = lane then
      match e.2 with
      | f :: _ => if !(f.via j o).isEmpty && r.credit room j o lane f.pkt (f.via j o) then some (keyPort e.1) else none
      | [] => none
    else none

/-- The order in which an output serves the lanes (R242). -/
def laneOrder : List Nat := [3, 1, 2, 0]

/-- Round robin: the first port after the one served last (R242). -/
def nextPort (last : Nat) (ps : List Nat) : Option Nat := (ps.find? fun p => last < p).orElse fun _ => ps.head?

/-- The lane and input port that output `o` of junction `j` serves now (R242). -/
def Road.choice (room : RoadPkt → Nat → Nat) (r : Road) (j o : Nat) : Option (Nat × Nat) :=
  laneOrder.findSome? fun lane =>
    (nextPort (tget 71 r.turn (laneKey j o lane)) (r.ready room j o lane)).map fun p => (lane, p)

/-- A flit reaches an endpoint; with the last one the packet has arrived there. -/
def Road.reachEnd (r : Road) (pkt dst : Nat) : Road :=
  match tfind r.pkts pkt with
  | none => r
  | some p =>
    let q : RoadPkt := { p with left := p.left.map fun e => if e.1 = dst then (e.1, e.2 - 1) else e }
    let r := { r with pkts := if q.left.all fun e => e.2 == 0 then tdel r.pkts pkt else tput r.pkts pkt q }
    if q.left.any fun e => e.1 == dst && e.2 == 0 then { r with due := r.due ++ [(dst, p)] } else r

/-- Output `o` of junction `j` moves one flit, if one may move. -/
def Road.serve (room : RoadPkt → Nat → Nat) (r : Road) (j o : Nat) : Road × Bool :=
  match r.choice room j o with
  | none => (r, false)
  | some (lane, port) =>
    let k := laneKey j port lane
    match tget [] r.buf k with
    | [] => (r, false)
    | f :: rest =>
      let via := f.via j o
      let stay := f.dsts.filter fun d => !via.contains d
      let r := { r with
        buf := tset [] r.buf k (if stay.isEmpty then rest else { f with dsts := stay } :: rest)
        turn := tput r.turn (laneKey j o lane) port }
      if o < 4 then
        let n := roadEnd j o
        let k' := laneKey n.1 n.2 lane
        ({ r with buf := tput r.buf k' (tget [] r.buf k' ++ [{ f with dsts := via }]) }, true)
      else (via.foldl (fun r d => r.reachEnd f.pkt d) r, true)

/-- A sender moves one flit into its junction, if the port has room (R241). -/
def Road.inject (r : Road) (k : Nat) : Road × Bool :=
  match tget [] r.src k with
  | (pkt, n + 1) :: rest =>
    if (tget [] r.buf k).length < bufferDepth then
      let dsts := ((tfind r.pkts pkt).map fun p => p.left.map (·.1)).getD []
      ({ r with
        src := tset [] r.src k (if n = 0 then rest else (pkt, n) :: rest)
        buf := tput r.buf k (tget [] r.buf k ++ [⟨pkt, dsts⟩]) }, true)
    else (r, false)
  | (_, 0) :: rest => ({ r with src := tset [] r.src k rest }, true)
  | [] => (r, false)

/-- The outputs that head flits wait for: junction × 72 + output, ascending. -/
def Road.wanted (r : Road) : List Nat :=
  sortBy (fun a b => a ≤ b) ((r.buf.flatMap fun e =>
    match e.2 with
    | f :: _ => f.dsts.map fun d => keyJunction e.1 * 72 + routePort (keyJunction e.1) (d / 65536)
    | [] => []).eraseDups)

/-- One flit time: every sender and every output moves at most one flit. -/
def Road.cycle (room : RoadPkt → Nat → Nat) (r : Road) : Road × Bool :=
  let a := r.src.foldl (fun (a : Road × Bool) e => let b := a.1.inject e.1; (b.1, a.2 || b.2)) (r, false)
  a.1.wanted.foldl (fun (a : Road × Bool) w => let b := a.1.serve room (w / 72) (w % 72); (b.1, a.2 || b.2)) a

/-- Flit times until a packet has arrived or nothing moves. -/
def Road.run (room : RoadPkt → Nat → Nat) : Nat → Road → Road
  | 0, r => r
  | n + 1, r =>
    if !r.due.isEmpty then r
    else
      let a := r.cycle room
      if a.2 then Road.run room n a.1 else a.1

/-- More flit times than the packets in transit can take. -/
def Road.fuel (r : Road) : Nat := (r.pkts.map fun e => e.2.size * e.2.left.length * 64).sum + 1

/-- The roads without the packets of some products. -/
def Road.drop (r : Road) (dead : Token → Bool) : Road :=
  let gone := (r.pkts.filter fun e => dead e.2.cargo.tok).map (·.1)
  { r with
    pkts := r.pkts.filter fun e => !gone.contains e.1
    src := (r.src.map fun e => (e.1, e.2.filter fun p => !gone.contains p.1)).filter fun e => !e.2.isEmpty
    buf := (r.buf.map fun e => (e.1, e.2.filter fun f => !gone.contains f.pkt)).filter fun e => !e.2.isEmpty
    due := r.due.filter fun e => !dead e.2.cargo.tok }

/-! ### Sending from an array die's tiles and from its gradient die -/

/-- Destination code: the endpoint and the placement tile meant (R208, R248). -/
def dstCode (e pl : Nat) : Nat := e * 65536 + pl % 65536

/-- Where a position takes its packets: the endpoint of the tile that serves it, or, on the bypass, the bridge that traffic
with `from_` uses (R238, R249). -/
def State.stationOf (s : State) (l : Layer) (pl from_ : Nat) : Nat :=
  if s.bypassed l pl then bridgeEnd (bridgeFor (tileDie pl) (tileDie pl) (endBlock from_)) else s.physTile pl % 65536

/-- A packet leaves an endpoint of die `d` for positions of the die. -/
def State.sendFrom (s : State) (d e : Nat) (cargo : Cargo) (size : Nat) (l : Layer) (pls : List Nat) : State :=
  if pls.isEmpty then s else s.setRoad d ((s.road d).send e cargo size (pls.map fun pl => dstCode (s.stationOf l pl e) pl) [])

/-- A packet leaves the gradient die of array die `d`: for each position over the nearer of bridges 0 and 1, copied where the
roads part (R244, R245); what is meant for the bypass is at its place. -/
def State.sendDown (s : State) (d : Nat) (cargo : Cargo) (size : Nat) (l : Layer) (pls : List Nat) : State :=
  let here := pls.filter fun pl => s.bypassed l pl
  let byBridge := fun (k : Nat) => (pls.filter fun pl => !s.bypassed l pl &&
    bridgeFor d d (endBlock (s.physTile pl % 65536)) == k).map fun pl => dstCode (s.physTile pl % 65536) pl
  if pls.isEmpty then s else
  let r := ((s.road d).send (bridgeEnd 0) cargo size (byBridge 0) []).send (bridgeEnd 1) cargo size (byBridge 1) []
  s.setRoad d { r with due := r.due ++ here.map fun pl => (dstCode (bridgeEnd 0) pl, ⟨cargo.lane, size, [], cargo, []⟩) }

end Sys2Proof.Machine
end

