-- ==== Sys2Proof/Machine/Retire.lean ====
section
/-! DEFINITION. Retirement to a reserve tile or to the bypass, and the return of reserves (R207 to R215, R220). -/

namespace Sys2Proof.Machine

open Sys2Proof

/-- The lowest-numbered free reserve of a die (R207). -/
def State.freeReserve (s : State) (d : Nat) : Option Nat :=
  (List.range 1024).find? fun r => bits (tget 0 s.retire (d * 1024 + r)) 16 2 == 0

/-- Sets a retirement map entry (R224); an entry of 0 is unlisted. -/
def State.setRetire (s : State) (d r placement st : Nat) : State :=
  { s with retire := tset 0 s.retire (d * 1024 + r) (placement % 65536 + st * 65536) }

/-- RESERVE_LOW goes to the management stream when the free reserves of a die fall below 64 (R214). -/
def State.reserveLow (s : State) (d : Nat) : State :=
  if s.freeReserves d = 63 then s.mgmtRecord evReserveLow [(24, 1, dieByte 0 d), (26, 2, 63)] else s

/-- Every row of a tile, to be rewritten in full or in its reference columns. -/
def allRows (what : Nat) : List Nat := (List.range 1056).map fun p => p * 4096 + what

/-- Steps 1 to 3 of R207: a reserve takes over a placement tile and is woken. -/
def State.engageReserve (s : State) (t r : Nat) : State :=
  let d := tileDie t
  let x := reserveTile d r
  (((s.setRetire d r (t % 65536) 2).reserveLow d).modTile x fun y => { y with reserveProg := true, work := allRows 4095 }).askWake x 3

/-- Placement tiles of a die that are retired with no reserve (R211, R222). -/
def State.onBypass (s : State) (d : Nat) : List Nat :=
  ((s.tilesOf d).filter fun e => !isReserve e.1 && e.2.st == .retired && (s.role e.1).isSome
    && (s.reserveFor e.1 1).isNone && (s.reserveFor e.1 2).isNone).map (·.1)

/-- Placement tiles of a die whose position runs on the bypass (R222, R248). -/
def State.bypassedTiles (s : State) (d : Nat) : List Nat :=
  match s.owner (d / 2) with
  | none => []
  | some p => (s.part p).layers.flatMap fun l => (l.tiles.filter fun e => tileDie e.tile == d && s.bypassed l e.tile).map (·.tile)

/-- A record of the fault log (R215). -/
def faultRecord (time tile outcome cols rows : Nat) : List Byte :=
  block 16 [(0, 8, time), (8, 3, tile % 2 ^ 19), (11, 1, outcome), (12, 2, cols), (14, 2, rows)]
def State.logFault (s : State) (r : List Byte) : State := { s with mgmt := { s.mgmt with faultLog := s.mgmt.faultLog ++ [r] } }

/-- The position of a placement tile is bypassed: measured values of weights not written since are not used (R285). -/
def Tile.bypassedNow (t : Tile) : Tile := { t with wasBypassed := true, rewritten := [] }

/-- A tile in RETIRED: its work is gone. -/
def Tile.retire (t : Tile) : Tile :=
  { t with
    st := .retired
    bankA := false
    bankB := false
    flagged := false
    probeReq := false
    retireReq := false
    scanning := false
    refresh := false
    work := []
    due := none
    urgent := false
    reserveProg := false
    batchToll := 0
    scanToll := 0
    ready := false
    jobs := []
    wake := 0
    waking := false }

/-- A retirement: TILE_RETIRED, and its record in the fault log (R214, R215, R220). The management view carries the tile, the
reserve and the model's number for the cause (log entry 17); `outcome` is 5 or 6. -/
def State.reportRetired (s : State) (p layer t reserve cause outcome flagTime cols rows : Nat) : State :=
  let byp := outcome - 5
  (s.raiseM p evTileRetired ([(24, 2, layer)] ++ if byp = 0 then [] else [(26, 1, 1)])
    ([(32, 4, t)] ++ (if byp = 0 then [(36, 4, reserve)] else []) ++ [(40, 1, cause)])).logFault
    (faultRecord flagTime t outcome cols rows)

/-- A placement tile whose cells have retired takes the next free reserve, or the bypass (R207, R211). A tile that retired before
the map placed it has been reported then, and `silent` is true. -/
def State.replaceTile (s : State) (t cause flagTime cols rows : Nat) (silent : Bool) : State :=
  match s.role t with
  | none => if silent then s else s.reportRetired (s.ownerD (tileDie t / 2)) 0 t 0 cause 6 flagTime cols rows
  | some (p, l, _, e) =>
    let s := s.modTile e.tile Tile.bypassedNow
    match s.freeReserve (tileDie e.tile) with
    | some r =>
      let x := reserveTile (tileDie e.tile) r
      let u := s.engageReserve e.tile r
      if silent then u else u.reportRetired p l.num e.tile x cause 5 flagTime cols rows
    | none =>
      let u := if silent then s else s.reportRetired p l.num e.tile 0 cause 6 flagTime cols rows
      u.raiseM p evBypassEngaged [(24, 2, l.num)] [(32, 4, e.tile), (36, 4, (u.bypassedTiles (tileDie e.tile)).length)]

/-- A tile in OFF, or still RETIRED: what belongs to the silicon stays (R72, R233). -/
def Tile.off (t : Tile) : Tile :=
  { t.kept with
    trim := t.trim
    age := t.age
    period := t.period
    raise := t.raise
    inexact := t.inexact
    unverified := t.unverified }

/-- The wakes and tolls that a tile waits for are dropped. -/
def State.dropRequests (s : State) (t : Nat) : State :=
  { s with gates := tmod Gate.empty s.gates (tileDie t) fun g => { g with
    wakes := g.wakes.filter fun w => w.tile != t
    reqs := g.reqs.filter fun r => r.tile != t } }

/-- A reserve tile is marked retired; where it was free, the free reserves fall by one (R214, R220). -/
def State.retireReserve (s : State) (t : Nat) : State :=
  let u := s.setRetire (tileDie t) (t % 65536 - 512 * 64) 0 3
  if bits (s.retireEntry t) 16 2 = 0 then u.reserveLow (tileDie t) else u

/-- Vectors that waited at a tile which retires go on to the bypass of their position (R249). -/
def State.divertSlots (s : State) (pl : Nat) : State :=
  (s.tile pl).slots.foldl (fun t v =>
    match t.tokLayer v.tok with
    | some l => t.sendFrom (tileDie pl) (pl % 65536) (.vector v) vectorFlits l [pl]
    | none => t) (s.modTile pl fun y => { y with slots := [] })

/-- Orders of the weights that a tile is writing. -/
def Tile.ordersInJobs (x : Tile) : List (Nat × Nat) := x.jobs.filterMap fun j => if j.col < 1024 then j.order else none

/-- A tile retires (R72, R207); a reserve is marked retired in the retirement map (R220). The orders of the row in progress
wait with those not begun (R189), and the report counts what the present probe has moved (R215). -/
def State.retireTile (s : State) (t cause : Nat) : State :=
  let x := s.tile t
  let served := s.servedBy t
  let moved := fun (n : Nat) => if x.scanning then n else 0
  let s := (s.setTile t x.retire).dropRequests t
  let s := if isReserve t then s.retireReserve t else s
  match served with
  | none => s.reportRetired (s.ownerD (tileDie t / 2)) 0 t 0 cause 6 x.flagTime 0 0
  | some pl =>
    let s := s.modTile pl fun y => { y with orders := x.ordersInJobs ++ y.orders }
    (s.divertSlots pl).replaceTile pl cause x.flagTime (moved x.probeCols) (moved x.probeRows) false

/-- The reserve that serves a placement tile returns to OFF and is free again (R210). -/
def State.releaseReserve (s : State) (t : Nat) : State :=
  match (s.reserveFor t 1).orElse fun _ => s.reserveFor t 2 with
  | none => s
  | some x =>
    ((s.setRetire (tileDie x) (x % 65536 - 512 * 64) 0 0).modTile x Tile.off).dropRequests x

/-- At a milestone closure free reserves go to bypassed tiles of the same die, ascending (R210). -/
def State.reassignReserves (s : State) (d : Nat) : State :=
  (s.onBypass d).foldl (fun u t =>
    match u.freeReserve d with
    | some r => u.engageReserve t r
    | none => u) s

end Sys2Proof.Machine
end

