-- ==== Sys2Proof/Machine/Map.lean ====
section
/-! DEFINITION. MAP_LOAD: the map image, its checks and what a placement change does (R225 to R234, R252). -/

namespace Sys2Proof.Machine

open Sys2Proof

/-! ### The image (R226 to R228) -/

/-- A map image with the counts and offsets of its header. -/
structure MapImage where
  bytes : List Byte
  nl : Nat
  nt : Nat
  lo : Nat
  to_ : Nat
  merge : Bool
deriving DecidableEq, Repr

def mapImage (bs : List Byte) : MapImage :=
  ⟨bs, field bs 2 2, field bs 4 4, field bs 8 8, field bs 16 8, bit (field bs 24 1) 0⟩

/-- Bits that the header, a layer record and a tile entry define. -/
def headerFields : List (Nat × Nat) := [(0, 128), (128, 64), (192, 1)]
def recordFields : List (Nat × Nat) :=
  [(0, 64), (64, 8), (72, 5), (80, 7), (88, 8), (96, 5), (104, 7), (112, 4), (120, 8), (128, 32), (160, 17), (192, 24), (224, 16),
    (256, 256)]
def entryFields : List (Nat × Nat) := [(0, 25), (28, 4), (32, 16), (64, 24), (96, 64)]

/-- A layer record of the image: bytes, image offset, TILE_FIRST, TILE_COUNT. -/
structure MapRec where
  bytes : List Byte
  off : Nat
  first : Nat
  count : Nat
deriving DecidableEq, Repr

def MapImage.record (m : MapImage) (i : Nat) : MapRec :=
  let b := slice (m.bytes.drop (m.lo + 64 * i)) 0 64
  ⟨b, m.lo + 64 * i, field b 4 4, field b 2 2⟩
def MapImage.records (m : MapImage) : List MapRec := (List.range m.nl).map m.record
/-- The image offset of tile entry `j`. -/
def MapImage.entryOff (m : MapImage) (j : Nat) : Nat := m.to_ + 32 * j
def MapImage.entryBytes (m : MapImage) (j : Nat) : List Byte := slice (m.bytes.drop (m.entryOff j)) 0 32
/-- The entries of a record that lie in the image. -/
def MapImage.entriesOf (m : MapImage) (r : MapRec) : List Nat := (List.range (min r.count (m.nt - r.first))).map (r.first + ·)

def readEntry (b : List Byte) : TileEntry where
  tile := bits (field b 0 4) 0 19
  pos := bits (field b 0 4) 19 6
  load := bits (field b 0 4) 28 4
  chain := field b 4 2
  outBase := field b 8 3
  widths := field b 12 8

/-- A layer record's settings, without its tables. -/
def readLayer (b : List Byte) (es : List TileEntry) : Layer where
  num := field b 0 2
  chainLen := bits (field b 8 1) 0 6 + 1
  shape := bits (field b 8 1) 6 2
  a := bits (field b 9 1) 0 3 + 1
  ns := 2 ^ bits (field b 9 1) 3 2
  range := bits (field b 10 1) 0 4
  adaptive := bit (field b 10 1) 4
  nseg := 2 ^ bits (field b 10 1) 5 2
  mass := bits (field b 11 1) 0 3
  act := bits (field b 11 1) 3 2
  preload := bits (field b 11 1) 5 2
  preact := bit (field b 11 1) 7
  pool := bits (field b 12 1) 0 2
  win := 2 ^ bits (field b 12 1) 2 3
  outFmt := bits (field b 13 1) 0 3
  rot := bits (field b 13 1) 3 4
  baseDyn := bit (field b 14 1) 0
  measured := bit (field b 14 1) 1
  fineTop := bit (field b 14 1) 2
  bypass := bit (field b 14 1) 3
  staticB := field b 15 1
  seed := field b 16 4
  inputs := bits (field b 20 4) 0 17
  outputs := bits (field b 24 4) 0 24
  next := field b 28 2
  scaleAddr := field b 32 8
  biasAddr := field b 40 8
  actAddr := field b 48 8
  copyAddr := field b 56 8
  tiles := es
  scales := []
  biases := []
  actTable := []
  readBack := false

def MapImage.layer (m : MapImage) (r : MapRec) : Layer :=
  readLayer r.bytes ((m.entriesOf r).map fun j => readEntry (m.entryBytes j))

/-- A layer of the image with the place of its record. -/
structure MapLayer where
  r : MapRec
  l : Layer
deriving DecidableEq, Repr

def MapImage.layers (m : MapImage) : List MapLayer := m.records.map fun r => ⟨r, m.layer r⟩

/-! ### Reading the tables (R225, R234) -/

/-- An address aligned to a road block, in the partition's HBM (R231). -/
def tableOk (x : Part) (a n : Nat) : Bool := a % 256 == 0 && inRange x.hbmRange.1 x.hbmRange.2 a n

/-- The tables that a layer names: address and bytes. -/
def Layer.tables (l : Layer) : List (Nat × Nat) :=
  let c := max 1 l.chains
  [(l.scaleAddr, 2048 * c)] ++ (if l.preload = 1 then [(l.biasAddr, 4096 * c)] else []) ++
    (if l.act = 2 then [(l.actAddr, 528)] else [])

/-- The reads of the tables that an image names. -/
def tableReads (x : Part) (ls : List MapLayer) : List (Bool × Place × Nat) :=
  ((ls.flatMap (·.l.tables)).filter fun t => tableOk x t.1 t.2).map fun t => (false, .dev t.1, t.2)

/-- The status of the first table that cannot be read. -/
def State.tableFault (s : State) (x : Part) (ls : List MapLayer) : Option Nat :=
  (ls.flatMap (·.l.tables)).findSome? fun t => if tableOk x t.1 t.2 then s.memStatus false t.1 t.2 else none

/-- The non-zero elements of a table of `n` elements of `w` bytes. -/
def State.sparse (s : State) (a w n : Nat) : SMap Nat :=
  collect n fun i =>
    let v := leNat (memRead s.mem (a + w * i) w)
    if v = 0 then none else some (i, v)

/-- The layer with its tables as HBM holds them. -/
def State.withTables (s : State) (x : Part) (l : Layer) : Layer :=
  { l with
    scales := s.sparse l.scaleAddr 2 (1024 * l.chains)
    biases := if l.preload = 1 then s.sparse l.biasAddr 4 (1024 * l.chains) else []
    actTable := if l.act = 2 && tableOk x l.actAddr 528 then memRead s.mem l.actAddr 528 else [] }

/-! ### R230 -/

/-- Fields of a record that hold an invalid code, with their offsets. -/
def recFault (s : State) (x : Part) (m : MapImage) (earlier : List MapLayer) (ml : MapLayer) : Option Nat :=
  let l := ml.l
  let o := ml.r.off
  let es := m.entriesOf ml.r
  let badWidth := es.find? fun j => (List.range 16).any fun g => 8 < groupCode (field (m.entryBytes j) 12 8) g
  let badEntry := es.findSome? fun j => (reservedAt (m.entryBytes j) 32 entryFields).map (m.entryOff j + ·)
  let checks : List (Option Nat) := [
    if m.nt < ml.r.first + ml.r.count then some (o + 4) else none,
    if l.shape = 3 then some (o + 8) else none,
    if 11 ≤ l.range then some (o + 10) else none,
    if 5 ≤ l.mass || l.act = 3 || l.preload = 3 then some (o + 11) else none,
    if 32 ≤ l.win then some (o + 12) else none,
    if 4 ≤ l.outFmt || 7 ≤ l.rot then some (o + 13) else none,
    if ml.r.count = 0 then some (o + 2) else none,
    if l.inputs = 0 || 65536 < l.inputs then some (o + 20) else none,
    if l.outputs = 0 then some (o + 24) else none,
    badWidth.map fun j => m.entryOff j + 12,
    if l.act = 2 && tableOk x l.actAddr 528 && !actTableOk (memRead s.mem l.actAddr 528) then some (o + 48) else none,
    if l.rot != 0 && l.seed = 0 then some (o + 16) else none,
    if !l.baseDyn && l.staticB = 255 then some (o + 14) else none,
    (reservedAt ml.r.bytes 64 recordFields).map (o + ·),
    badEntry,
    if earlier.any fun e => e.l.num == l.num then some o else none]
  checks.findSome? id

/-- The first record of the image that breaks a rule of R230. -/
def recFaults (s : State) (x : Part) (m : MapImage) : List MapLayer → List MapLayer → Option Nat
  | _, [] => none
  | done, ml :: t =>
    match recFault s x m done ml with
    | some o => some o
    | none => recFaults s x m (done ++ [ml]) t

/-- Where a layer's record lies in the image; 0 for a layer that the image does not name. -/
def recOff (ls : List MapLayer) (n o : Nat) : Nat := ((ls.find? fun e => e.l.num == n).map fun e => e.r.off + o).getD 0

/-- The NEXT_LAYER links from a layer do not end within `n` layers. -/
def linksCycle (ls : List Layer) : Nat → Layer → Bool
  | 0, _ => true
  | n + 1, l =>
    if l.outFmt != 3 then false
    else match findLayer ls l.next with
      | none => false
      | some m => linksCycle ls n m

/-- The rules of R230 on the links of the resulting map. -/
def linkFault (img : List MapLayer) (ls : List Layer) : Option Nat :=
  (ls.findSome? fun l =>
    if l.outFmt != 3 then none
    else match findLayer ls l.next with
      | none => some (recOff img l.num 28)
      | some r => if r.a = 1 && l.baseDyn then some (recOff img l.num 14) else none).orElse fun _ =>
  (ls.find? fun l => linksCycle ls (ls.length + 1) l).map fun l => recOff img l.num 0

/-! ### R231 -/

/-- The tiles of a chain in position order keep to its shape. -/
def shapeOk (shape : Nat) (ts : List Nat) : Bool :=
  shape == 2 ||
    match ts with
    | [] => true
    | t :: _ =>
      let n := ts.length
      let b0 := t / 64
      let b1 := (t + n - 1) / 64
      ts == (List.range n).map (t + ·) && (if shape = 0 then b0 == b1 else b1 ≤ b0 + 1 && b0 / 24 == b1 / 24)

/-- The rules on one chain: position, die, OUT_BASE and WIDTHS, shape. -/
def chainOk (l : Layer) (c : Nat) : Bool :=
  let es := l.chain c
  es.map (·.pos) == List.range l.chainLen &&
    (match es with
      | [] => false
      | e :: _ => es.all fun f => tileDie f.tile == tileDie e.tile && f.outBase == e.outBase && f.widths == e.widths) &&
    shapeOk l.shape (es.map (·.tile % 65536))

/-- Output ranges in ascending order are contiguous from `a` to `n`. -/
def contiguous : Nat → Nat → List (Nat × Nat) → Bool
  | a, n, [] => a == n
  | a, n, (lo, hi) :: t => lo == a && contiguous hi n t

/-- The output ranges of the chains. -/
def Layer.outRanges (l : Layer) : List (Nat × Nat) :=
  collect l.chains fun c => (l.chainHead c).bind fun e =>
    let n := (runsOf e.widths).length
    if n = 0 then none else some (e.outBase, e.outBase + n)

/-- Chain count, positions, dies, uniformity, shape and outputs of a layer of the image. -/
def chainFault (m : MapImage) (ml : MapLayer) : Option Nat :=
  let l := ml.l
  let cs := (List.range l.chains).filter fun c => l.tiles.any (·.chain == c)
  if l.chainLen != l.blocks then some (ml.r.off + 8)
  else if cs.length != l.chains then
    (l.tiles.zipIdx.find? fun e => cs.length ≤ e.1.chain).map fun e => m.entryOff (ml.r.first + e.2) + 4
  else
    match cs.find? fun c => !chainOk l c with
    | some c =>
      let first := ((l.chain c)[0]?).bind fun e => (l.tiles.zipIdx.find? fun f => f.1 == e).map (·.2)
      some (m.entryOff (ml.r.first + first.getD 0))
    | none =>
      if contiguous 0 l.outputs (sortBy (fun a b => a.1 ≤ b.1) l.outRanges) then none else some ml.r.off

/-- Every TILE is a placement tile of the partition and none appears twice (R231). -/
def tileFault (x : Part) (m : MapImage) (img : List MapLayer) : List Nat → List (Layer × Nat × TileEntry) → Option Nat
  | _, [] => none
  | seen, (l, i, e) :: t =>
    if !(x.dies 0).contains (tileDie e.tile) || 512 ≤ tileBlock e.tile || seen.contains e.tile then
      some (((img.find? fun f => f.l.num == l.num).map fun f => m.entryOff (f.r.first + i)).getD 0)
    else tileFault x m img (e.tile :: seen) t

/-- All entries of a map, by layer, chain and position. -/
def mapEntries (ls : List Layer) : List (Layer × Nat × TileEntry) :=
  ls.flatMap fun l => (List.range l.chains).flatMap fun c =>
    (sortBy (fun a b => a.1.pos ≤ b.1.pos) (l.tiles.zipIdx.filter fun e => e.1.chain == c)).map fun e => (l, e.2, e.1)

/-- Each piece of `size` inputs of a receiver of `k` inputs lies within the outputs of one chain of the sender. -/
def covers (l : Layer) (k size : Nat) : Bool :=
  (List.range (ceilDiv k size)).all fun i =>
    l.outRanges.any fun r => r.1 ≤ i * size && min k (i * size + size) ≤ r.2

/-- The width of a rotation block (R135). -/
def rotWidth (rot : Nat) : Nat := 2 ^ (rot + 4)

/-- The base and rotation rules of R231. -/
def baseFault (img : List MapLayer) (ls : List Layer) : Option Nat :=
  ls.findSome? fun l =>
    let sender :=
      if l.outFmt != 3 then none
      else (findLayer ls l.next).bind fun r =>
        if !covers l r.inputs (if l.baseDyn then 1024 else 1024 / r.ns) || (r.rot != 0 && !covers l r.inputs (rotWidth r.rot)) then
          some (recOff img l.num 0)
        else none
    sender.orElse fun _ =>
      if l.rot != 0 && l.inputs % rotWidth l.rot != 0 then some (recOff img l.num 20) else none

/-- The tables and copies in use of a layer of the image (R231, R234). -/
def addrFault (x : Part) (ml : MapLayer) : Option Nat :=
  let l := ml.l
  let need := [(32, l.scaleAddr, 2048 * l.chains), (40, l.biasAddr, if l.preload = 1 then 4096 * l.chains else 0),
    (48, l.actAddr, if l.act = 2 then 528 else 0),
    (56, l.copyAddr, copyBytes * l.tiles.length + if l.measured then 2 * l.weights else 0)]
  (need.find? fun (_, a, n) => n != 0 && !tableOk x a n).map fun e => ml.r.off + e.1

/-! ### R232 and R233 -/

/-- What a placement change changes, the address of the copies apart. -/
def Layer.core (l : Layer) : (Nat × Nat × Nat × Nat) × List TileEntry :=
  ((l.shape, l.chainLen, l.inputs, l.outputs), sortBy (fun a b => a.tile ≤ b.tile) l.tiles)
def sameCore (a b : Option Layer) : Bool := a.map Layer.core == b.map Layer.core
def samePlacement (a b : Option Layer) : Bool := sameCore a b && a.map (·.copyAddr) == b.map (·.copyAddr)

/-- Numbers of the layers of either map. -/
def layerNums (a b : List Layer) : List Nat :=
  let xs := a.map (·.num)
  xs ++ (b.map (·.num)).filter fun n => !xs.contains n

/-- The first field whose change makes the placement change (R444). -/
def busyOff (m : MapImage) (img : List MapLayer) (old : List Layer) (changed : List Nat) : Nat :=
  match img.find? fun e => changed.contains e.l.num with
  | none => 0
  | some e =>
    let o := e.r.off
    match findLayer old e.l.num with
    | none => o + 8
    | some k =>
      if k.shape != e.l.shape || k.chainLen != e.l.chainLen then o + 8
      else if k.inputs != e.l.inputs then o + 20
      else if k.outputs != e.l.outputs then o + 24
      else if sameCore (some k) (some e.l) then o + 56
      else m.entryOff e.r.first

/-- A tile keeps its place: same layer, chain, position and WIDTHS (R233). -/
def keepsPlace (old : List Layer) (l : Layer) (e : TileEntry) : Bool :=
  match findEntry old e.tile with
  | some (k, _, f) => k.num == l.num && f.chain == e.chain && f.pos == e.pos && f.widths == e.widths
  | none => false

/-- Moves of copies for the tiles that keep their place: from, to, bytes. -/
def copyMoves (old new : List Layer) : List (Nat × Nat × Nat) :=
  new.flatMap fun l => l.tiles.zipIdx.flatMap fun (e, i) =>
    if !keepsPlace old l e then []
    else match findEntry old e.tile with
      | none => []
      | some (k, j, _) =>
        let n := 2 * 1024 * (runsOf e.widths).length
        [(k.narrowAddr j, l.narrowAddr i, copyBytes)] ++
          if k.measured && l.measured then [(k.measuredAddr j 0 0, l.measuredAddr i 0 0, n)] else []

/-- The bytes listed in a range, at another place. -/
def cellsMoved (m : List Host.Cell) (src dst n : Nat) : List (Nat × Byte) :=
  (m.filter fun c => src ≤ c.1 && c.1 < src + n).map fun c => (c.1 - src + dst, c.2)

/-- Moves ranges of memory, all read before any is written. -/
def moveMem (m : List Host.Cell) (ms : List (Nat × Nat × Nat)) : List Host.Cell :=
  let ms := ms.filter fun e => e.1 != e.2.1
  let cs := ms.flatMap fun e => cellsMoved m e.1 e.2.1 e.2.2
  cs.foldl (fun t c => memSet t c.1 c.2) (ms.foldl (fun t e => memZero t e.2.1 e.2.2) m)

/-- Moves ranges of device memory; whole road blocks are written, so that they lose their poison (R399). -/
def State.moveMem (s : State) (ms : List (Nat × Nat × Nat)) : State :=
  let ms := ms.filter fun e => e.1 != e.2.1
  let out := fun (a : Nat) => ms.all fun e => a < e.2.1 || e.2.1 + e.2.2 ≤ a
  { s with
    mem := Machine.moveMem s.mem ms
    raw := s.raw.filter fun c => out c.1
    poison := s.poison.filter fun e => out (e.1 * 256) }

/-- The status with which moves of copies fail (R399, R405). -/
def State.moveFault (s : State) (ms : List (Nat × Nat × Nat)) : Option (Nat × Nat × Nat) :=
  (ms.filter fun e => e.1 != e.2.1).findSome? fun e =>
    ((s.memStatus false e.1 e.2.2).orElse fun _ => s.memStatus true e.2.1 e.2.2).map fun st => (st, e.1, e.2.2)

/-- The nibbles of idle columns in the narrow copy at `a` become 0 (R53, R162). -/
def State.clearIdle (s : State) (a widths : Nat) : State :=
  let rs := runsOf widths
  let keep := fun (b : Nat) => (if (runAt rs (2 * b)).isSome then 15 else 0) + (if (runAt rs (2 * b + 1)).isSome then 240 else 0)
  let cells := s.mem.filter fun c => a ≤ c.1 && c.1 < a + copyBytes
  { s with mem := cells.foldl (fun m c => memSet m c.1 (c.2 &&& BitVec.ofNat 8 (keep ((c.1 - a) % 512)))) s.mem }

/-- Entries of the deferral list for a tile are discarded (R252). -/
def State.dropDeferred (s : State) (p t : Nat) : State :=
  let os := s.deferList p
  let left := os.filter fun o => bits o 0 19 != t
  if left.length = os.length then s else s.setDeferList p left

/-- A tile that the map placed and no longer places: OFF, or RETIRED with its reserve free again (R72, R210, R233). -/
def State.unplace (s : State) (p t : Nat) : State :=
  (((s.releaseReserve t).modTile t Tile.off).dropRequests t).dropDeferred p t

/-- What the former place asked of the tile is dropped: orders, writes, a refresh, and a scan, which is made anew (log entry 60). -/
def Tile.newPlace (t : Tile) : Tile :=
  { t with
    st := if t.st == .program || t.st == .probe then .idle else t.st
    probeReq := t.probeReq || t.st == .probe
    slots := []
    orders := []
    jobs := []
    work := []
    refresh := false
    scanning := false
    scanToll := 0
    batchToll := 0
    inexact := []
    known := []
    wasBypassed := false
    rewritten := [] }

/-- A tile powers up for its place: woken, with the trim that the start-up check recorded (R577), and its blank reference columns
to be written (R56). -/
def State.powerUp (s : State) (t : Nat) : State :=
  (s.modTile t fun y => { y with
    trim := if y.mark = 0 then y.trim else y.recTrim
    work := if y.outcome == 1 && !y.refs then allRows 4094 else y.work }).askWake t 3

/-- A tile newly placed (R233): powered up, and a retired one replaced (R220); a reserve that stands in for it, as the kept
retirement map says, powers up in its place (R206, R208). -/
def State.place (s : State) (p t : Nat) : State :=
  let s := ((s.dropDeferred p t).modTile t Tile.newPlace).dropRequests t
  let x := s.tile t
  match x.st with
  | .retired =>
    match s.reserveFor t 1, s.reserveFor t 2 with
    | some r, _ => s.powerUp r
    | none, some r => if (s.tile r).reserveProg then s else s.engageReserve t (r % 65536 - 512 * 64)
    | none, none => s.replaceTile t 0 x.flagTime 0 0 true
  | _ => s.powerUp t

/-- The layers of the resulting map: replaced in place, others kept or dropped by MODE (R225). -/
def mergeMap (merge : Bool) (old : List Layer) (new : List Layer) : List Layer :=
  if merge then
    (old.map fun l => (findLayer new l.num).getD l) ++ new.filter fun l => (findLayer old l.num).isNone
  else new

/-- A measured copy stays complete while the layer keeps all its tiles (R164, R233). -/
def keptReadBack (old : List Layer) (l : Layer) : Bool :=
  match findLayer old l.num with
  | some k => l.measured && k.measured && k.readBack && l.tiles.all fun e => keepsPlace old l e
  | none => false

/-- Tile-weight groups of the changed layers are stale (R326). -/
def Group.changed (g : Group) (ns : List Nat) : Group :=
  let first := field g.record 4 2
  let last := field g.record 6 2
  if g.used && field g.record 1 1 % 4 == 0 && ns.any fun n => first ≤ n && n ≤ last then { g with stale := true } else g

/-- The new map takes effect (R233). -/
def State.applyMap (s : State) (p : Nat) (new : List Layer) : State :=
  let old := (s.part p).layers
  let core := (layerNums old new).filter fun n => !sameCore (findLayer old n) (findLayer new n)
  let s := s.moveMem (copyMoves old new)
  let gone := (old.flatMap (·.tiles)).filter fun e => (findEntry new e.tile).isNone
  let fresh := sortBy (fun a b => a.tile ≤ b.tile)
    (new.flatMap fun l => l.tiles.filter fun e => !keepsPlace old l e)
  let s := gone.foldl (fun t e => t.unplace p e.tile) s
  let s := s.modPart p fun x => { x with
    layers := new
    groups := x.groups.map fun e => (e.1, e.2.changed core) }
  let s := fresh.foldl (fun t e => t.place p e.tile) s
  let s := (new.flatMap fun l => l.tiles.zipIdx.map fun e => (l, e.1, e.2)).foldl
    (fun t (l, e, i) => if keepsPlace old l e then t else t.clearIdle (l.narrowAddr i) e.widths) s
  -- the tiles of a layer whose BYPASS bit was set have been bypassed (R248, R285)
  ((new.filter fun l => l.bypass || (findLayer old l.num).any (·.bypass)).flatMap (·.tiles)).foldl
    (fun t e => t.modTile e.tile Tile.bypassedNow) s

/-- What MAP_LOAD answers: a status with RESULT, or the new map. -/
def State.checkMap (s : State) (p : Nat) (bs : List Byte) : (Nat × List Byte) ⊕ List Layer :=
  let x := s.part p
  let m := mapImage bs
  let form := fun (o : Nat) => Sum.inl (stMapForm, resultImage o)
  let place := fun (o : Nat) => Sum.inl (stMapPlace, resultImage o)
  if bs.length < 64 || field bs 0 2 != 1 then form 0
  else if m.nl = 0 then form 2
  else if m.lo % 64 != 0 || bs.length < m.lo + 64 * m.nl then form 8
  else if m.to_ % 32 != 0 || bs.length < m.to_ + 32 * m.nt then form 16
  else
    let img := m.layers
    match s.tableFault x img with
    | some st => .inl (st, result0)
    | none =>
      let new := mergeMap m.merge x.layers (img.map fun e =>
        let l := s.withTables x e.l
        { l with readBack := keptReadBack x.layers l })
      let formFault := ((reservedAt bs 64 headerFields).orElse fun _ => recFaults s x m [] img).orElse fun _ => linkFault img new
      match formFault with
      | some o => form o
      | none =>
        let placeFault := (((img.findSome? fun e => chainFault m e).orElse fun _ => tileFault x m img [] (mapEntries new)).orElse
          fun _ => baseFault img new).orElse fun _ => img.findSome? fun e => addrFault x e
        match placeFault with
        | some o => place o
        | none =>
          let changed := (layerNums x.layers new).filter fun n => !samePlacement (findLayer x.layers n) (findLayer new n)
          if !changed.isEmpty && x.stepOn then .inl (stMapBusy, resultImage (busyOff m img x.layers changed)) else .inr new

/-- MAP_LOAD (R225). -/
def execMapLoad (q : Nat) (r : HostReply) (s : State) : Result :=
  onRunning q 0x08 s fun run =>
    let p := s.queuePart q
    -- MAP_LOADs of several queues apply in the order in which they began (R252)
    if s.earlier p 0x08 run.work.gen fun _ => true then s else
    let n := field run.desc 32 8
    match (s.part p).reach 5 (field run.desc 24 8) n with
    | none => s.finish q stAddrRange (resultAt 24 false)
    | some pl => s.fetch q pl n r fun bs s =>
      let tables := tableReads (s.part p) (mapImage bs).layers
      match s.checkMap p bs with
      | .inl (st, res) => (s.countBad st tables).finish q st res
      | .inr new =>
        let s := s.countReads tables
        match s.moveFault (copyMoves (s.part p).layers new) with
        | some (st, a, len) => s.fail q st [(false, .dev a, len)]
        | none =>
          let moves := (copyMoves (s.part p).layers new).filter fun e => e.1 != e.2.1
          ((s.countReads (moves.map fun e => (false, .dev e.1, e.2.2))).applyMap p new).finish q stOk result0

end Sys2Proof.Machine
end

