-- ==== Sys2Proof/Machine/Tile.lean ====
section
/-! DEFINITION. One product in an array tile: latching, zero test and detour (R59 to R70, R98 to R107), sampling (R57 to R68, R84), code correction, check tap, drift accumulation, slice combine and scale (R85 to R97, R115 to R121, R181, R191 to R193), and the bypass (R211). -/

namespace Sys2Proof.Machine

open Sys2Proof

/-! ### Inputs (R59, R60) -/

/-- The magnitude that drives a row. -/
def inMag (a : Nat) (c : Byte) : Nat := min (c.toNat % 128) (inputMax a)
/-- The signed input that drives a row. -/
def inVal (a : Nat) (c : Byte) : Int := if 1 < a && 128 ≤ c.toNat then -(inMag a c : Int) else inMag a c
/-- Inputs driven at saturated magnitude. -/
def inSat (a : Nat) (codes : List Byte) : Nat := (codes.filter fun c => inputMax a < c.toNat % 128).length

/-- Input mass of segment `t` of `n` (R64, R98). -/
def segMass (a n t : Nat) (codes : List Byte) : Nat :=
  ((codes.drop (t * 1024 / n)).take (1024 / n)).foldl (fun m c => m + inMag a c) 0
/-- Input masses of the `n` segments. -/
def segMasses (a n : Nat) (codes : List Byte) : List Nat := (List.range n).map fun t => segMass a n t codes

/-- The detour condition fails at `n` segments (R103). -/
def overLimit (l : Layer) (n : Nat) (codes : List Byte) : Bool :=
  511 * 2 ^ (l.range + l.mass) < 3 * (segMasses l.a n codes).foldl max 0

/-- The detour, at most `k` splits from `n` segments (R103). -/
def detour (l : Layer) (codes : List Byte) : Nat → Nat → Nat
  | 0, n => n
  | k + 1, n => if n < l.nseg && overLimit l n codes then detour l codes k (2 * n) else n

/-- Segments of a product (R99 to R103). -/
def segments (l : Layer) (codes : List Byte) : Nat := if l.adaptive then detour l codes 3 l.ns else max l.nseg l.ns

/-- The scale shift of logical row `i` (R100). -/
def shiftAt (l : Layer) (v : Vec) (i : Nat) : Nat := v.shifts.getD (i * l.ns / 1024) 0
/-- The shift of segment `t` of `n`. -/
def segShift (l : Layer) (v : Vec) (n t : Nat) : Nat := shiftAt l v (t * 1024 / n)

/-! ### Latching -/

/-- A sleeping tile that has not asked to wake. -/
def Tile.dormant (x : Tile) : Bool := x.st == .sleep && !x.waking && x.wake == 0

/-- The row drivers hold a vector whose segments are not all sampled (R66). -/
def Tile.driving (t : Tile) : Bool := t.prods.any fun p => !p.todo.isEmpty
/-- The vectors that wait at tile `t` for its row drivers: those of the position that it serves (R66, R208). -/
def State.slotsOf (s : State) (t : Nat) : List Vec :=
  match s.role t with
  | some (_, _, _, e) => if s.physTile e.tile = t then (s.tile e.tile).slots else []
  | none => []
/-- Input vectors held at a tile (R81). -/
def State.held (s : State) (t : Nat) : Nat := min 2 ((s.slotsOf t).length + b2n (s.tile t).driving)
/-- The edge unit of a closing tile has room for the outputs of one more product: it holds those of two at most, from the latch
until they have left for the roads (R243). -/
def State.outRoom (s : State) (l : Layer) (e : TileEntry) : Bool :=
  e.pos + 1 != l.chainLen ||
    (let ph := s.physTile e.tile
    (s.tile ph).prods.length + ((s.tile e.tile).partials.filter fun x => x.pos + 1 == l.chainLen).length +
      (s.road (tileDie ph)).leaving (ph % 65536) < 2)
/-- The tile can latch a vector now (R66, R76, R243). -/
def State.mayLatch (s : State) (l : Layer) (e : TileEntry) : Bool :=
  let x := s.tile (s.physTile e.tile)
  (x.st == .idle || x.st == .active) && !x.driving && s.outRoom l e
/-- Vectors that a position's tile can still take: two at most, one of them in the row drivers (R66). -/
def State.slotRoom (s : State) (l : Layer) (e : TileEntry) : Nat :=
  (if s.mayLatch l e then 2 else 1) - (s.tile e.tile).slots.length

/-- A tile in IDLE that holds no vector (R76). -/
def State.quiet (s : State) (t : Nat) : Bool :=
  (s.tile t).st == .idle && (s.slotsOf t).isEmpty && (s.tile t).prods.isEmpty

/-- A tile that holds no vector any longer is idle; a pending retirement follows (R72, R220). -/
def State.settleTile (s : State) (t : Nat) : State :=
  let x := s.tile t
  if (x.st == .active || x.st == .idle && x.retireReq) && x.prods.isEmpty && (s.slotsOf t).isEmpty then
    let u := s.setTile t { x with st := .idle }
    if x.retireReq then u.retireTile t 6 else u
  else s

/-- A due refresh has come to its time (R185): the partition has entered the backward phase since, or it is urgent and URGENT_EN is
1. That of a tile whose layer runs on the bypass by BYPASS 1 never begins, since such tiles are not woken (R248: DESIGN CHOICE,
log entry 119). -/
def State.refreshDue (s : State) (t : Nat) : Bool :=
  let x := s.tile t
  match s.role t with
  | none => false
  | some (_, l, _, _) =>
    x.due.isSome && x.mark == 0 && !l.bypass && x.st != .retired && !x.refresh &&
      ((x.urgent && s.regf 0 (tileDie t) 0x7C 1 1 == 1) || x.ready)
/-- It may begin now: the tile is idle and holds no vector, or sleeps (R76, R489). -/
def State.refreshMay (s : State) (t : Nat) : Bool := s.refreshDue t && (s.quiet t || (s.tile t).dormant)

/-- Counts of a latched vector: IN_SAT, DETOURS, EXHAUSTED (R60, R95, R103). -/
def State.countLatch (s : State) (t : Nat) (l : Layer) (v : Vec) : State :=
  let d := tileDie t
  let i := t % 65536
  let n := segments l v.codes
  let s := s.count 0 d 0x48 8 (inSat l.a v.codes) i
  if !l.adaptive then s
  else
    let s := s.count 0 d 0x50 0 (b2n (l.ns < n)) i
    s.count 0 d 0x50 16 (b2n (overLimit l n v.codes)) i

/-- Asks the toll of the segment at the head of a product's list (R481, R486). -/
def State.askSegment (s : State) (t : Nat) (l : Layer) (load : Nat) (p : Prod) : State :=
  match p.todo with
  | [] => s
  | g :: _ => s.askToll t (segmentToll (segMass l.a p.n g p.vec.codes) load) false

/-- Index of a column's item in calibration classes 0 and 1 (R475). -/
def adcIndex (t j : Nat) : Nat := t % 65536 * 2048 + j
/-- The user corrections of a tile's columns (R475, R477). -/
def State.adcUser (s : State) (t : Nat) : SMap Int :=
  let mine := fun (cls k : Nat) => calKey 0 (tileDie t) cls (adcIndex t 0) ≤ k && k < calKey 0 (tileDie t) cls (adcIndex t 2047) + 1
  s.calUser.filter fun e => mine 0 e.1 || mine 1 e.1

/-- The product of a vector as it is latched. -/
def newProd (l : Layer) (v : Vec) (tau : Nat) (user : SMap Int) : Prod :=
  let n := segments l v.codes
  let todo := (List.range n).filter fun g => segMass l.a n g v.codes != 0
  ⟨v, tau, n, todo, if todo.isEmpty then 0 else 1, [], user⟩

/-- A vector enters the row drivers of an idle or active tile. -/
def State.latch (s : State) (t : Nat) (l : Layer) (load : Nat) (v : Vec) : State :=
  let x := s.tile t
  let p := newProd l v x.trim ((s.asBegan v.tok.q).adcUser t)
  ((s.countLatch t l v).modTile t fun y => { y with st := .active, prods := y.prods ++ [p] }).askSegment t l load p

/-! ### Sampling (R57, R58, R61 to R63, R67, R84) -/

/-- Adds to a table of integers. -/
def addAt (m : SMap Int) (k : Nat) (v : Int) : SMap Int := tset 0 m k (tget 0 m k + v)

/-- The difference of a pair's conductances. -/
def Cell.diff (c : Cell) : Int := (c.gp : Int) - c.gm

/-- Integrated sums by logical column, in 1/6400 unit products: every cell of a driven row, and the analogue deviations. -/
def Tile.charges (x : Tile) (l : Layer) (v : Vec) (n g : Nat) (dev : List (Nat × Int)) : SMap Int :=
  let input := fun (i : Nat) => inVal l.a (v.codes.getD i 0)
  let whole := (collect 1024 fun i => if i * n / 1024 = g then some (input i) else none).sum
  let base := (List.range 32).foldl (fun m k => addAt m (1088 + k) (whole * (x.cellBase (1088 + k)).diff)) []
  let ideal := x.cells.foldl (fun m c =>
    match x.lrow (c.1 / 1152) with
    | some i => if i * n / 1024 = g then addAt m (c.1 % 1152) (input i * (c.2.diff - (x.cellBase (c.1 % 1152)).diff)) else m
    | none => m) base
  dev.foldl (fun m e => if e.1 < 1152 then addAt m e.1 e.2 else m) ideal

/-- Analogue units of a unit product. -/
def anUnit : Nat := 6400

/-- A raw ADC code: the converter's transfer (R84) seen through its factory gain and offset, which R85 undoes. -/
def rawCode (k : Nat) (gain off sum : Int) : Int :=
  let den := (anUnit * 2 ^ k : Nat) * (16384 + gain)
  let num := sum * 16384
  clampI (-512) 511 (roundAway (16 * num + off * den) (16 * den).toNat)

/-- The corrected code of a raw one (R85). -/
def corrected (gain off raw : Int) : Int := clampI (-511) 511 (roundAway ((16 * raw - off) * (16384 + gain)) (16 * 16384))


/-- The raw codes of one segment, columns that read 0 left out. -/
def State.sample (s : State) (t : Nat) (l : Layer) (v : Vec) (n g : Nat) (dev : List (Nat × Int)) : SMap Int :=
  let sums := (s.tile t).charges l v n g dev
  collect 1152 fun j =>
    let key := fun (cls : Nat) => tget 0 s.calFactory (calKey 0 (tileDie t) cls (adcIndex t j))
    let r := rawCode l.range (key 0) (key 1) (tget 0 sums j)
    if r = 0 then none else some (j, r)

/-- A sample goes into a free bank; with both taken the older one's conversion has ended (R67). -/
def Tile.takeBank (x : Tile) : Tile :=
  if !x.bankA then { x with bankA := true, lastB := false }
  else if !x.bankB then { x with bankB := true, lastB := true }
  else { x with lastB := !x.lastB }

/-! ### The edge unit, stages 1 to 5 -/

/-- The corrected code of a column in one segment. -/
def State.code (s : State) (t : Nat) (user : SMap Int) (j : Nat) (raw : SMap Int) : Int :=
  let item := fun (cls : Nat) =>
    let k := calKey 0 (tileDie t) cls (adcIndex t j)
    tget 0 s.calFactory k + tget 0 user k
  corrected (item 0) (item 1) (tget 0 raw j)

/-- Stage 3 of one logical column: V in unit products, and the number of clipped conversions (R89, R116). -/
def State.stage3 (s : State) (t : Nat) (l : Layer) (p : Prod) (j : Nat) : Int × Nat :=
  p.codes.foldl (fun a e =>
    let c := s.code t p.user j e.2
    (a.1 + c * 2 ^ (segShift l p.vec p.n e.1 + l.range), a.2 + b2n (c.natAbs == 511))) (0, 0)

/-- A product's stage 3 results: data columns, check columns as 4g + j, reference columns. -/
structure Columns where
  data : List (Int × Nat)
  chk : List (Int × Nat)
  refs : List (Int × Nat)
deriving DecidableEq, Repr

def State.columns (s : State) (t : Nat) (l : Layer) (p : Prod) : Columns :=
  let x := s.tile t
  ⟨(List.range 1024).map fun c => s.stage3 t l p (x.dcol c),
   (List.range 64).map fun k => s.stage3 t l p (x.ccol (k / 4) (k % 4)),
   (List.range 32).map fun k => s.stage3 t l p (1088 + k)⟩

/-- Clips of the data, check and reference class; idle columns are not counted (R90). -/
def Columns.clips (c : Columns) (rs : List Run) : Nat × Nat × Nat :=
  ((c.data.zipIdx.map fun e => if (runAt rs e.2).isSome then e.1.2 else 0).sum, (c.chk.map (·.2)).sum, (c.refs.map (·.2)).sum)

/-- The tolerance of the check comparison (R191), by the settings of the product's descriptor (R18). -/
def State.checkTol (s : State) (d : Nat) (l : Layer) (p : Prod) : Int :=
  let s := s.asBegan p.vec.tok.q
  let steps := s.regf 0 d 0x88 0 8
  let mass := s.regf 0 d 0x88 8 8
  (p.codes.map fun e => 2 ^ segShift l p.vec p.n e.1 *
    (steps * 2 ^ l.range + mass * segMass l.a p.n e.1 p.vec.codes / 64)).sum

/-- The comparison of check group `g`: none where R192 leaves it out, otherwise whether the group disagrees. The codes of idle
columns are discarded (R53, R115). -/
def Columns.compare (c : Columns) (rs : List Run) (tol : Int) (g : Nat) : Option Bool :=
  let ds := (((c.data.zipIdx.drop (64 * g)).take 64).filter fun e => (runAt rs e.2).isSome).map (·.1)
  let ks := (c.chk.drop (4 * g)).take 4
  if (ds ++ ks).any fun e => e.2 != 0 then none
  else
    let sum := (ds.map (·.1)).sum
    let chk := (ks.zipIdx.map fun e => e.1.1 * 4 ^ e.2).sum
    some (decide (tol < (chk - sum).natAbs))

/-- The rule of N disagreements in M comparisons for one group: the tables, and the groups that flagged (R193). -/
def checkStep (n m : Nat) (st : SMap Check × List Nat) (g : Nat) (r : Option Bool) : SMap Check × List Nat :=
  match r with
  | none => st
  | some bad =>
    let c := tget ⟨0, 0⟩ st.1 g
    let c : Check := ⟨c.m + 1, c.n + b2n bad⟩
    if n ≤ c.n then ([], st.2 ++ [g]) else if m ≤ c.m then (tdel st.1 g, st.2) else (tput st.1 g c, st.2)

/-- All comparisons of a product. -/
def State.checkTap (s : State) (t : Nat) (l : Layer) (rs : List Run) (p : Prod) (c : Columns) : SMap Check × List Nat :=
  let s := s.asBegan p.vec.tok.q
  let d := tileDie t
  let n := max 1 (s.regf 0 d 0x88 16 8)
  let m := max n (max 1 (s.regf 0 d 0x8C 0 16))
  if p.codes.isEmpty then ((s.tile t).checks, [])
  else (List.range 16).foldl (fun st g => checkStep n m st g (c.compare rs (s.checkTol d l p) g)) ((s.tile t).checks, [])

/-- A flag: CHECK_FLAG, and diagnosis where ACTION asks for it and no power-on mark stands (R193, R194, R577). -/
def State.flag (s : State) (p t num g : Nat) : State :=
  let x := s.tile t
  let diagnose := s.regf 0 (tileDie t) 0x88 24 1 == 1 && x.mark == 0
  if x.st == .probe then s
  else
    ((s.count 0 (tileDie t) 0x98 24 1 (t % 65536)).modTile t fun y => { y with
      flagged := y.flagged || diagnose
      flagTime := if y.flagged then y.flagTime else s.ltime }).raiseM p evCheckFlag [(24, 2, num)] [(32, 4, t), (36, 1, g)]

/-- The ideal sum of one unit digit over the driven rows (R181). -/
def idealUnit (l : Layer) (p : Prod) : Int :=
  (p.vec.codes.zipIdx.map fun e => inVal l.a e.1 * 2 ^ shiftAt l p.vec e.2).sum

/-- Adds an integer to a binary64 accumulator. -/
def acc64 (a : Word64) (i : Int) : Word64 := add64 a (r64 (flInt i))

/-- Drift accumulation of one product over the usable reference columns (R92, R181, R200). -/
def Tile.drift (x : Tile) (l : Layer) (p : Prod) (refs : List (Int × Nat)) : Tile :=
  let ux := idealUnit l p
  if (ux.natAbs : Nat) < 64 * 2 ^ l.range || p.codes.isEmpty then x
  else
    let ok := refs.zipIdx.filter fun e => e.1.2 == 0 && !x.refExcl.contains (1088 + e.2)
    let y := ok.foldl (fun (y : Tile) e =>
      let d := refDigit (1088 + e.2)
      if d = 0 then { y with aZero := acc64 y.aZero e.1.1.natAbs }
      else { y with
        aIdeal := acc64 y.aIdeal (d.natAbs * ux.natAbs : Nat)
        aMeas := acc64 y.aMeas (e.1.1 * (d * ux).sign) }) x
    { y with driftN := y.driftN + 1 }

/-- Slice combine: the exact sum saturated (R119). -/
def combine (vs : List Int) : Int × Bool :=
  let i := digitsValue vs
  let j := clampI (-(2 ^ 31 - 1)) (2 ^ 31 - 1) i
  (j, i != j)

/-- The column factor of a scale and a trim (R120). -/
def colFactor (sigma : Nat) (tau : Nat) : Word := r32 ((Machine.decode fmt16 sigma).mul (.fin false tau (-14)))

/-- Stage 6 (R120): a zero column scale gives exactly +0. -/
def scaleOut (sigma tau : Nat) (i : Int) (b : Nat) : Word :=
  if (Machine.decode fmt16 sigma).isZero then 0
  else r32 ((f32 (mul32 (int32 i) (colFactor sigma tau))).scale ((b : Int) - 127))

/-- Stages 5 and 6 of every run: outputs, and the number of saturations (R117, R119, R120). -/
def Layer.outputsOf (l : Layer) (e : TileEntry) (data : List (Int × Nat)) (tau b : Nat) : List (OutVal × Bool) :=
  (runsOf e.widths).zipIdx.map fun (r, k) =>
    let ds := (data.drop r.col).take r.s
    let i := combine (ds.map (·.1))
    (⟨e.outBase + k, scaleOut (tget 0 l.scales (e.chain * 1024 + r.col)) tau i.1 b, i.2 || ds.any fun d => d.2 != 0⟩, i.2)

/-! ### The bypass (R211) -/

/-- The exact integer of a run over the target digits of the narrow copy. -/
def State.bypassSum (s : State) (l : Layer) (a : Nat) (v : Vec) (r : Run) : Int :=
  (v.codes.zipIdx.map fun (c, i) =>
    let x := inVal l.a c
    if x = 0 then 0 else x * 2 ^ shiftAt l v i * s.heldWeight a i r).sum

/-! ### The engine of bypass work (R253, R274, R277) -/

/-- Matrix engines of a gradient die, in clusters of 4 (R253). -/
def engineCount : Nat := 32
/-- Engines reserved for bypass work, from engine 31 downward (R277). -/
def State.reservedEngines (s : State) (d : Nat) : Nat := min 4 (s.regf 1 d 0x140 0 3)
/-- Wide totals that an accumulator store holds (R253). -/
def storeTotals : Nat := 4096

/-- The engine that bypass work takes: a free reserved one, the highest first; with none, the first engine of the group that ends an
output tile next (R274, R281). Bypass work takes no time in the model, so every reserved engine is free when it comes, and of the
groups that hold tiles, which all end them together, it takes the first (log entry 101). -/
def State.bypassEngine (s : State) (d : Nat) : Nat :=
  if s.reservedEngines d = 0 then 0 else engineCount - 1

/-- The engine's accumulator store holds the exact 64-bit sums of its latest bypassed product, run by run (R274). -/
def GradDie.keepSums (g : GradDie) (engine : Nat) (sums : List Int) : GradDie :=
  let others := g.accs.filter fun e => e.1 / storeTotals != engine
  { g with accs := sums.zipIdx.foldl (fun m e => tset 0 m (engine * storeTotals + e.2) (BitVec.ofInt 64 e.1)) others }
def State.keepSums (s : State) (l : Layer) (i : Nat) (e : TileEntry) (v : Vec) : State :=
  let d := tileDie e.tile
  s.setGrad d ((s.grad d).keepSums (s.bypassEngine d) ((runsOf e.widths).map (s.bypassSum l (l.narrowAddr i) v)))

/-- The bypassed tiles whose narrow copies stand in the slab: the 64 lowest of the die (R212); they are held equal to the copies in
HBM, which the model reads (DESIGN CHOICE, log entry 101). -/
def State.slabHeld (s : State) (d : Nat) : List Nat := (sortBy (fun a b => a ≤ b) (s.bypassedTiles d)).take 64
/-- The narrow copies that a descriptor reads from HBM for the bypassed positions of some layers (R212). -/
def State.bypassReads (s : State) (ls : List Layer) : List (Bool × Place × Nat) :=
  ls.flatMap fun l => (l.tiles.zipIdx.filter fun e =>
    s.bypassed l e.1.tile && !(s.slabHeld (tileDie e.1.tile)).contains e.1.tile).map fun e => (false, .dev (l.narrowAddr e.2), copyBytes)

/-- A bypassed position's outputs: τ is 1.0 and nothing is marked as clipped. -/
def State.bypassOut (s : State) (l : Layer) (i : Nat) (e : TileEntry) (v : Vec) : List OutVal :=
  (runsOf e.widths).zipIdx.map fun (r, k) =>
    ⟨e.outBase + k, scaleOut (tget 0 l.scales (e.chain * 1024 + r.col)) 0x4000 (s.bypassSum l (l.narrowAddr i) v r) v.b, false⟩

end Sys2Proof.Machine
end

