-- ==== Sys2Proof/Machine/Forward.lean ====
section
/-! DEFINITION. FORWARD and DISPATCH, and how their products pass the roads, tiles, chains and closing tiles: R113, R114, R122 to R138, R235 to R250, R460, R604 to R607. -/

namespace Sys2Proof.Machine

open Sys2Proof

/-! ### Routes of a descriptor -/

/-- Products to a pooling window (R130). -/
def Layer.window (l : Layer) : Nat := if l.pool = 0 then 1 else l.win

/-- The layers that products pass from a named layer on: OUTFMT 3 leads to NEXT_LAYER (R134). -/
def routeFrom (ls : List Layer) : Nat → Nat → List Layer
  | 0, _ => []
  | n + 1, num =>
    match findLayer ls num with
    | none => []
    | some l => l :: (if l.outFmt = 3 then routeFrom ls n l.next else [])
def Work.route (w : Work) (root : Nat) : List Layer := routeFrom w.layers w.layers.length root

/-- Products of layer `num` on a route whose first layer has `n`. -/
def prodCount (num : Nat) : List Layer → Nat → Nat
  | [], n => n
  | l :: t, n => if l.num = num then n else prodCount num t (ceilDiv n l.window)
/-- Result rows of a route whose first layer has `n` products. -/
def rowCount : List Layer → Nat → Nat
  | [], n => n
  | l :: t, n => rowCount t (ceilDiv n l.window)

/-- Products of a named layer in the descriptor: `todo` lists root × 2^32 + number. -/
def Work.rootCount (w : Work) (root : Nat) : Nat :=
  ((w.todo.find? fun e => e / 2 ^ 32 == root).map (· % 2 ^ 32)).getD 0

/-- The format that a layer's results leave in. -/
def Layer.fmt (l : Layer) : TFmt := if l.outFmt = 0 then .f32 else if l.outFmt = 1 then .bf16 else .e4m3
/-- Bytes of a result row, an FP8 row counting one byte per output (R246, R460). -/
def Layer.rowBytes (l : Layer) : Nat := l.outputs * l.fmt.size

/-! ### Results (R134, R246, R460, R604 to R607) -/

/-- The running FORWARD or DISPATCH of a queue. -/
def State.runningProduct (s : State) (q : Nat) : Option Running := (s.runningOp q 0x10).orElse fun _ => s.runningOp q 0x11
/-- The DST field of a FORWARD or DISPATCH. -/
def productDst (d : List Byte) : Nat := if dOpcode d = 0x10 then field d 40 8 else field d 48 8

/-- Counts saturations and non-finite values of outputs on the closing tile of a chain (R141, R606). -/
def State.countEdge (s : State) (l : Layer) (c sat nonfin : Nat) : State :=
  match l.closing c with
  | none => s
  | some e =>
    let t := s.physTile e.tile
    (s.count 0 (tileDie t) 0x58 0 sat (t % 65536)).count 0 (tileDie t) 0x58 16 nonfin (t % 65536)

/-- Counts of a result row: by chain, or by FP8 block, whose gradient die counts it when several chains supply it (R607). -/
def State.countRow (s : State) (l : Layer) (vs : List Word) : State :=
  if l.fmt.blocked then
    (chunk 32 vs).zipIdx.foldl (fun t (b, j) =>
      let c := convBlock false b
      match l.chainOf (32 * j) with
      | none => t
      | some (ch, k) =>
        if k + b.length ≤ (l.chainRuns ch).length then t.countEdge l ch c.sat c.nonfin
        else match l.closing ch with
          | none => t
          | some e => (t.count 1 (tileDie e.tile) 0x144 24 c.sat).count 1 (tileDie e.tile) 0x148 0 c.nonfin) s
  else
    (List.range l.chains).foldl (fun t ch =>
      match l.chainHead ch with
      | none => t
      | some e =>
        let c := convRow l.fmt ((vs.drop e.outBase).take (runsOf e.widths).length)
        t.countEdge l ch c.sat c.nonfin) s

/-- The writes of a result row to DST at `a`, for a stride in bytes and the descriptor's number of rows; the scale part begins
at the first road-block boundary at or after the element part (R604). -/
def resultWrites (l : Layer) (a rows stride r : Nat) (vs : List Word) : List (Nat × List Byte) :=
  let c := convRow l.fmt vs
  if l.fmt.blocked then [(a + r * stride, c.elems), (roadUp (a + rows * stride) + r * ceilDiv stride 32, c.scales)]
  else [(a + r * stride, c.elems)]

/-- RESULT of FORWARD and DISPATCH (R444). -/
def productResult (w : Work) : List Byte :=
  natLe 4 (min w.clips (2 ^ 32 - 1)) ++ natLe 4 (min w.bypassed (2 ^ 32 - 1)) ++ natLe 1 w.slotState ++ List.replicate 7 0

/-- Closing tiles of the layers of a descriptor, each with its layer. -/
def Work.closers (w : Work) : List (Layer × Nat) :=
  let ls := (w.todo.flatMap fun e => w.route (e / 2 ^ 32)).eraseDups
  ls.flatMap fun l => (List.range l.chains).filterMap fun c => (l.closing c).map fun e => (l, e.tile)

/-- At completion each closing tile that closed a product sends its norm accumulator to its die's collector and clears it
(R132). -/
def State.collectNorms (s : State) (w : Work) : State :=
  w.closers.foldl (fun t (l, tile) =>
    match (t.tile tile).normAcc with
    | none => t
    | some a =>
      let g := t.grad (tileDie tile)
      let sum := add32 ((tget none g.collector l.num).getD 0) a
      (t.setGrad (tileDie tile) { g with collector := tput g.collector l.num (some sum) }).modTile tile
        fun y => { y with normAcc := none }) s

/-- What a position keeps of the products of queue `q` is gone. -/
def Tile.dropProducts (y : Tile) (q : Nat) : Tile :=
  { y with
    slots := y.slots.filter (·.tok.q != q)
    pieces := y.pieces.filter (·.vec.tok.q != q)
    partials := y.partials.filter (·.tok.q != q)
    chain := y.chain.filter (·.tok.q != q)
    sums := y.sums.filter (·.tok.q != q)
    pool := y.pool.filter (·.q != q) }

/-- A FORWARD or DISPATCH that has begun its products completes, well or not: the norm accumulators are sent (R132), its pooling
windows end (R130), what is left of its products is discarded, and RESULT carries its counts (R93, R444). -/
def State.endProducts (s : State) (q st : Nat) : State :=
  match s.runningProduct q with
  | none => s
  | some r =>
    let s := if dPhase r.desc = 1 then s.collectNorms r.work else s
    let s := { s with
      tiles := s.tiles.map fun (e : Nat × Tile) => (e.1, e.2.dropProducts q)
      roads := s.roads.map fun (e : Nat × Road) => (e.1, e.2.drop fun k => k.q == q) }
    ((s.tiles.map (·.1)).foldl (fun t x => t.settleTile x) s).finish q st (productResult r.work)

/-- The descriptor completes once every result row is written. -/
def State.finishProducts (s : State) (q : Nat) : State :=
  match s.runningProduct q with
  | none => s
  | some r => if r.work.started && r.work.rows.isEmpty then s.endProducts q stOk else s

/-- A result row that is complete goes to DST (R246, R460). -/
def State.writeRow (s : State) (q row : Nat) (l : Layer) (r : Running) (vs : List Word) : State :=
  let w := ((s.queue q).running.map (·.work)).getD r.work
  let p := s.queuePart q
  match Machine.place (productDst r.desc) with
  | some (.dev a) =>
    let ws := resultWrites l a w.n2 w.n1 row vs
    match ws.findSome? fun e => s.memStatus true e.1 e.2.length with
    | some st => s.endProducts q st
    | none =>
      let t := ((s.writeAll p (.dev 0) ws).countRow l vs).modWork q fun w => { w with
        rows := w.rows.filter (· != row)
        buf := w.buf.filter fun e => e.1 / 2 ^ 24 != row }
      t.finishProducts q
  | _ => s.finish q stAddrRange (resultAt 40 false)

/-- Outputs of a closing tile join their result row. -/
def State.putOutputs (s : State) (k : Token) (l : Layer) (vals : List OutVal) : State :=
  match s.runningProduct k.q with
  | none => s
  | some r =>
    let s := s.modWork k.q fun w => { w with
      buf := vals.foldl (fun m v => tput m (k.row * 2 ^ 24 + v.out) (some (v.val, v.clip))) w.buf }
    let w := ((s.queue k.q).running.map (·.work)).getD r.work
    let vs := (List.range l.outputs).map fun o => tget none w.buf (k.row * 2 ^ 24 + o)
    if vs.all (·.isSome) then s.writeRow k.q k.row l r (vs.map fun v => (v.map (·.1)).getD 0) else s

/-! ### Stages 7 to 13 -/

/-- Chain combine in road order, with the OR of the clip marks (R117, R122, R235). -/
def chainCombine : List (List OutVal) → List OutVal
  | [] => []
  | v :: t => t.foldl (fun a b => List.zipWith (fun x y => ⟨x.out, add32 x.val y.val, x.clip || y.clip⟩) a b) v

/-- The larger of two values; +0 is larger than −0, and NaN stays NaN (R131). -/
def max32 (a b : Word) : Word :=
  let x := f32 a
  let y := f32 b
  if x.isNan || y.isNan then nan32
  else if x.lt y then b else if y.lt x then a else if x.isZero && x.sign then b else a

/-- Adds a product to a pooling window (R131). -/
def poolAdd (mode : Nat) (acc v : List OutVal) : List OutVal :=
  if acc.isEmpty then v
  else List.zipWith (fun x y => ⟨x.out, if mode = 3 then max32 x.val y.val else add32 x.val y.val, x.clip || y.clip⟩) acc v

/-- Ends a window of `n` products (R131). -/
def poolEnd (mode n : Nat) (acc : List OutVal) : List OutVal :=
  if mode = 2 then
    acc.map fun v => { v with
      val := if 2 ^ Nat.log2 n = n then r32 ((f32 v.val).scale (-(Nat.log2 n : Int))) else div32 v.val (int32 n) }
  else acc

/-- Stage 8: the preload (R123). -/
def preloadOf (l : Layer) (e : TileEntry) (res : Option Residual) (v : OutVal) : Word :=
  match l.preload with
  | 0 => 0
  | 1 => ((runsOf e.widths)[v.out - e.outBase]?).elim 0 fun r => l.biasOf e.chain r.col
  | _ => (res.map fun r => r.vals.getD v.out 0).getD 0

/-- A closing tile's square sum over a product's outputs, in output order (R132). -/
def normAdd (acc : Word) (vs : List OutVal) : Word := vs.foldl (fun a v => add32 a (mul32 v.val v.val)) acc

/-- Merges input codes that lie in different rows. -/
def mergeCodes : List Byte → List Byte → List Byte
  | [], b => b
  | a, [] => a
  | x :: a, y :: b => (x ||| y) :: mergeCodes a b

/-- The input codes of block `j` of the receiver `m` that a chain's outputs supply: codes, base, shifts, counts (R137, R138). -/
def pieceOf (l m : Layer) (first j : Nat) (v : List Word) : Option Quant :=
  let lo := max first (1024 * j)
  let hi := min (first + v.length) (min (1024 * (j + 1)) m.inputs)
  if lo < hi then
    let vs := (v.drop (lo - first)).take (hi - lo)
    some (quantise m.a m.ns (if l.baseDyn then none else some l.staticB)
      (vs.zipIdx.map fun e => (lo - 1024 * j + e.2, e.1)))
  else none

/-- Codes with zeros for the rows before the first. -/
def denseCodes (cs : List (Nat × Nat)) : List Byte :=
  match cs with
  | [] => []
  | (r, _) :: _ => List.replicate r 0 ++ cs.map fun c => BitVec.ofNat 8 c.2

/-- Pieces that block `j` of a receiver takes from the chains of a sender. -/
def piecesWanted (l m : Layer) (j : Nat) : Nat :=
  (l.outRanges.filter fun r => max r.1 (1024 * j) < min r.2 (min (1024 * (j + 1)) m.inputs)).length

/-- A piece leaves the closing tile at endpoint `e` of die `d` for the receiver's positions: once along each road of its own
die, and for those on other dies over the nearer bridge to the gradient die that passes it on (R244, R250). -/
def State.sendPiece (s : State) (d e : Nat) (byp : Bool) (piece : Piece) (size : Nat) (m : Layer) (pls : List Nat) : State :=
  let mine := pls.filter fun pl => tileDie pl == d
  let s := if byp then s.sendDown d (.piece piece) size m mine else s.sendFrom d e (.piece piece) size m mine
  let far := pls.filter fun pl => tileDie pl != d
  let groups := fun (pls : List Nat) => ((pls.map tileDie).eraseDups).map fun r => (r, pls.filter fun pl => tileDie pl == r)
  -- a die of the same quadrant is reached through its own gradient die, any other through the sender's
  let near := groups (far.filter fun pl => tileDie pl / 2 == d / 2)
  let wide := groups (far.filter fun pl => tileDie pl / 2 != d / 2)
  let out := fun (s : State) (g : Nat) (on : List (Nat × List Nat)) =>
    if on.isEmpty then s
    else if byp then
      s.setRoad d { s.road d with due := (s.road d).due ++ [(dstCode (bridgeEnd 0) 0, ⟨2, size, [], .piece piece, on⟩)] }
    else s.setRoad d ((s.road d).send e (.piece piece) size [dstCode (bridgeEnd (bridgeFor d g (endBlock e))) 0] on)
  out (out s (4 * (d / 2) + 1 - d) near) d wide

/-- Stages 12 and 13 toward tiles: rotation, input codes, and a piece to every chain of the receiver at each position (R135,
R137, R244). -/
def State.sendPieces (s : State) (l m : Layer) (k : Token) (d from_ : Nat) (byp : Bool) (chain first : Nat) (vals : List OutVal) :
    State :=
  let v := rotate m.rot m.seed first ((vals.map (·.val)).take (m.inputs - first))
  (List.range m.blocks).foldl (fun t j =>
    match pieceOf l m first j v with
    | none => t
    | some c =>
      let piece : Piece := ⟨⟨k, denseCodes c.codes, c.b, c.shifts⟩, piecesWanted l m j, false⟩
      (t.countEdge l chain c.sat c.nonfin).sendPiece d from_ byp piece (dataFlits c.codes.length) m
        ((m.tiles.filter fun e => e.pos == j).map (·.tile))) s

/-- The first product of a pooling window, numbered as its descriptor numbers results: window by window for FORWARD (R460), the
first entry's row for DISPATCH (R246). -/
def windowToken (op : Nat) (l : Layer) (first : Token) : Token :=
  { first with row := if op = 0x10 then first.idx / l.window else first.row, idx := first.idx / l.window }

/-- The pre-activation copy of a product (R129), in BF16, whose finite values that overflow are counted (R134, R606). A descriptor
names one stash address; the model writes the copy of the layer that it names, and none for a layer reached through NEXT_LAYER
(DESIGN CHOICE, log entry 114). -/
def State.preactCopy (s : State) (k : Token) (l : Layer) (chain : Nat) (vs : List OutVal) : State :=
  match s.runningProduct k.q with
  | none => s
  | some r =>
    if l.preact && k.layer == k.root && r.work.n0 != 0 then
      match vs with
      | [] => s
      | v :: _ =>
        let c := convRow .bf16 (vs.map (·.val))
        (s.writeMem (r.work.n0 - 1 + 2 * (k.idx * l.outputs + v.out)) c.elems).countEdge l chain c.sat 0
    else s

/-- The record of a product's descriptor and layer. -/
def PoolAcc.of (a : PoolAcc) (k : Token) : Bool := a.q == k.q && a.gen == k.gen && a.root == k.root && a.layer == k.layer

/-- Results of a closing position for the destination: over the nearer bridge to the die's own gradient die, which writes them
(R250; log entry 113); a position on the bypass is there already. -/
def State.sendResult (s : State) (pl from_ : Nat) (byp : Bool) (l : Layer) (k : Token) (vals : List OutVal) : State :=
  let d := tileDie pl
  let size := dataFlits (vals.length * l.fmt.size)
  let dst := dstCode (bridgeEnd (bridgeFor d d (endBlock from_))) pl
  if byp then s.setRoad d { s.road d with due := (s.road d).due ++ [(dst, ⟨2, size, [], .result k vals, []⟩)] }
  else s.setRoad d ((s.road d).send from_ (.result k vals) size [dst] [])

/-- Stages 8 to 13 of a product in the closing tile of placement `pl` (R113). -/
def State.closeProduct (s : State) (pl : Nat) (l : Layer) (e : TileEntry) (k : Token) (sum : List OutVal)
    (res : Option Residual) : State :=
  let r := s.runningProduct k.q
  let op := (r.map fun r => dOpcode r.desc).getD 0x10
  let count := (r.map fun r => prodCount k.layer (r.work.route k.root) (r.work.rootCount k.root)).getD 0
  let pre := sum.map fun v => { v with val := add32 v.val (preloadOf l e res v) }
  let s := s.preactCopy k l e.chain pre
  let out := pre.map fun v => { v with val := activate l.act l.actTable v.val }
  let x := s.tile pl
  let old := (x.pool.find? (·.of k)).getD ⟨k.q, k.gen, k.root, k.layer, 0, k, []⟩
  let acc := poolAdd l.pool old.vals out
  let first := if old.vals.isEmpty then k else old.first
  let ends := (k.idx + 1) % l.window == 0 || k.idx + 1 == count
  let vals := poolEnd l.pool (k.idx % l.window + 1) acc
  let s := s.setTile pl { x with
    pool := ⟨k.q, k.gen, k.root, k.layer, k.idx + 1, first, if ends then [] else acc⟩ :: x.pool.filter fun a => !a.of k
    partials := x.partials.filter fun a => a.tok != k
    sums := x.sums.filter fun a => a.tok != k
    residuals := match res with | some y => removeFirst y x.residuals | none => x.residuals
    normAcc := if ends && ((r.map fun r => dPhase r.desc == 1).getD false) then some (normAdd (x.normAcc.getD 0) vals)
      else x.normAcc }
  if !ends then s
  else
    let w := windowToken op l first
    -- the tile that serves the position sends; on the bypass its own place among the junctions stands for it
    let from_ := s.physTile pl % 65536
    if l.outFmt = 3 then
      match (r.bind fun r => findLayer r.work.layers l.next) with
      | none => s
      | some m => s.sendPieces l m { w with layer := m.num } (tileDie pl) from_ (s.bypassed l pl) e.chain e.outBase vals
    else s.sendResult pl from_ (s.bypassed l pl) l w vals

/-- Tokens of one descriptor and layer. -/
def Token.stream (a b : Token) : Bool := a.q == b.q && a.gen == b.gen && a.root == b.root && a.layer == b.layer

/-- The next product that a closing tile may close: the first in order of which it has its own outputs, once the partials of
the other positions have been added, and the residual where one is preloaded is there (R69, R122, R124, R236). -/
def State.readyProduct (s : State) (pl : Nat) : Option (Layer × TileEntry × Token × List OutVal × Option Residual) :=
  let x := s.tile pl
  x.partials.findSome? fun a =>
    match s.tokLayer a.tok with
    | none => none
    | some l =>
      let next := ((x.pool.find? (·.of a.tok)).map (·.next)).getD 0
      if !a.got || a.pos + 1 != l.chainLen || a.tok.idx != next then none
      else
        match l.entryOf pl with
        | none => none
        | some (_, e) =>
          let above :=
            if l.chainLen = 1 then some []
            else (x.sums.find? fun c => c.tok == a.tok && c.next == a.pos).map fun c => [c.vals]
          match above with
          | none => none
          | some ps =>
            let sum := chainCombine (ps ++ [a.vals])
            if l.preload = 2 then
              (x.residuals.find? fun y => y.seq == a.tok.seq).map fun y => (l, e, a.tok, sum, some y)
            else some (l, e, a.tok, sum, none)

/-- Closes products in order until one has to wait. -/
def State.closeAll : Nat → Nat → State → State
  | 0, _, s => s
  | n + 1, pl, s =>
    match s.readyProduct pl with
    | none => s
    | some (l, e, k, sum, res) => State.closeAll n pl (s.closeProduct pl l e k sum res)

/-! ### Partial packets (R235, R236, R238) -/

/-- The closing tile adds a packet that continues a product's sum (R236). -/
def Tile.addPartial (y : Tile) (a : Partial) : Option Tile :=
  let c := (y.sums.find? fun c => c.tok == a.tok).getD ⟨a.tok, 0, []⟩
  if c.next = a.pos then
    some { y with
      sums := ⟨a.tok, a.pos + 1, if a.pos = 0 then a.vals else chainCombine [c.vals, a.vals]⟩ :: y.sums.filter fun c => c.tok != a.tok
      partials := y.partials.filter fun b => b != a }
  else none

/-- The packet that position `j` sends on next is this one: the packets of positions 0 to j of each product in order, the
products in the order of their vectors (R236). -/
def Tile.sendsNext (y : Tile) (a : Partial) : Bool :=
  let c := (y.chain.find? fun c => c.tok.stream a.tok).getD ⟨a.tok, 0, 0⟩
  a.got && a.tok.idx == c.idx && a.pos == c.pos

/-- A packet has left position `j`. -/
def Tile.sent (y : Tile) (j : Nat) (a : Partial) : Tile :=
  { y with
    partials := y.partials.filter fun b => b != a
    chain := (if a.pos = j then ⟨a.tok, a.tok.idx + 1, 0⟩ else ⟨a.tok, a.tok.idx, a.pos + 1⟩) ::
      y.chain.filter fun c => !c.tok.stream a.tok }

/-- The chain link joins two positions: neighbours of one block in a chain of shape 0 or 1, each on its placement tile (R235,
R238). -/
def State.linked (s : State) (l : Layer) (a b : Nat) : Bool :=
  l.shape != 2 && b == a + 1 && a / 64 == b / 64 && !s.bypassed l a && !s.bypassed l b && s.physTile a == a && s.physTile b == b

/-- A packet travels from a position to the next one: by the chain link, or by the roads, from the tile that serves the position
or from the bypass (R235, R238). -/
def State.sendPartial (s : State) (l : Layer) (e f : TileEntry) (a : Partial) : State :=
  let a := { a with got := false }
  let d := tileDie e.tile
  let size := partialFlits (runsOf e.widths).length
  if s.linked l e.tile f.tile then s.modTile f.tile fun y => { y with partials := y.partials ++ [a] }
  else if s.bypassed l e.tile then s.sendDown d (.packet a) size l [f.tile]
  else s.sendFrom d (s.physTile e.tile % 65536) (.packet a) size l [f.tile]

/-- The next packet of a position moves on: to the next position, or into a sum of the closing tile. -/
def State.forwardOne (s : State) (pl : Nat) : Option State :=
  let y := s.tile pl
  y.partials.findSome? fun a =>
    match (s.tokLayer a.tok).bind fun l => (l.entryOf pl).map fun e => (l, e.2) with
    | none => if a.got then some (s.setTile pl { y with partials := y.partials.filter fun b => b != a }) else none
    | some (l, e) =>
      if e.pos + 1 = l.chainLen then
        if a.got && a.pos != e.pos then (y.addPartial a).map (s.setTile pl) else none
      else if y.sendsNext a then
        match l.tiles.find? fun f => f.chain == e.chain && f.pos == e.pos + 1 with
        | none => none
        | some f => some ((s.setTile pl (y.sent e.pos a)).sendPartial l e f a)
      else none

def State.forwardAll : Nat → Nat → State → State
  | 0, _, s => s
  | n + 1, pl, s =>
    match s.forwardOne pl with
    | none => s
    | some t => State.forwardAll n pl t

/-- Everything that a position can send on or close. -/
def State.advance (s : State) (pl : Nat) : State :=
  let n := (s.tile pl).partials.length + 1
  State.closeAll n pl (State.forwardAll n pl s)

/-- A position has the outputs of a product: they take their turn behind the packets of the positions before it (R114, R236). -/
def State.deliver (s : State) (e : TileEntry) (k : Token) (vals : List OutVal) : State :=
  (s.modTile e.tile fun y => { y with partials := y.partials ++ [⟨k, e.pos, true, vals⟩] }).advance e.tile

/-! ### What arrives over the roads -/

/-- A vector of a bypassed position (R211, R249). -/
def State.runBypass (s : State) (l : Layer) (i : Nat) (e : TileEntry) (v : Vec) : State :=
  (((s.keepSums l i e v).modWork v.tok.q fun w => { w with bypassed := w.bypassed + 1 }).modTile e.tile
    Tile.bypassedNow).deliver e v.tok (s.bypassOut l i e v)

/-- A vector waits at its tile, which it wakes from SLEEP, or from OFF once its power-up has lapsed (R66, R72, R74, R208). -/
def State.takeVector (s : State) (e : TileEntry) (v : Vec) : State :=
  let s := s.modTile e.tile fun y => { y with slots := y.slots ++ [v] }
  let t := s.physTile e.tile
  match (s.tile t).st with
  | .sleep => s.askWake t 1
  | .off => s.askWake t 3
  | _ => s

/-- The pieces of one product that have been taken, if they are all there (R244). -/
def Tile.wholeVector (y : Tile) (l : Layer) (a : Piece) : Option Vec :=
  let mine := y.pieces.filter fun b => b.got && b.vec.tok == a.vec.tok
  if mine.length < a.want then none
  else some ⟨a.vec.tok, mine.foldl (fun c b => mergeCodes c b.vec.codes) [], a.vec.b,
    mine.foldl (fun sh b => List.zipWith max sh b.vec.shifts) (List.replicate l.ns 0)⟩

/-- The first vector of a position whose pieces are complete. -/
def State.assembled (s : State) (pl : Nat) : Option (Layer × Nat × TileEntry × Vec) :=
  (s.tile pl).pieces.findSome? fun a =>
    match s.tokLayer a.vec.tok with
    | none => none
    | some l => if !a.got then none else (l.entryOf pl).bind fun e => ((s.tile pl).wholeVector l a).map fun v => (l, e.1, e.2, v)

/-- Assembled vectors take the places that are free at the tile, or go to the bypass (R66, R244, R249). -/
def State.assemble : Nat → Nat → State → State
  | 0, _, s => s
  | n + 1, pl, s =>
    match s.assembled pl with
    | none => s
    | some (l, i, e, v) =>
      let t := s.modTile pl fun y => { y with pieces := y.pieces.filter fun b => b.vec.tok != v.tok }
      if s.bypassed l pl then State.assemble n pl (t.runBypass l i e v)
      else if s.slotRoom l e = 0 then s
      else State.assemble n pl (t.takeVector e v)

/-- A piece has been taken by a position. -/
def State.takePiece (s : State) (pl : Nat) (a : Piece) : State :=
  let s := s.modTile pl fun y => { y with pieces := y.pieces ++ [{ a with got := true }] }
  State.assemble ((s.tile pl).pieces.length) pl s

/-- What a gradient die passes on to other array dies: the quadrant links, then the nearer of bridges 0 and 1 (R244). -/
def State.goOn (s : State) (d : Nat) (p : RoadPkt) : State :=
  match s.tokLayer p.cargo.tok with
  | none => s
  | some l => p.onward.foldl (fun t (r, pls) =>
      let quads := (s.part (s.ownerD (d / 2))).quads
      if (quadPath quads (d / 2) (r / 2)).all quads.contains then t.sendDown r p.cargo p.size l pls else t) s

/-- A packet at an endpoint of die `d`. One whose position has moved meanwhile goes on to where it now is (R249). -/
def State.arrive (s : State) (d dst : Nat) (p : RoadPkt) : State :=
  let e := dst / 65536
  if !p.onward.isEmpty then s.goOn d p
  else
    match s.tokLayer p.cargo.tok with
    | none => s
    | some l =>
      let pl := d * 65536 + dst % 65536
      match p.cargo with
      | .result k vals => s.putOutputs k l vals
      | c =>
        let byp := s.bypassed l pl
        match l.entryOf pl with
        | none => s
        | some (i, f) =>
          if byp && !isBridge e then s.sendFrom d e c p.size l [pl]
          else if !byp && isBridge e then s.sendDown d c p.size l [pl]
          else if !byp && e != s.physTile pl % 65536 then s.sendFrom d e c p.size l [pl]
          else
            match c with
            | .vector v => if byp then s.runBypass l i f v else s.takeVector f v
            | .piece a => if byp then s.takePiece pl a else s.modTile pl fun y => { y with pieces := y.pieces ++ [{ a with got := false }] }
            | .packet a =>
              let t := s.modTile pl fun y => { y with partials := y.partials ++ [{ a with got := byp }] }
              if byp then t.advance pl else t
            | .result _ _ => s

/-- Vectors of a packet that a destination can take: any number where they do not stay (R241, R249). -/
def State.roomFor (s : State) (d : Nat) (p : RoadPkt) (dst : Nat) : Nat :=
  let pl := d * 65536 + dst % 65536
  let any := s.road d |>.next
  match s.tokLayer p.cargo.tok with
  | none => any + 1
  | some l =>
    if isBridge (dst / 65536) || s.bypassed l pl || dst / 65536 != s.physTile pl % 65536 then any + 1
    else ((l.entryOf pl).map fun e => s.slotRoom l e.2).getD (any + 1)

/-- The roads of every die run until something arrives or nothing moves. -/
def State.rollRoads (s : State) : State :=
  (List.range 8).foldl (fun t d =>
    let r := t.road d
    if r.pkts.isEmpty then t else t.setRoad d (r.run (t.roomFor d) r.fuel)) s

/-- What has arrived over the roads of die `d` is taken. -/
def State.takeDue (s : State) (d : Nat) : State :=
  let r := s.road d
  if r.due.isEmpty then s else r.due.foldl (fun t e => t.arrive d e.1 e.2) (s.setRoad d { r with due := [] })

/-- The roads run until nothing arrives any more. -/
def State.runRoads : Nat → State → State
  | 0, s => s
  | n + 1, s =>
    let t := s.rollRoads
    if (List.range 8).all fun d => (t.road d).due.isEmpty then t
    else State.runRoads n ((List.range 8).foldl (fun u d => u.takeDue d) t)

/-- The roads run until every packet that can move has arrived; they take no time in the model (log entry 113). -/
def State.settleRoads (s : State) : State := State.runRoads (2 ^ 20) s

/-! ### FORWARD and DISPATCH -/

/-- A row of the source as its gradient die sends it: codes and scale words by block (R138, R294). -/
structure SrcRow where
  codes : List Byte
  words : List Nat
deriving DecidableEq, Repr

/-- Reads codes and their scale words. -/
def codeRow (l : Layer) (codes words : List Byte) : SrcRow := ⟨slice codes 0 l.inputs, wordsOf 4 l.blocks words⟩

/-- Quantises a row for its layer: rotated, and per 1,024-input block with a dynamic base, or b = 127 at a = 1 (R138). The spec
names no counter for what saturates or is not finite here, and the model counts nothing (DESIGN CHOICE, log entry 115). -/
def quantRow (l : Layer) (vs : List Word) : SrcRow :=
  let bs := (chunk 1024 (rotate l.rot l.seed 0 vs)).map fun b =>
    quantise l.a l.ns (if l.a = 1 then some 127 else none) (b.zipIdx.map fun e => (e.2, e.1))
  ⟨bs.flatMap fun c => c.codes.map fun x => BitVec.ofNat 8 x.2, bs.map fun c => scaleWord c.b c.shifts⟩

/-- Bytes of an element of SRC_FMT 1 and 2. -/
def srcSize (fmt : Nat) : Nat := if fmt = 1 then 4 else 2
/-- Elements of a row of binary32 or BF16. -/
def srcElems (fmt n : Nat) (bs : List Byte) : List Word :=
  if fmt = 1 then words32 n bs else (wordsOf 2 n bs).map fun v => r32 (Machine.decode fmtBf16 v)

/-- The vector of block `j` of a row. -/
def SrcRow.vec (r : SrcRow) (l : Layer) (k : Token) (j : Nat) : Vec :=
  let w := r.words.getD j 0
  ⟨k, (r.codes.drop (1024 * j)).take 1024, w % 256, (List.range l.ns).map fun t => bits w (8 + 2 * t) 2⟩

/-- Sends a row to every chain position of its layer, each gradient die to those on its own array die (R245, R460). -/
def State.sendRow (s : State) (l : Layer) (k : Token) (r : SrcRow) : State :=
  (List.range l.blocks).foldl (fun t j =>
    let pls := (l.tiles.filter fun e => e.pos == j).map (·.tile)
    ((pls.map tileDie).eraseDups).foldl (fun t d =>
      t.sendDown d (.vector (r.vec l k j)) vectorFlits l (pls.filter fun pl => tileDie pl == d)) t) s

/-- The stash slots of a forward descriptor: refused with a status, or placed with the address and state of each (R294, R296,
R298). -/
def State.productSlots (s : State) (p phase slot len : Nat) (ckpt : Bool) (pre preLen : Nat) :
    Nat ⊕ (State × Nat × Option Nat × Option Nat) :=
  let one : Nat ⊕ (State × Nat × Option Nat) :=
    if slot = 0xFFFF then .inr (s, 0, none)
    else match s.allocSlot p slot len phase ckpt with
      | .refused st => .inl st
      | .placed t st a => .inr (t, st, a)
  match one with
  | .inl st => .inl st
  | .inr (t, st, a) =>
    if pre = 0xFFFF then .inr (t, st, a, none)
    else match t.allocSlot p pre preLen phase false with
      | .refused e => .inl e
      | .placed u _ b => .inr (u, st, a, b)

/-- The slots that have an address. -/
def placed (slots : List (Option Nat × Nat)) : List (Nat × Nat) := slots.filterMap fun e => e.1.map fun a => (a, e.2)
/-- The stash slots of a descriptor can be written; else it ends before they are taken (R405, R410). -/
def State.slotsWritable (s : State) (q : Nat) (slots : List (Option Nat × Nat)) (k : State → State) : State :=
  s.access q ((placed slots).map fun e => (true, .dev e.1, e.2)) k

/-- The rows of a descriptor with their tokens, ready to send; `areas` are the ranges it works on, `n1` is the stride in bytes and `n2` the rows of DST. -/
def State.launch (s : State) (q : Nat) (rows : List (Layer × Token × SrcRow)) (roots out : List Nat)
    (stride total st : Nat) (slotAt pre : Option Nat) (areas : List (Nat × Nat)) : State :=
  let data := (rows.flatMap fun r => r.2.2.codes) ++ rows.flatMap fun r => r.2.2.words.flatMap (natLe 4)
  let s := match slotAt with
    | some a => s.writeMem a data
    | none => s
  let s := s.modWork q fun w => { w with
    started := true
    rows := out
    todo := roots
    n0 := (pre.map (· + 1)).getD 0
    n1 := stride
    n2 := total
    slotState := st
    areas := areas }
  ((rows.foldl (fun t r => t.sendRow r.1 r.2.1 r.2.2) s).finishProducts q).settleRoads

/-- Bytes of an FP8 or plain result area at `a` (R604). -/
def resultBytes (a rows stride : Nat) (fp8 : Bool) : Nat :=
  if fp8 then roadUp (a + rows * stride) - a + rows * ceilDiv stride 32 else rows * stride

/-- FORWARD's own checks and its start (R460). -/
def State.startForward (s : State) (q : Nat) (run : Running) : State :=
  let d := run.desc
  let p := s.queuePart q
  let x := s.part p
  let fmt := bits (field d 54 1) 0 2
  let n := field d 28 3 + 1
  match findLayer run.work.layers (field d 24 2) with
  | none => if fmt = 3 then s.finish q stOpForm (resultAt 54 false) else s.finish q stMapAbsent result0
  | some l =>
    let route := run.work.route l.num
    let out := rowCount route n
    let last := route.getLastD l
    let stride := last.rowBytes
    let srcLen := if fmt = 0 then n * (l.inputs + 4 * l.blocks) else n * l.inputs * srcSize fmt
    let a := field d 32 8
    let b := field d 40 8
    let dstLen := resultBytes b out stride last.fmt.blocked
    match firstFail [formIf (fmt == 3) 54 false, x.badRange [(a, 1, srcLen, 32, false), (b, 1, dstLen, 40, false)]] with
    | some (st, res) => s.finish q st res
    | none =>
      s.access q ([(false, .dev a, srcLen), (true, .dev b, dstLen)] ++ s.bypassReads route) fun s =>
        let pre := if l.preact then field d 52 2 else 0xFFFF
        let slotLen := n * (l.inputs + 4 * l.blocks)
        let preLen := 2 * n * l.outputs
        match s.productSlots p (dPhase d) (field d 26 2) slotLen (dFlag d 0) pre preLen with
        | .inl st => s.fail q st [(false, .dev (s.dirAddr p (field d 26 2)), 16), (false, .dev (s.dirAddr p pre), 16)]
        | .inr (t, st, slotAt, preAt) => s.slotsWritable q [(slotAt, slotLen), (preAt, preLen)] fun _ =>
          let t := if preAt.isSome then t.noteSlot p pre 1 n l.outputs else t
          let rows := (List.range n).map fun i =>
            let k : Token := ⟨q, run.work.gen, l.num, l.num, i, i, BitVec.ofNat 32 (field d 48 4 + i)⟩
            let r := if fmt = 0 then
                codeRow l (memRead s.mem (a + i * l.inputs) l.inputs)
                  (memRead s.mem (a + n * l.inputs + 4 * l.blocks * i) (4 * l.blocks))
              else quantRow l (srcElems fmt l.inputs (memRead s.mem (a + i * l.inputs * srcSize fmt) (l.inputs * srcSize fmt)))
            (l, k, r)
          t.launch q rows [l.num * 2 ^ 32 + n] (List.range out) stride out st slotAt preAt
            ([(a, srcLen), (b, dstLen)] ++ placed [(slotAt, slotLen), (preAt, preLen)])

/-- FORWARD (R460): its first step; the tile commands carry its products on. -/
def execForward (q : Nat) (s : State) : Result :=
  onRunning q 0x10 s fun run => if run.work.started then s else s.startForward q run

/-- A dispatch list entry (R245). -/
structure DispEntry where
  seq : Nat
  layer : Nat
  src : Nat
deriving DecidableEq, Repr
def dispEntry (b : List Byte) : DispEntry := ⟨field b 0 4, field b 4 2, field b 6 2⟩

/-- Bytes that a row of a layer needs (R247). -/
def needRow (l : Layer) (fmt : Nat) : Nat := if fmt = 0 then l.inputs + 4 * l.blocks else l.inputs * srcSize fmt

/-- The first entry that fails R247. -/
def dispFault (ls : List Layer) (fmt rows rowBytes : Nat) : List DispEntry → Option (Nat × List Byte)
  | [] => none
  | e :: t =>
    match findLayer ls e.layer with
    | none => some (stMapAbsent, result0)
    | some l =>
      if rows ≤ e.src then some (stMapAbsent, result0)
      else if rowBytes < needRow l fmt then some (stOpForm, resultAt 60 false)
      else dispFault ls fmt rows rowBytes t

/-- The entries with their layers and their number among the layer's own entries (R130). -/
def dispTokens (ls : List Layer) (q gen : Nat) (es : List DispEntry) : List (Layer × DispEntry × Token) :=
  es.zipIdx.filterMap fun (e, i) => (findLayer ls e.layer).map fun l =>
    (l, e, ⟨q, gen, l.num, l.num, ((es.take i).filter fun f => f.layer == e.layer).length, i, BitVec.ofNat 32 e.seq⟩)

/-- Every `w`th element. -/
def everyNth {α : Type} (w : Nat) (xs : List α) : List α := (chunk w xs).filterMap List.head?
/-- Destination rows that the entries of one layer lead to (R130, R246). -/
def dispRows (route : List Layer) (rows : List Nat) : List Nat := route.foldl (fun r l => everyNth l.window r) rows

/-- DISPATCH's own checks and its start (R245 to R247). -/
def State.startDispatch (s : State) (q : Nat) (run : Running) : State :=
  let d := run.desc
  let p := s.queuePart q
  let x := s.part p
  let fmt := bits (field d 58 1) 0 2
  let n := field d 32 4
  let ls := run.work.layers
  let list := field d 24 8
  match firstFail [formIf (fmt == 3) 58 false, x.badRange [(list, 1, 8 * n, 24, false)],
      (s.placeStatus false (.dev list) (8 * n)).map fun st => (st, result0)] with
  | some (st, res) => (s.countBad st [(false, .dev list, 8 * n)]).finish q st res
  | none =>
    let es := (List.range n).map fun i => dispEntry (memRead s.mem (list + 8 * i) 8)
    let rowBytes := field d 60 4
    let srcLen := field d 36 4 * rowBytes
    let a := field d 40 8
    let b := field d 48 8
    match dispFault ls fmt (field d 36 4) rowBytes es with
    | some (st, res) => s.finish q st res
    | none =>
      let toks := dispTokens ls q run.work.gen es
      let nums := (es.map (·.layer)).eraseDups
      let lasts := nums.filterMap fun m => (run.work.route m).getLast?
      let stride := (lasts.map Layer.rowBytes).foldl max 0
      let dstLen := resultBytes b n stride (lasts.any fun l => l.fmt.blocked)
      match x.badRange [(a, 1, srcLen, 40, false), (b, 1, dstLen, 48, false)] with
      | some (st, res) => s.finish q st res
      | none =>
        let reads := s.bypassReads ((nums.flatMap run.work.route).eraseDups)
        s.access q ([(false, .dev list, 8 * n), (false, .dev a, srcLen), (true, .dev b, dstLen)] ++ reads) fun s =>
          let len := (toks.map fun e => e.1.inputs + 4 * e.1.blocks).sum
          match s.productSlots p (dPhase d) (field d 56 2) len (dFlag d 0) 0xFFFF 0 with
          | .inl st => s.fail q st [(false, .dev (s.dirAddr p (field d 56 2)), 16)]
          | .inr (t, st, slotAt, _) => s.slotsWritable q [(slotAt, len)] fun _ =>
            let rows := toks.map fun (l, e, k) =>
              let base := a + e.src * rowBytes
              let r := if fmt = 0 then codeRow l (memRead s.mem base l.inputs) (memRead s.mem (base + l.inputs) (4 * l.blocks))
                else quantRow l (srcElems fmt l.inputs (memRead s.mem base (l.inputs * srcSize fmt)))
              (l, k, r)
            let roots := nums.map fun m => m * 2 ^ 32 + (es.filter fun e => e.layer == m).length
            let out := nums.flatMap fun m =>
              dispRows (run.work.route m) ((toks.filter fun e => e.1.num == m).map fun e => e.2.2.row)
            t.launch q rows roots out stride n st slotAt none ([(a, srcLen), (b, dstLen)] ++ placed [(slotAt, len)])

/-- DISPATCH (R245): its first step. -/
def execDispatch (q : Nat) (s : State) : Result :=
  onRunning q 0x11 s fun run => if run.work.started then s else s.startDispatch q run

/-! ### Tile commands -/

/-- The vector that waits longest at a position leaves its place. -/
def State.popSlot (s : State) (pl : Nat) : State := s.modTile pl fun y => { y with slots := y.slots.drop 1 }

/-- VECTOR_LATCH (R64 to R66, R74, R76, R243): the vector that waits longest at tile `t` enters the row drivers; what waits for
its place follows. -/
def execVectorLatch (t : Nat) (s : State) : Result :=
  onTile t (
    match s.role t with
    | none => .next s
    | some (_, _, _, e) =>
      let pl := e.tile
      let follow := fun (u : State) => (State.assemble ((u.tile pl).pieces.length) pl u).settleRoads.settleTile t
      match (s.slotsOf t).head? with
      | none => .next s
      | some v =>
        match s.tokLayer v.tok with
        | none => .next (follow (s.popSlot pl))
        | some l => if s.mayLatch l e then .next (follow ((s.popSlot pl).latch t l e.load v)) else .next s)

/-- Replaces the product whose segments are being sampled. -/
def Tile.modDriving (x : Tile) (f : Prod → Prod) : Tile := { x with prods := updateFirst (fun p => !p.todo.isEmpty) f x.prods }

/-- SEGMENT_SAMPLE (R63, R67, R84): the integration window of the next segment, whose toll is paid, ends; all columns are
sampled. -/
def execSegmentSample (t : Nat) (dev : List (Nat × Int)) (s : State) : Result :=
  onTile t (
    match (s.tile t).prods.find? fun p => !p.todo.isEmpty with
    | none => .next s
    | some p =>
      match s.tokLayer p.vec.tok, p.todo with
      | some l, g :: rest =>
        if p.toll != 2 then .next s
        else
          let codes := s.sample t l p.vec p.n g dev
          let p' : Prod := { p with todo := rest, toll := if rest.isEmpty then 0 else 1, codes := p.codes ++ [(g, codes)] }
          let load := ((s.role t).map fun r => r.2.2.2.load).getD 15
          .next ((s.modTile t fun y => (y.takeBank).modDriving fun _ => p').askSegment t l load p')
      | _, _ => .next ((s.modTile t fun y => y.modDriving fun p => { p with todo := [], toll := 0 }).dropRequests t))

/-- Banks that hold a sample once the oldest product's last codes have passed (R67). -/
def Tile.freeBanks (x : Tile) : Tile :=
  match (x.prods.map fun p => p.codes.length).sum with
  | 0 => { x with bankA := false, bankB := false }
  | 1 => { x with bankA := !x.lastB, bankB := x.lastB }
  | _ => x

/-- Stages 1 to 6 of a product, with its counts, check tap and drift accumulation (R113). -/
def State.edgeStages (s : State) (p t : Nat) (l : Layer) (e : TileEntry) (x : Prod) : State × List OutVal :=
  let c := s.columns t l x
  let n := c.clips (runsOf e.widths)
  let d := tileDie t
  let i := t % 65536
  let outs := l.outputsOf e c.data x.tau x.vec.b
  let tap := s.checkTap t l (runsOf e.widths) x c
  let s := ((((s.count 0 d 0x4C 0 n.1 i).count 0 d 0x4C 16 n.2.1 i).count 0 d 0x4C 24 n.2.2 i).count 0 d 0x54 0 n.1).count
    0 d 0x58 8 (outs.filter (·.2)).length i
  let s := s.modWork x.vec.tok.q fun w => { w with clips := w.clips + n.1 }
  let s := s.modTile t fun y => { y.drift l x c.refs with checks := tap.1 }
  (tap.2.foldl (fun u g => u.flag p t l.num g) s, outs.map (·.1))

/-- EDGE_PIPELINE (R113): the oldest product whose segments are all converted passes the edge unit. -/
def execEdgePipeline (t : Nat) (s : State) : Result :=
  onTile t (
    match (s.tile t).prods with
    | [] => .next s
    | x :: rest =>
      if !x.todo.isEmpty then .next s
      else
        let pop := fun (u : State) => (u.modTile t fun y => Tile.freeBanks { y with prods := rest }).settleTile t
        match s.tokLayer x.vec.tok, s.role t with
        | some l, some (p, _, _, e) =>
          let (u, outs) := s.edgeStages p t l e x
          .next ((pop u).deliver e x.vec.tok outs).settleRoads
        | _, _ => .next (pop s).settleRoads)

/-- PARTIAL_PACKET (R236, R238): the packet that reached the tile first is taken; it is forwarded in its turn, or added by the
closing tile. -/
def execPartialPacket (t : Nat) (s : State) : Result :=
  onTile t (
    match s.role t with
    | none => .next s
    | some (_, _, _, e) =>
      match (s.tile e.tile).partials.find? fun a => !a.got with
      | none => .next s
      | some a =>
        let s := s.modTile e.tile fun y => { y with partials := removeFirst a y.partials ++ [{ a with got := true }] }
        .next (s.advance e.tile).settleRoads)

/-- RESIDUAL_ARRIVAL (R124): the residual vector of a token, by layer output, releases the product that waits for it. -/
def execResidualArrival (t : Nat) (seq : Word) (values : List Word) (s : State) : Result :=
  onTile t (
    match s.role t with
    | none => .next s
    | some (_, _, _, e) =>
      .next ((s.modTile e.tile fun y => { y with residuals := y.residuals ++ [⟨seq, values⟩] }).advance e.tile).settleRoads)

/-- INPUT_PIECE_ARRIVAL (R244): the piece that reached the tile first is taken; once every piece of its vector is there, the
vector is whole. -/
def execInputPieceArrival (t : Nat) (s : State) : Result :=
  onTile t (
    match s.role t with
    | none => .next s
    | some (_, _, _, e) =>
      match (s.tile e.tile).pieces.find? fun a => !a.got with
      | none => .next s
      | some a =>
        let u := s.modTile e.tile fun y => { y with pieces := removeFirst a y.pieces }
        .next (if (s.tokLayer a.vec.tok).isSome then u.takePiece e.tile a else u).settleRoads)

/-- A tile has nothing to do (R72); a refresh that has fallen due and may begin is work (R75). -/
def State.tileFree (s : State) (t : Nat) : Bool :=
  let x := s.tile t
  let j := ((s.role t).map fun r => (s.tile r.2.2.2.tile).orders.isEmpty).getD true
  s.quiet t && j && !x.programWork && !x.flagged && !x.probeReq && !x.retireReq && !s.refreshMay t

/-- IDLE_TIMEOUT (R72, R75, R79): a tile idle for IDLE_TO µs sleeps when SLEEP_EN is 1; an arrival wins. -/
def execIdleTimeout (t : Nat) (s : State) : Result :=
  onTile t (
    let d := tileDie t
    if s.tileFree t && s.regf 0 d 0x40 0 16 != 0 && s.regf 0 d 0x40 16 1 == 1 then
      .next (s.modTile t fun y => { y with st := .sleep })
    else .next s)

/-- TILE_WAKE_DONE (R72, R74): an admitted tile reaches IDLE. It enters PROGRAM where reference columns, a reserve's weights or
orders are to be written and no vector waits at it (R56, R76, R207). -/
def execTileWakeDone (t : Nat) (s : State) : Result :=
  onTile t (
    let x := s.tile t
    if x.waking && (x.st == .sleep || x.st == .off) then
      let work := x.programWork || ((s.role t).map fun r => !(s.tile r.2.2.2.tile).orders.isEmpty).getD false
      .next (s.setTile t { x with
        st := if work && (s.slotsOf t).isEmpty then .program else .idle
        waking := false }).settleRoads
    else .next s)

end Sys2Proof.Machine
end

