-- ==== Sys2Proof/Machine/Program.lean ====
section
/-! DEFINITION. Program orders and the writing of cells: PROGRAM and PROGRAM_BATCH (R144 to R149, R152 to R173, R189). -/

namespace Sys2Proof.Machine

open Sys2Proof

/-! ### Orders (R144, R146) -/

def oTile (o : Nat) : Nat := bits o 0 19
def oRow (o : Nat) : Nat := bits o 19 11
def oCol (o : Nat) : Nat := bits o 30 11
def oValue (o : Nat) : Int := signed 9 (bits o 41 9)
def oWidth (o : Nat) : Nat := bits o 50 3 + 1
def oInit (o : Nat) : Bool := bit o 53
def oForce (o : Nat) : Bool := bit o 54
def oMtag (o : Nat) : Nat := bits o 55 8
/-- The weight that an order names. -/
def oWeight (o : Nat) : Nat := bits o 0 41

/-- A value that a width can hold (R51). -/
def inRangeW (w : Nat) (v : Int) : Bool := decide (v.natAbs ≤ weightMax w) && !(w == 1 && v == 0)

/-- The reason for which an order is refused, in a programming descriptor of phase code `c` (R146, R148). -/
def Part.refuse (x : Part) (c o : Nat) : Option Nat :=
  let hit := findEntry x.layers (oTile o)
  let badWidth :=
    match hit with
    | some (_, _, e) =>
      let code := groupCode e.widths (oCol o / 64)
      oCol o < 1024 && slicesOf code != 0 && code + 1 != oWidth o
    | none => false
  if parity 64 o || badWidth || (oInit o != (c == 0)) || (oInit o && x.stepOn) then some stOrderForm
  else if !oInit o && oMtag o != x.milestone.toNat % 256 then some stOrderStale
  else
    match hit with
    | none => some stOrderAddr
    | some (_, _, e) =>
      if 1024 ≤ oRow o || !((runsOf e.widths).any fun r => r.col == oCol o) then some stOrderAddr
      else if !inRangeW (oWidth o) (oValue o) then some stOrderRange
      else none

/-! ### Writing one device (R152 to R155), in 1/6400 G_u -/

/-- The level whose nominal conductance is nearest. -/
def nearLevel (g : Nat) : Nat := min 3 ((g + 3200) / 6400)
/-- The acceptance window of a level (R47). -/
def inWindow (lvl g : Nat) : Bool := if lvl = 0 then g ≤ 320 else 6400 * lvl ≤ g + 1600 && g ≤ 6400 * lvl + 1600
/-- A reading within t ± h and the acceptance window (R154). -/
def accepted (lvl t h g : Nat) : Bool := inWindow lvl g && (lvl == 0 || (t ≤ g + h && g ≤ t + h))
/-- The target kept inside the acceptance window (R154). -/
def aim (lvl : Nat) (t : Int) (h : Nat) : Nat :=
  if lvl = 0 then 0 else (clampI (6400 * lvl + h - 1600) (6400 * lvl + 1600 - h) t).toNat

/-- The first amplitude of the set pulses toward a level, in µA (R152). -/
def setStart (lvl : Nat) : Nat := [60, 60, 75, 90].getD lvl 60
/-- Energy of a reset pulse, a set pulse and a verify read in pJ (R152). -/
def resetPj : Nat := 12
def setPj : Nat := 6
def readPj : Nat := 1

/-- A write in progress: readings to come, readings taken with the latest first, iterations, the amplitude of the next set pulse
in µA, and the energy of its pulses and reads in pJ. -/
structure Pulse where
  left : List Nat
  seen : List Nat
  n : Nat
  amp : Nat
  pj : Nat
deriving DecidableEq, Repr

/-- The latest reading. -/
def Pulse.g (x : Pulse) : Nat := x.seen.headD 0
/-- One pulse of `pj` with its verify read (R153); `d` stands for a reading that the command does not give (log entry 18). -/
def Pulse.fire (x : Pulse) (pj d : Nat) : Pulse :=
  { x with left := x.left.drop 1, seen := x.left.headD d :: x.seen, n := x.n + 1, pj := x.pj + pj + readPj }

/-- Reset pulses toward L0. -/
def resetLoop : Nat → Pulse → Pulse × Bool
  | 0, x => (x, false)
  | k + 1, x => if (x.fire resetPj 0).g ≤ 320 then (x.fire resetPj 0, true) else resetLoop k (x.fire resetPj 0)

/-- Set pulses toward a target: 5 µA more after each, up to 120 µA; after an overshoot the device is reset and the next one is
10 µA lower, down to 40 µA (R152, R154). -/
def setLoop (lvl t h : Nat) : Nat → Pulse → Pulse × Bool
  | 0, x => (x, false)
  | k + 1, x =>
    if 8 ≤ x.n then (x, false)
    else
      let y := x.fire setPj t
      if accepted lvl t h y.g then (y, true)
      else if t + h < y.g then
        setLoop lvl t h k { (if y.n < 8 then y.fire resetPj 0 else y) with amp := max (y.amp - 10) 40 }
      else setLoop lvl t h k { y with amp := min (y.amp + 5) 120 }

/-- One run of R154 from its pre-read: the readings, whether the device is accepted, whether it was pulsed. A refresh resets a
set device first (R184). -/
def writeOnce (force : Bool) (lvl t h : Nat) (x : Pulse) : Pulse × Bool × Bool :=
  let clear := force && 320 < x.g
  if accepted lvl t h x.g && !clear then (x, true, false)
  else
    let x := { x with amp := setStart lvl }
    let r := if lvl = 0 then resetLoop 8 x else setLoop lvl t h 8 (if t + h < x.g || clear then x.fire resetPj 0 else x)
    (r.1, r.2, true)

/-- What a write leaves: the last reading, the level held, whether the device received a pulse and did so again in a repeat from
the start (R167), the energy in pJ, whether the device is stuck or was counted unverified. -/
structure Written where
  g : Nat
  level : Nat
  pulsed : Bool
  repeated : Bool
  pj : Nat
  stuck : Bool
  unverified : Bool
deriving DecidableEq, Repr

/-- The first three tests of R155 on a failed write: the level held, and whether the device is stuck. -/
def classify (lvl : Nat) (x : Pulse) : Option (Nat × Bool) :=
  let first := x.seen.getLastD 0
  if x.seen.all fun g => g ≤ first + 640 && first ≤ g + 640 then some (nearLevel x.g, true)
  else if inWindow lvl x.g then some (lvl, false)
  else ((List.range 4).find? fun l => inWindow l x.g).map fun l => (l, false)

/-- Writes one device (R154, R155); `again` says that it was counted unverified in its last write. -/
def writeDevice (again force : Bool) (lvl t h pre : Nat) (readings : List Nat) : Written :=
  let a := writeOnce force lvl t h ⟨readings.drop 1, [readings.headD pre], 0, 0, readPj⟩
  let pj := a.1.pj
  if a.2.1 then ⟨a.1.g, lvl, a.2.2, false, pj, false, false⟩
  else
    match classify lvl a.1 with
    | some (l, stuck) => ⟨a.1.g, l, true, false, pj, stuck, false⟩
    | none =>
      let b := writeOnce force lvl t h ⟨a.1.left.drop 1, [a.1.left.headD a.1.g], 0, 0, pj + readPj⟩
      let pj := b.1.pj
      if b.2.1 then ⟨b.1.g, lvl, true, b.2.2, pj, false, false⟩
      else
        match classify lvl b.1 with
        | some (l, stuck) => ⟨b.1.g, l, true, true, pj, stuck, false⟩
        | none => ⟨b.1.g, nearLevel b.1.g, true, true, pj, again, !again⟩

/-! ### Digits around stuck devices (R159, R160) -/

/-- A stuck-table entry. -/
def stuckEntry (prow lcol half level : Nat) : Nat := prow + lcol * 2 ^ 11 + half * 2 ^ 22 + level * 2 ^ 23 + 2 ^ 25
/-- The level of a device of the stuck table. -/
def Tile.stuckAt (x : Tile) (prow lcol half : Nat) : Option Nat :=
  (x.stuck.find? fun e => e % 2 ^ 23 == prow + lcol * 2 ^ 11 + half * 2 ^ 22).map fun e => bits e 23 2

/-- Digits from −3 to +3, smaller magnitudes first. -/
def allDigits : List Int := [0, -1, 1, -2, 2, -3, 3]

/-- The digits that the stuck devices of a pair allow. -/
def feasible (plus minus : Option Nat) : List Int :=
  allDigits.filter fun d =>
    (match plus with | some a => decide (d ≤ a) && decide ((a : Int) - 3 ≤ d) | none => true) &&
    (match minus with | some b => decide (-(b : Int) ≤ d) && decide (d ≤ 3 - (b : Int)) | none => true)

/-- The first element of least cost. -/
def minBy (cost : Int → Nat) : List Int → Option Int
  | [] => none
  | d :: t =>
    match minBy cost t with
    | none => some d
    | some e => if cost e < cost d then some e else some d

/-- Digits of `rem` over the slices below `k`, slice 0 first, and what they leave (R159). -/
def encodeDigits (feas : Nat → List Int) : Nat → Int → List Int × Int
  | 0, rem => ([], rem)
  | k + 1, rem =>
    let want := (canonDigits (k + 1) rem).getLastD 0
    let kept := (feas k).filter fun d => (rem - d * 4 ^ k).natAbs ≤ 4 ^ k - 1
    let d := match minBy (fun d => (d - want).natAbs) kept with
      | some d => d
      | none => (minBy (fun d => (rem - d * 4 ^ k).natAbs) (feas k)).getD 0
    let r := encodeDigits feas k (rem - d * 4 ^ k)
    (r.1 ++ [d], r.2)

/-! ### Jobs: the weights, check digits and reference digits of the row in progress -/

/-- The logical column of slice `k` of a job. -/
def Tile.jobCol (x : Tile) (j : Job) (k : Nat) : Nat :=
  if j.col < 1024 then x.dcol (j.col + k) else if j.col < 2048 then x.ccol (j.col - 1024) k else 1088 + (j.col - 2048)

/-- The digits that slice `k` of a job can hold. -/
def Tile.jobFeasible (x : Tile) (j : Job) (k : Nat) : List Int :=
  feasible (x.stuckAt j.prow (x.jobCol j k) 0) (x.stuckAt j.prow (x.jobCol j k) 1)

/-- The device levels for digit `d` in slice `k`: the canonical pair, or the pair around a stuck device (R50, R159). -/
def Tile.pairOf (x : Tile) (j : Job) (k : Nat) (d : Int) : Nat × Nat :=
  if 2048 ≤ j.col then refLevels (1088 + (j.col - 2048))
  else
    match x.stuckAt j.prow (x.jobCol j k) 0, x.stuckAt j.prow (x.jobCol j k) 1 with
    | some a, some b => (a, b)
    | some a, none => (a, ((a : Int) - d).toNat)
    | none, some b => ((d + b).toNat, b)
    | none, none => (d.toNat, (-d).toNat)

def halfOf (p : Nat × Nat) (h : Nat) : Nat := if h = 0 then p.1 else p.2
/-- The cell of a physical row and logical column. -/
def Tile.cell (x : Tile) (prow lcol : Nat) : Cell := tget (x.cellBase lcol) x.cells (prow * 1152 + lcol)
def Cell.at_ (c : Cell) (h : Nat) : Nat := if h = 0 then c.gp else c.gm
def Cell.set (c : Cell) (h g : Nat) : Cell := if h = 0 then { c with gp := g } else { c with gm := g }
def Tile.setCell (x : Tile) (prow lcol half g : Nat) : Tile :=
  { x with cells := tset (x.cellBase lcol) x.cells (prow * 1152 + lcol) ((x.cell prow lcol).set half g) }

/-- The device of slice `k` that takes the compensation offset (R156). -/
def Tile.offsetHalf (x : Tile) (j : Job) (k : Nat) : Option Nat :=
  let d := j.digits.getD k 0
  if 1024 ≤ j.col || j.slices ≤ k + 1 || d = 0 then none
  else
    (if 0 < d then [0, 1] else [1, 0]).find? fun h =>
      0 < halfOf (x.pairOf j k d) h && (x.stuckAt j.prow (x.jobCol j k) h).isNone

/-- The change of level that a device of slice `k` makes. -/
def Tile.rise (x : Tile) (j : Job) (k h : Nat) : Int :=
  (halfOf (x.pairOf j k (j.digits.getD k 0)) h : Int) - nearLevel ((x.cell j.prow (x.jobCol j k)).at_ h)

/-- Begins the slice that the job has reached: the devices in the order of R156. -/
def Tile.openSlice (x : Tile) (j : Job) : Job :=
  if j.left = 0 then { j with halves := [] }
  else
    let k := j.left - 1
    { j with
      found := []
      halves := match x.offsetHalf j k with
        | some o => [1 - o, o]
        | none => if x.rise j k 1 < x.rise j k 0 then [1, 0] else [0, 1] }

/-- The stuck devices of a run allow these digits. -/
def Tile.canHold (x : Tile) (j : Job) (ds : List Int) : Bool := ds.zipIdx.all fun e => (x.jobFeasible j e.2).contains e.1

/-- Begins a job: a rewrite keeps the held target digits where the stuck devices allow them (R184, R202), and everything else is
encoded afresh (R159). -/
def Tile.openJob (x : Tile) (j : Job) : Job :=
  let digits := if 2048 ≤ j.col then [j.value]
    else if !j.held.isEmpty && digitsValue j.held = j.value && x.canHold j j.held then j.held
    else (encodeDigits (x.jobFeasible j) j.slices j.value).1
  x.openSlice { j with
    digits := digits
    owed := 6400 * j.value
    left := j.slices
    inexact := decide (digitsValue digits ≠ j.value) }

/-- The next device of a job. -/
structure Device where
  job : Nat
  lcol : Nat
  half : Nat
  level : Nat
  target : Nat
  window : Nat
  /-- 0 going down, 1 going up, 2 with an offset (R165). -/
  cls : Nat
deriving DecidableEq, Repr

/-- The compensation offset of slice `k` (R156). -/
def Job.delta (j : Job) (k : Nat) : Int :=
  let lower := digitsValue (j.digits.take k)
  clampI (-1280) 1280 (roundAway (j.owed - 6400 * lower - 6400 * j.digits.getD k 0 * 4 ^ k) (4 ^ k))

/-- The window of slice `k` (R154). -/
def Job.window (j : Job) (fine : Bool) (k : Nat) : Nat :=
  if 1024 ≤ j.col || k + 1 < j.slices then 320 else if fine then 640 else 1600

/-- The correction of a level's target in a tile, in 1/6400 G_u (R475 classes 2 to 4). -/
def State.levelShift (s : State) (t lvl : Nat) : Int :=
  if lvl = 0 then 0 else 25 * s.cal 0 (tileDie t) (1 + lvl) (t % 65536 * 2048)

/-- The device that a job writes next; `shift` gives the correction of each level's target. -/
def Tile.device (x : Tile) (fine : Job → Bool) (shift : Nat → Int) (n : Nat) (j : Job) : Option Device :=
  match j.halves with
  | [] => none
  | h :: _ =>
    let k := j.left - 1
    let d := j.digits.getD k 0
    let lvl := halfOf (x.pairOf j k d) h
    let w := j.window (fine j) k
    let c := x.cell j.prow (x.jobCol j k)
    if x.offsetHalf j k = some h then
      let t : Int := c.at_ (1 - h) + (if h = 0 then 6400 * d + j.delta k else -(6400 * d + j.delta k))
      some ⟨n, x.jobCol j k, h, lvl, aim lvl (t + shift lvl) w, w, 2⟩
    else some ⟨n, x.jobCol j k, h, lvl, aim lvl (6400 * lvl + shift lvl) w, w, if x.rise j k h < 0 then 0 else 1⟩

/-- The kind of job that is being written: weights, then check digits, then reference digits (R165). -/
def jobStage (js : List Job) : Nat :=
  if js.any fun j => j.col < 1024 then 0 else if js.any fun j => j.col < 2048 then 1 else 2
def Job.stage (j : Job) : Nat := if j.col < 1024 then 0 else if j.col < 2048 then 1 else 2

/-- At most 32 devices, one for each ADC (R58, R165). -/
def oneEach : List Nat → List Device → List Device
  | _, [] => []
  | used, d :: t => if used.contains (d.lcol % 32) then oneEach used t else d :: oneEach (d.lcol % 32 :: used) t

def leastOf (xs : List Nat) : Nat := xs.foldl min (xs.headD 0)

/-- The devices of the next batch: the highest slice rank, within it the lowest class, by column (R165). -/
def Tile.batch (x : Tile) (fine : Job → Bool) (shift : Nat → Int) : List Device :=
  let stage := jobStage x.jobs
  let ds := x.jobs.zipIdx.filterMap fun (j, n) =>
    if j.stage = stage then (x.device fine shift n j).map fun d => (j.slices - j.left, d) else none
  let rank := leastOf (ds.map (·.1))
  let ds := (ds.filter fun e => e.1 == rank).map (·.2)
  let cls := leastOf (ds.map (·.cls))
  oneEach [] (sortBy (fun a b => a.lcol ≤ b.lcol) (ds.filter (·.cls == cls)))

/-! ### After a device -/

/-- The key of a device in the list of unverified ones. -/
def deviceKey (prow lcol half : Nat) : Nat := (prow * 1152 + lcol) * 2 + half

/-- A write adds to the ledger: one for each device that is pulsed while one weight or digit is written, and one for a repeat
(R167). -/
def Job.wear (j : Job) (d : Device) (w : Written) : Nat :=
  b2n (w.pulsed && !j.counted.contains (j.left * 2 + d.half)) + b2n w.repeated

/-- A device's result in its tile: cell, stuck table, unverified list and ledger (R155, R160, R168). A device that is then kept
without a pulse, or ends in a window, is no longer counted as unverified in its last write; whether a write without a pulse
stands between two consecutive writes the spec does not say (DESIGN CHOICE, log entry 118). -/
def Tile.written (x : Tile) (j : Job) (d : Device) (w : Written) : Tile :=
  let key := deviceKey j.prow d.lcol d.half
  let n := j.wear d w
  let new := w.stuck && (x.stuckAt j.prow d.lcol d.half).isNone && x.stuck.length < 128
  let y := x.setCell j.prow d.lcol d.half w.g
  { y with
    stuck := if new then x.stuck ++ [stuckEntry j.prow d.lcol d.half w.level] else x.stuck
    unverified := if w.unverified then key :: x.unverified.filter (· != key) else x.unverified.filter (· != key)
    life := min (2 ^ 64 - 1) (x.life + n)
    period := if j.order.isSome then min (2 ^ 32 - 1) (x.period + n) else x.period }

/-- A slice ends: the digit held, what is still owed, and the slices below (R156, R157). -/
def Tile.closeSlice (x : Tile) (j : Job) : Job :=
  let k := j.left - 1
  let d := j.digits.getD k 0
  let held : Int := ((tget 0 j.found 0 : Nat) : Int) - ((tget 0 j.found 1 : Nat) : Int)
  let c := x.cell j.prow (x.jobCol j k)
  let owed := j.owed - ((c.gp : Int) - c.gm) * 4 ^ k
  let above := j.digits.drop (k + 1)
  let next := fun (ds : List Int) (bad : Bool) =>
    x.openSlice { j with digits := ds, owed := owed, left := k, slipped := false, inexact := j.inexact || bad }
  if held = d then next j.digits false
  else
    let rem := j.value - 4 ^ (k + 1) * digitsValue above - held * 4 ^ k
    let low := encodeDigits (x.jobFeasible j) k rem
    if low.2 = 0 then next (low.1 ++ held :: above) false
    else if !j.slipped then x.openSlice { j with slipped := true }
    else next (low.1 ++ held :: above) true

/-- A device found stuck at another level while its slice is being written: this slice and those below are encoded afresh
(R159, R189). -/
def Tile.reencode (x : Tile) (j : Job) : Job :=
  let above := j.digits.drop j.left
  let low := encodeDigits (x.jobFeasible j) j.left (j.value - 4 ^ j.left * digitsValue above)
  x.openSlice { j with digits := low.1 ++ above, inexact := decide (low.2 ≠ 0) }

/-- A job after one of its devices has been written. -/
def Tile.jobAfter (x : Tile) (j : Job) (d : Device) (w : Written) : Job :=
  let j := if w.pulsed then { j with counted := (j.left * 2 + d.half) :: j.counted } else j
  if w.stuck && w.level != d.level && j.col < 2048 then x.reencode j
  else
    let j := { j with halves := j.halves.drop 1, found := tput j.found d.half w.level }
    if j.halves.isEmpty then x.closeSlice j else j

/-- Writes one device of a batch: the tile, whether the stuck table was full (R160), and the energy in pJ. A stuck device is read
and not pulsed. -/
def Tile.writeOne (x : Tile) (d : Device) (readings : List Nat) : Tile × Bool × Nat :=
  match x.jobs[d.job]? with
  | none => (x, false, 0)
  | some j =>
    let pre := (x.cell j.prow d.lcol).at_ d.half
    let w : Written :=
      match x.stuckAt j.prow d.lcol d.half with
      | some lvl => ⟨readings.headD pre, lvl, false, false, readPj, false, false⟩
      | none => writeDevice (x.unverified.contains (deviceKey j.prow d.lcol d.half)) j.force d.level d.target d.window pre readings
    let y := x.written j d w
    let full := w.stuck && 128 ≤ x.stuck.length
    ({ y with jobs := y.jobs.set d.job (y.jobAfter j d w) }, full, w.pj)

/-! ### Rows: moving to a spare (R160, R201, R204) -/

/-- The lowest-numbered free spare row. -/
def Tile.freeRow (x : Tile) : Option Nat := (List.range 32).find? fun r => rowState (tget 0 x.rowMap r) == 0

/-- Everything of a row, or its reference columns, is to be written. -/
def addWork (w : List Nat) (prow what : Nat) : List Nat :=
  sortBy (fun a b => a ≤ b) ((prow * 4096 + what) :: w.filter (· != prow * 4096 + what))

/-- A physical row's logical row moves to spare row `r`; its stuck entries are freed, a spare row that fails is dead (R200,
R202). -/
def Tile.moveRow (x : Tile) (prow r : Nat) : Tile :=
  match x.lrow prow with
  | none => x
  | some i =>
    let m := if 1024 ≤ prow then tput x.rowMap (prow - 1024) (2 * 1024) else x.rowMap
    { x with
      rowMap := tput m r (i + 1024)
      stuck := x.stuck.filter fun e => bits e 0 11 != prow
      work := addWork (x.work.filter fun e => e / 4096 != prow) (1024 + r) 4095
      probeRows := x.probeRows + 1 }

/-! ### The copies (R162, R163) -/

/-- The place of a run among the runs of its entry. -/
def runIndex (e : TileEntry) (col : Nat) : Nat := ((runsOf e.widths).zipIdx.find? fun r => r.1.col == col).elim 0 (·.2)

/-- The measured value of a weight from its cells, in 1/64 unit product (R163). -/
def Tile.measure (x : Tile) (row : Nat) (r : Run) : Int :=
  let m : Int := ((List.range r.s).map fun k =>
    let c := x.cell (x.prow row) (x.dcol (r.col + k))
    ((c.gp : Int) - c.gm) * 4 ^ k).sum
  clampI (-32767) 32767 (roundEven m 100)

def State.writeMeasured (s : State) (l : Layer) (i : Nat) (e : TileEntry) (t row : Nat) (r : Run) : State :=
  if l.measured then
    s.writeMem (l.measuredAddr i row (runIndex e r.col)) (natLe 2 (unsigned 16 ((s.tile t).measure row r)))
  else s

/-- Sum of the target digits of a check group's data columns; idle columns contribute 0 (R53, R190). -/
def State.checkSum (s : State) (rs : List Run) (a row g : Nat) : Int :=
  ((List.range 64).map fun c => if (runAt rs (64 * g + c)).isSome then s.digit a row (64 * g + c) else 0).sum

/-! ### Orders of a descriptor -/

/-- An order of a queue has been applied. -/
def State.applied (s : State) (o : Nat × Nat) : State :=
  if 65536 ≤ o.2 then s else s.modWork o.2 fun w => { w with n0 := w.n0 + 1 }

/-- A weight has been programmed since its tile was newly placed (R233); the age counts from the first programming (R183). -/
def State.markKnown (s : State) (pl row col : Nat) : State :=
  s.modTile pl fun y => { y with
    known := (row * 1024 + col) :: y.known.filter (· != row * 1024 + col)
    age := if y.known.isEmpty then 0 else y.age }

/-- An order of a retired tile or of the bypass: the narrow copy takes its canonical digits at once; a reserve that is being
programmed takes the row again (R189, R209). -/
def State.narrowOrder (s : State) (l : Layer) (i : Nat) (e : TileEntry) (o : Nat × Nat) : State :=
  match runAt (runsOf e.widths) (oCol o.1) with
  | none => s
  | some r =>
    let s := s.setRunDigits (l.narrowAddr i) (oRow o.1) r (canonDigits r.s (oValue o.1))
    let s := (s.markKnown e.tile (oRow o.1) r.col).applied o
    match s.reserveFor e.tile 2 with
    | none => s
    | some t => s.modTile t fun y =>
        let prow := y.prow (oRow o.1)
        if y.work.contains (prow * 4096 + 4095) then y
        else
          let w := addWork (addWork y.work prow r.col) prow (1024 + r.col / 64)
          { y with work := addWork w prow (1024 + (r.col + r.s - 1) / 64) }

/-- All orders of a placement tile go through the narrow copy. -/
def State.narrowAll (s : State) (pl : Nat) : State :=
  match s.role pl with
  | none => s.modTile pl fun y => { y with orders := [] }
  | some (_, l, i, e) =>
    ((s.tile pl).orders.foldl (fun t o => t.narrowOrder l i e o) s).modTile pl fun y => { y with orders := [] }

/-- A layer as the PROGRAM descriptor of a queue began with it (R18, R252). -/
def State.orderLayer (s : State) (q : Nat) (l : Layer) : Layer :=
  match s.runningOp (q % 65536) 0x30 with
  | some r => (findLayer r.work.layers l.num).getD l
  | none => l
/-- The layer by which a job is written. -/
def State.jobLayer (s : State) (l : Layer) (j : Job) : Layer :=
  match j.order with
  | some o => s.orderLayer o.2 l
  | none => l
/-- The settings by which a tile's batch is written: those of the descriptor whose orders it writes (R18). -/
def State.batchView (s : State) (t : Nat) : State :=
  match (s.tile t).jobs.findSome? (·.order) with
  | some o => s.asBegan (o.2 % 65536)
  | none => s

/-- The position takes orders through the narrow copy alone: its layer runs on the bypass, or its tile is retired and no
reserve stands in (R189, R209). -/
def State.narrowOnly (s : State) (l : Layer) (pl : Nat) : Bool :=
  (match (s.tile pl).orders with
    | o :: _ => (s.orderLayer o.2 l).bypass
    | [] => l.bypass) || ((s.tile pl).st == .retired && (s.reserveFor pl 1).isNone)

/-- The queue of an order or of a deferral entry. -/
def orderQueue (o : Nat × Nat) : Nat := o.2 % 65536
/-- A tile holds orders of a queue. -/
def Tile.holds (x : Tile) (q : Nat) : Bool :=
  (x.orders.any fun o => orderQueue o == q) || x.jobs.any fun j => j.order.any fun o => orderQueue o == q

/-! ### The end of a programming descriptor -/

/-- The read-back of a layer by verify reads (R164). -/
def State.readBackLayer (s : State) (p : Nat) (l : Layer) : State :=
  let u := l.tiles.zipIdx.foldl (fun u (e, i) =>
    if (u.tile e.tile).st = .retired && (u.reserveFor e.tile 1).isNone then u
    else
      let t := u.physTile e.tile
      (List.range 1024).foldl (fun v row => (runsOf e.widths).foldl (fun v r => v.writeMeasured l i e t row r) v) u) s
  u.modPart p fun x => { x with layers := x.layers.map fun k => if k.num = l.num then { k with readBack := true } else k }

/-- RESULT of PROGRAM (R444). -/
def programResult (w : Work) : List Byte :=
  natLe 4 (min w.n0 (2 ^ 32 - 1)) ++ natLe 4 (min w.n1 (2 ^ 32 - 1)) ++ natLe 4 (min w.n2 (2 ^ 32 - 1)) ++ List.replicate 4 0

/-- The tiles of some layers that a scrub kept from ending their scan are scanned now that they have been programmed (R213). -/
def State.scanCut (s : State) (ls : List Layer) : State :=
  (ls.flatMap (·.tiles)).foldl (fun t e =>
    t.modTile (t.physTile e.tile) fun y =>
      if y.rescan then { y with rescan := false, probeReq := true, flagTime := if y.called then y.flagTime else s.ltime } else y) s

/-- PROGRAM completes once every order of its queue has been written or deferred: read-backs follow (R164), a programming of
phase 0 at rest clears the order log (R32, R343) and is followed by the scans that a scrub cut short, and refused orders make it
an error (R147). -/
def State.finishProgram (s : State) (q : Nat) (r : Running) : State :=
  let p := s.queuePart q
  let c := dPhase r.desc
  let begun := (s.part p).layers.map fun l => ((findLayer r.work.layers l.num).getD l, l.readBack)
  let due := begun.filter fun l => l.1.measured && !l.1.bypass &&
    (if c = 0 then r.work.todo.contains l.1.num else !l.2)
  let s := due.foldl (fun t l => t.readBackLayer p l.1) s
  let s := if c = 0 then s.scanCut ((s.part p).layers.filter fun l => r.work.todo.contains l.num) else s
  let s := if c = 0 && !(s.part p).stepOn then s.modPart p fun x => { x with logCount := 0 } else s
  s.finish q (if r.work.n1 = 0 then stOk else stOrderRefused) (programResult r.work)

/-- Completes the programming descriptors of a partition that have no orders left. -/
def State.finishPrograms (s : State) (p : Nat) : State :=
  (s.queuesOf p).foldl (fun t e =>
    match t.runningOp e.1 0x30 with
    | some r => if r.work.started && !(t.tiles.any fun x => x.2.holds e.1) then t.finishProgram e.1 r else t
    | none => t) s

/-- A tile without the orders of a queue; weights that are being written are finished for nobody. -/
def Tile.dropQueue (x : Tile) (q : Nat) : Tile :=
  { x with
    orders := x.orders.filter fun o => orderQueue o != q
    jobs := x.jobs.map fun j => if j.order.any fun o => orderQueue o == q then { j with order := none } else j }

/-- A programming descriptor fails on an access: its orders are dropped, and entries of the deferral list return to it. -/
def State.failProgram (s : State) (p q st : Nat) : State :=
  let back := s.tiles.flatMap fun e =>
    (e.2.orders.filter fun o => o.2 == q + 65536).map (·.1) ++ e.2.jobs.filterMap fun j =>
      match j.order with
      | some o => if o.2 = q + 65536 && j.col < 1024 then some o.1 else none
      | none => none
  let s : State := { s with tiles := s.tiles.map fun (e : Nat × Tile) => (e.1, e.2.dropQueue q) }
  let s := if back.isEmpty then s
    else (s.setDeferList p (s.deferList p ++ back)).modPart p fun x => { x with flushDefer := true }
  s.finish q st result0

/-! ### Rows of a tile in PROGRAM or PROBE (R165, R189) -/

/-- A job not yet begun. -/
def newJob (prow col slices : Nat) (value : Int) (force : Bool) (order : Option (Nat × Nat)) : Job :=
  ⟨prow, col, slices, value, [], [], [], 0, 0, [], [], false, false, force, order⟩

/-- The orders that may be written now: none in PROBE; entries of the deferral list first (R171, R189). -/
def State.ordersNow (s : State) (t pl : Nat) : List (Nat × Nat) :=
  let x := s.tile t
  let os := (s.tile pl).orders
  if x.st != .program then []
  else
    let old := os.filter fun o => 65536 ≤ o.2
    if old.isEmpty then os else old

/-- An order is deferred (R169, R170, R172): the tile's raise covers its change and the list has room. -/
def State.deferOrder (s : State) (p t : Nat) (o : Nat × Nat) (change : Nat) : Option State :=
  let x := s.tile t
  let d := lowDie 1 p
  if oInit o.1 || oForce o.1 || 65536 ≤ o.2 || s.regf 1 d 0x110 5 1 = 0 || x.raise = 0 || x.raise < change || !s.deferFits p then none
  else if (s.part p).deferCount < s.deferCap p then
    some ((s.setDeferList p (s.deferList p ++ [o.1])).modWork o.2 fun w => { w with n2 := w.n2 + 1 })
  else none

/-- The list is full for an order that would be deferred (R172). -/
def State.overrun (s : State) (p t : Nat) (o : Nat × Nat) (change : Nat) : State :=
  let x := s.tile t
  let d := lowDie 1 p
  if oInit o.1 || oForce o.1 || 65536 ≤ o.2 || s.regf 1 d 0x110 5 1 = 0 || x.raise = 0 || x.raise < change || !s.deferFits p then s
  else
    let u := s.count 1 d 0x120 0 1
    if (u.part p).deferOver then u else (u.modPart p fun y => { y with deferOver := true }).raise p evDeferOverrun []

/-- Takes one order of a row: applied without a write, deferred, or a job. -/
def State.takeOrder (s : State) (p t : Nat) (l : Layer) (i : Nat) (e : TileEntry) (o : Nat × Nat) : State :=
  let row := oRow o.1
  match runAt (runsOf e.widths) (oCol o.1) with
  | none => s
  | some r =>
    let v := oValue o.1
    let held := s.heldWeight (l.narrowAddr i) row r
    if v = held && !(oInit o.1 && !(s.tile e.tile).known.contains (row * 1024 + r.col)) then s.applied o
    else
      match s.deferOrder p t o (v - held).natAbs with
      | some u => u
      | none => (s.overrun p t o (v - held).natAbs).modTile t fun y =>
          { y with jobs := y.jobs ++ [newJob (y.prow row) r.col r.s v false (some o)] }

/-- Check groups that the weights of a list of jobs touch (R161). -/
def touched (js : List Job) : List Nat :=
  sortBy (fun a b => a ≤ b) ((js.flatMap fun j => [j.col / 64, (j.col + j.slices - 1) / 64]).eraseDups)

/-- The check digits that the weights of a row in progress touch, as caused by their orders. -/
def Tile.addChecks (y : Tile) : Tile :=
  match y.jobs with
  | [] => y
  | j :: _ => { y with jobs := y.jobs ++ (touched y.jobs).map fun g => newJob j.prow (1024 + g) 4 0 false j.order }

/-- The idle columns of a row go to digit 0 in pair (0,0): at a refresh, and when INIT orders program the row (R53, R184). -/
def Tile.resetIdle (x : Tile) (e : TileEntry) (prow : Nat) : Tile :=
  let cols := (collect 1024 fun c => if (runAt (runsOf e.widths) c).isNone then some (x.dcol c) else none)
  cols.foldl (fun y j => [0, 1].foldl (fun y h =>
    if 320 < (y.cell prow j).at_ h && (y.stuckAt prow j h).isNone then
      { y.setCell prow j h 0 with life := min (2 ^ 64 - 1) (y.life + 1) }
    else y) y) x

/-- Takes the orders of a physical row in ascending column, with the check digits that they touch. -/
def State.takeOrders (s : State) (p t : Nat) (l : Layer) (i : Nat) (e : TileEntry) (prow : Nat) : State :=
  let x := s.tile t
  let mine := sortBy (fun a b => oCol a.1 ≤ oCol b.1) ((s.ordersNow t e.tile).filter fun o => x.prow (oRow o.1) == prow)
  match mine with
  | [] => s
  | o :: _ =>
    match s.memStatus false (l.narrowAddr i + 512 * oRow o.1) 512 with
    | some st => s.failProgram p (orderQueue o) st
    | none =>
      let s := s.modTile e.tile fun y => { y with orders := y.orders.filter fun o => !(mine.contains o) }
      let s := mine.foldl (fun u o => u.takeOrder p t l i e o) s
      let s := if mine.any fun o => oInit o.1 then s.modTile t fun y => y.resetIdle e prow else s
      s.modTile t Tile.addChecks

/-- A row holds reference digits: a row in use, or a spare row that is not dead (R56). -/
def Tile.refRow (x : Tile) (p : Nat) : Bool := if p < 1024 then (x.lrow p).isSome else rowState (tget 0 x.rowMap (p - 1024)) != 2

/-- The jobs of a row's work item. -/
def State.itemJobs (s : State) (x : Tile) (l : Layer) (i : Nat) (e : TileEntry) (prow what : Nat) (force : Bool) : List Job :=
  let run := fun (row : Nat) (r : Run) =>
    let ds := s.runDigits (l.narrowAddr i) row r
    -- an inexact weight is written again toward the VALUE that was ordered (R157)
    { newJob prow r.col r.s ((tfind x.inexact (row * 1024 + r.col)).getD (digitsValue ds)) force none with held := ds }
  let chk := fun (g : Nat) => newJob prow (1024 + g) 4 0 force none
  let refs := if x.refRow prow then (List.range 32).map fun k => newJob prow (2048 + k) 1 (refDigit (1088 + k)) force none else []
  match x.lrow prow with
  | none => if what = 4094 || what = 4095 then refs else []
  | some row =>
    if what < 1024 then ((runAt (runsOf e.widths) what).map (run row)).toList
    else if what < 1040 then [chk (what - 1024)]
    else if what = 4094 then refs
    else (runsOf e.widths).map (run row) ++ (List.range 16).map chk ++ (if what = 4095 then refs else [])

/-- Takes the work items of a physical row. -/
def State.takeWork (s : State) (t : Nat) (l : Layer) (i : Nat) (e : TileEntry) (prow : Nat) : State :=
  let x := s.tile t
  let items := x.work.filter fun w => w / 4096 == prow
  let force := x.refresh && !x.scanning
  let x := if force && items.contains (prow * 4096 + 4095) then x.resetIdle e prow else x
  let js := (items.flatMap fun w => s.itemJobs x l i e prow (w % 4096) force).eraseDups
  s.setTile t { x with
    jobs := x.jobs ++ js
    work := x.work.filter fun w => w / 4096 != prow }

/-- Begins the jobs of the kind that is now to be written; check digits are computed from the narrow copy (R161). -/
def State.openStage (s : State) (t : Nat) (l : Layer) (i : Nat) (e : TileEntry) : State :=
  let x := s.tile t
  let stage := jobStage x.jobs
  let start := fun (j : Job) =>
    if j.stage != stage || !j.digits.isEmpty then j
    else if stage = 1 then
      x.openJob { j with value := ((x.lrow j.prow).map fun row => s.checkSum (runsOf e.widths) (l.narrowAddr i) row (j.col - 1024)).getD 0 }
    else x.openJob j
  s.setTile t { x with jobs := x.jobs.map start }

/-- The most energy that the pulses and reads of one device can take in pJ: the pre-read, and eight iterations, resets toward L0,
resets and sets by turns toward another level; a stuck device is only read (R152, R154). -/
def Tile.devicePj (x : Tile) (d : Device) : Nat :=
  match x.jobs[d.job]? with
  | some j =>
    if (x.stuckAt j.prow d.lcol d.half).isSome then readPj
    else if d.level = 0 then readPj + 8 * (resetPj + readPj)
    else readPj + 4 * (resetPj + readPj) + 4 * (setPj + readPj)
  | none => 0
/-- The draw of a tile over a batch in pJ: 1.5 nJ for each of its 8 µs (R483). -/
def standingPj : Nat := 12000
/-- The devices of the next batch. -/
def State.batchOf (s : State) (t : Nat) (l : Layer) : List Device :=
  (s.tile t).batch (fun j => (s.jobLayer l j).fineTop) ((s.batchView t).levelShift t)
/-- The toll that a batch asks before it begins (R166, R483; log entry 54). -/
def State.batchToll (s : State) (t : Nat) (l : Layer) : Nat :=
  ((s.batchOf t l).map (s.tile t).devicePj).sum + standingPj
/-- Asks the toll of the next batch. -/
def State.askBatch (s : State) (t : Nat) (l : Layer) : State :=
  (s.modTile t fun x => { x with batchToll := 1 }).askToll t (s.batchToll t l) true
/-- The program bucket is charged what the pulses and reads of a batch took, in place of the toll asked (R166, R483). -/
def State.settleToll (s : State) (t asked taken : Nat) : State :=
  let d := tileDie t
  let g := s.gate d
  s.setGate d { g with
    prog := min (programCap : Int) (g.prog + ((asked : Int) - taken) * bucketUnit)
    charged := g.charged + taken - asked }

/-- Nothing more is to be written: a tile in PROGRAM returns to IDLE (R72). -/
def State.restTile (s : State) (t : Nat) : State :=
  s.modTile t fun x =>
    if x.st == .program && !x.refresh && !x.reserveProg && !x.scanning then
      { x.markRefs with st := .idle } else x

/-- The next physical row with orders or other work. -/
def State.nextRow (s : State) (t pl : Nat) : Option (Nat × Bool) :=
  let x := s.tile t
  let rows := (s.ordersNow t pl).map fun o => x.prow (oRow o.1)
  if !rows.isEmpty then some (leastOf rows, true)
  else if !x.work.isEmpty then some (leastOf (x.work.map (· / 4096)), false)
  else none

/-- A pending retirement takes place: at the end of a row of a refresh, scan, repair or reserve programming, else once the pending
writes have ended (R220). -/
def State.retiresNow (s : State) (t pl : Nat) : Bool :=
  let x := s.tile t
  x.retireReq && (x.refresh || x.scanning || x.reserveProg || (s.nextRow t pl).isNone)

/-- At the end of a row: a pending retirement, the next row, or rest (R165, R189, R220). -/
def State.prepare : Nat → Nat → State → State
  | 0, _, s => s
  | n + 1, t, s =>
    match s.role t with
    | none => s.modTile t fun y => { y with work := [] }
    | some (p, l, i, e) =>
      if s.retiresNow t e.tile then (s.retireTile t 6).narrowAll e.tile
      else
        match s.nextRow t e.tile with
        | none => s.restTile t
        | some (prow, true) =>
          let u := s.takeOrders p t l i e prow
          if (u.tile t).jobs.isEmpty then State.prepare n t u else (u.openStage t l i e).askBatch t l
        | some (prow, false) =>
          let u := s.takeWork t l i e prow
          if (u.tile t).jobs.isEmpty then State.prepare n t u else (u.openStage t l i e).askBatch t l

/-- As many rows as can be pending. -/
def State.rowFuel (s : State) (t : Nat) : Nat :=
  (s.tile t).work.length + ((s.role t).map fun r => (s.tile r.2.2.2.tile).orders.length).getD 0 + 1

/-- A placement tile that has received orders (R189). -/
def State.startOrders (s : State) (pl : Nat) : State :=
  match s.role pl with
  | none => s
  | some (_, l, _, _) =>
    if s.narrowOnly l pl then s.narrowAll pl
    else
      let t := s.physTile pl
      let x := s.tile t
      match x.st with
      | .sleep => if x.waking then s else s.askWake t 2
      | .off => if x.waking then s else s.askWake t 3
      | .idle =>
        if !s.quiet t then s
        else let u := s.modTile t fun y => { y with st := .program }
          u.prepare (u.rowFuel t) t
      | .program => if x.jobs.isEmpty && x.batchToll = 0 then s.prepare (s.rowFuel t) t else s
      | _ => s

/-! ### PROGRAM -/

/-- ORDER_REFUSED for the first 64 of a step (R147). -/
def State.refuseOrder (s : State) (p q o why : Nat) : State :=
  let s := s.modWork q fun w => { w with n1 := w.n1 + 1 }
  if (s.part p).nRefused < 64 then
    (s.modPart p fun x => { x with nRefused := x.nRefused + 1 }).raise p evOrderRefused [(24, 8, o), (32, 2, why)]
  else s

/-- The later of two orders for a weight stays (R149). -/
def lastOrders : List Nat → List Nat
  | [] => []
  | o :: t => if t.any fun u => oWeight u == oWeight o then lastOrders t else o :: lastOrders t

/-- Orders reach their tile; one that waits for the same weight is superseded (R149, R170). -/
def Tile.addOrders (y : Tile) (os : List (Nat × Nat)) : Tile :=
  { y with orders := (y.orders.filter fun o => !(os.any fun u => oWeight u.1 == oWeight o.1)) ++ os }

/-- The orders of a descriptor once they have been judged: entries of the deferral list are superseded, or applied first where
a period has ended (R170, R171), and every tile concerned begins. A phase 7 in which no PROGRAM descriptor runs matches and
applies nothing and reads nothing back; the next PROGRAM of phase 7 does (DESIGN CHOICE, log entry 117). -/
def State.giveOrders (s : State) (p q c : Nat) (os : List Nat) : State :=
  let x := s.part p
  let list := s.deferList p
  let left := list.filter fun o => !(os.any fun u => oWeight u == oWeight o)
  let flush := c == 7 && x.flushDefer
  let old := if flush then left else []
  let keep := if flush then [] else left
  let s := if keep.length = list.length then s else s.setDeferList p keep
  let s := s.modPart p fun y => { y with flushDefer := y.flushDefer && !flush }
  let all := (old.map fun o => (o, q + 65536)) ++ os.map fun o => (o, q)
  let tiles := sortBy (fun a b => a ≤ b) ((all.map fun o => oTile o.1).eraseDups)
  let s := tiles.foldl (fun u pl => u.modTile pl fun y => y.addOrders (all.filter fun o => oTile o.1 == pl)) s
  let s := tiles.foldl (fun u pl =>
    let first := c == 0 && (u.tile pl).known.isEmpty
    u.modTile (u.physTile pl) fun y => { y with mark := 0, age := if first then 0 else y.age }) s
  tiles.foldl (fun u pl => u.startOrders pl) s

/-- PROGRAM's checks and start: the inbox of R378. -/
def State.startProgram (s : State) (q : Nat) (run : Running) : State :=
  let p := s.queuePart q
  let x := s.part p
  let c := dPhase run.desc
  let a := field run.desc 24 8
  match x.reach 1 a 64 with
  | none => s.finish q stAddrRange (resultAt 24 false)
  | some _ =>
    match s.memStatus false a 64 with
    | some st => s.fail q st [(false, .dev a, 64)]
    | none =>
      let start := a + roadUp (64 + 8 * leNat (memRead s.mem (a + 16) 2))
      let n := leNat (memRead s.mem a 8)
      if !x.owns start (8 * n) then s.finish q stAddrRange (resultAt 24 false)
      else
        let list := s.deferBase p
        let used := if x.deferCount = 0 then 0 else 8 * x.deferCount
        match (s.memStatus false start (8 * n)).orElse fun _ => s.memStatus false list used with
        | some st => s.fail q st [(false, .dev start, 8 * n), (false, .dev list, used)]
        | none =>
          let s := s.modPart p fun y => { y with gathered := y.gathered.filter (· != a) }
          let os := wordsOf 8 n (memRead s.mem start (8 * n))
          let s := s.countReads [(false, .dev a, 64), (false, .dev start, 8 * n), (false, .dev list, used)]
          let s := s.modWork q fun w => { w with started := true, areas := [(a, 64)] }
          let s := os.foldl (fun u o => match x.refuse c o with
            | some why => u.refuseOrder p q o why
            | none => u) s
          let good := lastOrders (os.filter fun o => (x.refuse c o).isNone)
          let inits := (good.filterMap fun o => (findEntry x.layers (oTile o)).map fun e => e.1.num).eraseDups
          let s := s.modWork q fun w => { w with todo := inits }
          (s.giveOrders p q c good).finishPrograms p

/-- PROGRAM (R144 to R149, R378): its first step; PROGRAM_BATCH writes its orders. It completes here if a map has since dropped
what was left of them. -/
def execProgram (q : Nat) (s : State) : Result :=
  onRunning q 0x30 s fun run => if run.work.started then s.finishPrograms (s.queuePart q) else s.startProgram q run

/-! ### PROGRAM_BATCH -/

/-- A weight has been written: the copies, and what the tile keeps of it (R157, R162, R163). A rewrite without an order does not
touch digits that an order has changed meanwhile (R189). -/
def State.weightDone (s : State) (t : Nat) (l : Layer) (i : Nat) (e : TileEntry) (j : Job) : State :=
  match (s.tile t).lrow j.prow, runAt (runsOf e.widths) j.col with
  | some row, some r =>
    let key := row * 1024 + r.col
    let newer := j.order.isNone && s.runDigits (l.narrowAddr i) row r != j.held
    let s := if newer then s
      else (s.setRunDigits (l.narrowAddr i) row r j.digits).writeMeasured (s.jobLayer l j) i e t row r
    let s := s.modTile t fun y => { y with
      inexact := if digitsValue j.digits = j.value then tdel y.inexact key else tput y.inexact key j.value }
    let s := (s.markKnown e.tile row r.col).modTile e.tile fun y =>
      if y.wasBypassed then { y with rewritten := key :: y.rewritten.filter (· != key) } else y
    match j.order with
    | some o => s.applied o
    | none => s
  | _, _ => s

/-- A job is finished. -/
def Job.isDone (j : Job) : Bool := !j.digits.isEmpty && j.left == 0

/-- A weight that stuck devices leave inexact and whose row can move to a spare row (R201). -/
def Tile.mustMove (x : Tile) (j : Job) : Bool :=
  j.isDone && j.stage == 0 && digitsValue j.digits != j.value && x.freeRow.isSome &&
    (List.range j.slices).any fun k => (x.jobFeasible j k).length < 7

/-- The row in progress moves to a spare row; its orders are taken again there (R160, R201). -/
def State.moveProgramRow (s : State) (t pl prow r : Nat) : State :=
  let x := s.tile t
  let back := x.jobs.filterMap fun j => if j.prow == prow && j.stage == 0 then j.order else none
  let y := x.moveRow prow r
  (s.setTile t { y with jobs := [] }).modTile pl fun z => { z with orders := back ++ z.orders }

/-- Recomputes the raise (R169) by the settings `v`. -/
def State.setRaise (s v : State) (t : Nat) : State :=
  let d := tileDie t
  let b := v.reg 0 d 0x64
  s.modTile t fun y => { y with raise := if b = 0 then 0 else min (y.period / b) (v.regf 0 d 0x60 16 3) }

/-- After a batch: finished jobs leave, the next batch asks its toll, or the row ends. -/
def State.nextBatch (s : State) (t : Nat) (l : Layer) (i : Nat) (e : TileEntry) : State :=
  let x := s.tile t
  let done := x.jobs.filter Job.isDone
  let s := (done.filter (·.stage == 0)).foldl (fun u j => u.weightDone t l i e j) s
  let s := s.modTile t fun y => { y with jobs := y.jobs.filter fun j => !j.isDone }
  if (s.tile t).jobs.isEmpty then s.prepare (s.rowFuel t) t else (s.openStage t l i e).askBatch t l

/-- The admitted batch is written (R154 to R161, R165). -/
def State.runBatch (s : State) (t : Nat) (l : Layer) (i : Nat) (e : TileEntry) (readings : List (List Nat)) : State :=
  let x := s.tile t
  let r := (s.batchOf t l).zipIdx.foldl (fun (a : Tile × Option Nat × Nat) d =>
    let y := a.1.writeOne d.1 (readings.getD d.2 [])
    (y.1, if y.2.1 && a.2.1.isNone then (a.1.jobs[d.1.job]?).map (·.prow) else a.2.1, a.2.2 + y.2.2)) (x, none, standingPj)
  let s := ((s.settleToll t (s.batchToll t l) r.2.2).setTile t { r.1 with batchToll := 0 }).setRaise (s.batchView t) t
  match r.2.1 with
  | some prow =>
    match r.1.freeRow with
    | some f => let u := s.moveProgramRow t e.tile prow f
      u.prepare (u.rowFuel t) t
    | none => (s.retireTile t 5).narrowAll e.tile
  | none =>
    match r.1.jobs.find? r.1.mustMove, r.1.freeRow with
    | some j, some f => let u := s.moveProgramRow t e.tile j.prow f
      u.prepare (u.rowFuel t) t
    | _, _ => s.nextBatch t l i e

/-- PROGRAM_BATCH (R165): the next batch of tile `t`, once its toll is paid; an idle tile with work enters PROGRAM (R72). -/
def execProgramBatch (t : Nat) (readings : List (List Nat)) (s : State) : Result :=
  onTile t (
    match s.role t with
    | none => .next s
    | some (p, l, i, e) =>
      let x := s.tile t
      let done := fun (u : State) => Host.Outcome.next (u.finishPrograms p).settleRoads
      if s.narrowOnly l e.tile && !(s.tile e.tile).orders.isEmpty then done (s.narrowAll e.tile)
      else if x.batchToll = 2 && !x.jobs.isEmpty then done (s.runBatch t l i e readings)
      else if x.batchToll != 0 then .next s
      else
        match x.st with
        | .program | .probe =>
          if !x.jobs.isEmpty then .next ((s.openStage t l i e).askBatch t l)
          else done (s.prepare (s.rowFuel t) t)
        | .idle =>
          if (x.work.isEmpty && (s.tile e.tile).orders.isEmpty) || !s.quiet t || t != s.physTile e.tile then done s
          else
            let u := s.modTile t fun y => { y with st := .program }
            done (u.prepare (u.rowFuel t) t)
        | _ => .next s)

end Sys2Proof.Machine
end

