-- ==== Sys2Proof/Machine/Waymark.lean ====
section
/-! DEFINITION. The waymark converters: triggers, steps, conversions and the FIFO (R551 to R564). -/

namespace Sys2Proof.Machine

open Sys2Proof

/-- A field of WM_CFG. -/
def State.wmCfg (s : State) (lo w : Nat) : Nat := s.regf 2 0 0x380 lo w
/-- A field of WM_SEQDATA for entry `e` of converter `c`. -/
def State.wmEntry (s : State) (c e lo w : Nat) : Nat := s.regf 2 0 0x38C lo w (c * 16 + e)
/-- Entries of a converter's sequence (R555). -/
def State.wmLength (s : State) (c : Nat) : Nat :=
  (((List.range 16).find? fun e => s.wmEntry c e 12 1 == 1).map (· + 1)).getD 16
/-- Converters enabled in CONV_EN. -/
def State.wmEnabled (s : State) : List Nat := (List.range 8).filter fun c => bit (s.wmCfg 16 8) c
/-- Steps of a pass: the longest sequence of the enabled converters. -/
def State.wmSteps (s : State) : Nat := (s.wmEnabled.map s.wmLength).foldl max 0

/-- A trigger of the source that SRC selects (R556): passes begin, or it is counted in TRIG_MISS. -/
def State.wmTrigger (s : State) (src : Nat) : State :=
  if !s.input || s.wmCfg 0 1 = 0 || s.wmCfg 1 2 != src then s
  else if s.wm.running then s.count 2 0 0x394 16 1
  else { s with wm := { s.wm with running := s.wmSteps != 0, pass := 0, step := 0, trigTime := s.ltime } }

/-- A milestone closure of the partition that holds MS_QUAD (R556). -/
def State.wmMilestone (s : State) (p : Nat) : State :=
  if (s.part p).inService && (s.part p).holds (s.wmCfg 5 2) then s.wmTrigger 2 else s

/-- WM_CTRL written (R561): ABORT acts before a trigger, which is then ignored (R565). -/
def State.wmControl (s : State) (w : Nat) : State :=
  let s := if bit w 2 then { s with wm := { s.wm with fifo := [] } } else s
  if bit w 1 then { s with wm := { s.wm with running := false, pass := 0, step := 0 } }
  else if bit w 0 then s.wmTrigger 0 else s

/-! ### Probe structures (R552) -/

/-- The level of a device of a probe structure. -/
def probeLevel (k : Nat) : Nat := k % 16 / 4
/-- The conductance that device `k` of the structure of quadrant `q` was left with, in 1/6400 G_u. -/
def State.probeHeld (s : State) (q k : Nat) : Nat := (tfind s.wm.probes (q * 16 + k)).getD (6400 * probeLevel k)
/-- A written conductance of a level: a free value of its window (R47; log entry 125). -/
def probeWritten (lvl : Nat) (v : Word64) : Nat := if lvl = 0 then v.toNat % 321 else 6400 * lvl - 1600 + v.toNat % 3201

/-- The structure of quadrant `q` is rewritten. -/
def State.writeProbes (s : State) (q : Nat) : State :=
  let ps := (List.range 16).foldl (fun m k => tput m (q * 16 + k) (probeWritten (probeLevel k) (Config.freeValue (s.free + k)))) s.wm.probes
  { s with free := s.free + 16, wm := { s.wm with probes := ps } }

/-- The first placement tile of AD(2q) has been refreshed, and the structure of quadrant `q` with it. -/
def State.refreshProbes (s : State) (tile : Nat) : State := if tile % 2 ^ 17 = 0 then s.writeProbes (tile / 2 ^ 17) else s

/-- The voltage of the probe of quadrant `q` in 1/16 µV: 0.09 V per G_u of the device that WM_PROBESEL names, of which a free part
has drifted away (log entry 125). -/
def State.probeVolts (s : State) (q c : Nat) : Nat :=
  let g := s.probeHeld q (s.regf 2 0 0x390 (4 * q) 4)
  (g - (Config.freeValue (s.free + c)).toNat % (g + 1)) * 225

/-- The held input of converter `c` in 1/16 µV, for the value that stands at the pin or rail that its entry selects: a probe gives
what its device conducts, and codes 31 and 40 to 63 are 0 V (R551, R552). -/
def State.wmInput (s : State) (c uv : Nat) : Nat :=
  let code := s.wmEntry c s.wm.step 0 6
  if 32 ≤ code && code < 36 then s.probeVolts (code - 32) c else if code = 31 || 40 ≤ code then 0 else 16 * uv

/-- The gain of a GAIN code: 1, 2, 4, 8, 16 (R553). -/
def wmGain (code : Nat) : Nat := 2 ^ min code 4

/-- The calibrated code of a held input in 1/16 µV, and whether it was clamped (R553, R475). -/
def State.wmConvert (s : State) (c gain held : Nat) : Nat × Bool :=
  let code := min gain 4
  let raw := (roundAway ((held * wmGain gain * 4096 : Nat) : Int) 1800000).toNat
  let r := min raw 65535
  let g := s.cal 2 0 6 (c + code * 8)
  let o := s.cal 2 0 7 c
  let v := roundAway (((r : Int) * 16 - o) * (65536 + g)) (16 * 65536)
  ((clampI 0 65535 v).toNat, decide (65535 < raw) || decide (65535 < v))

/-- The 64-bit result of a conversion (R557). -/
def State.wmResult (s : State) (c uv : Nat) : Word64 :=
  let (code, over_) := s.wmConvert c (s.wmEntry c s.wm.step 9 3) (s.wmInput c uv)
  BitVec.ofNat 64 (code + c * 2 ^ 16 + s.wm.step * 2 ^ 19 + b2n over_ * 2 ^ 23 + s.wm.pass % 256 * 2 ^ 24 +
    s.wm.trigTime / 10 % 2 ^ 32 * 2 ^ 32)

/-- A result enters the FIFO, or is discarded and counted (R558). -/
def State.wmPush (s : State) (v : Word64) : State :=
  if 4096 ≤ s.wm.fifo.length then s.count 2 0 0x394 24 1 else { s with wm := { s.wm with fifo := s.wm.fifo ++ [v] } }

/-- The step, pass or trigger after the present step (R555). -/
def State.wmAdvance (s : State) : State :=
  let w := s.wm
  if w.step + 1 < s.wmSteps then { s with wm := { w with step := w.step + 1 } }
  else if w.pass < s.wmCfg 8 8 then { s with wm := { w with step := 0, pass := w.pass + 1 } }
  else { s with wm := { w with running := false, step := 0, pass := 0 } }

/-- WAYMARK_STEP (R555, R557): the step ends; each converter that has an entry for it writes its result. -/
def execWaymarkStep (uv : List Nat) (s : State) : Result :=
  if !s.input || !s.wm.running then .next s
  else
    let cs := s.wmEnabled.filter fun c => s.wm.step < s.wmLength c
    let u : State := { s with free := s.free + 8 }
    .next ((cs.foldl (fun t c => t.wmPush (s.wmResult c (uv.getD c 0))) u).wmAdvance)

/-- TRIG_IN_EDGE (R556): an edge of the kind that EDGE selects triggers. -/
def execTrigInEdge (rising : Bool) (s : State) : Result :=
  let e := s.wmCfg 3 2
  let t := if (rising && bit e 0) || (!rising && bit e 1) then s.wmTrigger 1 else s
  .next { t with wm := { t.wm with trigLevel := rising } }

end Sys2Proof.Machine
end

