-- ==== Sys2Proof/Machine/Faults.lean ====
section
/-! DEFINITION. Refresh (R183 to R188), the probe scan and its repairs (R194 to R206), reserve programming (R207) and the requests of R187 and R219 to R220. -/

namespace Sys2Proof.Machine

open Sys2Proof

/-! ### Entering PROGRAM for a refresh, and PROBE -/

/-- Physical rows that a scan drives (R197): data rows not remapped, and spare rows that are not dead. -/
def Tile.scanRows (x : Tile) : Nat :=
  1056 - (x.rowMap.filter fun e => rowState e.2 == 1).length - (x.rowMap.filter fun e => rowState e.2 == 2).length

/-- The toll of a whole scan, each of its products being charged by R481 (R198, R483; log entry 19). -/
def scanToll (rows load : Nat) : Nat := rows * segmentToll 64 load

/-- A probe scan begins on a tile. -/
def State.startScan (s : State) (t load : Nat) : State :=
  let x := s.tile t
  (s.setTile t { x with
    scanning := true
    probeCols := 0
    probeRows := 0
    probeDevs := 0
    scanToll := 1 }).askToll t (scanToll x.scanRows load) true

/-- A setting that takes 0 as 1. -/
def atLeast1 (v : Nat) : Nat := max 1 v

/-- Tiles of a die that have begun a refresh in the step (R185). -/
def State.begunOn (s : State) (d : Nat) : Nat := ((s.tilesOf d).filter fun e => e.2.begun).length

/-- A refresh begins, with a scan where SCAN_ON_REFRESH is 1 (R184, R196). A record of the fault log that no flag caused carries
the time at which the refresh began (R215: DESIGN CHOICE, log entry 20); the time of a flag that still waits stays. -/
def State.beginRefresh (s : State) (t : Nat) : State :=
  let s := s.modTile t fun x => { x with
    st := .program
    refresh := true
    begun := true
    due := none
    urgent := false
    ready := false
    flagTime := if x.called then x.flagTime else s.ltime }
  if s.regf 0 (tileDie t) 0x90 28 1 = 1 then s.startScan t (((s.role t).map fun r => r.2.2.2.load).getD 15)
  else
    let u := s.modTile t fun x => { x with work := allRows 4095 }
    u.prepare (u.rowFuel t) t

/-- The tiles of a die whose refresh has its turn: the lowest identifiers among those that may begin, as many as REFRESH_MAX still
allows in the step; a tile that cannot begin yet keeps its turn (R185). Urgent refreshes are counted with the others, and one
that begins between steps counts in the step that follows (DESIGN CHOICE, log entry 119). -/
def State.refreshTurn (s : State) (d : Nat) : List (Nat × Tile) :=
  ((s.tilesOf d).filter fun e => s.refreshDue e.1).take (atLeast1 (s.regf 0 d 0x7C 2 8) - s.begunOn d)

/-- REFRESH_START (R185): the first tile of a die that has its turn and can begin does so, or is woken for it (R489). -/
def execRefreshStart (d : Nat) (s : State) : Result :=
  onDie 8 d (
    match (s.refreshTurn d).find? fun e => s.refreshMay e.1 with
    | none => .next s
    | some (t, x) => if x.dormant then .next (s.askWake t 2) else .next (s.beginRefresh t))

/-- The tile returns to IDLE from PROGRAM or PROBE; a pending retirement, or orders that were held, come next. -/
def State.toIdle (s : State) (t : Nat) : State :=
  let s := s.modTile t fun x => { x with st := .idle }
  match s.role t with
  | none => if (s.tile t).retireReq then s.retireTile t 6 else s
  | some (p, _, _, e) =>
    if (s.tile t).retireReq then (s.retireTile t 6).narrowAll e.tile |>.finishPrograms p
    else if (s.tile e.tile).orders.isEmpty then s
    else (s.startOrders e.tile).finishPrograms p

/-- Every weight of a position has been written anew, so that its measured values count again (R285). -/
def State.allWritten (s : State) (t : Nat) : State :=
  s.modTile ((s.servedBy t).getD t) fun y => { y with wasBypassed := false, rewritten := [] }

/-- Nothing is left to be written in a tile. -/
def Tile.settled (x : Tile) : Bool := x.work.isEmpty && x.jobs.isEmpty && x.batchToll == 0 && x.scanToll == 0

/-- A tile written completely (R184, R207): τ is 1.0, the age 0, the accumulators are cleared. Causes of a refresh that these end
are gone with them; one requested meanwhile stays due (R183). -/
def Tile.renewed (x : Tile) : Tile :=
  { x.markRefs with
    refresh := false
    reserveProg := false
    trim := 0x4000
    age := 0
    aIdeal := 0
    aMeas := 0
    aZero := 0
    driftN := 0
    urgent := false
    due := if x.due = some 3 then x.due else none }

/-- REFRESH_COMPLETE (R184, R552): τ becomes 1.0, the age 0, and the accumulators are cleared; with a die's first placement tile the
probe structure is rewritten. -/
def execRefreshComplete (t : Nat) (s : State) : Result :=
  onTile t (
    let x := s.tile t
    if x.refresh && !x.scanning && x.st == .program && x.settled then
      .next ((((s.setTile t x.renewed).allWritten t).toIdle t).settleRoads.refreshProbes t)
    else .next s)

/-- RESERVE_PROGRAMMED (R207): the reserve serves its placement tile from the next latched vector. -/
def execReserveProgrammed (t : Nat) (s : State) : Result :=
  onTile t (
    let x := s.tile t
    if x.reserveProg && x.st == .program && x.settled then
      let u := s.setRetire (tileDie t) (t % 65536 - 512 * 64) (s.retireEntry t) 1
      .next (((u.setTile t { x.renewed with mark := 0 }).allWritten t).toIdle t).settleRoads
    else .next s)

/-- A flagged or requested tile may enter PROBE (R194, R195, R577). -/
def State.probeMay (s : State) (t : Nat) : Bool :=
  let x := s.tile t
  x.called && x.mark == 0 && (s.role t).isSome && (s.quiet t || x.dormant)

/-- PROBE_START (R195): the first tile of a die that may enters PROBE, at most 16 at once, or is woken for it. Vectors that wait
for it go to the bypass (R249). -/
def execProbeStart (d : Nat) (s : State) : Result :=
  onDie 8 d (
    if 16 ≤ ((s.tilesOf d).filter fun e => e.2.st == .probe).length then .next s
    else
      match (s.tilesOf d).find? fun e => s.probeMay e.1 with
      | none => .next s
      | some (t, x) =>
        if x.dormant then .next (s.askWake t 2)
        else
          let load := ((s.role t).map fun r => r.2.2.2.load).getD 15
          let pl := (s.servedBy t).getD t
          .next (((s.modTile pl Tile.bypassedNow).modTile t fun y => { y with
            st := .probe
            flagged := false
            probeReq := false
            checks := [] }).startScan t load).settleRoads)

/-! ### Classification (R197, R199) -/

/-- What a logical column holds: 0 to 1,023 a data column, 1,024 + check column, none for a column not in use. -/
def Tile.holdsTarget (x : Tile) (j : Nat) : Option Nat :=
  if 1120 ≤ j then
    let e := tget 0 x.colMap (j - 1120)
    if colState e = 1 then some (bits e 0 11) else none
  else
    match colTarget j with
    | some g => if x.colOf g = j then some g else none
    | none => none

/-- A column that the scan looks at: neither replaced by a spare nor dead. -/
def Tile.scanned (x : Tile) (j : Nat) : Bool :=
  j < 1152 && (if 1120 ≤ j then colState (tget 0 x.colMap (j - 1120)) != 2
    else if 1088 ≤ j then true else (x.holdsTarget j).isSome)

/-- The digit that a column should hold on a physical row (R197). -/
def State.expected (s : State) (x : Tile) (rs : List Run) (a p j : Nat) : Int :=
  if 1088 ≤ j && j < 1120 then refDigit j
  else
    match x.lrow p, x.holdsTarget j with
    | some row, some g =>
      if g < 1024 then if (runAt rs g).isSome then s.digit a row g else 0
      else (canonDigits 4 (s.checkSum rs a row ((g - 1024) / 4))).getD ((g - 1024) % 4) 0
    | _, _ => 0

/-- The pair deviates (R197): |V·τ − 64·d| exceeds PROBE_TOL. -/
def deviates (v : Int) (tau : Nat) (d : Int) (tol : Nat) : Bool := decide (tol * 2 ^ 14 < (v * tau - 64 * d * 2 ^ 14).natAbs)

/-- Deviating pairs of a scan. -/
def State.deviations (s : State) (t : Nat) (rs : List Run) (a : Nat) (meas : List (Nat × Nat × Int)) : List (Nat × Nat) :=
  let x := s.tile t
  let tol := s.regf 0 (tileDie t) 0x90 0 8
  (meas.filterMap fun (p, j, v) =>
    if p < 1056 && x.refRow p && x.scanned j && deviates v x.trim (s.expected x rs a p j) tol then some (p, j) else none).eraseDups

/-- The faults of a scan: columns, rows and device suspects, each ascending (R199). -/
structure Faulty where
  cols : List Nat
  rows : List Nat
  devs : List (Nat × Nat)
deriving DecidableEq, Repr

def classifyScan (colLimit rowLimit : Nat) (ds : List (Nat × Nat)) : Faulty :=
  let cols := (List.range 1152).filter fun j => colLimit ≤ (ds.filter fun e => e.2 == j).length
  let rest := ds.filter fun e => !cols.contains e.2
  let rows := (List.range 1056).filter fun p => rowLimit ≤ (rest.filter fun e => e.1 == p).length
  ⟨cols, rows, rest.filter fun e => !rows.contains e.1⟩

/-- Some ADC serves at least `limit` of the columns (R58, R199). -/
def adcFault (limit : Nat) (cols : List Nat) : Bool := (List.range 32).any fun a => limit ≤ (cols.filter fun j => j % 32 == a).length

/-! ### Repairs (R200 to R202) -/

/-- Physical rows in use. -/
def Tile.usedRows (x : Tile) : List Nat := (List.range 1056).filter fun p => (x.lrow p).isSome

/-- The lowest-numbered free spare column. -/
def Tile.freeCol (x : Tile) : Option Nat := (List.range 32).find? fun r => colState (tget 0 x.colMap r) == 0

/-- Work on every row in use for a target: the run that contains a data column, or a check group (R202). -/
def Tile.columnWork (x : Tile) (e : TileEntry) (g : Nat) : List Nat :=
  let what := if g < 1024 then (runAt (runsOf e.widths) g).map (·.col) else some (1024 + (g - 1024) / 4)
  match what with
  | none => []
  | some w => x.usedRows.map fun p => p * 4096 + w

/-- Merges work items in ascending order. -/
def mergeWork (a b : List Nat) : List Nat := sortBy (fun x y => x ≤ y) ((a ++ b).eraseDups)

/-- A spare column takes a target's place; the entries of the column it replaces are freed. -/
def Tile.moveCol (x : Tile) (e : TileEntry) (j g r : Nat) : Tile :=
  { x with
    colMap := tput x.colMap r (g + 2 ^ 11)
    stuck := x.stuck.filter fun k => bits k 11 11 != j
    work := mergeWork x.work (x.columnWork e g)
    probeCols := x.probeCols + 1 }

/-- Usable reference columns with non-zero digits. -/
def Tile.usableRefs (x : Tile) : Nat := ((List.range 24).filter fun k => !x.refExcl.contains (1088 + k)).length

/-- Repairs a column fault: the tile with what was done, and the cause for which it then retires, if any (R200, R201). -/
def Tile.repairCol (x : Tile) (e : TileEntry) (j : Nat) : Tile × Option Nat :=
  if 1088 ≤ j && j < 1120 then
    let y := { x with refExcl := x.refExcl ++ [j], probeCols := x.probeCols + 1 }
    (y, if y.usableRefs < 8 then some 3 else none)
  else
    let dead := if 1120 ≤ j then { x with colMap := tput x.colMap (j - 1120) (2 * 2 ^ 11) } else x
    match x.holdsTarget j with
    | none => (dead, none)
    | some g =>
      match dead.freeCol with
      | some r => (dead.moveCol e j g r, none)
      | none => (dead, some 1)

/-- Repairs a row fault, likewise. -/
def Tile.repairRow (x : Tile) (p : Nat) : Tile × Option Nat :=
  let dead := if 1024 ≤ p then { x with rowMap := tput x.rowMap (p - 1024) (2 * 1024) } else x
  if (x.lrow p).isNone then (dead, none)
  else
    match x.freeRow with
    | some r => (x.moveRow p r, none)
    | none => (dead, some 2)

/-- Repairs one after another until one retires the tile; what has been done stands. -/
def repairAll (f : Tile → Nat → Tile × Option Nat) : List Nat → Tile → Tile × Option Nat
  | [], x => (x, none)
  | j :: t, x =>
    match f x j with
    | (y, none) => repairAll f t y
    | r => r

/-- The target levels of a suspect pair, and its work item. -/
def State.suspect (s : State) (x : Tile) (e : TileEntry) (a p j : Nat) : Option ((Nat × Nat) × Nat) :=
  if 1088 ≤ j && j < 1120 then some (refLevels j, 4094)
  else
    match x.lrow p, x.holdsTarget j with
    | some row, some g =>
      if g < 1024 then
        (runAt (runsOf e.widths) g).map fun r =>
          (x.pairOf (newJob p r.col r.s 0 false none) (g - r.col) (s.digit a row g), r.col)
      else
        let k := (g - 1024) % 4
        some (x.pairOf (newJob p (1024 + (g - 1024) / 4) 4 0 false none) k (s.expected x (runsOf e.widths) a p j), 1024 + (g - 1024) / 4)
    | _, _ => none

/-- Verify-reads a suspect pair and rewrites it unless both devices lie in their windows (R200). The devices rewritten that
TILE_REPAIRED reports are those found outside their windows here, and not those written for a row or column that moved (R214:
DESIGN CHOICE, log entry 20). -/
def State.repairSuspect (s : State) (e : TileEntry) (a : Nat) (reads : List (Nat × Nat × Nat × Nat)) (x : Tile) (d : Nat × Nat) :
    Tile :=
  match s.suspect x e a d.1 d.2 with
  | none => x
  | some (lv, what) =>
    let c := x.cell d.1 d.2
    let g := ((reads.find? fun r => r.1 == d.1 && r.2.1 == d.2).map fun r => r.2.2).getD (c.gp, c.gm)
    let bad := b2n (!inWindow lv.1 g.1) + b2n (!inWindow lv.2 g.2)
    if bad = 0 then x
    else { x with work := addWork x.work d.1 what, probeDevs := x.probeDevs + bad }

/-- OUTCOME of a probe that leaves the tile in service (R215). A reference column excluded counts as a column remap, for COLS counts
it; a probe that only marked unused spares dead, or found its suspects within their windows, rewrote and moved nothing and is a
false flag (DESIGN CHOICE, log entry 20). -/
def Tile.outcomeCode (x : Tile) : Nat :=
  if x.probeCols != 0 && x.probeRows != 0 then 4 else if x.probeRows != 0 then 3 else if x.probeCols != 0 then 2
  else if x.probeDevs != 0 then 1 else 0

/-- A scan and its repairs end with the tile in service: TILE_REPAIRED and the fault log, and the refresh or IDLE (R196, R203,
R214, R215). A refresh whose scan repaired nothing reports nothing (log entry 20). -/
def State.endProbe (s : State) (t : Nat) : State :=
  let x := s.tile t
  match s.role t with
  | none => s
  | some (p, l, _, e) =>
    let o := x.outcomeCode
    let s := if x.refresh && o == 0 then s else
      (s.raiseM p evTileRepaired [(24, 2, l.num), (26, 1, o)]
        [(32, 4, e.tile), (36, 2, x.probeCols), (38, 2, x.probeRows), (40, 4, x.probeDevs)]).logFault
        (faultRecord x.flagTime e.tile o x.probeCols x.probeRows)
    let s := s.modTile t fun y => { y with scanning := false }
    if x.refresh then
      let u := s.modTile t fun y => { y with work := allRows 4095 }
      u.prepare (u.rowFuel t) t
    else s.toIdle t

/-- A tile retires by diagnosis or on request, and its orders go through the narrow copy (R189, R207). -/
def State.retireNow (s : State) (p t pl cause : Nat) : State := ((s.retireTile t cause).narrowAll pl).finishPrograms p

/-- The classified faults of a scan are repaired (R200, R201). -/
def State.repairScan (s : State) (p t : Nat) (l : Layer) (i : Nat) (e : TileEntry) (f : Faulty)
    (reads : List (Nat × Nat × Nat × Nat)) : State :=
  let a := l.narrowAddr i
  let c := repairAll (fun x j => x.repairCol e j) f.cols (s.tile t)
  let r := if c.2.isSome then c else repairAll Tile.repairRow f.rows c.1
  match r.2 with
  | some cause => (s.setTile t r.1).retireNow p t e.tile cause
  | none =>
    let y := f.devs.foldl (s.repairSuspect e a reads) r.1
    let u := s.setTile t y
    if y.work.isEmpty then u.endProbe t else u.prepare (u.rowFuel t) t

/-- PROBE_SCAN_DONE (R199): the scan, whose toll is paid, ends; a pending retirement comes first (R220). Orders that a refresh's
scan has paused for are written before it goes on (R189). -/
def execProbeScanDone (t : Nat) (meas : List (Nat × Nat × Int)) (reads : List (Nat × Nat × Nat × Nat)) (s : State) : Result :=
  onTile t (
    let x := s.tile t
    match s.role t with
    | none => .next s
    | some (p, l, i, e) =>
      if !x.scanning || x.scanToll != 2 || x.batchToll != 0 || !x.jobs.isEmpty then .next s
      else
        let d := tileDie t
        let s := s.setTile t { x with scanToll := 0 }
        if x.retireReq then .next (s.retireNow p t e.tile 6).settleRoads
        else
          let f := classifyScan (atLeast1 (s.regf 0 d 0x90 8 8)) (atLeast1 (s.regf 0 d 0x90 16 8))
            (s.deviations t (runsOf e.widths) (l.narrowAddr i) meas)
          if adcFault (atLeast1 (s.regf 0 d 0x90 24 4)) f.cols then .next (s.retireNow p t e.tile 4).settleRoads
          else .next (s.repairScan p t l i e f reads).settleRoads)

/-- REPAIR_DONE (R203): the last repair write has ended. -/
def execRepairDone (t : Nat) (s : State) : Result :=
  onTile t (if (s.tile t).scanning && (s.tile t).settled then .next (s.endProbe t).settleRoads else .next s)

/-! ### Requests (R187, R219, R220) -/

/-- The tile that AD_TILESEL of a die selects for an access path (R80, R472): each function has its own selected view, and so
has the owner's register path. -/
def State.selTile (s : State) (path d : Nat) : Nat := d * 65536 + s.regf 0 d 0x44 0 16 path

/-- REQ (R183, R187): a refresh falls due unless one is; a power-on mark keeps it from falling due (R577). -/
def State.requestRefresh (s : State) (t : Nat) : State :=
  if !tileExists t then s
  else s.modTile t fun x => if x.due.isSome || x.mark != 0 || x.st == .retired then x else { x with due := some 3 }

/-- PROBE_REQ (R219): as if flagged, at the time of the request. -/
def State.requestProbe (s : State) (t : Nat) : State :=
  if !tileExists t || (s.tile t).st == .retired || (s.tile t).st == .probe || (s.tile t).mark != 0 then s
  else (s.modTile t fun x => { x with
    probeReq := true
    flagTime := if x.called then x.flagTime else s.ltime }).settleRoads

/-- RETIRE_REQ by the state of the tile (R220). TIME of its record is that of the flag that stands, or of the request (R215: DESIGN
CHOICE, log entry 20). A scan whose toll is not admitted yet has no row in progress. -/
def State.requestRetire (s : State) (t : Nat) : State :=
  if !tileExists t then s
  else
    let x := s.tile t
    let kept := x.retireReq || x.st == .retired || x.called || x.scanning
    let s := s.modTile t fun y => { y with flagTime := if kept then y.flagTime else s.ltime }
    let now := match s.role t with
      | some (p, _, _, e) => s.retireNow p t e.tile 6
      | none => s.retireTile t 6
    match x.st with
    | .idle | .sleep | .off => now.settleRoads
    | .retired => s
    | .active => (s.modTile t fun y => { y with retireReq := true }).settleRoads
    | .program | .probe =>
      let u := s.modTile t fun y => { y with retireReq := true }
      if x.jobs.isEmpty && x.batchToll == 0 && x.scanToll != 2 then
        match s.role t with
        | some (p, _, _, _) => ((u.prepare (u.rowFuel t) t).finishPrograms p).settleRoads
        | none => u
      else u.settleRoads

end Sys2Proof.Machine
end

