-- ==== Sys2Proof/Machine/Matrix.lean ====
section
/-! DEFINITION. The matrix engines: operands, the order of addition, the epilogue, and MATMUL, INGRAD and WGRAD (R253 to R292). -/

namespace Sys2Proof.Machine

open Sys2Proof

/-! ### The product block (R439) -/

/-- Bits that the product block defines. -/
def productFields : List (Nat × Nat) :=
  [(0, 8), (8, 6), (14, 10), (24, 3), (32, 32), (64, 24), (96, 24), (128, 24), (160, 16), (176, 16), (192, 640)]

structure ProductArgs where
  die : Nat
  split : Nat
  shape : Nat
  aFmt : Nat
  bFmt : Nat
  aTrans : Bool
  bTrans : Bool
  preload : Nat
  epiBias : Bool
  act : Nat
  preact : Bool
  sumsq : Bool
  final : Bool
  outFmt : Nat
  alpha : Word
  m : Nat
  n : Nat
  k : Nat
  layer : Nat
  slot : Nat
  a : Nat
  b : Nat
  aScales : Nat
  bScales : Nat
  preAddr : Nat
  biasAddr : Nat
  out : Nat
  actAddr : Nat
  preactAddr : Nat
  biasOut : Nat
deriving DecidableEq, Repr

def productArgs (bs : List Byte) : ProductArgs where
  die := bits (field bs 0 1) 0 3
  split := 2 ^ bits (field bs 0 1) 3 2
  shape := bits (field bs 0 1) 5 3
  aFmt := bits (field bs 1 1) 0 3
  bFmt := bits (field bs 1 1) 3 3
  aTrans := bit (field bs 1 1) 6
  bTrans := bit (field bs 1 1) 7
  preload := bits (field bs 2 1) 0 2
  epiBias := bit (field bs 2 1) 2
  act := bits (field bs 2 1) 3 2
  preact := bit (field bs 2 1) 5
  sumsq := bit (field bs 2 1) 6
  final := bit (field bs 2 1) 7
  outFmt := bits (field bs 3 1) 0 3
  alpha := BitVec.ofNat 32 (field bs 4 4)
  m := bits (field bs 8 4) 0 24 + 1
  n := bits (field bs 12 4) 0 24 + 1
  k := bits (field bs 16 4) 0 24 + 1
  layer := field bs 20 2
  slot := field bs 22 2
  a := field bs 24 8
  b := field bs 32 8
  aScales := field bs 40 8
  bScales := field bs 48 8
  preAddr := field bs 56 8
  biasAddr := field bs 64 8
  out := field bs 72 8
  actAddr := field bs 80 8
  preactAddr := field bs 88 8
  biasOut := field bs 96 8

/-- The operand format is FP8 (R255). -/
def isFp8 (fmt : Nat) : Bool := fmt == 1 || fmt == 2
/-- Bytes of an operand element. -/
def operandSize (fmt : Nat) : Nat := if fmt = 0 then 2 else if fmt = 3 then 4 else 1
/-- The format that OUTFMT names. -/
def outFmtOf (v : Nat) : TFmt := if v = 0 then .f32 else if v = 1 then .bf16 else if v = 2 then .e4m3 else .e5m2

/-! ### Operands (R255, R256, R258) -/

/-- A loaded operand: values by row and K position, E8M0 exponents by row and chunk where they are kept apart, conversions that
overflowed and non-finite elements. -/
structure Operand where
  vals : List (List Fl)
  exps : List (List Int)
  conv : Nat
  nonfin : Nat
deriving DecidableEq, Repr

def elemFl (fmt v : Nat) : Fl :=
  if fmt = 0 then decode fmtBf16 v else if fmt = 1 then e4m3 v else if fmt = 2 then e5m2 v else decode fmt32 v
/-- RNE to BF16, as a value. -/
def toBf (x : Fl) : Fl := decode fmtBf16 (encode fmtBf16 x)

/-- How an operand is loaded: unscaled with its exponents apart, rounded to BF16, or exactly. -/
inductive LoadMode where
  | unscaled
  | toBf16
  | exact
deriving DecidableEq, Repr

/-- One stored row: values, conversions that overflowed, non-finite elements and NaN scales (R255, R258, R279). -/
def storedRow (fmt : Nat) (mode : LoadMode) (n : Nat) (bs sc : List Byte) : List Fl × Nat × Nat :=
  let xs := (wordsOf (operandSize fmt) n bs).map (elemFl fmt)
  let scale := fun (i : Nat) => (sc.getD (i / 32) 0).toNat
  let one := fun (e : Fl × Nat) =>
    let x := e.1
    if isFp8 fmt then
      if scale e.2 = 255 then (.nan, false)
      else
        let y := x.scale ((scale e.2 : Int) - 127)
        match mode with
        | .unscaled => (x, false)
        | .exact => (y, false)
        | .toBf16 => (toBf y, x.finite && !(toBf y).finite)
    else if fmt = 3 && mode == .toBf16 then (toBf x, x.finite && !(toBf x).finite)
    else (x, false)
  let ys := xs.zipIdx.map one
  (ys.map (·.1), (ys.filter (·.2)).length,
    (xs.filter fun x => !x.finite).length + (if isFp8 fmt then (sc.filter fun b => b.toNat == 255).length else 0))

def flZero : Fl := .fin false 0 0
/-- Rows and columns exchanged. -/
def transpose (n : Nat) (xs : List (List Fl)) : List (List Fl) := (List.range n).map fun i => xs.map fun r => r.getD i flZero

/-- Stored rows and their length, for an operand of `rows` rows and `k` K positions. -/
def storedShape (rows k : Nat) (trans : Bool) : Nat × Nat := if trans then (k, rows) else (rows, k)
/-- Bytes of a scale array. -/
def scaleBytes (rows k : Nat) (trans : Bool) : Nat :=
  (storedShape rows k trans).1 * ceilDiv (storedShape rows k trans).2 32

/-- Loads an operand, by row and K position. -/
def State.loadOperand (s : State) (fmt : Nat) (mode : LoadMode) (rows k : Nat) (trans : Bool) (pl spl : Place) : Operand :=
  let (n, len) := storedShape rows k trans
  let nb := ceilDiv len 32
  let rs := (List.range n).map fun i =>
    let sc := if isFp8 fmt then s.readAt (spl.plus (i * nb)) nb else []
    (storedRow fmt mode len (s.readAt (pl.plus (i * len * operandSize fmt)) (len * operandSize fmt)) sc, sc)
  let vals := rs.map (·.1.1)
  ⟨if trans then transpose rows vals else vals,
   rs.map fun r => r.2.map fun b => if b.toNat = 255 then 0 else (b.toNat : Int) - 127,
   (rs.map (·.1.2.1)).sum, (rs.map (·.1.2.2)).sum⟩

/-! ### The order of addition (R257, R261 to R264) -/

/-- Sums of neighbours. -/
def pairAdd : List Word → List Word
  | a :: b :: t => add32 a b :: pairAdd t
  | x => x

/-- The chunk sum of at most 32 products (R262); padding contributes +0 (R261). -/
def chunkSum (ps : List Word) : Word :=
  (pairAdd (pairAdd (pairAdd (pairAdd (pairAdd (ps ++ List.replicate (32 - ps.length) 0)))))).headD 0

/-- The element product (R257). -/
def product (a b : Fl) : Word := r32 (a.mul b)

/-- A chunk sum promoted with its scales (R263). -/
def promote (c : Word) (e : Int) : Word64 := r64 ((f32 c).scale e)

def pairAdd64 : List Word64 → List Word64
  | a :: b :: t => add64 a b :: pairAdd64 t
  | x => x

/-- The wide totals of the parts of promoted chunk sums, with the preload and split `sp` (R263, R264). -/
def wideParts (vs : List Word64) (pre : Word64) (sp : Nat) : List Word64 :=
  let c := vs.length
  (List.range sp).map fun p =>
    ((vs.drop (p * c / sp)).take ((p + 1) * c / sp - p * c / sp)).foldl add64 (if p = 0 then pre else 0)
/-- The combination of the parts in the combine unit (R264). -/
def combineParts (ws : List Word64) : Word64 := (pairAdd64 (pairAdd64 (pairAdd64 ws))).headD 0

/-- An infinite value. -/
def Fl.isInf (x : Fl) : Bool := match x with
  | .inf _ => true
  | _ => false

/-- What the engines form for one output: the parts' wide totals, the combined one, and the chunk sums and totals that overflowed to
an infinity from finite inputs (R278). -/
structure Total where
  parts : List Word64
  w : Word64
  ovf : Nat
deriving DecidableEq, Repr

/-- One output's totals (R261 to R264, R278). -/
def dotProduct (a b : List Fl) (ea eb : List Int) (pre : Word) (sp : Nat) : Total :=
  let as := chunk 32 a
  let bs := chunk 32 b
  let cs := (as.zip bs).map fun e => chunkSum (List.zipWith product e.1 e.2)
  let ovf := (((as.zip bs).zip cs).filter fun e =>
    e.1.1.all Fl.finite && e.1.2.all Fl.finite && (f32 e.2).isInf).length
  let vs := cs.zipIdx.map fun e => promote e.1 (ea.getD e.2 0 + eb.getD e.2 0)
  let ws := wideParts vs (r64 (f32 pre)) sp
  let w := combineParts ws
  let chunkOvf := (ws.filter fun p => (f64 p).isInf && cs.all fin32 && fin32 pre).length
  ⟨ws, w, ovf + chunkOvf + b2n (ws.all (fun p => (f64 p).finite) && (f64 w).isInf)⟩

/-- rnd32 of a wide total times ALPHA (R271), and whether it overflowed. -/
def scaleAlpha (w : Word64) (alpha : Word) : Word := r32 ((f64 w).mul (f32 alpha))
def overflowed (w : Word64) (y : Word) : Nat := b2n ((f64 w).finite && (f32 y).isInf)

/-! ### Output tiles and sums of squares (R266, R271) -/

def shapeSize (c : Nat) : Nat × Nat :=
  if c = 0 then (64, 64) else if c = 1 then (128, 32) else if c = 2 then (32, 128) else if c = 3 then (256, 16) else (16, 256)

/-- Outputs of all tiles of a shape, padding included. -/
def padded (m n c : Nat) : Nat := ceilDiv m (shapeSize c).1 * (shapeSize c).1 * (ceilDiv n (shapeSize c).2 * (shapeSize c).2)

/-- The shape in use (R266): automatic takes the least padding, ties to the lower code. -/
def tileShape (shape m n : Nat) : Nat × Nat :=
  if shape = 7 then
    shapeSize ((List.range 5).foldl (fun b c => if padded m n c < padded m n b then c else b) 0)
  else shapeSize shape

/-- The sum of squares by tiles in ascending number, row-major within a tile. -/
def sumSquares (shape : Nat) (ys : List (List Word)) : Word64 :=
  let m := ys.length
  let n := (ys.headD []).length
  let (tr, tc) := tileShape shape m n
  let tiles := (List.range (ceilDiv m tr)).flatMap fun i => (List.range (ceilDiv n tc)).map fun j =>
    (((ys.drop (i * tr)).take tr).flatMap fun r => (r.drop (j * tc)).take tc).foldl (fun t y => r64 ((f64 t).add (sq64 y))) 0
  tiles.foldl add64 0

/-! ### Engines, groups and accumulator stores (R253, R265, R266, R277) -/

/-- The groups of a split that may form: neighbouring engines within a cluster or two clusters, none of them reserved (R265). -/
def engineGroups (sp reserved : Nat) : List (List Nat) :=
  ((List.range (engineCount / sp)).map fun g => (List.range sp).map (g * sp + ·)).filter fun g =>
    g.all fun e => e + reserved < engineCount
/-- Output tiles of an operation (R266). -/
def tileCount (shape m n : Nat) : Nat := ceilDiv m (tileShape shape m n).1 * ceilDiv n (tileShape shape m n).2
/-- The tile of output (i, j), and its place within the tile, both row-major (R266). -/
def tileAt (shape m n i j : Nat) : Nat × Nat :=
  let (tr, tc) := tileShape shape m n
  (i / tr * ceilDiv n tc + j / tc, i % tr * tc + j % tc)
/-- The accumulator stores after an operation of `m` × `n` outputs: tiles go to the groups in ascending number, each group keeping
those of its latest tile, part p on its p-th engine (R265, R266). All tiles of an operation take one time, so the groups take them
in turn; the operation holds a whole group for each tile and never a smaller one (R281). -/
def GradDie.keepTotals (g : GradDie) (groups : List (List Nat)) (shape m n : Nat) (ts : List (List Total)) : GradDie :=
  let k := groups.length
  let used := (groups.take (tileCount shape m n)).flatten
  let old := g.accs.filter fun e => !used.contains (e.1 / storeTotals)
  { g with accs := ts.zipIdx.foldl (fun acc r => r.1.zipIdx.foldl (fun acc c =>
      let t := tileAt shape m n r.2 c.2
      if tileCount shape m n ≤ t.1 + k then
        (((groups.getD (t.1 % k) []).zip c.1.parts).foldl (fun acc e => tset 0 acc (e.1 * storeTotals + t.2) e.2) acc)
      else acc) acc) old }
def State.keepTotals (s : State) (d sp shape m n : Nat) (ts : List (List Total)) : State :=
  s.setGrad d ((s.grad d).keepTotals (engineGroups sp (s.reservedEngines d)) shape m n ts)

/-! ### Storing results -/

/-- Writes a tensor's rows, and counts saturations and non-finite values on a gradient die (R272, R278, R279). -/
def State.storeRows (s : State) (fn d : Nat) (f : TFmt) (pl : Place) (ys : List (List Word)) : State :=
  let n := (ys.headD []).length
  ys.zipIdx.foldl (fun t e =>
    let c := convRow f e.1
    ((t.writeAll fn pl (rowWrites f ys.length n e.2 c)).count 1 d 0x144 24 c.sat).count 1 d 0x148 0 c.nonfin) s

/-- Counts of an operation (R278, R279). -/
def State.countMatrix (s : State) (d conv ovf nonfin : Nat) : State :=
  ((s.count 1 d 0x144 16 conv).count 1 d 0x144 8 ovf).count 1 d 0x148 0 nonfin

/-! ### Checks (R259, R260, R437) -/

/-- An address field of an argument block: offset, value, bytes, written. -/
structure Span where
  off : Nat
  v : Nat
  n : Nat
  out : Bool
deriving DecidableEq, Repr

/-- Ranges of `n` and `m` bytes overlap. -/
def overlaps (a b : Place) (n m : Nat) : Bool :=
  n != 0 && m != 0 && match a, b with
    | .dev x, .dev y => x < y + m && y < x + n
    | .slab x, .slab y => x < y + m && y < x + n
    | .host x, .host y => x < y + m && y < x + n
    | _, _ => false

/-- Form, use and start of the fields (R437). -/
def startCheck (x : Part) (xs : List Span) : Option (Nat × List Byte) := x.badRange (xs.map fun a => (a.v, 3, 1, a.off, true))
/-- The address fields to which R259 gives an alignment and a place: A, B, scales, preload, bias, output. -/
def placedFields : List Nat := [24, 32, 40, 48, 56, 64, 72]
/-- A device address beyond the partition's HBM. -/
def beyondHbm (v : Nat) : Bool := match place v with
  | some (.dev a) => hbmEnd ≤ a
  | _ => false
/-- These addresses lie in HBM or slab and are aligned to a road block (R259). -/
def alignCheck (xs : List Span) : Option (Nat × List Byte) :=
  (xs.find? fun a => placedFields.contains a.off && (a.v % 256 != 0 || beyondHbm a.v)).map fun a => (stOpForm, resultAt a.off true)
/-- The output overlaps an input (R260). -/
def overlapCheck (xs : List Span) : Option (Nat × List Byte) :=
  formIf (xs.any fun a => a.off == 72 && xs.any fun b => !b.out && match place a.v, place b.v with
    | some p, some q => overlaps p q a.n b.n
    | _, _ => false) 72 true
/-- Whole ranges lie in the partition (R437). -/
def rangeCheck (x : Part) (xs : List Span) : Option (Nat × List Byte) := x.badRange (xs.map fun a => (a.v, 3, a.n, a.off, true))
/-- The accesses of the spans. -/
def spanAccess (xs : List Span) : List (Bool × Place × Nat) := xs.filterMap fun a => (place a.v).map fun p => (a.out, p, a.n)
/-- A place that has been checked. -/
def placeOf (v : Nat) : Place := (place v).getD (.dev 0)

/-- The limits of R259 that MATMUL, INGRAD and WGRAD share, in the order of the block. -/
def limitChecks (x : Part) (a : ProductArgs) (useB : Bool) : List (Option (Nat × List Byte)) := [
  formIf (!(x.dies 1).contains a.die) 0 true,
  formIf (a.shape == 5 || a.shape == 6) 0 true,
  formIf (3 < a.aFmt || (useB && 3 < a.bFmt)) 1 true,
  formIf (a.preload == 3 || a.act == 3) 2 true,
  formIf (3 < a.outFmt) 3 true,
  formIf (!fin32 a.alpha || (f32 a.alpha).isZero) 4 true]

/-! ### MATMUL -/

/-- The address fields that a MATMUL uses. -/
def matmulSpans (a : ProductArgs) : List Span :=
  [⟨24, a.a, a.m * a.k * operandSize a.aFmt, false⟩, ⟨32, a.b, a.k * a.n * operandSize a.bFmt, false⟩] ++
    (if isFp8 a.aFmt && a.aScales != 0 then [⟨40, a.aScales, scaleBytes a.m a.k a.aTrans, false⟩] else []) ++
    (if isFp8 a.bFmt && a.bScales != 0 then [⟨48, a.bScales, scaleBytes a.n a.k (!a.bTrans), false⟩] else []) ++
    (if a.preload = 1 || a.preload = 2 then [⟨56, a.preAddr, if a.preload = 1 then 4 * a.n else 4 * a.m * a.n, false⟩] else []) ++
    (if a.epiBias then [⟨64, a.biasAddr, 4 * a.n, false⟩] else []) ++
    [⟨72, a.out, tensorBytes (outFmtOf a.outFmt) a.m a.n, true⟩] ++
    (if a.act = 2 then [⟨80, a.actAddr, 528, false⟩] else []) ++
    (if a.preact then [⟨88, a.preactAddr, 2 * a.m * a.n, true⟩] else [])

/-- An activation table that breaks R126. -/
def State.badTable (s : State) (x : Part) (v : Nat) : Bool :=
  match x.reach 3 v 528 with
  | some pl => !actTableOk (s.readAt pl 528)
  | none => false

/-- MATMUL's checks in the order of R260. -/
def State.matmulCheck (s : State) (x : Part) (args : List Byte) (a : ProductArgs) : Option (Nat × List Byte) :=
  let sp := matmulSpans a
  firstFail ([(reservedAt args 128 productFields).map fun o => (stOpForm, resultAt o true), startCheck x sp] ++
    limitChecks x a true ++ [
      formIf (a.layer != 0xFFFF) 20 true,
      formIf (a.slot != 0xFFFF) 22 true,
      alignCheck sp,
      formIf (isFp8 a.aFmt && a.aScales == 0) 40 true,
      formIf (isFp8 a.bFmt && a.bScales == 0) 48 true,
      formIf (a.act == 2 && s.badTable x a.actAddr) 80 true,
      formIf (2 ^ 40 < a.m * a.n * (outFmtOf a.outFmt).size) 8 true,
      overlapCheck sp,
      rangeCheck x sp])

/-- A slab access is among the ranges. -/
def usesSlab (xs : List (Bool × Place × Nat)) : Bool := xs.any fun e => match e.2.1 with | .slab _ => true | _ => false

/-- One output of a product: its totals, value, pre-activation value and the epilogue results that overflowed. -/
structure Out where
  total : Total
  y : Word
  p : Word
  ovf : Nat
deriving DecidableEq, Repr

/-- The outputs of a MATMUL (R261 to R273). -/
def matmulOut (a : ProductArgs) (ma mb : Operand) (pre bias : List Word) (table : List Byte) : List (List Out) :=
  ma.vals.zipIdx.map fun r => mb.vals.zipIdx.map fun c =>
    let p := if a.preload = 1 then pre.getD c.2 0 else if a.preload = 2 then pre.getD (r.2 * a.n + c.2) 0 else 0
    let t := dotProduct r.1 c.1 (ma.exps.getD r.2 []) (mb.exps.getD c.2 []) p a.split
    let b := bias.getD c.2 0
    let y0 := scaleAlpha t.w a.alpha
    let y1 := if a.epiBias then add32 y0 b else y0
    let y := activate a.act table y1
    ⟨t, y, y1, overflowed t.w y0 + b2n (a.epiBias && fin32 y0 && fin32 b && (f32 y1).isInf) + b2n (fin32 y1 && (f32 y).isInf)⟩
/-- Overflows of all outputs (R278). -/
def outOvf (o : List (List Out)) : Nat := (o.map fun r => (r.map fun e => e.total.ovf + e.ovf).sum).sum

/-- Both operands are FP8 with blocks along K (R258). -/
def fp8Rate (a : ProductArgs) : Bool := isFp8 a.aFmt && isFp8 a.bFmt && !a.aTrans && a.bTrans

/-- RESULT with the sum of squares (R444). -/
def sumResult (on : Bool) (w : Word64) : List Byte := slice (if on then natLe 8 w.toNat else []) 0 16

/-- The operation of a MATMUL whose checks have passed, on the one gradient die that it names (R254). -/
def State.runMatmul (s : State) (q p : Nat) (a : ProductArgs) : State :=
  let mode := if fp8Rate a then LoadMode.unscaled else .toBf16
  let ma := s.loadOperand a.aFmt mode a.m a.k a.aTrans (placeOf a.a) (placeOf a.aScales)
  let mb := s.loadOperand a.bFmt mode a.n a.k (!a.bTrans) (placeOf a.b) (placeOf a.bScales)
  let ma := if fp8Rate a then ma else { ma with exps := [] }
  let mb := if fp8Rate a then mb else { mb with exps := [] }
  let np := if a.preload = 1 then a.n else if a.preload = 2 then a.m * a.n else 0
  let pre := words32 np (s.readAt (placeOf a.preAddr) (4 * np))
  let bias := if a.epiBias then words32 a.n (s.readAt (placeOf a.biasAddr) (4 * a.n)) else []
  let table := if a.act = 2 then s.readAt (placeOf a.actAddr) 528 else []
  let o := matmulOut a ma mb pre bias table
  let ys := o.map fun r => r.map (·.y)
  let t := s.keepTotals a.die a.split a.shape a.m a.n (o.map fun r => r.map (·.total))
  let t := (t.countMatrix a.die (ma.conv + mb.conv) (outOvf o) (ma.nonfin + mb.nonfin)).storeRows p a.die (outFmtOf a.outFmt)
    (placeOf a.out) ys
  let t := if a.preact then t.storeRows p a.die .bf16 (placeOf a.preactAddr) (o.map fun r => r.map (·.p)) else t
  t.finish q stOk (sumResult a.sumsq (sumSquares a.shape ys))

/-- MATMUL (R253 to R281); `slabErr` is an uncorrectable error of a slab read (R281). -/
def execMatmul (q : Nat) (slabErr : Bool) (s : State) : Result :=
  onRunning q 0x12 s fun run =>
    let p := s.queuePart q
    let a := productArgs run.args
    match s.matmulCheck (s.part p) run.args a with
    | some (st, res) => s.finish q st res
    | none =>
      let xs := spanAccess (matmulSpans a)
      s.access q xs fun s => if slabErr then s.finish q stSlabEcc result0 else s.runMatmul q p a

/-! ### Weight operands of a layer (R285) -/

/-- The weight w_oi of layer output `o` and layer input `i`. -/
def State.weightOperand (s : State) (l : Layer) (o i : Nat) : Fl :=
  match l.chainOf o with
  | none => flZero
  | some (c, r) =>
    match l.tiles.zipIdx.find? fun e => e.1.chain == c && e.1.pos == i / 1024 with
    | none => flZero
    | some (e, n) =>
      match (runsOf e.widths)[r]? with
      | none => flZero
      | some run =>
        let row := i % 1024
        let key := row * 1024 + run.col
        let pl := s.tile e.tile
        let held := flInt (s.heldWeight (l.narrowAddr n) row run)
        if l.measured && l.readBack && !s.bypassed l e.tile && (!pl.wasBypassed || pl.rewritten.contains key) &&
            (tfind (s.tile (s.physTile e.tile)).inexact key).isNone then
          toBf ((flInt (signed 16 (leNat (memRead s.mem (l.measuredAddr n row r) 2)))).scale (-6))
        else held

/-- Ranges of the copies that INGRAD reads. -/
def Layer.copyAccess (l : Layer) : List (Bool × Place × Nat) :=
  (l.tiles.zipIdx.map fun e => (false, Place.dev (l.narrowAddr e.2), copyBytes)) ++
    if l.measured && l.readBack then [(false, Place.dev (l.measuredAddr 0 0 0), 2 * l.weights)] else []

/-- σ of a layer output. -/
def Layer.sigma (l : Layer) (o : Nat) : Fl :=
  match l.chainOf o with
  | none => flZero
  | some (c, r) => (((l.chainRuns c)[r]?).map fun run => Machine.decode fmt16 (tget 0 l.scales (c * 1024 + run.col))).getD flZero

/-! ### INGRAD (R284 to R288) -/

/-- The address fields that dy uses: rows by K positions. -/
def gradSpans (a : ProductArgs) (rows k : Nat) : List Span :=
  [⟨24, a.a, rows * k * operandSize a.aFmt, false⟩] ++
    if isFp8 a.aFmt && a.aScales != 0 then [⟨40, a.aScales, scaleBytes rows k a.aTrans, false⟩] else []

/-- The address fields that INGRAD uses. -/
def ingradSpans (a : ProductArgs) (l : Layer) : List Span :=
  gradSpans a a.m l.outputs ++
    (if a.preload = 1 || a.preload = 2 then
      [⟨56, a.preAddr, if a.preload = 1 then 4 * l.inputs else 4 * a.m * l.inputs, false⟩] else []) ++
    [⟨72, a.out, tensorBytes (outFmtOf a.outFmt) a.m l.inputs, true⟩]

/-- The form checks that INGRAD and WGRAD share. -/
def gradCheck (x : Part) (args : List Byte) (a : ProductArgs) (starts : List Span) : Option (Nat × List Byte) :=
  firstFail ([(reservedAt args 128 productFields).map fun o => (stOpForm, resultAt o true), startCheck x starts] ++
    limitChecks x a false ++ [formIf (isFp8 a.aFmt && a.aScales == 0) 40 true])

/-- Address fields whose start is tested before the layer is known. -/
def gradStarts (a : ProductArgs) (wgrad : Bool) : List Span :=
  gradSpans a 1 1 ++ (if a.preload = 1 || a.preload = 2 then [⟨56, a.preAddr, 1, false⟩] else []) ++ [⟨72, a.out, 1, true⟩] ++
    if wgrad && a.biasOut != 0 then [⟨96, a.biasOut, 1, true⟩] else []

/-- Checks once the layer is known. -/
def spanCheck (x : Part) (bytes : Nat) (sp : List Span) : Option (Nat × List Byte) :=
  firstFail [alignCheck sp, formIf (2 ^ 40 < bytes) 8 true, overlapCheck sp, rangeCheck x sp]

/-- One token's input gradient. -/
def State.ingradRow (a : ProductArgs) (l : Layer) (cols : List (List Fl)) (pre : List Word) (t : Nat) (u : List Fl) : List Out :=
  let ws := cols.map fun c => dotProduct u c [] [] 0 a.split
  let scaled := ws.map fun w => scaleAlpha w.w a.alpha
  let turned := unrotate l.rot l.seed scaled
  let ys := if a.preload = 0 then turned else
    turned.zipIdx.map fun y => add32 y.1 (pre.getD (if a.preload = 1 then y.2 else t * l.inputs + y.2) 0)
  let turns := scaled.all fin32
  ws.zipIdx.map fun w =>
    let y0 := scaled.getD w.2 0
    let y1 := turned.getD w.2 0
    let y := ys.getD w.2 0
    ⟨w.1, y, y, overflowed w.1.w y0 + b2n (turns && (f32 y1).isInf) + b2n (fin32 y1 && (f32 y).isInf)⟩

/-- The operation of an INGRAD whose checks have passed. -/
def State.runIngrad (s : State) (q p : Nat) (a : ProductArgs) (l : Layer) : State :=
  let dy := s.loadOperand a.aFmt .exact a.m l.outputs a.aTrans (placeOf a.a) (placeOf a.aScales)
  let sig := (List.range l.outputs).map l.sigma
  let us := dy.vals.map fun r => List.zipWith (fun x v => (x, toBf (x.mul v))) r sig
  let conv := (us.map fun r => (r.filter fun e => e.1.finite && !e.2.finite).length).sum
  let cols := (List.range l.inputs).map fun i => (List.range l.outputs).map fun o => s.weightOperand l o i
  let np := if a.preload = 1 then l.inputs else if a.preload = 2 then a.m * l.inputs else 0
  let pre := words32 np (s.readAt (placeOf a.preAddr) (4 * np))
  let rs := us.zipIdx.map fun r => State.ingradRow a l cols pre r.2 (r.1.map (·.2))
  let ys := rs.map fun r => r.map (·.y)
  let t := s.keepTotals a.die a.split a.shape a.m l.inputs (rs.map fun r => r.map (·.total))
  let t := (t.countMatrix a.die conv (outOvf rs) dy.nonfin).storeRows p a.die (outFmtOf a.outFmt) (placeOf a.out) ys
  t.finish q stOk (sumResult a.sumsq (sumSquares a.shape ys))

/-- INGRAD (R284 to R288). -/
def execIngrad (q : Nat) (slabErr : Bool) (s : State) : Result :=
  onRunning q 0x14 s fun run =>
    let p := s.queuePart q
    let x := s.part p
    let a := productArgs run.args
    match gradCheck x run.args a (gradStarts a false) with
    | some (st, res) => s.finish q st res
    | none =>
      match findLayer run.work.layers a.layer with
      | none => s.finish q stMapAbsent result0
      | some l =>
        match spanCheck x (a.m * l.inputs * (outFmtOf a.outFmt).size) (ingradSpans a l) with
        | some (st, res) => s.finish q st res
        | none =>
          let xs := spanAccess (ingradSpans a l) ++ l.copyAccess
          s.access q xs fun s => if slabErr then s.finish q stSlabEcc result0 else s.runIngrad q p a l

/-! ### Releasing slots (R283, R321) -/

/-- The slot that a backward descriptor reads. -/
def readsSlot (r : Running) : Option Nat :=
  if !r.began || r.done.isSome then none
  else if dOpcode r.desc = 0x15 then some (field r.args 22 2)
  else if dOpcode r.desc = 0x13 && dFlag r.desc 0 then some (field r.args 2 2)
  else if dOpcode r.desc = 0x16 then some (field r.desc 26 2)
  else none

/-- Another running descriptor reads the slot. -/
def State.slotRead (s : State) (p q slot : Nat) : Bool :=
  (s.queuesOf p).any fun e => e.1 != q && (e.2.running.bind readsSlot) == some slot

/-- At the completion of a reader: a slot that a RELEASE names, by it or by an earlier reader, is freed once no other reads it. -/
def State.releaseSlot (s : State) (p q slot : Nat) (release : Bool) : State :=
  if !release && !(s.part p).wantRelease.contains slot then s
  else if s.slotRead p q slot then
    s.modPart p fun x => { x with wantRelease := slot :: x.wantRelease.filter (· != slot) }
  else s.freeSlot p slot

/-! ### WGRAD (R289 to R291, R313) -/

/-- The address fields that WGRAD uses; the slot stands at its own field. -/
def wgradSpans (a : ProductArgs) (l : Layer) (slotAt need : Nat) : List Span :=
  gradSpans a l.outputs a.k ++ [⟨22, slotAt, need, false⟩] ++
    (if a.preload = 1 || a.preload = 2 then [⟨56, a.preAddr, 4 * l.weights, false⟩] else []) ++
    [⟨72, a.out, tensorBytes (outFmtOf a.outFmt) 1 l.weights, true⟩] ++
    if a.biasOut != 0 then [⟨96, a.biasOut, 4 * l.outputs, true⟩] else []

/-- The first `tokens` stashed inputs of a slot that holds `all`, by layer input: each token's value as BF16, and conversions that
overflowed; the scale words stand after the codes of all tokens (R289, R294). -/
def State.stashedInputs (s : State) (l : Layer) (at_ tokens all : Nat) : List (List Fl) × Nat :=
  let rows := (List.range tokens).map fun t =>
    let codes := memRead s.mem (at_ + t * l.inputs) l.inputs
    let words := wordsOf 4 l.blocks (memRead s.mem (at_ + all * l.inputs + 4 * l.blocks * t) (4 * l.blocks))
    codes.zipIdx.map fun c =>
      let w := words.getD (c.2 / 1024) 0
      let e := bits w (8 + 2 * (c.2 % 1024 * l.ns / 1024)) 2
      toBf (((ofIntE (if 1 < l.a && 128 ≤ c.1.toNat then -((c.1.toNat % 128 : Nat) : Int) else (c.1.toNat % 128 : Nat)) 0)).scale
        ((w % 256 : Nat) - 127 + (e : Int)))
  (transpose l.inputs rows, (rows.map fun r => (r.filter fun x => !x.finite).length).sum)

/-- The gradient's elements in parameter order: entry, row, run (R290). -/
def paramOrder (l : Layer) : List (Nat × Nat) :=
  l.tiles.flatMap fun e => (List.range 1024).flatMap fun row =>
    (runsOf e.widths).zipIdx.map fun r => (e.outBase + r.2, 1024 * e.pos + row)

/-- The place of the gradient of output `o` and input `i` in parameter order. -/
def Layer.paramIndex (l : Layer) (o i : Nat) : Nat :=
  match l.tiles.zipIdx.find? fun e => e.1.pos == i / 1024 && e.1.outBase ≤ o && o < e.1.outBase + (runsOf e.1.widths).length with
  | some (e, n) => l.weightBase n + i % 1024 * (runsOf e.widths).length + (o - e.outBase)
  | none => 0

/-- A bias gradient: dy summed over tokens in binary64 and rounded once to binary32; with preload it is then added to the value
already there (R291). -/
def biasGrad (old : Option Word) (dy : List Fl) : Word :=
  let db := r32 (f64 (dy.foldl (fun t y => r64 ((f64 t).add y)) 0))
  match old with
  | some w => add32 w db
  | none => db

/-- The weight gradients as a product of outputs by inputs. -/
def wgradOut (a : ProductArgs) (l : Layer) (dy xs : List (List Fl)) (pre : List Word) : List (List Out) :=
  (List.range l.outputs).map fun o => (List.range l.inputs).map fun i =>
    let t := dotProduct (dy.getD o []) (xs.getD i []) [] [] (pre.getD (l.paramIndex o i) 0) a.split
    let y := scaleAlpha t.w a.alpha
    ⟨t, y, y, overflowed t.w y⟩

/-- The operation of a WGRAD whose checks have passed. Its sum of squares is that of the product of outputs by inputs, tile by tile
(R271, R313; log entry 63). -/
def State.runWgrad (s : State) (q p : Nat) (a : ProductArgs) (l : Layer) (slotAt tokens : Nat) (release : Bool) : State :=
  let dy := s.loadOperand a.aFmt .exact l.outputs a.k a.aTrans (placeOf a.a) (placeOf a.aScales)
  let us := dy.vals.map fun r => r.map fun x => (x, toBf x)
  let conv := (us.map fun r => (r.filter fun e => e.1.finite && !e.2.finite).length).sum
  let xs := s.stashedInputs l slotAt a.k tokens
  let pre := if a.preload = 0 then [] else words32 l.weights (s.readAt (placeOf a.preAddr) (4 * l.weights))
  let o := wgradOut a l (us.map fun r => r.map (·.2)) xs.1 pre
  let ys := o.map fun r => r.map (·.y)
  let sq := sumSquares a.shape ys
  let t := s.keepTotals a.die a.split a.shape l.outputs l.inputs (o.map fun r => r.map (·.total))
  let t := (t.countMatrix a.die (conv + xs.2) (outOvf o) dy.nonfin).storeRows p a.die (outFmtOf a.outFmt)
    (placeOf a.out) [(paramOrder l).map fun e => (ys.getD e.1 []).getD e.2 0]
  let t :=
    if a.biasOut = 0 then t
    else
      let old := if a.preload = 0 then [] else words32 l.outputs (s.readAt (placeOf a.biasOut) (4 * l.outputs))
      t.writeAt p (placeOf a.biasOut) (bytes32 (dy.vals.zipIdx.map fun r => biasGrad (old[r.2]?) r.1))
  let t :=
    if a.final then
      let g := t.grad a.die
      t.setGrad a.die { g with gradSq := tput g.gradSq l.num (add64 (tget 0 g.gradSq l.num) sq) }
    else t
  (t.finish q stOk (sumResult a.sumsq sq)).releaseSlot p q a.slot release

/-- WGRAD (R289 to R291). -/
def execWgrad (q : Nat) (slabErr : Bool) (s : State) : Result :=
  onRunning q 0x15 s fun run =>
    let p := s.queuePart q
    let x := s.part p
    let a := productArgs run.args
    match gradCheck x run.args a (gradStarts a true) with
    | some (st, res) => s.finish q st res
    | none =>
      match findLayer run.work.layers a.layer with
      | none => s.finish q stMapAbsent result0
      | some l =>
        match s.readSlot p a.slot with
        | .inl st => s.fail q st [(false, .dev (s.dirAddr p a.slot), 16)]
        | .inr (at_, len) =>
          let need := a.k * (l.inputs + 4 * l.blocks)
          if len < need then s.finish q stOpForm (resultAt 16 true)
          else
            let sp := wgradSpans a l at_ len
            match spanCheck x (l.weights * (outFmtOf a.outFmt).size) sp with
            | some (st, res) => s.finish q st res
            | none =>
              s.access q (spanAccess sp) fun s => if slabErr then s.finish q stSlabEcc result0 else s.runWgrad q p a l at_
                (len / (l.inputs + 4 * l.blocks)) (dFlag run.desc 0)

end Sys2Proof.Machine
end

