-- ==== Sys2Proof/Machine/VectorProgram.lean ====
section
/-! DEFINITION. The vector engines: instruction words, the program state of one 32-lane block, VPROG_LOAD and VPROG (R347 to R352). -/

namespace Sys2Proof.Machine

open Sys2Proof

/-! ### Instruction words (R349, R350) -/

/-- A decoded instruction word. -/
structure VIns where
  op : Nat
  d : Nat
  a : Nat
  b : Nat
  c : Nat
  sa : Bool
  sb : Bool
  psel : Nat
  pen : Bool
deriving DecidableEq, Repr

def vins (w : Word) : VIns where
  op := bits w.toNat 26 6
  d := bits w.toNat 21 5
  a := bits w.toNat 16 5
  b := bits w.toNat 11 5
  c := bits w.toNat 6 5
  sa := bit w.toNat 5
  sb := bit w.toNat 4
  psel := bits w.toNat 2 2
  pen := bit w.toNat 1

/-- Operand classes of an opcode: how many of A, B, C it reads as vectors or broadcast scalars. -/
def vecSources (op : Nat) : Option Nat :=
  if op = 4 then some 3
  else if [1, 2, 3, 5, 6, 0xB, 0x10, 0x11, 0x12, 0x13].contains op then some 2
  else if [7, 8, 9, 0xA, 0xC, 0xD, 0xE, 0x14, 0x18, 0x19].contains op then some 1
  else none

/-- An instruction word that VPROG_LOAD accepts: a known opcode, registers and streams in range, the reserved bit 0 (R347). -/
def VIns.ok (i : VIns) (w : Word) : Bool :=
  let sc := fun (n : Nat) => n < 16
  let srcA := !i.sa || sc i.a
  let srcB := !i.sb || sc i.b
  !bit w.toNat 0 &&
    (match vecSources i.op with
      | some n => srcA && (n < 2 || srcB) && (!(0x10 ≤ i.op && i.op ≤ 0x12) || i.d < 4)
      | none =>
        if i.op = 0 then true
        else if i.op = 0x1C then i.a < 8
        else if i.op = 0x1D then i.d < 4 && srcA
        else if i.op = 0x1E then srcA && sc i.b && sc i.c
        else if i.op = 0x1F then i.d < 2 && srcA
        else if 0x21 ≤ i.op && i.op ≤ 0x2E then
          match vecSources (i.op - 0x20) with
          | some n => sc i.d && sc i.a && (n < 2 || sc i.b) && (n < 3 || sc i.c)
          | none => false
        else false)

/-- A program that VPROG_LOAD accepts. -/
def programOk (ws : List Word) : Bool := ws.all (fun w => (vins w).ok w) && ws.any fun w => (vins w).op == 0

/-- The instructions of a program up to END. -/
def programBody (ws : List Word) : List VIns := (ws.map vins).takeWhile fun i => i.op != 0

/-! ### Lane operations (R350) -/

/-- The smaller value: NaN if either is NaN, −0 below +0. -/
def fmin32 (a b : Word) : Word :=
  if (f32 a).isNan || (f32 b).isNan then nan32
  else if (f32 a).lt (f32 b) then a else if (f32 b).lt (f32 a) then b else if (f32 a).sign then a else b
/-- The larger value: NaN if either is NaN, +0 above −0. -/
def fmax32 (a b : Word) : Word :=
  if (f32 a).isNan || (f32 b).isNan then nan32
  else if (f32 a).lt (f32 b) then b else if (f32 b).lt (f32 a) then a else if (f32 a).sign then b else a
/-- −1, 0 or +1; ±0 gives 0, NaN gives NaN. -/
def fsign32 (a : Word) : Word :=
  if (f32 a).isNan then nan32 else if (f32 a).isZero then 0 else if (f32 a).sign then negate32 one32 else one32

/-- Opcodes 0x01 to 0x0E on one lane. -/
def laneOp (op : Nat) (a b c : Word) : Word :=
  match op with
  | 1 => add32 a b
  | 2 => sub32 a b
  | 3 => mul32 a b
  | 4 => fma32 a b c
  | 5 => fmin32 a b
  | 6 => fmax32 a b
  | 7 => r32 (f32 a).abs
  | 8 => r32 (f32 a).neg
  | 9 => fsign32 a
  | 0xA => r32 (f32 a).sqrt
  | 0xB => div32 a b
  | 0xC => rsqrtOf a
  | 0xD => expOf a
  | _ => logOf a

/-- FCLT, FCLE and FCEQ on one lane. -/
def laneCmp (op : Nat) (a b : Word) : Bool :=
  if op = 0x10 then (f32 a).lt (f32 b) else if op = 0x11 then (f32 a).le (f32 b) else (f32 a).eq (f32 b)

/-- Lanes of a block. -/
def lanes32 (w : Word) : List Word := List.replicate 32 w

/-- BSUM: the sum over the block in ascending lane order in binary64, inactive lanes +0, rounded once. -/
def blockSum (active : Nat) (v : List Word) : Word :=
  match (v.take active ++ List.replicate (32 - active) 0).map fun w => r64 (f32 w) with
  | [] => 0
  | x :: t => r32 (f64 (t.foldl add64 x))
/-- BMAX: the largest of the active lanes. -/
def blockMax (active : Nat) (v : List Word) : Word :=
  match v.take active with
  | [] => 0
  | x :: t => t.foldl fmax32 x

/-! ### The program state of a block (R348) -/

/-- What a program has done to one block: registers, LOADs and STOREs counted by stream, and what it stored. -/
structure Vm where
  active : Nat
  v : SMap (List Word)
  sc : List Word
  pd : SMap (List Bool)
  loads : SMap Nat
  stores : SMap Nat
  /-- STOREs: output stream, its number in the bundle, and the value of each lane that was stored. -/
  out : List (Nat × Nat × List (Option Word))
  /-- MSTORE: A with SC[B] and SC[C] of each lane (R350). -/
  master : List (Option (Word × Word × Word))
  /-- SSTORE of s1 and s2. -/
  s1 : List (Option Word)
  s2 : List (Option Word)
deriving DecidableEq, Repr

/-- The state at the start of a bundle. -/
def Vm.start (active : Nat) (sc : List Word) : Vm where
  active := active
  v := []
  sc := sc
  pd := []
  loads := []
  stores := []
  out := []
  master := List.replicate 32 none
  s1 := List.replicate 32 none
  s2 := List.replicate 32 none

def Vm.vec (m : Vm) (r : Nat) : List Word := tget (lanes32 0) m.v r
def Vm.scalar (m : Vm) (r : Nat) : Word := m.sc.getD r 0
def Vm.pred (m : Vm) (r : Nat) : List Bool := tget (List.replicate 32 false) m.pd r
def Vm.src (m : Vm) (scalar : Bool) (r : Nat) : List Word := if scalar then lanes32 (m.scalar r) else m.vec r
/-- The lanes that an instruction writes. -/
def Vm.mask (m : Vm) (i : VIns) : List Bool := if i.pen then m.pred i.psel else List.replicate 32 true
/-- New lanes where the mask holds, old lanes elsewhere. -/
def merge {α : Type} (mask : List Bool) (old new : List α) : List α :=
  (mask.zip (old.zip new)).map fun e => if e.1 then e.2.2 else e.2.1
def Vm.setVec (m : Vm) (i : VIns) (x : List Word) : Vm := { m with v := tput m.v i.d (merge (m.mask i) (m.vec i.d) x) }
/-- The lanes of a value that are stored. -/
def Vm.stored (m : Vm) (i : VIns) : List (Option Word) :=
  merge (m.mask i) (List.replicate 32 none) ((m.src i.sa i.a).map some)

/-- One instruction; `ld` gives the block's lanes of the n-th LOAD of a stream in this bundle. -/
def Vm.run (ld : Nat → Nat → List Word) (m : Vm) (i : VIns) : Vm :=
  let a := m.src i.sa i.a
  let b := m.src i.sb i.b
  if 1 ≤ i.op && i.op ≤ 0xE then
    m.setVec i ((List.range 32).map fun k => laneOp i.op (a.getD k 0) (b.getD k 0) ((m.vec i.c).getD k 0))
  else if 0x10 ≤ i.op && i.op ≤ 0x12 then
    { m with pd := tput m.pd i.d (merge (m.mask i) (m.pred i.d) (List.zipWith (laneCmp i.op) a b)) }
  else if i.op = 0x13 then m.setVec i (merge (m.pred i.psel) b a)
  else if i.op = 0x14 then m.setVec i a
  else if i.op = 0x18 then m.setVec i (lanes32 (blockSum m.active a))
  else if i.op = 0x19 then m.setVec i (lanes32 (blockMax m.active a))
  else if i.op = 0x1C then
    let n := tget 0 m.loads i.a
    { m.setVec i (ld i.a n) with loads := tput m.loads i.a (n + 1) }
  else if i.op = 0x1D then
    let n := tget 0 m.stores i.d
    { m with out := m.out ++ [(i.d, n, m.stored i)], stores := tput m.stores i.d (n + 1) }
  else if i.op = 0x1E then
    let xs := (m.stored i).map fun x => x.map fun v => (v, m.scalar i.b, m.scalar i.c)
    { m with master := List.zipWith (fun o n => if n.isSome then n else o) m.master xs }
  else if i.op = 0x1F then
    let put := fun (o : List (Option Word)) => List.zipWith (fun x n => if n.isSome then n else x) o (m.stored i)
    if i.d = 0 then { m with s1 := put m.s1 } else { m with s2 := put m.s2 }
  else
    { m with sc := m.sc.set i.d (laneOp (i.op - 0x20) (m.scalar i.a) (m.scalar i.b) (m.scalar i.c)) }

/-- A program on one block. -/
def runProgram (ws : List Word) (ld : Nat → Nat → List Word) (active : Nat) (sc : List Word) : Vm :=
  (programBody ws).foldl (Vm.run ld) (Vm.start active sc)

/-- How often a program loads from, or stores to, a stream in one bundle. -/
def usesOf (ws : List Word) (load : Bool) (stream : Nat) : Nat :=
  ((programBody ws).filter fun i => if load then i.op == 0x1C && i.a == stream else i.op == 0x1D && i.d == stream).length

/-! ### VPROG_LOAD (R347) -/

/-- A privileged group names the slot. -/
def Part.slotNamed (x : Part) (slot : Nat) : Bool :=
  x.groups.any fun e => e.2.used && bit (field e.2.record 1 1) 2 && bits (field e.2.record 1 1) 3 3 == slot

/-- VPROG_LOAD (R347). -/
def execVprogLoad (q : Nat) (r : HostReply) (s : State) : Result :=
  onRunning q 0x0A s fun run =>
    let p := s.queuePart q
    let d := run.desc
    let slot := bits (field d 24 1) 0 4
    let n := field d 26 2
    if n = 0 || 256 < n then s.finish q stOpForm (resultAt 26 false)
    else
      match (s.part p).reach 5 (field d 32 8) (4 * n) with
      | none => s.finish q stAddrRange (resultAt 32 false)
      | some pl => s.fetch q pl (4 * n) r fun bs s =>
        let ws := words32 n bs
        if !programOk ws then s.finish q stVprogForm result0
        else if (s.part p).slotNamed slot && (s.part p).stepOn then s.finish q stGroupBusy result0
        else (s.modPart p fun x => { x with progs := tput x.progs slot ws }).finish q stOk result0

/-! ### VPROG (R352) -/

/-- Bits that the VPROG block defines (R440). -/
def vprogFields : List (Nat × Nat) := [(0, 4), (8, 3), (16, 8), (24, 4), (32, 32), (64, 512), (576, 512), (1088, 256), (1344, 24)]

structure VprogArgs where
  slot : Nat
  die : Nat
  ins : Nat
  outs : Nat
  count : Nat
  params : List Word
  fmts : Nat
  bytes : List Byte
deriving DecidableEq, Repr

def vprogArgs (a : List Byte) : VprogArgs where
  slot := bits (field a 0 1) 0 4
  die := bits (field a 1 1) 0 3
  ins := field a 2 1
  outs := bits (field a 3 1) 0 4
  count := field a 4 4 + 1
  params := words32 16 (a.drop 8)
  fmts := field a 168 3
  bytes := a

/-- Stream `i`: 0 to 7 inputs, 8 to 11 outputs. -/
def VprogArgs.addr (a : VprogArgs) (i : Nat) : Nat := field a.bytes (72 + 8 * i) 8
def VprogArgs.fmt (a : VprogArgs) (i : Nat) : TFmt :=
  match bits a.fmts (2 * i) 2 with
  | 0 => .bf16
  | 1 => .e4m3
  | 2 => .e5m2
  | _ => .f32
/-- The bound streams with their ranges. -/
def VprogArgs.spans (a : VprogArgs) : List Span :=
  collect 12 fun i =>
    if (if i < 8 then bit a.ins i else bit a.outs (i - 8)) then
      some ⟨72 + 8 * i, a.addr i, tensorBytes (a.fmt i) 1 a.count, 8 ≤ i⟩
    else none

/-- The program uses a stream that is not bound, or a write of update mode. -/
def customMisuse (a : VprogArgs) (ws : List Word) : Bool :=
  (programBody ws).any fun i =>
    i.op == 0x1E || i.op == 0x1F || (i.op == 0x1C && !bit a.ins i.a) || (i.op == 0x1D && !bit a.outs i.d)

/-- `n` elements from element `e` of a stream of `total` elements, in binary32; FP8 elements start at a block. -/
def State.loadBlock (s : State) (f : TFmt) (pl : Place) (total e n : Nat) : List Word :=
  match f with
  | .f32 => words32 n (s.readAt (pl.plus (4 * e)) (4 * n))
  | .bf16 => (wordsOf 2 n (s.readAt (pl.plus (2 * e)) (2 * n))).map fun v => r32 (Machine.decode fmtBf16 v)
  | f =>
    let sc := (s.readAt (pl.plus (roadUp total + e / 32)) 1).headD 0
    (s.readAt (pl.plus e) n).map fun b => fp8Value (f == .e5m2) b.toNat sc.toNat

/-- Lanes of a LOAD: the block's elements, free values where the stream has ended (log entry 23), +0 in inactive lanes. -/
def loadLanes (xs : List Word) (active free : Nat) : List Word :=
  (List.range 32).map fun k =>
    if active ≤ k then 0 else xs.getD k ((Config.freeValue (free + k)).setWidth 32)

/-- Writes of the stored lanes of a block from element `e` of a stream. -/
def blockWrites (f : TFmt) (total e : Nat) (xs : List (Option Word)) : List (Nat × List Byte) :=
  let xs := xs.take (total - e)
  if f.blocked then
    let vs := xs.filterMap id
    if vs.isEmpty then []
    else
      let c := convBlock (f == .e5m2) vs
      let at_ := (xs.zipIdx.filter fun x => x.1.isSome).map (·.2)
      (at_.zip c.elems).map (fun w => (e + w.1, [w.2])) ++ [(roadUp total + e / 32, c.scales)]
  else
    xs.zipIdx.filterMap fun x => x.1.map fun w => ((e + x.2) * f.size, (convRow f [w]).elems)

/-- The block `j` of bundle `k` of a custom program, run on the state at the bundle's start. -/
def State.customBlock (s : State) (a : VprogArgs) (ws : List Word) (k j : Nat) : Vm :=
  let ld := fun (st n : Nat) =>
    let e := ((k * usesOf ws true st + n) * 16 + j) * 32
    let xs := s.loadBlock (a.fmt st) (placeOf (a.addr st)) a.count e (min 32 (a.count - e))
    loadLanes xs (min 32 (a.count - (k * 16 + j) * 32)) s.free
  runProgram ws ld (min 32 (a.count - (k * 16 + j) * 32)) a.params

/-- One bundle of a custom program: its blocks are run, then its stores are written. -/
def State.customBundle (s : State) (p : Nat) (a : VprogArgs) (ws : List Word) (k : Nat) : State :=
  let js := (List.range 16).filter fun j => (k * 16 + j) * 32 < a.count
  let outs := js.flatMap fun j => (s.customBlock a ws k j).out.map fun o => (j, o)
  let t := outs.foldl (fun t o =>
    let (j, st, n, xs) := o
    let e := ((k * usesOf ws false st + n) * 16 + j) * 32
    t.writeAll p (placeOf (a.addr (8 + st))) (blockWrites (a.fmt (8 + st)) a.count e xs)) s
  { t with free := s.free + 32 }

/-- The checks of a VPROG, in the order of R437 and R352. -/
def vprogCheck (x : Part) (args : List Byte) (a : VprogArgs) (ws : List Word) : Option (Nat × List Byte) :=
  let sp := a.spans
  firstFail [
    (reservedAt args 192 vprogFields).map fun o => (stOpForm, resultAt o true),
    startCheck x sp,
    formIf (!(x.dies 1).contains a.die) 1 true,
    statusIf (ws.isEmpty || customMisuse a ws) stVprogForm,
    rangeCheck x sp]

/-- VPROG (R352): the program that stood in the slot when the descriptor began (R359) runs over the bound streams, 512 elements at a time. -/
def execVprog (q : Nat) (s : State) : Result :=
  onRunning q 0x17 s fun run =>
    let p := s.queuePart q
    let a := vprogArgs run.args
    let ws := run.work.prog
    match vprogCheck (s.part p) run.args a ws with
    | some (st, res) => s.finish q st res
    | none =>
      let xs := spanAccess a.spans
      s.access q xs fun s =>
        ((List.range (ceilDiv a.count 512)).foldl (fun t k => t.customBundle p a ws k) s).finish q stOk result0

end Sys2Proof.Machine
end

