-- ==== Sys2Proof/Machine/Update.lean ====
section
/-! DEFINITION. The parameter update: group records and GROUP_LOAD, block records and tails, the two update passes, order generation and UPDATE_INIT (R322 to R343, R351, R38). -/

namespace Sys2Proof.Machine

open Sys2Proof

/-! ### Group records (R322) -/

def gKind (g : List Byte) : Nat := field g 1 1 % 4
def gPriv (g : List Byte) : Bool := bit (field g 1 1) 2
def gProg (g : List Byte) : Nat := bits (field g 1 1) 3 3
def gForce (g : List Byte) : Bool := bit (field g 1 1) 6
def gNormIn (g : List Byte) : Bool := bit (field g 1 1) 7
/-- θ itself, 1 to 4. -/
def gTheta (g : List Byte) : Nat := field g 2 1 % 4 + 1
def gPhi (g : List Byte) : Nat := bits (field g 2 1) 2 2
def gSq (g : List Byte) : Bool := bit (field g 2 1) 4
def gBc1 (g : List Byte) : Bool := bit (field g 2 1) 5
def gBc2 (g : List Byte) : Bool := bit (field g 2 1) 6
def gSkew (g : List Byte) : Bool := bit (field g 2 1) 7
def gGradFmt (g : List Byte) : Nat := field g 3 1 % 4
def gStateEn (g : List Byte) : Bool := bit (field g 3 1) 2
def gLayerFirst (g : List Byte) : Nat := field g 4 2
def gLayerLast (g : List Byte) : Nat := field g 6 2
def gBlocks (g : List Byte) : Nat := field g 8 5
def gFirst (g : List Byte) : Nat := field g 16 5
def gCount (g : List Byte) : Nat := field g 24 5
def gMaster (g : List Byte) : Nat := field g 32 8
def gTail (g : List Byte) : Nat := field g 40 8
def gGrad (g : List Byte) : Nat := field g 48 8
def gWork (g : List Byte) : Nat := field g 56 8
/-- Coefficient `i`: α1, β1, α2, β2, κ0, ε, λ, then EXTRA0 to EXTRA3. -/
def gCoef (g : List Byte) (i : Nat) : Word := BitVec.ofNat 32 (field g (64 + 4 * i) 4)
def gLastT (g : List Byte) : Word64 := BitVec.ofNat 64 (field g 108 8)

/-- Bits that a group record defines. -/
def groupFields : List (Nat × Nat) :=
  [(0, 27), (32, 32), (64, 40), (128, 40), (192, 40), (256, 256), (512, 352), (864, 64)]

/-- Layers of a tile-weight group, ascending (R323). -/
def groupLayers (ls : List Layer) (g : List Byte) : List Layer :=
  sortBy (fun a b => a.num ≤ b.num) (ls.filter fun l => gLayerFirst g ≤ l.num && l.num ≤ gLayerLast g)

/-- Bytes of the reduced gradient of the owned range. -/
def gradBytes (g : List Byte) : Nat := if gGradFmt g = 0 then tensorBytes .e5m2 1 (32 * gCount g) else 128 * gCount g

/-- Array addresses of a record: offset, address, bytes in use. -/
def groupArrays (g : List Byte) : List (Nat × Nat × Nat) :=
  [(32, gMaster g, 256 * gCount g), (40, gTail g, 64 * gCount g), (48, gGrad g, gradBytes g),
    (56, gWork g, if gKind g = 1 then 128 * gBlocks g else 0)]

/-- A coefficient is finite and at least 0 and below 1. -/
def belowOne (w : Word) : Bool := fin32 w && (Fl.fin false 0 0).le (f32 w) && (f32 w).lt (flInt 1)

/-- The checks of R324 on a record, in its order: the offset of the first offending field. -/
def groupFault (x : Part) (g : List Byte) : Option Nat :=
  let checks : List (Option Nat) := [
    if 1 < gKind g then some 1 else none,
    if gPhi g = 3 then some 2 else none,
    if 1 < gGradFmt g then some 3 else none,
    reservedAt g 128 groupFields,
    if gBlocks g < gFirst g + gCount g then some 16 else none,
    if gKind g = 0 && ((groupLayers x.layers g).map (·.weights)).sum != 32 * gBlocks g then some 8 else none,
    if gBc1 g && !belowOne (gCoef g 0) then some 64 else none,
    if gBc2 g && !belowOne (gCoef g 2) then some 72 else none,
    if (f32 (gCoef g 3)).lt (flInt 0) then some 76 else none,
    ((List.range 7).find? fun i => !fin32 (gCoef g i)).map fun i => 64 + 4 * i,
    if gPriv g && (tget [] x.progs (gProg g)).isEmpty then some 1 else none,
    ((groupArrays g).find? fun (_, a, n) => !tableOk x a (max 1 n)).map (·.1)]
  checks.findSome? id

/-- The offset of the first field whose change is a shard change (R325). -/
def shardChange (a b : List Byte) : Option Nat :=
  if gKind a != gKind b then some 1
  else [(4, 2), (6, 2), (8, 8), (16, 8), (24, 8), (32, 8), (40, 8), (48, 8), (56, 8)].findSome? fun (o, n) =>
    if field a o n != field b o n then some o else none

/-- A group's entry once a record has been loaded (R325, R326). -/
def Group.load (x : Group) (g : List Byte) (shard stepOn : Bool) : Group :=
  if shard then ⟨true, g, none, false, gLastT g⟩
  else if stepOn then { x with staged := some g }
  else { x with record := g, staged := none }

/-- Loads `n` records from record `i` on, each into the table that the records before it leave; a record that is refused leaves no
table. -/
def loadRecords (bs : List Byte) : Nat → Nat → Part → (Nat × List Byte) ⊕ Part
  | 0, _, x => .inr x
  | n + 1, i, x =>
    let g := slice (bs.drop (128 * i)) 0 128
    match groupFault x g with
    | some o => .inl (stGroupForm, resultImage (128 * i + o))
    | none =>
      let k := field g 0 1
      let cur := tget Group.unused x.groups k
      let ch := if cur.used then shardChange cur.record g else some 1
      if ch.isSome && x.stepOn then .inl (stGroupBusy, resultImage (128 * i + ch.getD 1))
      else loadRecords bs n (i + 1) { x with groups := tput x.groups k (cur.load g ch.isSome x.stepOn) }

/-- Staged fields take effect at the milestone (R325). -/
def Group.applyStaged (x : Group) : Group :=
  match x.staged with
  | some g => { x with record := g, staged := none }
  | none => x

/-- GROUP_LOAD (R322). -/
def execGroupLoad (q : Nat) (r : HostReply) (s : State) : Result :=
  onRunning q 0x09 s fun run =>
    let p := s.queuePart q
    let n := field run.desc 32 2
    if n = 0 || 256 < n then s.finish q stOpForm (resultAt 32 false)
    else
      match (s.part p).reach 5 (field run.desc 24 8) (128 * n) with
      | none => s.finish q stAddrRange (resultAt 24 false)
      | some pl => s.fetch q pl (128 * n) r fun bs s =>
        match loadRecords bs n 0 (s.part p) with
        | .inl (st, res) => s.finish q st res
        | .inr x => (s.modPart p fun y => { y with groups := x.groups }).finish q stOk result0

/-! ### Block records and tails (R327 to R330) -/

/-- A block: mantissas and exponents of the master weights and of the state, issued values, NONFIN and BLOCK_T. -/
structure Blk where
  m : List Int
  xw : Nat
  s1 : List Int
  x1 : Nat
  s2 : List Int
  x2 : Nat
  issued : List Int
  nonfin : Bool
  t : Word64
deriving DecidableEq, Repr

def recAddr (g : List Byte) (i : Nat) : Nat := gMaster g + 256 * i
def tailAddr (g : List Byte) (i : Nat) : Nat := gTail g + 64 * i

/-- Owned block `i` (R329); without STATE_EN its state is 0 (R322), and a digital group has no issued values. -/
def State.readBlock (s : State) (g : List Byte) (i : Nat) : Blk :=
  let r := memRead s.mem (recAddr g i) 256
  let t := memRead s.mem (tailAddr g i) 64
  let on := gStateEn g
  { m := (wordsOf 4 32 r).map (signed 32)
    xw := field t 32 1
    s1 := (wordsOf 2 32 (r.drop 128)).map fun v => if on then signed 16 v else 0
    x1 := field t 33 1
    s2 := (wordsOf 2 32 (r.drop 192)).map fun v => if on then Int.ofNat v else 0
    x2 := field t 34 1
    issued := (wordsOf 1 32 t).map fun v => if gKind g = 0 then signed 8 v else 0
    nonfin := bit (field t 35 1) 0
    t := BitVec.ofNat 64 (field t 40 8) }

/-- The bytes of a block tail. -/
def tailBytes (b : Blk) : List Byte :=
  b.issued.flatMap (fun v => natLe 1 (unsigned 8 v)) ++
    [BitVec.ofNat 8 b.xw, BitVec.ofNat 8 b.x1, BitVec.ofNat 8 b.x2, BitVec.ofNat 8 (b2n b.nonfin), 0, 0, 0, 0] ++
    natLe 8 b.t.toNat ++ List.replicate 16 0

/-- Writes owned block `i`; the state is stored only with STATE_EN. -/
def State.writeBlock (s : State) (g : List Byte) (i : Nat) (b : Blk) : State :=
  let s := s.writeMem (recAddr g i) (b.m.flatMap fun v => natLe 4 (unsigned 32 v))
  let s := if gStateEn g then
      s.writeMem (recAddr g i + 128) (b.s1.flatMap (fun v => natLe 2 (unsigned 16 v)) ++ b.s2.flatMap fun v => natLe 2 (unsigned 16 v))
    else s
  s.writeMem (tailAddr g i) (tailBytes b)

/-- The master values of a block (R327). -/
def Blk.master (b : Blk) : List Fl := b.m.map fun m => ofIntE m ((b.xw : Int) - 158)
/-- s1 and s2 of a block, exact in binary32 (R328). -/
def Blk.state1 (b : Blk) : List Word := b.s1.map fun m => r32 (ofIntE m ((b.x1 : Int) - 142))
def Blk.state2 (b : Blk) : List Word := b.s2.map fun m => r32 (ofIntE m ((b.x2 : Int) - 143))

/-- The exponent and mantissas of new values (R330): `frac` fraction bits, mantissa range `lo` to `hi`, the exponent that
stands, and whether any mantissa saturated. -/
def chooseExp (frac : Nat) (lo hi : Int) (old : Nat) (vs : List Fl) : Nat × List Int × Bool :=
  let vs := if lo = 0 then vs.map fun v => if v.sign then Fl.fin false 0 0 else v else vs
  let big := maxAbs vs
  if big.isZero then (old, vs.map fun _ => 0, false)
  else
    let mant := fun (x : Nat) => vs.map fun v => (v.scale (127 + (frac : Int) - x)).rne
    let out := fun (ms : List Int) => ms.any fun m => decide (m < lo) || decide (hi < m)
    let x := (clampI 0 254 (big.log2 + 128)).toNat
    let x := if out (mant x) && x < 254 then x + 1 else x
    (x, (mant x).map (clampI lo hi), out (mant x))

def masterTop : Int := 2 ^ 31 - 1

/-- The gradient of owned block `i` as stored. -/
def State.gradBlock (s : State) (g : List Byte) (i : Nat) : List Fl :=
  if gGradFmt g = 1 then (words32 32 (memRead s.mem (gGrad g + 128 * i) 128)).map f32
  else
    let sc := (memByte s.mem (gGrad g + roadUp (32 * gCount g) + i)).toNat
    (memRead s.mem (gGrad g + 32 * i) 32).map fun b =>
      if sc = 255 then .nan else (e5m2 b.toNat).scale ((sc : Int) - 127)

/-- The memory that a pass reaches for owned block `i`: record, tail, gradient, and the working copy in pass 2 (R338). -/
def blockAccess (g : List Byte) (i : Nat) (grad work : Bool) : List (Bool × Place × Nat) :=
  [(false, .dev (recAddr g i), 256), (false, .dev (tailAddr g i), 64)] ++
    (if !grad then []
      else if gGradFmt g = 1 then [(false, Place.dev (gGrad g + 128 * i), 128)]
      else [(false, .dev (gGrad g + 32 * i), 32), (false, .dev (gGrad g + roadUp (32 * gCount g) + i), 1)]) ++
    (if work then [(true, .dev (gWork g + 128 * (gFirst g + i)), 128)] else [])

/-- A group that descriptors may name: used and not stale (R322, R326). -/
def Part.usable (x : Part) (k : Nat) : Option Group :=
  let g := tget Group.unused x.groups k
  if g.used && !g.stale then some g else none

/-! ### Pass 1 (R334 to R336) -/

/-- The exact sum of squares of g and of w over owned block `i`. -/
def State.blockSquares (s : State) (g : List Byte) (gscale : Word) (i : Nat) (a : Fl × Fl) : Fl × Fl :=
  let gs := (s.gradBlock g i).map fun r => f32 (r32 ((f32 gscale).mul r))
  let ws := (s.readBlock g i).master
  (gs.foldl (fun t v => t.add (v.mul v)) a.1, ws.foldl (fun t v => t.add (v.mul v)) a.2)

/-- The two sums of a group, rounded once to binary32. -/
def State.groupSums (s : State) (gscale : Word) (g : List Byte) : Word × Word :=
  let z : Fl := .fin false 0 0
  let t := (List.range (gCount g)).foldl (fun a i => s.blockSquares g gscale i a) (z, z)
  (r32 t.1, r32 t.2)

/-- UPDATE_NORM with FINAL 0 over the named groups (R334). -/
def State.normPartials (s : State) (q : Nat) (d : List Byte) (named : List (Nat × Group)) : State :=
  let p := s.queuePart q
  match (s.part p).reach 1 (field d 32 8) 2048 with
  | none => s.finish q stAddrRange (resultAt 32 false)
  | some out =>
    let xs := named.flatMap (fun e => (List.range (gCount e.2.record)).flatMap fun i => blockAccess e.2.record i true false) ++
      [(true, out, 2048)]
    s.access q xs fun s =>
      let gscale := BitVec.ofNat 32 (field d 28 4)
      let sums := named.map fun e => (e.1, s.groupSums gscale e.2.record)
      let sumOf := fun (k : Nat) => ((sums.find? (·.1 == k)).map (·.2)).getD (0, 0)
      let ks := (List.range 256).map sumOf
      (s.writeAt p out (bytes32 (ks.map (·.1) ++ ks.map (·.2)))).finish q stOk result0

/-- UPDATE_NORM with FINAL 1 (R335): the global gradient norm. -/
def State.normFinal (s : State) (q : Nat) (d : List Byte) : State :=
  let p := s.queuePart q
  match (s.part p).reach 1 (field d 40 8) 2048 with
  | none => s.finish q stAddrRange (resultAt 40 false)
  | some pl => s.access q [(false, pl, 2048)] fun s =>
    let sums := words32 256 (s.readAt pl 1024)
    let named := (s.part p).groups.filter fun e => e.2.used && gNormIn e.2.record
    let total := named.foldl (fun t e => add64 t (r64 (f32 (sums.getD e.1 0)))) 0
    let norm := r32 (f64 total).sqrt
    let bad := (sums.filter fun w => !fin32 w).length
    s.finish q stOk (block 16 [(0, 4, norm.toNat), (4, 2, bad)])

/-- UPDATE_NORM (R334, R335). -/
def execUpdateNorm (q : Nat) (s : State) : Result :=
  onRunning q 0x28 s fun run =>
    let d := run.desc
    let x := s.part (s.queuePart q)
    if dFlag d 1 then s.normFinal q d
    else if dFlag d 0 then
      let named := x.groups.filter fun e => e.2.used
      if named.any fun e => e.2.stale then s.finish q stGroupForm result0 else s.normPartials q d named
    else
      match x.usable (field d 24 1) with
      | none => s.finish q stGroupForm result0
      | some g => s.normPartials q d [(field d 24 1, g)]

/-! ### Orders (R150, R151, R341, R342) -/

/-- The entry, row and run of a weight from its place among the weights of a list of entries. -/
def weightIn : List TileEntry → Nat → Option (TileEntry × Nat × Run)
  | [], _ => none
  | e :: t, o =>
    let rs := runsOf e.widths
    if o < 1024 * rs.length then (rs[o % rs.length]?).map fun r => (e, o / rs.length, r)
    else weightIn t (o - 1024 * rs.length)
/-- The layer and weight of an element of a tile-weight group (R323). -/
def elementIn : List Layer → Nat → Option (Layer × TileEntry × Nat × Run)
  | [], _ => none
  | l :: t, o =>
    if o < l.weights then (weightIn l.tiles o).map fun e => (l, e.1, e.2.1, e.2.2) else elementIn t (o - l.weights)

/-- R150: the quantised value of a master weight; none where m / σ_o has no value (log entry 24). -/
def quantMaster (m : Fl) (sigma : Word) (w : Nat) : Option Int :=
  let top : Int := weightMax w
  if w = 1 then some (if m.sign && !m.isZero then -1 else 1)
  else
    match m.div (f32 sigma) with
    | .nan => none
    | .inf n => some (if n then -top else top)
    | v => some (clampI (-top) top v.rne)

/-- The order of R144, parity set. -/
def orderWord (tile row col : Nat) (v : Int) (w : Nat) (init force : Bool) (mtag : Nat) : Nat :=
  let o := tile % 2 ^ 19 + row % 2 ^ 11 * 2 ^ 19 + col % 2 ^ 11 * 2 ^ 30 + unsigned 9 v * 2 ^ 41 + (w - 1) % 8 * 2 ^ 50 +
    b2n init * 2 ^ 53 + b2n force * 2 ^ 54 + mtag % 256 * 2 ^ 55
  if parity 63 o then o + 2 ^ 63 else o

/-- The order log (R353, R354): base and capacity. -/
def State.logBase (s : State) (p : Nat) : Nat := s.ppair p 1 0x1C0
def State.logCap (s : State) (p : Nat) : Nat :=
  let c := s.pregf p 1 0x1C8 0 5
  2 ^ (if 10 ≤ c && c ≤ 28 then c else 20)

/-- The orders that a block causes: lane, value and order (R151, R341, R343). -/
def State.blockOrders (s : State) (p : Nat) (ls : List Layer) (g : List Byte) (b : Nat) (blk : Blk) (init : Bool) :
    List (Nat × Int × Nat) :=
  (blk.master.zip blk.issued).zipIdx.filterMap fun e =>
    (elementIn ls (32 * b + e.2)).bind fun x =>
      let r := x.2.2.2
      let top := weightMax r.w
      let q := (quantMaster e.1.1 (x.1.scaleOf x.2.1.chain r.col) r.w).getD
        (((Config.freeValue (s.free + e.2)).toNat % (2 * top + 1) : Nat) - (top : Int))
      let theta := min (gTheta g) (max 1 top)
      if init || theta ≤ (q - e.1.2).natAbs then
        some (e.2, q, orderWord x.2.1.tile x.2.2.1 r.col q r.w init (gForce g) (s.part p).milestone.toNat)
      else none

/-- Writes orders to the log as far as it has room; those that do not fit are counted (R342). -/
def State.logOrders (s : State) (p : Nat) (os : List (Nat × Int × Nat)) : State :=
  let n := (s.part p).logCount
  let lost := os.length - (s.logCap p - n)
  let fit := os.take (s.logCap p - n)
  let t := s.writeMem (s.logBase p + 8 * n) (fit.flatMap fun o => natLe 8 o.2.2)
  let t := t.modPart p fun x => { x with logCount := n + fit.length }
  if lost = 0 then t
  else
    let first := (t.part p).logFull = 0
    let t := (t.modPart p fun x => { x with logFull := x.logFull + lost }).count 1 (lowDie 1 p) 0x1E0 0 lost
    if first then t.raise p evOrderLogFull [(28, 4, 1)] else t

/-- Issued values once the orders that fit have been written. -/
def Blk.issue (b : Blk) (os : List (Nat × Int × Nat)) : Blk :=
  { b with issued := os.foldl (fun l o => l.set o.1 o.2.1) b.issued }

/-- The log can take the orders: its place lies in the partition and can be written (R353, R394). -/
def State.logStatus (s : State) (p n : Nat) : Option Nat :=
  if n = 0 then none
  else if !(inRange (s.part p).hbmRange.1 (s.part p).hbmRange.2 (s.logBase p + 8 * (s.part p).logCount) (8 * n)) then some stAddrRange
  else s.memStatus true (s.logBase p + 8 * (s.part p).logCount) (8 * n)

/-- Block `b` is written with its orders logged: the state and the number of orders, or a failing status. -/
def State.commitBlock (s : State) (p : Nat) (ls : List Layer) (g : List Byte) (i : Nat) (blk : Blk) (init : Bool) :
    Nat ⊕ (State × Nat) :=
  if gKind g != 0 then
    let t := if init then s else s.writeMem (gWork g + 128 * (gFirst g + i)) (bytes32 (blk.master.map r32))
    .inr ((if init then t else t.writeBlock g i blk), 0)
  else
    let os := s.blockOrders p ls g (gFirst g + i) blk init
    let n := min os.length (s.logCap p - (s.part p).logCount)
    match s.logStatus p n with
    | some st => .inl st
    | none =>
      let t := s.logOrders p os
      .inr ({ t.writeBlock g i (blk.issue (os.take n)) with free := s.free + 32 }, n)

/-! ### Pass 2 (R331, R332, R337, R339, R351) -/

/-- What an UPDATE_APPLY works with. -/
structure ApplyCtx where
  p : Nat
  k : Nat
  g : List Byte
  prog : List Word
  t : Word64
  eta : Word
  clip : Word
deriving DecidableEq, Repr

/-- κ of an α (R331): 1 without bias correction, for α = 0, and where α^t rounds to 0. -/
def kappa (alpha : Word) (bc : Bool) (t : Word64) : Word :=
  if !bc || (f32 alpha).isZero then one32
  else
    let p := f64 (powOf alpha t)
    if p.isZero then one32 else r32 ((flInt 1).div ((flInt 1).add p.neg))

def ApplyCtx.k1 (c : ApplyCtx) : Word := kappa (gCoef c.g 0) (gBc1 c.g) c.t
def ApplyCtx.k2 (c : ApplyCtx) : Word := kappa (gCoef c.g 2) (gBc2 c.g) c.t

/-- The table recurrence on one element (R337): w′ exactly, s1n and s2n; none where a value is not finite (R339). -/
def ApplyCtx.element (c : ApplyCtx) (raw w : Fl) (s1 s2 : Word) : Option (Fl × Word × Word) :=
  let co := gCoef c.g
  let g := r32 ((f32 c.clip).mul raw)
  let on := gStateEn c.g
  let s1n := if on then fma32 (co 0) s1 (mul32 (co 1) g) else 0
  let u := if gSq c.g then r32 (f32 g).abs else mul32 g g
  let s2n := if on then fma32 (co 2) s2 (mul32 (co 3) u) else 0
  let n := fma32 c.k1 s1n (mul32 (co 4) g)
  let d :=
    match gPhi c.g with
    | 0 => div32 n (add32 (r32 (f32 (mul32 c.k2 s2n)).sqrt) (co 5))
    | 1 => n
    | _ => fsign32 n
  let a := f64 (r64 ((flInt 1).add (f32 (co 6)).neg))
  if fin32 g && fin32 s1n && fin32 s2n && fin32 d then
    some ((a.mul w).add ((f32 c.eta).mul (f32 d)).neg, s1n, s2n)
  else none

/-- New values of a block: of each lane w′, s1 and s2, or none where the lane keeps its own; none altogether where a value is
not finite (R339). -/
structure NewVals where
  w : List (Option Fl)
  s1 : List (Option Word)
  s2 : List (Option Word)
deriving DecidableEq, Repr

def ApplyCtx.table (c : ApplyCtx) (raw : List Fl) (b : Blk) : Option NewVals :=
  let es := ((raw.zip b.master).zip (b.state1.zip b.state2)).map fun e => c.element e.1.1 e.1.2 e.2.1 e.2.2
  if es.any Option.isNone then none
  else some ⟨es.map fun e => e.map (·.1), es.map fun e => e.map (·.2.1), es.map fun e => e.map (·.2.2)⟩

/-- The scalars of update mode (R348). -/
def ApplyCtx.scalars (c : ApplyCtx) : List Word :=
  [c.eta, c.clip, c.k1, c.k2, r32 (.fin false c.t.toNat 0)] ++ (List.range 11).map (gCoef c.g)

/-- The n-th LOAD of a stream in a bundle, for the block at place `j` of bundle `k` of the owned range (R351). -/
def State.updateLoad (s : State) (c : ApplyCtx) (k j st n : Nat) : List Word :=
  let i := (k * usesOf c.prog true st + n) * 16 + j
  if gCount c.g ≤ i then loadLanes [] 32 s.free
  else
    let b := s.readBlock c.g i
    match st with
    | 0 => (s.gradBlock c.g i).map fun r => r32 ((f32 c.clip).mul r)
    | 1 => b.master.map r32
    | 2 => b.state1
    | _ => b.state2

/-- A vector program on one block (R351). -/
def State.progBlock (s : State) (c : ApplyCtx) (raw : List Fl) (i : Nat) (b : Blk) : Option NewVals :=
  let m := runProgram c.prog (s.updateLoad c (i / 16) (i % 16)) 32 c.scalars
  let w := (m.master.zip b.master).map fun e => e.1.map fun x => ((f32 x.2.2).mul e.2).add ((f32 x.2.1).mul (f32 x.1)).neg
  let fin := fun (xs : List (Option Word)) => xs.all fun x => x.all fin32
  if raw.all (fun r => fin32 (r32 ((f32 c.clip).mul r))) && fin m.s1 && fin m.s2 &&
      m.master.all (fun x => x.all fun y => fin32 y.1) && w.all (fun x => x.all Fl.finite) then
    some ⟨w, m.s1, m.s2⟩
  else none

/-- A block with its new values stored by R330, and the number of arrays that saturated. -/
def Blk.update (b : Blk) (stateEn : Bool) (v : NewVals) : Blk × Nat :=
  let w := chooseExp 31 (-masterTop) masterTop b.xw (List.zipWith (fun n o => n.getD o) v.w b.master)
  let s1 := chooseExp 15 (-32767) 32767 b.x1 (List.zipWith (fun (n : Option Word) o => f32 (n.getD o)) v.s1 b.state1)
  let s2 := chooseExp 16 0 65535 b.x2 (List.zipWith (fun (n : Option Word) o => f32 (n.getD o)) v.s2 b.state2)
  let b := if v.w.any Option.isSome then { b with xw := w.1, m := w.2.1 } else b
  let b := if stateEn && v.s1.any Option.isSome then { b with x1 := s1.1, s1 := s1.2.1 } else b
  let b := if stateEn && v.s2.any Option.isSome then { b with x2 := s2.1, s2 := s2.2.1 } else b
  (b, b2n (v.w.any Option.isSome && w.2.2) + b2n (stateEn && v.s1.any Option.isSome && s1.2.2) +
    b2n (stateEn && v.s2.any Option.isSome && s2.2.2))

/-- Lanes whose MSTORE was not executed generate no order (R351). -/
def Blk.orderLanes (b : Blk) (v : NewVals) (os : List (Nat × Int × Nat)) : List (Nat × Int × Nat) :=
  os.filter fun o => (v.w.getD o.1 none).isSome && o.1 < b.m.length

/-- Writes an updated block with its orders. -/
def State.commitUpdate (s : State) (c : ApplyCtx) (ls : List Layer) (i : Nat) (b : Blk) (v : NewVals) : Nat ⊕ (State × Nat) :=
  if gKind c.g != 0 then s.commitBlock c.p ls c.g i b false
  else
    let os := b.orderLanes v (s.blockOrders c.p ls c.g (gFirst c.g + i) b false)
    let n := min os.length (s.logCap c.p - (s.part c.p).logCount)
    match s.logStatus c.p n with
    | some st => .inl st
    | none => .inr ({ (s.logOrders c.p os).writeBlock c.g i (b.issue (os.take n)) with free := s.free + 32 }, n)

/-- Pass 2 so far: the state, blocks updated, orders logged, NONFIN blocks, blocks that wait for a reader, and a failing status. -/
structure Pass2 where
  s : State
  updated : Nat
  orders : Nat
  nonfin : Nat
  wait : List Nat
  fail : Option Nat

/-- Updates owned block `i` (R337 to R342), or leaves it unchanged where a value is not finite (R339). -/
def Pass2.block (c : ApplyCtx) (ls : List Layer) (a : Pass2) (i : Nat) : Pass2 :=
  let s := a.s
  let b := s.readBlock c.g i
  let raw := s.gradBlock c.g i
  match (if gPriv c.g then s.progBlock c raw i b else c.table raw b) with
  | none =>
    let t := s.writeMem (tailAddr c.g i + 35) [1]
    let t := t.writeMem (tailAddr c.g i + 40) (natLe 8 c.t.toNat)
    { a with s := t.count 1 (lowDie 1 c.p) 0x1D8 0 1, nonfin := a.nonfin + 1 }
  | some v =>
    let (n, sat) := b.update (gStateEn c.g) v
    let t := s.count 1 (lowDie 1 c.p) 0x1D8 8 sat
    match t.commitUpdate c ls i { n with nonfin := false, t := c.t } v with
    | .inl st => { a with fail := some st }
    | .inr (u, k) => { a with s := u, updated := a.updated + 1, orders := a.orders + k }

/-- The key of a block for its readers. -/
def blockKey (c : ApplyCtx) (i : Nat) : Nat := c.k * 2 ^ 40 + gFirst c.g + i
/-- A mirror or SNAPSHOT has yet to read the block (R38). -/
def Part.heldBlock (x : Part) (key : Nat) : Bool := x.readers.any fun r => !r.read.contains key

/-- One block of the descriptor's range: checked, held back for a reader, left for its BLOCK_T, or updated. -/
def Pass2.next (c : ApplyCtx) (ls : List Layer) (a : Pass2) (i : Nat) : Pass2 :=
  if a.fail.isSome then a
  else
    let xs := blockAccess c.g i true (gKind c.g == 1)
    match a.s.badAccess xs with
    | some st => { a with s := a.s.countBad st xs, fail := some st }
    | none =>
      let a := { a with s := a.s.countReads xs }
      if c.t.toNat ≤ (a.s.readBlock c.g i).t.toNat then a
      else if (a.s.part c.p).heldBlock (blockKey c i) then { a with wait := a.wait ++ [i] }
      else Pass2.block c ls a i

/-- UPDATE_NONFINITE, once per group and step (R339). -/
def State.nonfinEvent (s : State) (c : ApplyCtx) (n : Nat) : State :=
  if n = 0 || (s.part c.p).nonfinGroups.contains c.k then s
  else (s.modPart c.p fun x => { x with nonfinGroups := c.k :: x.nonfinGroups }).raise c.p evUpdateNonfinite [(24, 1, c.k), (28, 4, n)]

/-- Ends pass 2 of a descriptor, or leaves it waiting for readers. -/
def Pass2.close (c : ApplyCtx) (q : Nat) (a : Pass2) : State :=
  let s := a.s.modWork q fun w =>
    { w with
      started := true
      n0 := a.updated
      n1 := a.orders
      n2 := a.nonfin
      todo := a.wait
      areas := (groupArrays c.g).map fun e => (e.2.1, e.2.2) }
  match a.fail with
  | some st => (s.nonfinEvent c a.nonfin).finish q st (if st = stAddrRange then resultAt 0 false else result0)
  | none =>
    if !a.wait.isEmpty then s
    else
      let s := s.modPart c.p fun x => { x with groups := tmod Group.unused x.groups c.k fun g => { g with lastT := c.t } }
      (s.nonfinEvent c a.nonfin).finish q stOk (Machine.block 16 [(0, 5, a.updated), (8, 4, a.orders), (12, 2, min a.nonfin 65535)])

/-- A program that update mode cannot run: it uses STORE, or a stream that update mode does not have (R351; log entry 25). -/
def updateMisuse (ws : List Word) : Bool := (programBody ws).any fun i => i.op == 0x1D || (i.op == 0x1C && 4 ≤ i.a)

/-- An UPDATE_APPLY that began earlier holds the shard (R359). -/
def State.shardHeld (s : State) (p n k : Nat) : Bool := s.earlier p 0x29 n fun d => field d 24 1 == k

/-- The context of an UPDATE_APPLY descriptor. -/
def applyCtx (p : Nat) (d rec_ : List Byte) (prog : List Word) : ApplyCtx where
  p := p
  k := field d 24 1
  g := rec_
  prog := prog
  t := BitVec.ofNat 64 (field d 40 8)
  eta := BitVec.ofNat 32 (field d 28 4)
  clip := BitVec.ofNat 32 (field d 32 4)

/-- Pass 2 over the owned range. -/
def State.startApply (s : State) (q : Nat) (c : ApplyCtx) : State :=
  let ls := groupLayers (s.part c.p).layers c.g
  ((List.range (gCount c.g)).foldl (Pass2.next c ls) ⟨s, 0, 0, 0, [], none⟩).close c q

/-- The step-number test of R332 on a group that may be updated. -/
def State.applyStep (s : State) (q : Nat) (c : ApplyCtx) (last : Nat) : State :=
  let gd := lowDie 1 c.p
  if c.t.toNat ≤ last then (s.count 1 gd 0x1D8 16 1).finish q stStepReplay result0
  else if c.t.toNat = last + 1 then s.startApply q c
  else
    let t := s.count 1 gd 0x1D8 24 1
    if gSkew c.g then
      let t := t.modWork q fun w => { w with skewed := true }
      (t.raise c.p evStepSkew [(24, 1, c.k), (32, 8, c.t.toNat), (40, 8, last)]).startApply q c
    else t.finish q stStepSkew result0

/-- UPDATE_APPLY (R332, R337). -/
def execUpdateApply (q : Nat) (s : State) : Result :=
  onRunning q 0x29 s fun run =>
    let p := s.queuePart q
    let d := run.desc
    if run.work.started then s
    else
      match (s.part p).usable (field d 24 1) with
      | none => s.finish q stGroupForm result0
      | some g =>
        let c := applyCtx p d run.work.record run.work.prog
        if !fin32 c.eta then s.finish q stOpForm (resultAt 28 false)
        else if !fin32 c.clip then s.finish q stOpForm (resultAt 32 false)
        else if gPriv c.g && updateMisuse c.prog then s.finish q stVprogForm result0
        else if s.shardHeld p run.work.gen c.k then s
        else s.applyStep q c g.lastT.toNat

/-- The readers have read a block (R38). -/
def Part.readBlock (x : Part) (key : Nat) : Part :=
  { x with readers := x.readers.map fun r => if r.read.contains key then r else { r with read := key :: r.read } }

/-- PASS2_BLOCK_RESUME (R38): the next waiting block has been read, and is updated. A block that a reader which has not begun
must still read goes on waiting. -/
def execPass2BlockResume (q : Nat) (s : State) : Result :=
  onRunning q 0x29 s fun run =>
    let p := s.queuePart q
    let w := run.work
    let c := applyCtx p run.desc w.record w.prog
    let x := s.part p
    match w.todo.find? fun i => x.readers.all fun r => r.begun || r.read.contains (blockKey c i) with
    | none => s
    | some i =>
      let s := s.modPart p fun y => y.readBlock (blockKey c i)
      let ls := groupLayers x.layers c.g
      (Pass2.next c ls ⟨s, w.n0, w.n1, w.n2, w.todo.filter (· != i), none⟩ i).close c q

/-! ### UPDATE_INIT (R343) -/

/-- Blocks of an UPDATE_INIT, in order. -/
def Pass2.init (p : Nat) (ls : List Layer) (g : List Byte) (a : Pass2) (i : Nat) : Pass2 :=
  if a.fail.isSome then a
  else
    let xs := blockAccess g i false false
    match a.s.badAccess xs with
    | some st => { a with s := a.s.countBad st xs, fail := some st }
    | none =>
      let a := { a with s := a.s.countReads xs }
      match a.s.commitBlock p ls g i (a.s.readBlock g i) true with
      | .inl st => { a with fail := some st }
      | .inr (t, n) => { a with s := t, orders := a.orders + n }

/-- UPDATE_INIT (R343). A full log raises ORDER_LOG_FULL once for the descriptor, and once more for a step (R342; log entry 121). -/
def execUpdateInit (q : Nat) (s : State) : Result :=
  onRunning q 0x2A s fun run =>
    let p := s.queuePart q
    match (s.part p).usable (field run.desc 24 1) with
    | none => s.finish q stGroupForm result0
    | some g =>
      if (s.part p).stepOn then s.finish q stGroupBusy result0
      else
        let ls := groupLayers (s.part p).layers g.record
        let n := if gKind g.record = 0 then gCount g.record else 0
        let kept := (s.part p).logFull
        let a := (List.range n).foldl (Pass2.init p ls g.record) ⟨s.modPart p fun x => { x with logFull := 0 }, 0, 0, 0, [], none⟩
        let t := a.s.modPart p fun x => { x with logFull := kept }
        match a.fail with
        | some st => t.finish q st result0
        | none => t.finish q stOk result0

end Sys2Proof.Machine
end

