-- ==== Sys2Proof/Machine/Collective.lean ====
section
/-! DEFINITION. Collective groups, the five collective operations, READY, data and ABORT, settle time and watchdog (R370 to R381, R391, R392). -/

namespace Sys2Proof.Machine

open Sys2Proof

/-! ### COLL_GROUP (R370) -/

/-- A member's entry of a group record: endpoint and partition; none with a reserved bit. -/
def memberOf (v : Nat) : Option (Nat × Nat) := if v < 2 ^ 14 then some (v % 4096, v / 4096) else none
/-- The members of a group record. -/
def membersOf (bs : List Byte) (n : Nat) : List (Option (Nat × Nat)) :=
  (List.range n).map fun i => memberOf (field bs (64 + 4 * i) 4)
/-- No entry occurs twice. -/
def distinctPairs (xs : List (Nat × Nat)) : Bool := distinct (xs.map fun e => e.1 * 4 + e.2)

/-- A member is unreachable in the routing table (R368, R370). -/
def State.unreachable (s : State) (p : Nat) (m : Nat × Nat) : Bool :=
  match tget 0 s.routes (p * 4096 + m.1) with
  | 0 => true
  | k + 1 => 8 ≤ k || !(s.part p).holds (k / 2)

/-- The group that a record describes; none where R370 refuses it. -/
def State.groupOf (s : State) (p : Nat) (bs : List Byte) : Option CollGroup :=
  let n := field bs 2 2
  let rank := field bs 4 2
  let me := (s.endpoint, p)
  let ms := membersOf bs n
  let xs := ms.filterMap id
  if n < 2 || 4096 < n || !zeroBytes bs 1 1 || !zeroBytes bs 6 58 || !ms.all Option.isSome || xs[rank]? != some me ||
      !distinctPairs xs || (xs.any fun m => m != me && s.unreachable p m) then none
  else some ⟨true, rank, xs, []⟩

/-- A collective of the group is in progress. -/
def Part.collRuns (x : Part) (g : Nat) : Bool := x.colls.any fun c => c.mine.group == g

/-- COLL_GROUP (R370, R392): the header is read, and then as many entries as its COUNT says. -/
def execCollGroup (q : Nat) (r : HostReply) (s : State) : Result :=
  onRunning q 0x0B s fun run =>
    let p := s.queuePart q
    let v := field run.desc 24 8
    match (s.part p).reach 5 v 64 with
    | none => s.finish q stAddrRange (resultAt 24 false)
    | some pl => s.fetch q pl 64 r fun h s =>
      let n := field h 2 2
      if n < 2 || 4096 < n then s.finish q stCollForm result0
      else if ((s.part p).reach 5 v (64 + 4 * n)).isNone then s.finish q stAddrRange (resultAt 24 false)
      else s.access q [(false, pl.plus 64, 4 * n)] fun s =>
        match s.source pl (64 + 4 * n) r with
        | none => s.finish q stHostError result0
        | some bs =>
          match s.groupOf p bs with
          | none => s.finish q stCollForm result0
          | some g =>
            let k := field bs 0 1
            if (s.part p).collRuns k then s.finish q stCollBusy result0
            else
              let tags := (tget CollGroup.none (s.part p).collGroups k).tags
              (s.modPart p fun x => { x with collGroups := tput x.collGroups k { g with tags := tags } }).finish q stOk result0

/-! ### The argument block (R440) -/

/-- Bits that the block of a collective defines. -/
def collFields : List (Nat × Nat) := [(0, 8), (8, 2), (10, 2), (12, 3), (16, 12), (32, 32), (64, 64), (128, 64), (192, 64),
  (256, 64), (320, 64), (448, 512)]

def aGroup (a : List Byte) : Nat := field a 0 1
def aInFmt (a : List Byte) : Nat := bits (field a 1 1) 0 2
def aOutFmt (a : List Byte) : Nat := bits (field a 1 1) 2 2
def aSources (a : List Byte) : Nat := bits (field a 1 1) 4 3 + 1
def aRoot (a : List Byte) : Nat := bits (field a 2 2) 0 12
def aTag (a : List Byte) : Word := BitVec.ofNat 32 (field a 4 4)
def aElems (a : List Byte) : Nat := field a 8 8
def aDst (a : List Byte) : Nat := field a 16 8
def aSplit (a : List Byte) : Nat := field a 24 8
def aStaging (a : List Byte) : Nat := field a 32 8
def aCap (a : List Byte) : Nat := field a 40 8
def aSrc (a : List Byte) (i : Nat) : Nat := field a (56 + 8 * i) 8

/-- IN_FMT and OUT_FMT (R372). -/
def collFmt (code : Nat) : TFmt := if code = 0 then .e5m2 else if code = 1 then .bf16 else .f32

def Coll.n (c : Coll) : Nat := c.members.length
def Coll.e (c : Coll) : Nat := c.mine.elems
def Coll.inF (c : Coll) : TFmt := collFmt c.mine.inFmt
def Coll.outF (c : Coll) : TFmt := collFmt c.mine.outFmt
/-- The operation sums (R372). -/
def Coll.sums (c : Coll) : Bool := c.mine.op == .reduceScatter || c.mine.op == .allReduce
/-- B. -/
def Coll.blocks (c : Coll) : Nat := ceilDiv c.e 32
/-- First and last block of a rank's range. -/
def Coll.lo (c : Coll) (r : Nat) : Nat := c.split.getD r 0
def Coll.hi (c : Coll) (r : Nat) : Nat := c.split.getD (r + 1) 0
/-- Elements of this member's range. -/
def Coll.owned (c : Coll) : Nat := min c.e (32 * c.hi c.rank) - 32 * c.lo c.rank
/-- The range of a rank, as block numbers. -/
def Coll.range (c : Coll) (r : Nat) : List Nat := (List.range (c.hi r - c.lo r)).map (c.lo r + ·)
/-- The next rank of the ring. -/
def Coll.nextRank (c : Coll) : Nat := (c.rank + 1) % c.n

/-! ### Blocks in memory and in packets (R366, R604) -/

/-- Bytes of a block in a packet: the scale byte, where the format has one, and 32 elements (log entry 28). -/
def wireSize (f : TFmt) : Nat := 32 * f.size + b2n f.blocked
/-- Elements of block `b` of a vector of `e`. -/
def blockCount (e b : Nat) : Nat := min 32 (e - 32 * b)

/-- Block `b` of a vector of `e` elements in memory, in its packet form. -/
def State.readWire (s : State) (f : TFmt) (base e b : Nat) : List Byte :=
  let els := slice (memRead s.mem (base + 32 * b * f.size) (blockCount e b * f.size)) 0 (32 * f.size)
  if f.blocked then memRead s.mem (base + roadUp e + b) 1 ++ els else els

/-- Writes block `b` of a vector from its packet form. -/
def State.writeWire (s : State) (f : TFmt) (base e b : Nat) (w : List Byte) : State :=
  let els := slice (w.drop (b2n f.blocked)) 0 (blockCount e b * f.size)
  let t := s.writeMem (base + 32 * b * f.size) els
  if f.blocked then t.writeMem (base + roadUp e + b) (slice w 0 1) else t

/-- The `k` values of a block in binary32 (R375). -/
def wireVals (f : TFmt) (k : Nat) (w : List Byte) : List Word :=
  match f with
  | .f32 => words32 k w
  | .bf16 => (wordsOf 2 k w).map fun v => r32 (Machine.decode fmtBf16 v)
  | f => (List.range k).map fun i => fp8Value (f == .e5m2) (field w (1 + i) 1) (field w 0 1)

/-- A block of values in packet form (R272, R134). -/
def wireBlock (f : TFmt) (vs : List Word) : List Byte :=
  let c := convRow f vs
  c.scales ++ slice c.elems 0 (32 * f.size)

/-- The order in which the reads of several local sources complete, which the spec leaves open (R375; log entry 29). -/
def Coll.sourceOrder (c : Coll) (b : Nat) : List Nat :=
  if c.srcs.length < 2 then c.srcs
  else (sortBy (fun (x y : Nat × Nat) => x.2 ≤ y.2)
    (c.srcs.zipIdx.map fun e => (e.1, (Config.freeValue (c.free0 + 8 * b + e.2)).toNat))).map (·.1)

/-- The member's contribution to block `b`: as sent to another owner, and as summed by itself (R375). -/
def State.localBlock (s : State) (c : Coll) (b : Nat) : List Byte × List Word :=
  let raws := (c.sourceOrder b).map fun a => s.readWire c.inF a c.e b
  let vals := raws.map (wireVals c.inF (blockCount c.e b))
  match raws, vals with
  | [w], [v] => (w, v)
  | _, v :: vs =>
    let sum := vs.foldl (List.zipWith add32) v
    (wireBlock c.inF sum, sum)
  | _, [] => ([], [])

/-! ### Sending data (R366, R374) -/

/-- The packets of a run of consecutive blocks or orders, `z` bytes each, from position `pos` of the contribution. -/
def payloads (z pos : Nat) (ws : List (List Byte)) : List (Nat × List Byte) :=
  (chunk (4096 / z) ws).zipIdx.map fun e => ((pos + e.2 * (4096 / z)) * z, e.1.flatten)

/-- A data packet to a member. -/
def State.dataPacket (s : State) (p : Nat) (c : Coll) (tgt : Nat) (o : Nat × List Byte) : Packet :=
  let m := c.members.getD tgt (0, 0)
  { domain := s.domain
    dst := m.1
    dstPart := m.2
    src := s.endpoint
    srcPart := p
    kind := 0
    hops := 32
    group := c.mine.group
    mtag := c.mine.milestone.toNat % 256
    tag := c.mine.tag.toNat
    offset := o.1
    vc := if c.mine.phase = 0 then 2 else 0
    payload := o.2 }

/-- Sends payloads to a member; `true` where its route passes a port that announces partition unavailable. -/
def State.sendData (s : State) (p : Nat) (c : Coll) (tgt : Nat) (stage : FlitStage) (os : List (Nat × List Byte)) : State × Bool :=
  os.foldl (fun t o =>
    let u := t.1.sendPacket p stage (t.1.dataPacket p c tgt o)
    (u.1, t.2 || u.2)) (s, false)

/-- A flit belongs to the collective of a key. -/
def ofKey (k : Nat × Nat) (f : FlitStage) : Bool := f.any fun g => (g.1, g.2.1) == k
/-- The links have yet to accept packets of a stage of the collective (R374). -/
def State.unaccepted (s : State) (k : Nat × Nat) : Bool := s.ports.any fun e => e.2.txq.any fun f => ofKey k f.stage
/-- Stages of the collective whose flits are accepted and not yet acknowledged (R374). -/
def State.inFlight (s : State) (k : Nat × Nat) : Nat :=
  ((s.ports.flatMap fun e => (e.2.replay.map (·.2.1)).filter (ofKey k)).eraseDups).length

/-- What a stage sends to rank `tgt`: in the gather half copies of the member's own blocks, else its contribution. -/
def State.stageData (s : State) (c : Coll) (gather : Bool) (tgt : Nat) : List (Nat × List Byte) :=
  if c.mine.op = .orderGather then payloads 8 0 (c.orders.map (natLe 8))
  else if gather then
    let f := if c.mine.op = .allReduce then c.outF else c.inF
    let base := if c.mine.op = .allReduce then c.dst else c.srcs.getD 0 0
    payloads (wireSize f) 0 ((c.range c.rank).map (s.readWire f base c.e))
  else payloads (wireSize c.inF) (c.lo tgt) ((c.range tgt).map fun b => (s.localBlock c b).1)

/-- Sends stages whose peers are ready, in stage order: the next one starts once the links have accepted the packets of the one
before, with at most 4 in flight (R374). -/
def State.sendStages (s : State) (p : Nat) (c : Coll) (gather : Bool) : Nat → State × Coll × Bool
  | 0 => (s, c, false)
  | k + 1 =>
    let st := if gather then c.stage2 else c.stage
    let tgt := (c.rank + st + 1) % c.n
    if c.n ≤ st + 1 || !(c.ready.any fun e => e.1 == tgt) || s.unaccepted c.key || 4 ≤ s.inFlight c.key then (s, c, false)
    else
      let r := s.sendData p c tgt (some (c.key.1, c.key.2, if gather then c.n + st else st)) (s.stageData c gather tgt)
      let c := if gather then { c with stage2 := st + 1 } else { c with stage := st + 1 }
      if r.2 then (r.1, c, true) else r.1.sendStages p c gather k

/-! ### Aborts (R379) -/

/-- Priority of an abort status. -/
def abortPriority (st : Nat) : Nat :=
  if st = stMilestoneMismatch then 1
  else if st = stCollMismatch then 2
  else if st = stMemOffline then 3
  else if st = stPeerUnavailable then 4
  else if st = stCollOverflow then 5
  else if st = stCollTimeout then 6
  else 7

/-- The cause of highest priority. -/
def bestCause : List (Nat × Nat) → Option (Nat × Nat)
  | [] => none
  | e :: t =>
    match bestCause t with
    | some f => if abortPriority f.1 < abortPriority e.1 then some f else some e
    | none => some e

/-- The running collective of a key. -/
def Part.coll (x : Part) (k : Nat × Nat) : Option Coll := x.colls.find? fun c => c.key == k
/-- The running collective of a group and tag. -/
def Part.collTag (x : Part) (g : Nat) (tag : Word) : Option Coll := x.colls.find? fun c => c.mine.group == g && c.mine.tag == tag
/-- Replaces a running collective. -/
def State.putColl (s : State) (p : Nat) (c : Coll) : State :=
  s.modPart p fun x => { x with colls := x.colls.map fun d => if d.key == c.key then c else d }

/-- The member detects a cause: it sends ABORT to every member, and its settle time starts (R379). -/
def State.collRaise (s : State) (p : Nat) (c : Coll) (st : Nat) : State :=
  (s.putColl p { c with causes := c.causes ++ [(st, c.rank)] }).sendAbort p c st

/-- An aborted collective completes: its status and rank, COLL_ABORTED, and its written memory undefined. -/
def State.collAborted (s : State) (p : Nat) (c : Coll) (st rank : Nat) : State :=
  let t := ((s.openColl c).dropColl p c).count 2 (lowDie 2 p) 0x230 16 1
  (t.raise p evCollAborted [(24, 1, c.mine.group), (28, 4, c.mine.tag.toNat), (32, 2, st), (34, 2, rank)]).finish c.q st
    (block 16 [(0, 2, rank % 4096)])

/-! ### Progress -/

/-- The bytes of an order inbox before the orders (R378). -/
def inboxHead (n : Nat) : Nat := roadUp (64 + 8 * n)
/-- The order counts of all members, by rank. -/
def Coll.counts (c : Coll) : List Nat :=
  (List.range c.n).map fun r => if r = c.rank then c.orders.length else ((c.ready.find? fun e => e.1 == r).map (·.2)).getD 0
/-- Every member's READY has been received. -/
def Coll.allReady (c : Coll) : Bool := c.ready.length + 1 == c.n
/-- Address of a rank's orders in the inbox. -/
def Coll.ordersAt (c : Coll) (r : Nat) : Nat := c.dst + inboxHead c.n + 8 * (c.counts.take r).sum

/-- Writes an accumulator's block to the staging region, where it lives when OUT_FMT is 0 (R375). -/
def State.stage (s : State) (c : Coll) (b : Nat) (vs : List Word) : State :=
  if c.mine.outFmt = 0 then s.writeMem (c.staging + 128 * (b - c.lo c.rank)) (bytes32 vs) else s

/-- A block that has the values of all n − 1 peers is final: it is converted to OUT_FMT and written (R375). -/
def State.finalBlock (s : State) (c : Coll) (b : Nat) (vs : List Word) : State :=
  let w := wireBlock c.outF vs
  if c.mine.op = .reduceScatter then s.writeWire c.outF c.dst c.owned (b - c.lo c.rank) w else s.writeWire c.outF c.dst c.e b w

/-- A peer's payload is added to the accumulators of its blocks (R375). -/
def State.addBlocks (s : State) (c : Coll) (first : Nat) : List (List Byte) → State × Coll
  | [] => (s, c)
  | w :: t =>
    match tfind c.acc first with
    | none => s.addBlocks c (first + 1) t
    | some a =>
      let v := List.zipWith add32 a (wireVals c.inF a.length w)
      let k := tget 0 c.cnt first + 1
      let s := s.stage c first v
      let s := if k + 1 = c.n then s.finalBlock c first v else s
      s.addBlocks { c with acc := tput c.acc first v, cnt := tset 0 c.cnt first k } (first + 1) t

/-- Copies blocks unchanged into the destination (R372). -/
def State.copyBlocks (s : State) (c : Coll) (f : TFmt) (first : Nat) (ws : List (List Byte)) : State × Coll :=
  ((ws.zipIdx.foldl (fun t e => t.writeWire f c.dst c.e (first + e.2) e.1) s), { c with placed := c.placed + ws.length })

/-- A peer's orders are placed at its rank's place (R378). -/
def State.placeOrders (s : State) (c : Coll) (r : Nat) (k : Packet) : State × Coll :=
  (s.writeMem (c.ordersAt r + k.offset) k.payload, { c with placed := c.placed + k.payload.length / 8 })

/-- The rank of a packet's source. -/
def Coll.rankOf (c : Coll) (k : Packet) : Option Nat := c.members.findIdx? fun m => m == (k.src, k.srcPart)

/-- A data packet from rank `r` (R372, R375, R378). A member's packets arrive in order, so in an ALL_REDUCE the bytes of its
contribution precede those of its results. -/
def State.collData (s : State) (c : Coll) (r : Nat) (k : Packet) : State × Coll :=
  let zi := wireSize c.inF
  let zo := wireSize c.outF
  let had := tget 0 c.got r
  let c := { c with got := tset 0 c.got r (had + k.payload.length), heard := if c.heard.contains r then c.heard else r :: c.heard }
  match c.mine.op with
  | .reduceScatter => s.addBlocks c (k.offset / zi) (chunk zi k.payload)
  | .allReduce =>
    if had < (c.hi c.rank - c.lo c.rank) * zi then s.addBlocks c (k.offset / zi) (chunk zi k.payload)
    else s.copyBlocks c c.outF (c.lo r + k.offset / zo) (chunk zo k.payload)
  | .allGather => s.copyBlocks c c.inF (c.lo r + k.offset / zi) (chunk zi k.payload)
  | .broadcast =>
    let t := s.copyBlocks c c.inF (k.offset / zi) (chunk zi k.payload)
    (t.1, if c.nextRank = c.mine.root then t.2 else { t.2 with held := t.2.held ++ [k] })
  | .orderGather => if c.final then s.placeOrders c r k else (s, { c with held := c.held ++ [k] })

/-- The inbox's head, the member's own orders and those that waited (R378). -/
def State.openInbox (s : State) (c : Coll) : State × Coll :=
  let counts := c.counts
  let t := s.writeMem c.dst (block (inboxHead c.n) [(0, 8, counts.sum), (8, 8, c.mine.milestone.toNat), (16, 2, c.n)])
  let t := t.writeMem (c.dst + 64) (counts.flatMap (natLe 8))
  let t := t.writeMem (c.ordersAt c.rank) (c.orders.flatMap (natLe 8))
  c.held.foldl (fun u k =>
    match c.rankOf k with
    | some r => u.1.placeOrders u.2 r k
    | none => u) (t, { c with final := true, held := [] })

/-- A BROADCAST packet goes on along the ring once the next member is ready. -/
def State.passOn (s : State) (p : Nat) (c : Coll) : State × Coll × Bool :=
  if c.ready.any fun e => e.1 == c.nextRank then
    let r := s.sendData p c c.nextRank none (c.held.map fun k => (k.offset, k.payload))
    (r.1, { c with
      passed := c.passed + (c.held.map fun k => k.payload.length / wireSize c.inF).sum
      held := [] }, r.2)
  else (s, c, false)

/-- Every owned block has all n − 1 peers' values. -/
def Coll.full (c : Coll) : Bool := c.acc.all fun e => tget 0 c.cnt e.1 + 1 == c.n

/-- The collective goes as far as it can; a status that this member detects. -/
def State.collGo (s : State) (p : Nat) (c : Coll) : State × Coll × Option Nat :=
  let un := fun (b : Bool) => if b then some stPeerUnavailable else none
  match c.mine.op with
  | .broadcast =>
    let r := s.passOn p c
    (r.1, r.2.1, un r.2.2)
  | .allGather =>
    let r := s.sendStages p c true c.n
    (r.1, r.2.1, un r.2.2)
  | .orderGather =>
    if !c.allReady then (s, c, none)
    else if c.cap < c.counts.sum then (s, c, some stCollOverflow)
    else
      let t := if c.final then (s, c) else s.openInbox c
      let r := t.1.sendStages p t.2 false c.n
      (r.1, r.2.1, un r.2.2)
  | _ =>
    let r := s.sendStages p c false c.n
    if r.2.2 then (r.1, r.2.1, some stPeerUnavailable)
    else
      let c := { r.2.1 with final := r.2.1.full }
      if c.mine.op = .allReduce && c.final then
        let g := r.1.sendStages p c true c.n
        (g.1, g.2.1, un g.2.2)
      else (r.1, c, none)

/-- The collective has done all of its work. -/
def Coll.isDone (c : Coll) : Bool :=
  let sent := c.n ≤ c.stage + 1
  let sent2 := c.n ≤ c.stage2 + 1
  match c.mine.op with
  | .reduceScatter => c.final && sent
  | .allReduce => c.final && sent && sent2 && c.placed + (c.hi c.rank - c.lo c.rank) == c.blocks
  | .allGather => sent2 && c.placed + (c.hi c.rank - c.lo c.rank) == c.blocks
  | .broadcast => (c.rank == c.mine.root || c.placed == c.blocks) && (c.nextRank == c.mine.root || c.passed == c.blocks)
  | .orderGather => c.final && sent && c.placed + c.orders.length == c.counts.sum

/-- The orders of a completed all-gather of phase code 6 await a PROGRAM (R34). -/
def State.noteGathered (s : State) (p : Nat) (c : Coll) : State :=
  if c.mine.op = .orderGather && c.mine.phase = 6 && c.counts.sum != 0 then
    s.modPart p fun x => { x with gathered := c.dst :: x.gathered.filter (· != c.dst) }
  else s

/-- A step of a running collective: what can be sent is sent, and it completes or aborts. -/
def State.collStep (s : State) (p : Nat) (c : Coll) : State :=
  let r := s.collGo p c
  let t := r.1.putColl p r.2.1
  match r.2.2 with
  | some st => t.collRaise p r.2.1 st
  | none =>
    if r.2.1.isDone then
      ((t.dropColl p c).noteGathered p r.2.1).finish c.q stOk (if c.mine.op = .orderGather then slice (natLe 8 r.2.1.counts.sum) 0 16 else result0)
    else t

/-! ### READY (R373) -/

/-- What the comparison of two READYs says: a status, or agreement. -/
def readyFault (a b : Ready) : Option Nat :=
  if a.milestone != b.milestone then some stMilestoneMismatch
  else if a.op != b.op || a.phase != b.phase || a.elems != b.elems || a.inFmt != b.inFmt || a.outFmt != b.outFmt ||
      a.root != b.root || a.digest != b.digest then some stCollMismatch
  else none

/-- READY to a rank; `true` where its route passes a port that announces partition unavailable. -/
def State.sendReady (s : State) (p : Nat) (c : Coll) (tgt : Nat) : State × Bool :=
  let m := c.members.getD tgt (0, 0)
  s.sendPacket p none (s.readyPacket p m.1 m.2 c.mine)

/-- A READY for a running collective. -/
def State.readyFor (s : State) (p : Nat) (c : Coll) (r : Ready) : State :=
  if c.n ≤ r.rank || r.rank = c.rank || (c.ready.any fun e => e.1 == r.rank) then s
  else
    match readyFault c.mine r with
    | some st => s.collRaise p c st
    | none =>
      let c := { c with ready := c.ready ++ [(r.rank, r.orders)] }
      if c.causes.isEmpty then (s.putColl p c).collStep p c else s.putColl p c

/-- A READY reaches a partition: compared, held or discarded (R371, R373). -/
def State.readyIn (s : State) (p : Nat) (r : Ready) : State :=
  let x := s.part p
  match (x.coll (collKey r.group r.milestone r.tag)).orElse fun _ => x.collTag r.group r.tag with
  | some c => s.readyFor p c r
  | none =>
    if x.doneKeys.contains (collKey r.group r.milestone r.tag) then s
    else s.modPart p fun y => { y with heldReady := y.heldReady ++ [r] }

/-! ### Beginning a collective (R371 to R373) -/

/-- The block boundaries of an operation, or why the split table is refused (R372). -/
def State.splitTable (s : State) (p : Nat) (op : CollOp) (a : List Byte) (n : Nat) : (Nat × List Byte) ⊕ (List Nat × List Byte) :=
  let b := ceilDiv (aElems a) 32
  match op with
  | .allReduce =>
    let t := (List.range (n + 1)).map fun r => r * b / n
    .inr (t, t.flatMap (natLe 8))
  | .broadcast => .inr ([], [])
  | .orderGather => .inr ([], [])
  | _ =>
    match (s.part p).reach 1 (aSplit a) (8 * (n + 1)) with
    | some (.dev ad) =>
      let bs := memRead s.mem ad (8 * (n + 1))
      let t := wordsOf 8 (n + 1) bs
      if t.getD 0 1 != 0 || t.getD n 0 != b || !(t.zip (t.drop 1)).all fun e => e.1 ≤ e.2 then .inl (stOpForm, resultAt 24 true)
      else .inr (t, bs)
    | _ => .inl (stAddrRange, resultAt 24 true)

/-- The collective before its memory is known. -/
def State.newColl (s : State) (p q : Nat) (op : CollOp) (run : Running) (g : CollGroup) : Coll where
  q := q
  mine := {
    group := aGroup run.args
    milestone := (s.part p).milestone
    tag := aTag run.args
    rank := g.rank
    op := op
    phase := dPhase run.desc
    elems := aElems run.args
    inFmt := aInFmt run.args
    outFmt := aOutFmt run.args
    root := aRoot run.args
    digest := []
    orders := 0 }
  rank := g.rank
  members := g.members
  ready := []
  heard := []
  split := []
  dst := aDst run.args
  staging := aStaging run.args
  srcs := []
  cap := aCap run.args
  reads := []
  writes := []
  orders := []
  free0 := s.free
  stage := 0
  stage2 := 0
  acc := []
  cnt := []
  final := false
  got := []
  placed := 0
  held := []
  passed := 0
  causes := []

/-- The tables that a collective reads before its vectors: the split table of a REDUCE_SCATTER or ALL_GATHER, and the order log of an
ORDER_GATHER. -/
def State.collTables (s : State) (p : Nat) (op : CollOp) (a : List Byte) (n : Nat) : List (Bool × Place × Nat) :=
  match op with
  | .orderGather =>
    if (s.part p).logCount = 0 then [] else [(false, .dev (s.logBase p), 8 * (s.part p).logCount)]
  | .allReduce => []
  | .broadcast => []
  | _ =>
    match (s.part p).reach 1 (aSplit a) (8 * (n + 1)) with
    | some pl => [(false, pl, 8 * (n + 1))]
    | none => []

/-- The memory that a collective uses: (address, bytes, offset of its field, written). -/
def Coll.memory (c : Coll) (a : List Byte) : List (Nat × Nat × Nat × Bool) :=
  let src := fun (i : Nat) => (aSrc a i, tensorBytes c.inF 1 c.e, 56 + 8 * i, false)
  let reads :=
    if c.sums then (List.range (aSources a)).map src
    else if c.mine.op = .allGather || (c.mine.op = .broadcast && c.rank = c.mine.root) then [src 0] else []
  let len :=
    match c.mine.op with
    | .reduceScatter => tensorBytes c.outF 1 c.owned
    | .allReduce => tensorBytes c.outF 1 c.e
    | .orderGather => inboxHead c.n + 8 * c.cap
    | _ => tensorBytes c.inF 1 c.e
  reads ++ [(aDst a, len, 16, true)] ++
    if c.sums && c.mine.outFmt = 0 then [(aStaging a, 4 * c.owned, 32, true)] else []

/-- The plan of a collective, or the status that refuses it. -/
def State.planColl (s : State) (p : Nat) (c : Coll) (a : List Byte) : (Nat × List Byte) ⊕ Coll :=
  let op := c.mine.op
  match firstFail [formIf (c.mine.inFmt == 3 || c.mine.outFmt == 1 || c.mine.outFmt == 3) 1 true,
      formIf (c.e == 0 && op != .orderGather) 8 true,
      formIf (op == .broadcast && c.n ≤ c.mine.root) 2 true] with
  | some e => .inl e
  | none =>
    match s.splitTable p op a c.n with
    | .inl e => .inl e
    | .inr (t, bs) =>
      let os := if op = .orderGather then wordsOf 8 (s.part p).logCount (memRead s.mem (s.logBase p) (8 * (s.part p).logCount)) else []
      let c := { c with
        split := t
        orders := os
        mine := { c.mine with digest := (sha512 bs).take 8, orders := os.length } }
      let ms := c.memory a
      let log := if op = .orderGather && os.length != 0 then [(s.logBase p, 8 * os.length)] else []
      match firstFail [statusIf (log.any fun e => !inRange (s.part p).hbmRange.1 (s.part p).hbmRange.2 e.1 e.2) stAddrRange,
          (s.part p).badRange (ms.map fun e => (e.1, 1, e.2.1, e.2.2.1, true))] with
      | some e => .inl e
      | none => .inr { c with
          srcs := (ms.filter fun e => !e.2.2.2).map (·.1)
          reads := log ++ (ms.filter fun e => !e.2.2.2).map fun e => (e.1, e.2.1)
          writes := (ms.filter fun e => e.2.2.2).map fun e => (e.1, e.2.1) }

/-- The accesses of a planned collective. -/
def Coll.accesses (c : Coll) : List (Bool × Place × Nat) :=
  (c.reads.map fun e => (false, Place.dev e.1, e.2)) ++ (c.writes.filter fun e => e.2 != 0).map fun e => (true, Place.dev e.1, e.2)

/-- The member's own part at the beginning: its contribution starts the accumulators, its blocks stand in the destination, its
vector is ready for the ring (R372, R375). -/
def State.ownPart (s : State) (c : Coll) : State × Coll :=
  match c.mine.op with
  | .allGather => ((c.range c.rank).foldl (fun t b => t.writeWire c.inF c.dst c.e b (s.readWire c.inF (c.srcs.getD 0 0) c.e b)) s, c)
  | .broadcast =>
    if c.rank = c.mine.root then
      let ws := (List.range c.blocks).map (s.readWire c.inF (c.srcs.getD 0 0) c.e)
      let t := ws.zipIdx.foldl (fun u e => u.writeWire c.inF c.dst c.e e.2 e.1) s
      (t, { c with held := (payloads (wireSize c.inF) 0 ws).map fun o => s.dataPacket 0 c c.rank o })
    else (s, c)
  | .orderGather => (s, c)
  | _ =>
    let accs := (c.range c.rank).map fun b => (b, (s.localBlock c b).2)
    (accs.foldl (fun t e => t.stage c e.1 e.2) s, { c with acc := accs })

/-- READY to every other member (R373); `true` as in `sendReady`. -/
def State.sendReadys (s : State) (p : Nat) (c : Coll) (rs : List Nat) : State × Bool :=
  rs.foldl (fun t r =>
    let u := t.1.sendReady p c r
    (u.1, t.2 || u.2)) (s, false)
/-- The ranks of the other members. -/
def Coll.peers (c : Coll) : List Nat := (List.range c.n).filter (· != c.rank)

/-- A collective that passes its checks runs: READYs go out, held ones are compared, and its own part begins. -/
def State.runColl (s : State) (p : Nat) (c : Coll) : State :=
  let s := if 1 < c.srcs.length then { s with free := s.free + 8 * c.blocks } else s
  let o := s.ownPart c
  let c := o.2
  let r := (o.1.modPart p fun x => { x with colls := x.colls ++ [c] }).sendReadys p c c.peers
  let mine := fun (h : Ready) => h.group == c.mine.group && h.tag == c.mine.tag
  let hs := (r.1.part p).heldReady.filter mine
  let t := r.1.modPart p fun x => { x with heldReady := x.heldReady.filter fun h => !mine h }
  let t := if r.2 then t.collRaise p c stPeerUnavailable else t
  let t := hs.foldl (fun u h => u.readyIn p h) t
  match (t.part p).coll c.key with
  | some d => if d.causes.isEmpty then t.collStep p d else t
  | none => t

/-- The tags of a group with one more, the last 1,024 (R371). -/
def addTag (ts : List Nat) (t : Nat) : List Nat := (ts ++ [t]).drop (ts.length + 1 - 1024)

/-- A collective descriptor that is refused: its peers expect its READY and are told (R379). -/
def State.refuseColl (s : State) (p q : Nat) (c : Coll) (st : Nat) (res : List Byte) : State :=
  (s.sendAbort p c stCollMismatch).finish q st res

/-- A collective whose memory can be used begins: its tag counts as used, and a held ABORT ends it (R371, R379). -/
def State.enterColl (s : State) (p : Nat) (g : CollGroup) (c : Coll) : State :=
  let tag := c.mine.tag.toNat
  let t := s.modPart p fun x => { x with collGroups := tput x.collGroups c.mine.group { g with tags := addTag g.tags tag } }
  let mine := fun (m : AbortMsg) => collKey m.group m.milestone m.tag == c.key
  let hs := (t.part p).heldAbort.filter mine
  let t := t.modPart p fun x => { x with heldAbort := x.heldAbort.filter fun m => !mine m }
  match bestCause (hs.map fun m => (m.status, m.rank)) with
  | some (st, rank) => t.collAborted p c st rank
  | none => t.runColl p c

/-- The address fields that a collective uses, with their offsets, in order of offset (R372, R440). -/
def collAddrs (op : CollOp) (a : List Byte) (rank : Nat) : List (Nat × Nat) :=
  let sums := op == .reduceScatter || op == .allReduce
  let srcs := if sums then aSources a else if op == .allGather || (op == .broadcast && rank == aRoot a) then 1 else 0
  [(aDst a, 16)] ++ (if op == .reduceScatter || op == .allGather then [(aSplit a, 24)] else []) ++
    (if sums && aOutFmt a = 0 then [(aStaging a, 32)] else []) ++ (List.range srcs).map fun i => (aSrc a i, 56 + 8 * i)

/-- Their form and start are tested as the block is read (R437). -/
def collStarts (x : Part) (op : CollOp) (a : List Byte) (rank : Nat) : Option (Nat × List Byte) :=
  x.badRange ((collAddrs op a rank).map fun e => (e.1, 1, 1, e.2, true))

/-- A collective descriptor begins (R371 to R373, R379). -/
def State.beginColl (s : State) (q : Nat) (op : CollOp) (run : Running) : State :=
  let p := s.queuePart q
  let a := run.args
  let g := tget CollGroup.none (s.part p).collGroups (aGroup a)
  match firstFail [(reservedAt a 128 collFields).map fun o => (stOpForm, resultAt o true), collStarts (s.part p) op a g.rank] with
  | some (st, res) => s.finish q st res
  | none =>
    if !g.loaded then s.finish q stCollForm (resultAt 0 true)
    else if g.tags.contains (aTag a).toNat then s.finish q stCollForm (resultAt 4 true)
    else
      let c := s.newColl p q op run g
      let tables := s.collTables p op a c.n
      match s.badAccess tables with
      | some st => (s.countBad st tables).refuseColl p q c st result0
      | none =>
        match s.planColl p c a with
        | .inl (st, res) => (s.countReads tables).refuseColl p q c st res
        | .inr c =>
          let s := s.countReads tables
          match s.badAccess c.accesses with
          | some st => (s.countBad st c.accesses).refuseColl p q c st result0
          | none => (s.countReads (c.accesses.filter fun x => !tables.contains x)).enterColl p g c

/-- The running collective of a queue goes on where the links have accepted what it waited for (R374). -/
def State.driveColl (s : State) (q : Nat) : State :=
  let p := s.queuePart q
  match (s.part p).colls.find? fun c => c.q == q && c.causes.isEmpty with
  | some c => s.collStep p c
  | none => s

/-- A collective descriptor runs its first step once; after that packets and timers move it, and the command itself starts the
stages that the links now have room for (log entry 123). -/
def collBegins (q opcode : Nat) (op : CollOp) (s : State) : Result :=
  onRunning q opcode s fun run =>
    if run.work.started then s.driveColl q
    else (s.modWork q fun w => { w with started := true }).beginColl q op run

/-- REDUCE_SCATTER (R372 to R375). -/
def execReduceScatter (q : Nat) (s : State) : Result := collBegins q 0x20 .reduceScatter s
/-- ALL_GATHER (R372 to R374). -/
def execAllGather (q : Nat) (s : State) : Result := collBegins q 0x21 .allGather s
/-- ALL_REDUCE (R372 to R375). -/
def execAllReduce (q : Nat) (s : State) : Result := collBegins q 0x22 .allReduce s
/-- BROADCAST (R372, R373). -/
def execBroadcast (q : Nat) (s : State) : Result := collBegins q 0x23 .broadcast s
/-- ORDER_GATHER (R373, R378). -/
def execOrderGather (q : Nat) (s : State) : Result := collBegins q 0x24 .orderGather s

/-! ### Packets and timers -/

/-- READY_RECEIVE (R373). -/
def execReadyReceive (p : Nat) (r : Ready) (s : State) : Result :=
  onQuad p (
    if !(s.part p).inService then .next s
    else if s.domain = 0 then .next (s.dropDomain (2 * p))
    else .next (s.readyIn p r))

/-- READY_RESEND (R373): 1 ms has passed; READY goes again to each peer from which neither data nor READY has come. -/
def execReadyResend (p g : Nat) (tag : Word) (s : State) : Result :=
  onQuad p (
    match (s.part p).collTag g tag with
    | none => .next s
    | some c =>
      if !c.causes.isEmpty then .next s
      else
        let r := s.sendReadys p c (c.peers.filter fun r => !(c.ready.any fun e => e.1 == r) && !c.heard.contains r)
        .next (if r.2 then r.1.collRaise p c stPeerUnavailable else r.1))

/-- COLL_DATA_RECEIVE (R371, R374, R375): the oldest delivered packet is added or copied, or discarded. -/
def execCollDataReceive (p : Nat) (s : State) : Result :=
  onQuad p (
    match (s.part p).delivered with
    | [] => .next s
    | k :: rest =>
      let s := s.modPart p fun x => { x with delivered := rest }
      let c? := (s.part p).colls.find? fun c =>
        c.mine.group == k.group && c.mine.tag.toNat == k.tag && c.mine.milestone.toNat % 256 == k.mtag
      match c? with
      | none => .next s
      | some c =>
        match c.rankOf k with
        | none => .next s
        | some r =>
          if !c.causes.isEmpty || r = c.rank then .next s
          else
            let t := s.collData c r k
            .next ((t.1.putColl p t.2).collStep p t.2))

/-- ABORT_RECEIVE (R379, R392): the settle time of a running key starts; for a key not begun it is held; for a completed one it
is discarded. -/
def execAbortReceive (p : Nat) (a : AbortMsg) (s : State) : Result :=
  onQuad p (
    let x := s.part p
    let k := collKey a.group a.milestone a.tag
    if !x.inService then .next s
    else if s.domain = 0 then .next (s.dropDomain (2 * p))
    else
      match x.coll k with
      | some c => .next (s.putColl p { c with causes := c.causes ++ [(a.status, a.rank)] })
      | none =>
        if x.doneKeys.contains k then .next s
        else .next (s.modPart p fun y => { y with heldAbort := y.heldAbort ++ [a] }))

/-- COLL_SETTLE_EXPIRY (R379): the collective completes with the cause of highest priority. -/
def execCollSettleExpiry (p g : Nat) (tag : Word) (s : State) : Result :=
  onQuad p (
    match (s.part p).colls.find? fun c => c.mine.group == g && c.mine.tag == tag && !c.causes.isEmpty with
    | none => .next s
    | some c =>
      match bestCause c.causes with
      | some (st, rank) => .next (s.collAborted p c st rank)
      | none => .next s)

/-- COLL_WATCHDOG_EXPIRY (R380): no progress for TIMEOUT ms. -/
def execCollWatchdogExpiry (p g : Nat) (tag : Word) (s : State) : Result :=
  onQuad p (
    match (s.part p).colls.find? fun c => c.mine.group == g && c.mine.tag == tag && c.causes.isEmpty with
    | none => .next s
    | some c => .next (s.collRaise p c stCollTimeout))

/-- Collectives that use memory of a stack abort with ST_MEM_OFFLINE (R379, R381). -/
def Coll.uses (c : Coll) (hit : Nat → Nat → Bool) : Bool := (c.reads ++ c.writes).any fun e => e.2 != 0 && hit e.1 e.2
def State.collOffline (s : State) (p : Nat) (hit : Nat → Nat → Bool) : State :=
  ((s.part p).colls.filter fun c => !c.causes.contains (stMemOffline, c.rank) && c.uses hit).foldl (fun t c => t.collRaise p c stMemOffline) s

end Sys2Proof.Machine
end

