-- ==== Sys2Proof/Machine/Snapshot.lean ====
section
/-! DEFINITION. SNAPSHOT and RESTORE (R344 to R346), the image format, and the start of a mirror (R37 to R39, R542, R543). -/

namespace Sys2Proof.Machine

open Sys2Proof

/-! ### The format of R345 -/

/-- Groups of which the member owns blocks, ascending. -/
def Part.owned (x : Part) : List (Nat × Group) := x.groups.filter fun e => e.2.used && gCount e.2.record != 0

/-- Bytes of a group's section. -/
def sectionLen (state : Bool) (count : Nat) : Nat := count * (if state then 256 else 128) + 64 * count
/-- Sections with their offsets from `o` on. -/
def sectionOffs (state : Bool) : Nat → List (Nat × Group) → List (Nat × Nat × Group)
  | _, [] => []
  | o, (k, g) :: t => (o, k, g) :: sectionOffs state (o + sectionLen state (gCount g.record)) t
def Part.sections (x : Part) (state : Bool) : List (Nat × Nat × Group) := sectionOffs state (256 + 64 * x.owned.length) x.owned
/-- Length of the partition's snapshot. -/
def Part.imageLen (x : Part) (state : Bool) : Nat :=
  256 + 64 * x.owned.length + (x.owned.map fun e => sectionLen state (gCount e.2.record)).sum + 64

/-- The directory entry of a group. -/
def dirBytes (state : Bool) (e : Nat × Nat × Group) : List Byte :=
  let g := e.2.2.record
  block 64 [(0, 1, e.2.1), (1, 1, gKind g), (2, 2, field g 2 2), (8, 8, e.2.2.lastT.toNat), (16, 8, gFirst g), (24, 8, gCount g),
    (32, 8, e.1), (40, 8, sectionLen state (gCount g))]

/-- The section of a group: block records, then block tails. -/
def State.sectionBytes (s : State) (state : Bool) (g : List Byte) : List Byte :=
  ((List.range (gCount g)).flatMap fun i => memRead s.mem (recAddr g i) (if state then 256 else 128)) ++
    memRead s.mem (gTail g) (64 * gCount g)

/-- The snapshot of a partition at a milestone. -/
def State.image (s : State) (p : Nat) (state : Bool) (ms : Nat) : List Byte :=
  let x := s.part p
  let head := block 256 [(0, 4, 0x59534E50), (4, 2, 1), (6, 2, b2n state), (8, 8, ms), (16, 2, s.regf 2 0 0x220 0 12),
    (18, 2, s.regf 2 0 0x220 16 16), (20, 2, x.owned.length), (24, 8, x.imageLen state), (32, 8, 256)]
  let body := head ++ (x.sections state).flatMap (dirBytes state) ++ x.owned.flatMap fun e => s.sectionBytes state e.2.record
  body ++ sha512 body

/-- The reads of a snapshot. -/
def Part.imageAccess (x : Part) : List (Bool × Place × Nat) :=
  x.owned.flatMap fun e =>
    [(false, .dev (gMaster e.2.record), 256 * gCount e.2.record), (false, .dev (gTail e.2.record), 64 * gCount e.2.record)]

/-! ### SNAPSHOT (R344) -/

/-- Reads the state of milestone `ms` and writes the snapshot. -/
def State.takeSnapshot (s : State) (q : Nat) (d : List Byte) (ok : Bool) (ms : Nat) : State :=
  let p := s.queuePart q
  let x := s.part p
  let n := x.imageLen (dFlag d 0)
  if field d 32 8 < n then s.finish q stOpForm (resultAt 32 false)
  else
    match x.reach 5 (field d 24 8) n with
    | none => s.finish q stAddrRange (resultAt 24 false)
    | some pl =>
      let xs := x.imageAccess ++ [(true, pl, n)]
      s.access q xs fun s =>
        if pl.isHost && !ok then s.finish q stHostError result0
        else (s.writeAt p pl (s.image p (dFlag d 0) ms)).finish q stOk (block 16 [(0, 8, ms), (8, 8, n)])

/-- A SNAPSHOT whose blocks are held reads them and lets them go; it waits while a RESTORE that began before it runs (R359). -/
def State.readSnapshot (s : State) (q : Nat) (run : Running) (ok : Bool) : State :=
  let p := s.queuePart q
  if s.earlier p 0x39 run.work.gen fun _ => true then s
  else
    match (s.part p).readers.find? fun r => r.owner == q with
    | none => s
    | some r => (s.modPart p fun x => { x with readers := x.readers.filter fun e => e.owner != q }).takeSnapshot q run.desc ok r.milestone

/-- SNAPSHOT (R344): it reads at once, but waits for closure when an UPDATE_APPLY of the step had begun before it. -/
def execSnapshot (q : Nat) (ok : Bool) (s : State) : Result :=
  onRunning q 0x38 s fun run => if run.work.deferred then s else s.readSnapshot q run ok

/-- SNAPSHOT_DEFERRED_START (R344): a SNAPSHOT that waited reads the state of the milestone that has closed. -/
def execSnapshotDeferredStart (q : Nat) (ok : Bool) (s : State) : Result :=
  onRunning q 0x38 s fun run => if run.work.deferred then s.readSnapshot q run ok else s

/-! ### RESTORE (R346) -/

/-- A directory entry that has been matched: group, offset of its section, COUNT, LAST_T. -/
structure RestoreItem where
  k : Nat
  off : Nat
  lastT : Word64
deriving DecidableEq, Repr

/-- The directory entry at an offset names a group of the partition, with a section that lies in the snapshot. -/
def Part.restoreItem (x : Part) (bs : List Byte) (state : Bool) (o : Nat) : Option RestoreItem :=
  let e := slice (bs.drop o) 0 64
  let k := field e 0 1
  let g := tget Group.unused x.groups k
  let count := field e 24 8
  let off := field e 32 8
  if o + 64 ≤ bs.length - 64 && g.used && field e 1 1 == gKind g.record && field e 16 8 == gFirst g.record &&
      count == gCount g.record && field e 40 8 == sectionLen state count && off + sectionLen state count ≤ bs.length - 64 then
    some ⟨k, off, BitVec.ofNat 64 (field e 8 8)⟩
  else none

/-- The matched directory of a snapshot that passes the checks of R346. -/
def Part.restoreItems (x : Part) (bs : List Byte) (len : Nat) : Option (List RestoreItem) :=
  let state := bit (field bs 6 2) 0
  if len < 320 || field bs 0 4 != 0x59534E50 || field bs 4 2 != 1 || field bs 24 8 != len ||
      sha512 (bs.take (len - 64)) != bs.drop (len - 64) then none
  else
    let es := (List.range (field bs 20 2)).map fun i => x.restoreItem bs state (field bs 32 8 + 64 * i)
    if es.all Option.isSome then some (es.filterMap id) else none

/-- The memory that a RESTORE writes for a group. -/
def Part.restoreAccess (x : Part) (e : RestoreItem) : List (Bool × Place × Nat) :=
  let g := (tget Group.unused x.groups e.k).record
  [(true, .dev (gMaster g), 256 * gCount g), (true, .dev (gTail g), 64 * gCount g)]

/-- Writes one group back: records, tails, LAST_T; without state in the snapshot s1 and s2 are 0 with exponents 0. -/
def State.restoreGroup (s : State) (p : Nat) (bs : List Byte) (state : Bool) (e : RestoreItem) : State :=
  let g := (tget Group.unused (s.part p).groups e.k).record
  let n := gCount g
  let w := if state then 256 else 128
  let s := (List.range n).foldl (fun t i =>
    let r := slice (bs.drop (e.off + w * i)) 0 w
    let tl := slice (bs.drop (e.off + w * n + 64 * i)) 0 64
    let t := t.writeMem (recAddr g i) (if state then r else r ++ List.replicate 128 0)
    t.writeMem (tailAddr g i) (if state then tl else patch tl 33 [0, 0])) s
  s.modPart p fun x => { x with groups := tmod Group.unused x.groups e.k fun y => { y with lastT := e.lastT } }

/-- MS_SET: the milestone number is set, for a SNAPSHOT that waits behind the RESTORE too, and stash directory and order log are cleared as at a closure (R346). -/
def State.setMilestone (s : State) (p ms : Nat) : State :=
  (s.clearStash p).modPart p fun x => { x with
    milestone := BitVec.ofNat 64 ms
    readers := x.readers.map fun r => if r.owner == mirrorOwner then r else { r with milestone := ms % 2 ^ 64 }
    logCount := 0
    logFull := 0
    collGroups := x.collGroups.map fun e => (e.1, { e.2 with tags := [] })
    heldReady := []
    heldAbort := []
    doneKeys := x.doneKeys.filter fun k => k.2 < ms }

/-- RESTORE (R346). It waits for a SNAPSHOT that began before it (R359). -/
def execRestore (q : Nat) (r : HostReply) (s : State) : Result :=
  onRunning q 0x39 s fun run =>
    let p := s.queuePart q
    let d := run.desc
    let x := s.part p
    let n := field d 32 8
    if x.stepOn then s.finish q stGroupBusy result0
    else if s.earlier p 0x38 run.work.gen fun _ => true then s
    else
      match x.reach 5 (field d 24 8) n with
      | none => s.finish q stAddrRange (resultAt 24 false)
      | some pl => s.fetch q pl n r fun bs s =>
        match x.restoreItems bs n with
        | none => s.finish q stSnapshotForm result0
        | some es => s.access q (es.flatMap x.restoreAccess) fun s =>
          let t := es.foldl (fun t e => t.restoreGroup p bs (bit (field bs 6 2) 0) e) s
          let t := if dFlag d 0 then t.setMilestone p (field d 40 8) else t
          t.finish q stOk (block 16 [(0, 8, n)])

/-! ### Mirrors (R37 to R39, R542, R543) -/

/-- Begins the mirror of a milestone; an image larger than a slot, or one that cannot be read, is not sent (R542, R543; log
entry 26). -/
def State.beginMirror (s : State) (p ms : Nat) : State :=
  let x := s.part p
  let failWith := fun (reason : Nat) =>
    (s.modPart p fun y => y.dropMirror (some ms)).raise p evTwinMirrorFail [(24, 1, reason), (32, 8, ms)]
  if s.regf 2 3 0x36C 0 16 * mib < x.imageLen true then failWith 0
  else if (s.badAccess x.imageAccess).isSome then failWith 1
  else
    let s := s.modPart p fun y => { y with readers := y.readers.map fun r =>
      if r.owner == mirrorOwner && r.milestone == ms then { r with begun := true } else r }
    { s.imageSend false (s.image p true ms) with twin := { s.twin with mirroring := true, mirrorMs := ms } }

/-- The mirrors that are due begin in turn, until one is being sent (R39). -/
def State.nextMirror (s : State) (p : Nat) : List Nat → State
  | [] => { s with twin := { s.twin with mirrorsDue := [] } }
  | ms :: t =>
    let u := s.beginMirror p ms
    if u.twin.mirroring then { u with twin := { u.twin with mirrorsDue := t } } else u.nextMirror p t

/-- A mirror falls due at milestone `ms` (R37, R542). -/
def State.dueMirror (s : State) (p ms : Nat) : State :=
  let k := s.twCfg 1 8
  if s.twinPart != some p || s.twin.st != .paired || k = 0 || ms = 0 || ms % k != 0 then s
  else
    let s := s.modPart p fun x => { x with readers := x.readers ++ [⟨mirrorOwner, ms, false, []⟩] }
    if s.twin.mirroring then { s with twin := { s.twin with mirrorsDue := s.twin.mirrorsDue ++ [ms] } }
    else s.beginMirror p ms

end Sys2Proof.Machine
end

