-- ==== Sys2Proof/Machine/Milestone.lean ====
section
/-! DEFINITION. MILESTONE and the closure of a milestone: norm watch, drift evaluation, wear periods, refresh tests, staged writes, tenant counters, mirrors (R34 to R39, R133, R171, R182, R183, R210, R299, R313, R527). -/

namespace Sys2Proof.Machine

open Sys2Proof

/-! ### The norm watch (R133, R313) -/

/-- GD_NORMWATCH with its codes resolved (R143). -/
structure WatchCfg where
  shift : Nat
  jump : Nat
  hold : Bool
  warmup : Nat
deriving DecidableEq, Repr

def State.watchCfg (s : State) (p : Nat) : WatchCfg where
  shift := max 1 (s.pregf p 1 0x100 0 4)
  jump := s.pregf p 1 0x100 4 3
  hold := s.pregf p 1 0x100 7 1 == 1
  warmup := max 1 (s.pregf p 1 0x100 8 8)

/-- avg + (N − avg) · 2^−SHIFT in binary64. -/
def watchAvg (shift : Nat) (avg n : Word64) : Word64 :=
  add64 avg (mul64 (sub64 n avg) (r64 (.fin false 1 (-(shift : Int)))))

/-- One layer's watch: the new average and step count, and whether the norm jumped. -/
def watchStep (c : WatchCfg) (st : Word64 × Nat) (n : Word64) : (Word64 × Nat) × Bool :=
  let next := watchAvg c.shift st.1 n
  if st.2 < c.warmup then ((if st.2 = 0 then n else next, st.2 + 1), false)
  else if 5 ≤ c.jump then ((if (f64 n).finite then next else st.1, st.2), false)
  else if !(f64 n).finite || ((f64 st.1).scale (c.jump + 1)).lt (f64 n) then (st, true)
  else ((next, st.2), false)

/-- The watch of one layer and kind: 0 output, 1 gradient. -/
def State.watchLayer (s : State) (p : Nat) (c : WatchCfg) (kind layer : Nat) (sums : List Word64) : State :=
  let n := r64 (f64 (sums.foldl add64 0)).sqrt
  let old := tget (0, 0) (s.part p).watch (layer * 2 + kind)
  let (st, jump) := watchStep c old n
  let s := s.modPart p fun x => { x with watch := tput x.watch (layer * 2 + kind) st }
  if jump then
    (s.raise p evNormJump [(24, 1, kind), (26, 2, layer), (32, 8, n.toNat), (40, 8, old.1.toNat)]).modPart p fun x =>
      { x with hold := x.hold || c.hold }
  else s

/-- Layers that have a sum in a list of tables, ascending. -/
def summed {α : Type} (ts : List (SMap α)) : List Nat := (ts.foldl (fun m t => t.foldl (fun u e => tput u e.1 ()) m) []).map (·.1)

/-- The norm watch of a closure: output norms of the array dies, gradient norms of the gradient dies, ascending. -/
def State.normWatch (s : State) (p : Nat) : State :=
  let ds := (s.part p).dies 1
  let c := s.watchCfg p
  let outs := ds.map fun d => (s.grad d).collector
  let grads := ds.map fun d => (s.grad d).gradSq
  let s := ds.foldl (fun t d => t.setGrad d { t.grad d with collector := [], gradSq := [] }) s
  let s := (summed outs).foldl (fun t l =>
    t.watchLayer p c 0 l (outs.filterMap fun m => (tget none m l).map fun w => r64 (f32 w))) s
  (summed grads).foldl (fun t l => t.watchLayer p c 1 l (grads.filterMap fun m => tfind m l)) s

/-! ### Drift, wear and refresh (R182, R171, R183) -/

/-- τ limits of AD_DRIFTCFG (R186). -/
def trimTop : Nat := 0x6000

/-- R182 on a tile whose accumulators hold enough products: trim, urgency, and whether the zero columns mismatch. -/
def Tile.driftEval (t : Tile) (win : Nat) : Tile × Bool :=
  if t.driftN < 2 ^ (min win 9 + 6) then (t, false)
  else
    let rho := f64 (r64 ((f64 t.aIdeal).div (f64 t.aMeas)))
    let new := (clampI 0x4000 (trimTop : Int) (rho.scale 14).rne).toNat
    let high := !rho.le (.fin false 3 (-1))
    let trim := if high then trimTop else if 16 ≤ (new - t.trim) + (t.trim - new) then new else t.trim
    let mismatch := (f64 t.aIdeal).lt ((f64 t.aZero).mul (flInt 48))
    ({ t with trim := trim, urgent := t.urgent || (high && !t.refresh && t.mark == 0), aIdeal := 0, aMeas := 0, aZero := 0, driftN := 0 }, mismatch)

/-- The refresh tests of R183 on a tile that is placed and not being refreshed; a power-on mark keeps a refresh from falling due
(R577). -/
def Tile.refreshTest (t : Tile) (limit ageLimit : Nat) (mismatch : Bool) : Tile :=
  let cause :=
    if max 0x4100 (min limit trimTop) ≤ t.trim then some 0
    else if ageLimit != 0 && ageLimit * 1024 ≤ t.age then some 1
    else if mismatch then some 2 else none
  if t.due.isSome || t.refresh || t.mark != 0 then t else { t with due := cause }

/-- What a closure does to a tile that serves a place: age, drift evaluation, refresh tests. -/
def Tile.evaluate (t : Tile) (win limit ageLimit : Nat) : Tile :=
  let (u, mismatch) := ({ t with age := t.age + 1 }).driftEval win
  u.refreshTest limit ageLimit mismatch

/-- Evaluations of an array die at the closure with the new milestone number `ms`. -/
def State.closeDie (s : State) (ms d : Nat) : State :=
  let win := s.regf 0 d 0x78 0 4
  let limit := s.regf 0 d 0x78 4 16
  let age := s.regf 0 d 0x78 20 12
  let over_ := ms % max 1 (s.regf 0 d 0x60 0 16) = 0
  let serving := ((s.tilesOf d).filter fun e => (s.role e.1).isSome && e.2.st != .off && e.2.st != .retired).map (·.1)
  s.modTiles d fun n t =>
    let t := if serving.contains n then t.evaluate win limit age else t
    let t := if over_ then { t with period := 0, raise := 0 } else t
    { t with begun := false, ready := false }

/-- A wear period of some die of the partition ends (R171). The deferral list belongs to the partition and PERIOD to a die; where
dies of one partition hold different values, the whole list is flushed when any of them ends a period (DESIGN CHOICE, log entry
120). -/
def State.periodEnds (s : State) (p ms : Nat) : Bool :=
  ((s.part p).dies 0).any fun d => ms % max 1 (s.regf 0 d 0x60 0 16) == 0

/-! ### The closure (R36) -/

/-- Tenant clears act, and the values that tenants read are renewed (R527). -/
def State.renewCounters (s : State) (quads : List Nat) : State :=
  { s with counters := s.counters.map fun e =>
    if (quadBlocks quads).contains (e.1 % 2 ^ 31 / 32 / 0x100000) then
      let c := e.2
      let n := if c.clear then c.kept s.ltime else c.tenant
      (e.1, { c with tenant := n, view := n / 4096, clear := false })
    else e }

/-- What belongs to the closed step starts afresh (R27, R32, R147, R172, R296, R339, R342, R371). -/
def Part.endStep (x : Part) : Part :=
  { x with
    stepOn := false
    phase := 0
    abandoned := none
    gathered := []
    incoming := if x.granted = 0 then none else some 0
    applyBegun := false
    nRefused := 0
    deferOver := false
    logFull := 0
    logCount := 0
    dropEvent := false
    nonfinGroups := []
    groups := x.groups.map fun e => (e.1, e.2.applyStaged)
    collGroups := x.collGroups.map fun e => (e.1, { e.2 with tags := [] })
    heldReady := []
    heldAbort := [] }

/-- SNAPSHOTs that waited for the closure hold their blocks from now on (R38, R344). -/
def State.snapshotReaders (s : State) (p ms : Nat) : State :=
  let qs := (s.queuesOf p).filterMap fun e =>
    match s.runningOp e.1 0x38 with
    | some r => if r.work.deferred && !((s.part p).readers.any fun x => x.owner == e.1) then some e.1 else none
    | none => none
  s.modPart p fun x => { x with readers := x.readers ++ qs.map fun q => ⟨q, ms, false, []⟩ }

/-- The milestone of a partition closes (R36). -/
def State.closeMilestone (s : State) (p : Nat) : State :=
  let s := s.modPart p fun x => { x with milestone := x.milestone + 1 }
  let x := s.part p
  let ms := x.milestone.toNat
  let s := s.normWatch p
  let s := if s.periodEnds p ms then s.modPart p fun y => { y with flushDefer := true } else s
  let s := (x.dies 0).foldl (fun t d => t.closeDie ms d) s
  let s := (x.dies 0).foldl State.reassignReserves s
  let now := s.ltime
  let s := (s.applyStaged x.quads (some now)).renewCounters x.quads
  let s := (s.clearStash p).modPart p fun y => { y.endStep with closedAt := some now }
  let s := (s.snapshotReaders p ms).dueMirror p ms
  s.wmMilestone p

/-- The queue still holds a descriptor of phases 1 to 7 of the present step: one that runs, or one that was fetched and stands
before the queue's first descriptor of the next step. -/
def SubQ.owes (x : SubQ) (y : Part) : Bool :=
  x.busyBelow y 8 ||
    (x.fetched.takeWhile fun f => !y.nextStep (dPhase f.desc)).any fun f => dPhase f.desc != 0 && f.fate.isNone

/-- The conditions of R34: no other descriptor of phases 1 to 7 of the step runs or is due, the orders of every order
all-gather have been given to a PROGRAM, and no collective of the step is in flight. Programming descriptors complete only once
their orders are written or deferred. -/
def State.mayClose (s : State) (p q : Nat) : Bool :=
  let x := s.part p
  ((s.queuesOf p).all fun e => e.1 == q || !(e.2.owes x || s.unread e.1)) && x.gathered.isEmpty &&
    x.colls.all fun c => c.mine.phase == 0

/-- MILESTONE (R34) asks for the closure. -/
def execMilestone (q : Nat) (s : State) : Result :=
  onRunning q 0x31 s fun _ => s.modWork q fun w => { w with started := true }

/-- The queue whose MILESTONE asks for the closure. -/
def State.closingQueue (s : State) (p : Nat) : Option Nat :=
  ((s.queuesOf p).find? fun e =>
    match s.runningOp e.1 0x31 with
    | some r => r.work.started && s.mayClose p e.1
    | none => false).map (·.1)

/-- MILESTONE_CLOSURE (R36): the milestone closes, and MILESTONE completes with the new number. -/
def execMilestoneClosure (p : Nat) (s : State) : Result :=
  onQuad p (
    match s.closingQueue p with
    | none => .next s
    | some q =>
      let t := s.closeMilestone p
      .next ((t.finish q stOk (slice (natLe 8 (t.part p).milestone.toNat) 0 16)).settleAll p))

end Sys2Proof.Machine
end

