-- ==== Sys2Proof/Machine/Memory.lean ====
section
/-! DEFINITION. HBM stacks, patrol, footpath, far tier, spill copies and the host window (R297, R393 to R422). -/

namespace Sys2Proof.Machine

open Sys2Proof

/-! ### Thermal states of a stack (R404 to R406) -/

/-- The state of the highest threshold that a temperature in 1/16 °C reaches (R404). -/
def thermalOf (t : Int) : Nat := if 1680 ≤ t then 3 else if 1520 ≤ t then 2 else if 1360 ≤ t then 1 else 0
/-- Below this a warm or hot stack returns to the next cooler state. -/
def thermalExit (st : Nat) : Int := if st = 2 then 1472 else 1312
/-- The state after a sample below critical (R404). -/
def thermalNext (st : Nat) (t : Int) : Nat :=
  if st < thermalOf t then thermalOf t
  else
    let a := if st = 2 && t < thermalExit 2 then 1 else st
    if a = 1 && t < thermalExit 1 then 0 else a

/-- Raises an event of a stack in the partition that holds its quadrant. -/
def State.stackEvent (s : State) (m code : Nat) (fs : List (Nat × Nat × Nat)) : State :=
  s.raiseAll [m / 6] code ((24, 1, m) :: fs)

/-- A range of device memory has a road block in stack `m`. -/
def touches (m a n : Nat) : Bool := rangeStacks a n (· == m)

/-- The contents of a stack are lost (R405); it returns filled with zeros (R406). -/
def State.loseStack (s : State) (m : Nat) : State :=
  let out := fun (a : Nat) => decide (hbmEnd ≤ a) || stackOf a != m
  { s with
    mem := s.mem.filter fun c => out c.1
    raw := s.raw.filter fun c => out c.1
    poison := s.poison.filter fun e => out (e.1 * 256) }

/-- A descriptor in progress has a road block in the stack: in a range that it works on, or, for a PROGRAM, in the copies of a
layer whose orders it still writes. -/
def State.runTouches (s : State) (q m : Nat) (r : Running) : Bool :=
  (r.work.areas.any fun e => touches m e.1 e.2) ||
    (dOpcode r.desc == 0x30 && r.work.layers.any fun l =>
      (l.tiles.any fun e => (s.tile e.tile).holds q) && touches m l.copyAddr (copyBytes * l.tiles.length))

/-- The running descriptor of a queue fails: a PROGRAM gives up its orders, a collective leaves with ABORT to its members, and a
SNAPSHOT lets its blocks go. -/
def State.failDesc (s : State) (q st : Nat) : State :=
  let p := s.queuePart q
  match (s.queue q).running with
  | none => s
  | some r =>
    if dOpcode r.desc = 0x30 then s.failProgram p q st
    else if r.work.started && (dOpcode r.desc = 0x10 || dOpcode r.desc = 0x11) then s.endProducts q st
    else
      match (s.part p).colls.find? fun c => c.q == q with
      | some c => (((s.sendAbort p c stCollMismatch).openColl c).dropColl p c).finish q st result0
      | none => (s.modPart p fun x => { x with readers := x.readers.filter fun e => e.owner != q }).finish q st result0

/-- Running descriptors with a road block in the stack complete with ST_MEM_OFFLINE (R405); descriptors whose step has not been
taken meet the offline stack when it is. -/
def State.failRunning (s : State) (p m : Nat) : State :=
  (s.queuesOf p).foldl (fun t e =>
    match e.2.running with
    | some r =>
      if r.began && r.done.isNone && r.work.started && t.runTouches e.1 m r then t.failDesc e.1 stMemOffline else t
    | none => t) s

/-- The mirror region of the partition that holds Q3: base, slot bytes (R543, R548). -/
def State.mirrorRegion (s : State) : Nat × Nat :=
  (s.regf 2 3 0x364 20 12 * mib + s.regf 2 3 0x368 0 9 * 2 ^ 32, s.regf 2 3 0x36C 0 16 * mib)

/-- A stack that holds the mirror region is lost, and the held images with it (R550). -/
def State.loseMirrors (s : State) (m : Nat) : State :=
  let r := s.mirrorRegion
  match s.twinPart with
  | some p =>
    if (s.twin.held.isSome || s.twin.retValid) && touches m r.1 (3 * r.2) then
      ({ s with twin := { s.twin with held := none, retValid := false } }).raise p evTwinMirrorFail
        [(24, 1, 1), (32, 8, s.twin.heldMs.toNat)]
    else s
  | none => s

/-- A stack reaches the critical state (R405). -/
def State.stackOffline (s : State) (m : Nat) : State :=
  let t := s.setStack m { s.stack m with online := false }
  let t := match t.owner (m / 6) with
    | some p => ((t.failRunning p m).collOffline p (touches m)).settleAll p
    | none => t
  ((t.loseStack m).loseMirrors m).stackEvent m evMemOffline []

/-- STACK_TEMP_SAMPLE (R404, R405). -/
def execStackTempSample (m : Nat) (t : Int) (s : State) : Result :=
  onStack m (
    let x := s.stack m
    let u := s.setStack m { x with temp := t }
    if !s.powered then .next s
    else if !x.online then .next u
    else
      let st := thermalNext x.thermal t
      if st = x.thermal then .next u
      else
        let v := (s.setStack m { x with temp := t, thermal := st }).stackEvent m evMemThermal [(25, 1, st)]
        .next (if st = 3 then v.stackOffline m else v))

/-- Lanes that a stack's channels spare in training, and whether every channel has at most two (R401, R402). -/
def spareLanes (x : Stack) (failed : List Nat) : List Nat := (x.spared ++ x.toSpare ++ failed).eraseDups
def sparesOk (ls : List Nat) : Bool := (List.range 32).all fun c => (ls.filter fun l => l / 72 == c).length ≤ 2

/-- STACK_RETURN (R406): a critical stack that has stayed at most 92 °C for 1 s is trained, spared and filled with zeros. -/
def execStackReturn (m : Nat) (failedLanes : List Nat) (s : State) : Result :=
  onStack m (
    let x := s.stack m
    if !s.powered || x.online || x.thermal != 3 || 1472 < x.temp then .next s
    else
      let ls := spareLanes x failedLanes
      if !sparesOk ls then
        let t := s.setStack m { x with failed := true, spared := ls, toSpare := [] }
        let bad := t.mgmt.badQuads
        .next (({ t with mgmt := { t.mgmt with badQuads := if bad.contains (m / 6) then bad else m / 6 :: bad } }).mgmtRecord
          evStackFail [(24, 1, m)])
      else
        let st := thermalOf x.temp
        let t := (s.loseStack m).setStack m { x with
          thermal := st
          online := true
          lost := true
          spared := ls
          toSpare := []
          corrected := []
          pass := []
          laneErr := [] }
        .next ((t.stackEvent m evMemThermal [(25, 1, st)]).stackEvent m evMemOnline [(25, 1, 1)]))

/-! ### Patrol (R399, R400, R402) -/

/-- Lanes that erred count; one that reaches 1,000 corrections in the pass raises MEM_LANE and is spared at the next training. -/
def State.countLanes (s : State) (m channel : Nat) (lanes : List Nat) : State :=
  lanes.foldl (fun t l =>
    let x := t.stack m
    let k := channel * 72 + l
    let n := tget 0 x.laneErr k + 1
    let t := t.setStack m { x with
      laneErr := tput x.laneErr k n
      toSpare := if n = 1000 then k :: x.toSpare else x.toSpare }
    if n = 1000 then t.stackEvent m evMemLane [(25, 1, channel), (26, 1, l)] else t) s

/-- The read of road block 0 begins a patrol pass (log entry 30). -/
def Stack.newPass (x : Stack) (rb : Nat) : Stack := if rb = 0 then { x with corrected := x.pass, pass := [], laneErr := [] } else x

/-- A road block is corrected and written back. -/
def State.patrolCorrect (s : State) (m rb : Nat) (lanes : List Nat) : State :=
  let a := stackAddr m rb
  let x := s.stack m
  let weak := x.corrected.contains rb
  let t := { s with raw := s.raw.filter fun c => c.1 / 256 != a / 256 }
  let t := (t.setStack m { x with pass := if x.pass.contains rb then x.pass else rb :: x.pass }).count 1 (m / 3) 0x248 0 1 (m % 3)
  let t := t.countLanes m (rb % 32) lanes
  if weak then
    let u := t.stackEvent m evMemWeak [(32, 8, a)]
    { u with mgmt := { u.mgmt with ppr := if u.mgmt.ppr.contains (m * 2 ^ 32 + rb) then u.mgmt.ppr else (m * 2 ^ 32 + rb) :: u.mgmt.ppr } }
  else t

/-- PATROL_READ (R400): road block `rb` of stack `m` shows `errs` symbol errors. -/
def execPatrolRead (m rb errs : Nat) (laneErrs : List Nat) (s : State) : Result :=
  onStack m (
    let x := s.stack m
    let a := stackAddr m rb
    if !s.powered || !x.online || s.regf 1 (m / 3) 0x24C 0 8 = 0 || 2 ^ 28 ≤ rb then .next s
    else
      let t := s.setStack m (x.newPass rb)
      if 16 < errs || t.poisoned a 256 then
        .next (((t.poisonBlock a).countUncorr a).stackEvent m evMemUncorr [(32, 8, a)])
      else if 0 < errs || (t.raw.any fun c => c.1 / 256 == a / 256) then .next (t.patrolCorrect m rb laneErrs)
      else .next t)

/-! ### The footpath (R403, R417, R418) -/

def State.fpAddr (s : State) (d : Nat) : Nat := s.regf 1 d 0x250 3 29 * 8 + s.regf 1 d 0x254 0 9 * 2 ^ 32
/-- The address is in the die's own stacks, and its quadrant in no partition in service (R403). -/
def State.fpAllowed (s : State) (d : Nat) : Bool :=
  let a := s.fpAddr d
  a < hbmEnd && stackOf a / 3 == d &&
    match s.owner (a / quadBytes) with
    | some p => !(s.part p).inService
    | none => true

/-- GD_FPCTL written by its owner: WRITE and RAW take their values, and GO starts the access or is refused (R418). The access works
with what the registers hold when it starts. -/
def State.fpControl (s : State) (d w : Nat) : State :=
  let g := s.grad d
  let t := (s.setRegf 1 d 0x260 1 2 (bits w 1 2))
  if !bit w 0 || g.fpBusy then t
  else if s.fpAllowed d then t.setGrad d { g with
      fpBusy := true
      fpAt := s.fpAddr d
      fpWrite := bit w 1
      fpRaw := bit w 2
      fpWord := natLe 4 (s.reg 1 d 0x258) ++ natLe 4 (s.reg 1 d 0x25C) }
  else t.setGrad d { g with fpResult := 3 }

/-- A RAW write sets data bits and leaves the check symbols (R403). -/
def State.rawWrite (s : State) (a : Nat) (bs : List Byte) : State :=
  { s with raw := bs.zipIdx.foldl (fun m e =>
    if e.1 = memByte s.mem (a + e.2) then tdel m (a + e.2) else tput m (a + e.2) e.1) s.raw }

/-- The bytes that lie in the data bits. -/
def State.rawRead (s : State) (a n : Nat) : List Byte := (List.range n).map fun i => (tfind s.raw (a + i)).getD (memByte s.mem (a + i))

/-- Puts the word read into GD_FPDATA. -/
def State.fpData (s : State) (d : Nat) (bs : List Byte) : State :=
  (s.setReg 1 d 0x258 0 (leNat (bs.take 4))).setReg 1 d 0x25C 0 (leNat (bs.drop 4))

/-- The access of a footpath that has been started: `errs` symbol errors stand in its road block beside what RAW writes left. The
read-modify-write of an ordinary write counts its own read (R397, R399). A stack that is powered down stores nothing and gives
nothing back (R405; DESIGN CHOICE, log entry 128). -/
def State.fpAccess (s : State) (d errs : Nat) : State :=
  let g := s.grad d
  let a := g.fpAt
  let bad := 16 < errs || s.poisoned a 8
  let marked := s.rawBlocks.contains (a / 256)
  let fixed := 0 < errs || marked
  let res := fun (t : State) (r : Nat) => t.setGrad d { t.grad d with fpBusy := false, fpResult := r }
  if s.offline a 8 then res (if g.fpWrite then s else (s.useFree).fpData d (natLe 8 s.freeVal.toNat)) 2
  else if g.fpRaw then
    if g.fpWrite then res (s.rawWrite a g.fpWord) 0
    else if errs = 0 then res (s.fpData d (s.rawRead a 8)) 0
    else res ((s.useFree).fpData d (natLe 8 s.freeVal.toNat)) 0
  else if g.fpWrite then
    if bad then res ((if s.poisoned a 8 then s else s.poisonBlock a).writeMem a g.fpWord) 2
    else res ((if marked || errs = 0 then s else s.countCorr a).writeMem a g.fpWord) (b2n fixed)
  else if bad then res (((s.useFree).fpData d (natLe 8 s.freeVal.toNat)).countUncorr a) 2
  else res (if fixed then (s.fpData d (memRead s.mem a 8)).countCorr a else s.fpData d (memRead s.mem a 8)) (b2n fixed)

/-- FOOTPATH_COMPLETE (R418): the access ends; `errs` symbol errors stand in its road block. -/
def execFootpathComplete (d errs : Nat) (s : State) : Result :=
  onDie 8 d (if (s.grad d).fpBusy then .next (s.fpAccess d errs) else .next s)

/-! ### The far tier (R407 to R410) -/

/-- FAR_TIMEOUT (R410): an access of a queue's descriptor to far-memory port `fm` has stood unanswered for 10 ms, or its read has
returned poison (R407). -/
def execFarTimeout (fm : Nat) (f : FarFailure) (s : State) : Result :=
  onFarPort fm (onQueue f.q (
    match (s.queue f.q).running with
    | some r =>
      if r.began && r.done.isNone then
        .next ((s.count 2 (1 + fm) 0x280 (if f.poison then 16 else 24) 1).failDesc f.q stFarError)
      else .next s
    | none => .next s))

/-- The partitions whose far-tier range reaches the capacity behind a port. -/
def State.farUsers (s : State) (fm : Nat) : List Nat :=
  (s.parts.filter fun e =>
    let f := e.2.far
    f.2 != 0 && (4096 < f.2 && s.farEven ||
      s.farPortOf f.1 == fm || s.farPortOf (f.1 + f.2 - 1) == fm)).map (·.1)

/-- FAR_LINK_DOWN (R410). -/
def execFarLinkDown (fm : Nat) (s : State) : Result :=
  onFarPort fm (
    let x := tget (0, 0) s.farPorts fm
    if x.2 = 0 then .next s
    else
      let t := { s with farPorts := tput s.farPorts fm (x.1, 0) }
      .next ((t.farUsers fm).foldl (fun u p => u.raise p evFarDown [(24, 1, fm)]) t))

/-- FAR_LINK_TRAINED (R410): the link of a port with an expander is up again. -/
def execFarLinkTrained (fm : Nat) (s : State) : Result :=
  onFarPort fm (
    let x := tget (0, 0) s.farPorts fm
    if !s.powered || x.1 = 0 then .next s else .next { s with farPorts := tput s.farPorts fm (x.1, 2) })

/-- SPILL_COPY_DONE (R297): a slot's copy is in the far tier, and its reserve space is free; a copy that failed leaves it in the
reserve, counting as stashed. -/
def execSpillCopyDone (p slot : Nat) (ok : Bool) (s : State) : Result :=
  onQuad p (
    let x := s.part p
    match x.spills.find? fun e => e.1 == slot with
    | none => .next s
    | some (_, b, fa, n) =>
      let ent := s.dirEntry p slot
      let s := s.modPart p fun y => { y with spills := y.spills.filter fun e => e.1 != slot }
      if ok && (s.memStatus true fa n).isNone && (s.memStatus false b n).isNone then
        .next (((s.writeMem fa (memRead s.mem b n)).setEntry p slot (mkEntry fa true slSpilled (entryCkpt ent) n)).modPart p
          fun y => { y with live := y.live.filter fun e => e.1 != slot })
      else .next (s.setEntry p slot (mkEntry b false slStashed (entryCkpt ent) n)))

/-! ### The host window (R411, R412, R419, R420) -/

/-- The host window: base and bytes; 0 for one that reaches beyond half of the partition's HBM or outside it. -/
def State.hostWindow (s : State) (p : Nat) : Nat × Nat :=
  let base := s.pregf p 1 0x264 0 13 * 2 ^ 28
  let n := s.pregf p 1 0x268 0 13 * 2 ^ 28
  let r := (s.part p).hbmRange
  if (r.2 - r.1) / 2 < n || !inRange r.1 r.2 base n then (base, 0) else (base, n)

/-- The device address of a 64-byte line of a partition's window that its committed decoder reaches. -/
def State.windowLine (s : State) (p off : Nat) : Option Nat :=
  let w := s.hostWindow p
  let o := off / 64 * 64
  if (s.part p).hdm && o + 64 ≤ w.2 then some (w.1 + o) else none

/-- Poisoned data. -/
def State.poisonLine (s : State) : State :=
  { s.emit (.windowData true ((List.range 64).map fun i => (Config.freeValue (s.free + i)).setWidth 8)) with free := s.free + 64 }

/-- HOST_WINDOW_READ (R412): a 64-byte line; poison where the stack is offline (R405), the road block uncorrectable (R399) or the
partition stopped or scrubbing (R512). -/
def execHostWindowRead (fn off : Nat) (s : State) : Result :=
  onFunction fn (
    let x := s.part fn
    if x.st = .stopped || x.st = .scrubbing then .next s.poisonLine
    else if x.st != .inService then .next s
    else
      match s.windowLine fn off with
      | none => .next s
      | some a =>
        if s.offline a 64 then .next s.poisonLine
        else if s.poisoned a 64 then .next ((s.countUncorr a).poisonLine)
        else .next ((s.countReads [(false, .dev a, 64)]).emit (.windowData false (memRead s.mem a 64))))

/-- HOST_WINDOW_WRITE (R397, R412): a read-modify-write of the line's road block. -/
def execHostWindowWrite (fn off : Nat) (line : List Byte) (s : State) : Result :=
  onFunction fn (
    if !(s.part fn).inService then .next s
    else
      match s.windowLine fn off with
      | none => .next s
      | some a =>
        .next (s.writeMem a (slice line 0 64)))

/-- HDM_DECODER_COMMIT (R411): the host commits or uncommits the function's decoder. -/
def execHdmDecoderCommit (fn : Nat) (committed : Bool) (s : State) : Result :=
  onFunction fn (
    if !(s.part fn).inService || (committed && (s.hostWindow fn).2 = 0) then .next s
    else .next (s.modPart fn fun x => { x with hdm := committed }))

end Sys2Proof.Machine
end

