-- ==== Sys2Proof/Machine/Twin.lean ====
section
/-! DEFINITION. The twin: handshake, heartbeats, loss, detach, incoming and outgoing images (R534 to R550). -/

namespace Sys2Proof.Machine

open Sys2Proof

/-- Applies a change to the state where the partition that holds Q3 exists. -/
def State.onTwin (s : State) (f : Nat → State) : State :=
  match s.twinPart with
  | some p => f p
  | none => s

/-! ### Handshake (R536, R537) -/

/-- The handshake ends without success: back to the state that PAIRING left, TWIN_PAIR_FAIL, and the peer is told. -/
def State.pairFail (s : State) (reason : Nat) : State :=
  s.onTwin fun p =>
    (({ s with twin := { s.twin with st := s.twin.from_, progress := 0 } }).raise p evTwinPairFail [(24, 1, reason)]).pairingSend 5
      [BitVec.ofNat 8 reason]

/-- A step of the handshake has been passed, and the next message is sent. -/
def State.pairStep (s : State) (n kind : Nat) (msg : List Byte) : State :=
  ({ s with twin := { s.twin with progress := n } }).pairingSend kind msg

/-- HELLO (R536 step 1): endpoint and domain are checked, and that this module has a mirror region. -/
def execHello (m : HelloMsg) (s : State) : Result := s.twinMessage <|
  let w := s.twin
  if w.st != .pairing || w.progress != 0 then .next s
  else if m.endpoint != s.twCfg 16 12 || m.domain != s.domain then .next (s.pairFail 2)
  else if s.regf 2 3 0x36C 0 16 = 0 then .next (s.pairFail 3)
  else
    let t := { s with twin := { w with noncePeer := slice m.nonce 0 32, peerSerial := slice m.serial 0 16 } }
    .next (t.pairStep 1 2 (Config.aliasChain 0 s.sec.meas.flatten ++ Config.aliasChain 1 s.sec.meas.flatten))

/-- The identity record (R537). -/
def State.identity (s : State) : List Byte :=
  let fw := s.sec.meas.flatten
  let head := block 16 [(0, 4, 0x59545749), (4, 2, 1), (6, 2, s.endpoint), (8, 2, s.domain), (10, 2, s.twCfg 16 12)]
  let body := head ++ slice Config.serial 0 16 ++ s.twin.nonceOwn ++ s.twin.noncePeer ++ slice Config.deviceId 0 64 ++ sha512 fw
  body ++ slice (Config.edSign fw (sha512 body)) 0 64 ++ slice (Config.mldsaSign fw (sha512 body)) 0 3309

/-- CHAIN (R536 step 2). -/
def execChain (ed mldsa : List Byte) (s : State) : Result := s.twinMessage <|
  let w := s.twin
  if w.st != .pairing || w.progress != 1 then .next s
  else if !(Config.chainReachesRoot 0 ed && Config.chainReachesRoot 1 mldsa) then .next (s.pairFail 1)
  else .next (({ s with twin := { w with peerChains := (ed, mldsa) } }).pairStep 2 3 s.identity)

/-- Both signatures of an identity record hold under the peer's Alias keys (R537). -/
def State.identSigned (s : State) (r : List Byte) : Bool :=
  let dig := sha512 (r.take 224)
  r.length == 3597 && Config.edVerify (Config.chainAliasKey 0 s.twin.peerChains.1) dig (slice r 224 64) &&
    Config.mldsaVerify (Config.chainAliasKey 1 s.twin.peerChains.2) dig (slice r 288 3309)

/-- IDENT (R536 step 3, R537; log entry 33). -/
def execIdent (r : List Byte) (s : State) : Result := s.twinMessage <|
  let w := s.twin
  if w.st != .pairing || w.progress != 2 then .next s
  else if !s.identSigned r then .next (s.pairFail 1)
  else if slice r 64 32 != w.nonceOwn || field r 10 2 % 4096 != s.endpoint then .next (s.pairFail 2)
  else .next (s.pairStep 3 4 [1])

/-- The slots of the mirror region (R543). -/
def State.mirrorSlot (s : State) (i : Nat) : Nat := s.mirrorRegion.1 + i * s.mirrorRegion.2

/-- The bytes of a complete image in a slot; its header holds its length (R345). -/
def State.slotImage (s : State) (i : Nat) : List Byte :=
  memRead s.mem (s.mirrorSlot i) (field (memRead s.mem (s.mirrorSlot i) 256) 24 8)

/-- The held image is sent into the peer's return slot (R544). -/
def State.sendReturn (s : State) : State :=
  match s.twin.held with
  | none => { s with twin := { s.twin with returnDue := false } }
  | some i => ({ s with twin := { s.twin with returnDue := false, returnSent := true } }).imageSend true (s.slotImage i)

/-- The handshake has succeeded (R535): RETURNING where an image of the peer is held, else PAIRED. The peer is the one that
TW_CFG.PEER names (R536 step 1). -/
def State.pairDone (s : State) (p : Nat) : State :=
  let w := s.twin
  let back := w.from_ == .holding && w.held.isSome
  let ep := s.twCfg 16 12
  let t := ({ s with twin := { w with st := if back then .returning else .paired, progress := 4, peerEp := ep } }).raise p evTwinPaired
    [(24, 2, ep), (32, 16, leNat w.peerSerial)]
  if back then t.sendReturn else t

/-- CONFIRM (R536 step 4); the reason of a handshake that the peer ended is not among what the spec gives the message (log
entry 33). -/
def execConfirm (accept : Bool) (s : State) : Result := s.twinMessage <|
  let w := s.twin
  if w.st != .pairing then .next s
  else if !accept then .next (s.useFree.pairFail (s.freeVal.toNat % 4))
  else if w.progress != 3 then .next s
  else .next (s.onTwin s.pairDone)

/-- PAIRING_TIMEOUT (R536): the handshake has not finished within 1 s. -/
def execPairingTimeout (s : State) : Result := if s.twin.st = .pairing then .next (s.pairFail 0) else .next s

/-! ### Heartbeats, loss and detach (R538 to R541) -/

/-- The code of TW_STAT.STATE (R549). -/
def twinCode : TwinState → Nat
  | .unpaired => 0
  | .pairing => 1
  | .paired => 2
  | .holding => 3
  | .returning => 4

/-- HEARTBEAT_SEND (R538, R541). -/
def execHeartbeatSend (s : State) : Result :=
  let w := s.twin
  if w.st = .unpaired && !w.detaching then .next s
  else
    let ms := match s.twinPart with | some p => (s.part p).milestone | none => 0
    .next (({ s with twin := { w with hbSeq := (w.hbSeq + 1) % 2 ^ 32 } }).heartbeatSend
      ⟨twinCode w.st, ms, w.hbSeq, w.heldMs, w.detaching⟩)

/-- HEARTBEAT_RECEIVE (R538, R541): DETACHING is a detach by the peer. -/
def execHeartbeatReceive (h : Heartbeat) (s : State) : Result := s.twinMessage <|
  if !(s.port portT).live then .next s
  else
    let t := { s with twin := { s.twin with peerState := h.state } }
    .next (if h.detaching then t.twinLost 2 else t)

/-- TWIN_HEARTBEAT_MISS (R540): no heartbeat for MISS ms. -/
def execTwinHeartbeatMiss (s : State) : Result := .next (s.twinLost 0)

/-- The twin becomes UNPAIRED and its held image is discarded; the module detaches (R535, R541). -/
def State.unpairTwin (s : State) : State :=
  let t := s.endMirrors
  { t with twin := { Twin.reset with hbSeq := s.twin.hbSeq, retValid := s.twin.retValid, detaching := true } }

/-- DETACH_END (R541): after 3 ms of DETACHING heartbeats port T sends TYPE 4 flits. -/
def execDetachEnd (s : State) : Result :=
  if !s.twin.detaching then .next s
  else .next (({ s with twin := { s.twin with detaching := false } }).announce portT 4)

/-! ### Images (R542 to R544) -/

/-- The receiver's judgement of an image: the TWIN_MIRROR_FAIL reason, if it fails (R542, R546). An image that does not fit
the slot, or whose slot lies in an offline stack, is not written in full. -/
def State.imageFail (s : State) (slot : Nat) (img : List Byte) (whole : Bool) : Option Nat :=
  if !whole || s.mirrorRegion.2 < img.length || s.offline (s.mirrorSlot slot) img.length then some 1
  else if img.length < 64 || sha512 (img.take (img.length - 64)) != img.drop (img.length - 64) then some 2
  else none

/-- The milestone of an image, a free value where the part that arrived does not hold it (R345). -/
def State.imageMs (s : State) (img : List Byte) : Nat := if img.length < 16 then s.freeVal.toNat else field img 8 8

/-- The twin once an image has come into a slot. -/
def State.imageTaken (s : State) (p slot : Nat) (toReturn : Bool) (img : List Byte) (whole : Bool) : State :=
  let fail := s.imageFail slot img whole
  let ms := s.imageMs img
  let t := (if img.length < 16 then s.useFree else s).writeMem (s.mirrorSlot slot) (img.take s.mirrorRegion.2)
  match fail with
  | some r =>
    ({ t with twin := { t.twin with retValid := if toReturn then false else t.twin.retValid } }).raise p evTwinMirrorFail
      [(24, 1, r), (32, 8, ms)]
  | none =>
    if toReturn then
      (({ t with twin := { t.twin with retValid := true } }).raise p evTwinReturned [(32, 8, ms)]).pairingSend 7 []
    else { t with twin := { t.twin with held := some slot, heldMs := BitVec.ofNat 64 ms } }

/-- MIRROR_RECEIVED (R542, R544): an image goes into the peer slot that does not hold the newest complete image, or into the
return slot. HOLDING keeps its image and takes no whole mirror (R534). -/
def execMirrorReceived (toReturn : Bool) (img : List Byte) (whole : Bool) (s : State) : Result := s.twinMessage <|
  let w := s.twin
  let slot := if toReturn then 2 else if w.held = some 0 then 1 else 0
  let takes := if toReturn then w.st == .paired || w.st == .returning else w.st == .paired || (w.st == .holding && !whole)
  if !takes then .next s else .next (s.onTwin fun p => s.imageTaken p slot toReturn img whole)

/-- The request for the return of this module's image (R544). -/
def State.sendPull (s : State) : State := ({ s with twin := { s.twin with pullDue := false } }).pairingSend 6 []

/-- TW_CFG.PULL is set: in PAIRED the request goes out, after a mirror that is being sent (R544, R550). -/
def State.pullTwin (s : State) : State :=
  if s.twin.st != .paired then s
  else if s.twin.mirroring then { s with twin := { s.twin with pullDue := true } }
  else s.sendPull

/-- MIRROR_SEND_COMPLETE (R38, R39, R542): the link has accepted the mirror's last flit, and pass 2 is released; returns that waited
follow, then the next mirror that is due. -/
def execMirrorSendComplete (s : State) : Result :=
  if !s.twin.mirroring || (s.port portT).txq.any fun e => e.vc == 2 then .next s
  else
    .next (s.onTwin fun p =>
      let t := { s with twin := { s.twin with mirroring := false } }
      let t := t.modPart p fun x => x.dropMirror (some s.twin.mirrorMs)
      let t := if t.twin.pullDue then t.sendPull else t
      let t := if t.twin.returnDue then t.sendReturn else t
      t.nextMirror p t.twin.mirrorsDue)

/-- RETURN_REQUEST_RECEIVE (R544, R550): a PAIRED module sends its newest complete image of the peer. -/
def execReturnRequestReceive (s : State) : Result := s.twinMessage <|
  if s.twin.st != .paired then .next s
  else if s.twin.mirroring then .next { s with twin := { s.twin with returnDue := true } }
  else .next s.sendReturn

/-- RETURN_CONFIRMED (R535): the peer holds a complete image in its return slot. -/
def execReturnConfirmed (s : State) : Result := s.twinMessage <|
  let t := { s with twin := { s.twin with returnSent := false } }
  if s.twin.st != .returning || !s.twin.returnSent then .next t
  else
    .next (t.onTwin fun p =>
      ({ t with twin := { t.twin with st := .paired } }).raise p evTwinReturned [(32, 8, s.twin.heldMs.toNat)])

end Sys2Proof.Machine
end

