-- ==== Sys2Proof/Machine/Registers.lean ====
section
/-! DEFINITION. Register reads and writes (R14 to R17, R462 to R478): access by function and by the owner's register path, selectors, change classes, held units, calibration, and the actions of writes. -/

namespace Sys2Proof.Machine

open Sys2Proof

/-! ### Who reaches what (R463, R465, R472) -/

/-- CMD of the commands that run on (R571). -/
def cmdScrub := 0x0001
def cmdLayout := 0x0005
def cmdReset := 0x0010

/-- The path number that keeps the latches of an access (R177). -/
def viaPath : Via → Nat
  | .tenant fn => fn
  | .owner => 4
/-- The path number that keeps the selectors of an access (R472; log entry 34). -/
def viaSel : Via → Nat
  | .tenant _ => 0
  | .owner => 1
def viaOwner : Via → Bool
  | .tenant _ => false
  | .owner => true

/-- BAR0 answers: the data plane is powered and the partition IN_SERVICE (R512). -/
def State.viaOpen (s : State) (v : Via) : Bool :=
  s.powered && match v with
    | .tenant fn => (s.part fn).inService
    | .owner => true

/-- The quadrant is in a layout change that runs (R478). -/
def State.inLayout (s : State) (quad : Nat) : Bool := s.mgmt.long.any fun l => l.cmd == cmdLayout && l.quads.contains quad

/-- The block is that of the lowest-numbered die of its kind in its partition (R463). -/
def State.homeDie (s : State) (k d : Nat) : Bool :=
  match s.owner (dieQuad k d) with
  | some p => d == lowDie k p
  | none => false

/-- An access reaches a field of the block of die `d` (R463, R465). -/
def State.reaches (s : State) (v : Via) (k d : Nat) (f : RegField) : Bool :=
  (match f.scope with
    | .each => true
    | .low => s.homeDie k d
    | .module => s.homeDie k d
    | .hd0 => d == 0
    | .hd3 => d == 3
    | .hd12 => d == 1 || d == 2) &&
  match v with
  | .owner => true
  | .tenant fn => f.view != .hidden && s.owner (dieQuad k d) == some fn

/-- Array die registers that report the tile AD_TILESEL selects (R80). -/
def tileRegs : List Nat := [0x48, 0x4C, 0x50, 0x58, 0x5C, 0x68, 0x6C, 0x70, 0x74, 0x80, 0x84, 0x98, 0xA8]
/-- The selector registers of a kind of die (R472). -/
def selectors (k : Nat) : List Nat :=
  match k with
  | 0 => [0x10, 0x44, 0xA0]
  | 1 => [0x10, 0x1CC, 0x240]
  | _ => [0x10, 0x200, 0x224, 0x300, 0x314, 0x388]

/-- The index under which an access reaches a register: the path for a selector, the selected entry for a register behind
one; none where nothing is selected (R80, R382, R413). -/
def State.selected (s : State) (v : Via) (k d off : Nat) : Option Nat :=
  let sel := fun (o lo w : Nat) => s.regf k d o lo w (viaSel v)
  if (selectors k).contains off then some (viaSel v)
  else if k = 0 then
    if tileRegs.contains off then (if sel 0x44 6 10 < 528 then some (sel 0x44 0 16) else none) else some 0
  else if k = 1 then
    if off = 0x244 || off = 0x248 then (if sel 0x240 0 2 = 3 then none else some (sel 0x240 0 2))
    else if off = 0x1D0 || off = 0x1D4 then some (sel 0x1CC 0 8) else some 0
  else if 0x204 ≤ off && off ≤ 0x210 then (portOf d (sel 0x200 0 2)).map fun _ => sel 0x200 0 2
  else if off = 0x228 then some (sel 0x224 0 12)
  else if 0x304 ≤ off && off ≤ 0x310 then some (sel 0x300 0 14)
  else if 0x318 ≤ off && off ≤ 0x324 then some (sel 0x314 0 10)
  else if off = 0x38C then some (sel 0x388 0 3 * 16 + sel 0x388 3 4)
  else some 0

/-- The die whose register a block's view reaches: NF_IDENT is one register (R387, R463). -/
def regHome (k d off : Nat) : Nat := if k = 2 && off = 0x220 then 0 else d

/-! ### Calibration (R474 to R477) -/

/-- The item that CAL_SEL names in a block: class and INDEX (R475). -/
def calItem (k d cls index : Nat) : Option (Nat × Nat) :=
  let tile := index / 2048
  let ok :=
    if cls ≤ 1 then k == 0 && tile / 64 < 528 && index % 2048 < 1152
    else if cls ≤ 4 then k == 0 && tile / 64 < 528 && index % 2048 == 0
    else if cls = 5 then index < 4
    else if cls = 6 then k == 2 && d == 0 && index < 40
    else cls == 7 && k == 2 && d == 0 && index < 8
  if ok then some (cls, index) else none

def State.calSelected (s : State) (v : Via) (k d : Nat) : Option (Nat × Nat) :=
  calItem k d (s.regf k d 0x10 0 4 (viaSel v)) (s.regf k d 0x10 4 27 (viaSel v))

/-- The user limit of a class (R475). -/
def calLimit (cls : Nat) : Int :=
  match cls with
  | 0 => 512
  | 1 => 64
  | 2 => 13
  | 3 => 13
  | 4 => 13
  | 5 => 32
  | 6 => 1024
  | _ => 256

/-- A register of the calibration window (R476). -/
def State.calRead (s : State) (v : Via) (k d off : Nat) : Nat :=
  match s.calSelected v k d with
  | none => 0
  | some (cls, i) =>
    let key := calKey k d cls i
    if off = 0x14 then unsigned 16 (tget 0 s.calFactory key)
    else if off = 0x1C then unsigned 16 (s.cal k d cls i)
    else
      let user := ((tfind s.calStaged key).map (·.1)).getD (tget 0 s.calUser key)
      unsigned 16 user + b2n (tget false s.calClamped key) * 2 ^ 16

/-- No step is in progress in the die's partition: staged writes take effect at once (R468), but for those that reach it in
the cycle of a closure (R17, R478). -/
def State.atRest (s : State) (k d : Nat) : Bool :=
  match s.owner (dieQuad k d) with
  | some p => !(s.part p).stepOn && (s.part p).closedAt != some s.ltime
  | none => true

/-- CAL_USER takes a value, clamped to the limit of the class (R475 to R478). -/
def State.calWrite (s : State) (v : Via) (k d w : Nat) : State :=
  match s.calSelected v k d with
  | none => s
  | some (cls, i) =>
    if 6 ≤ cls && s.wm.running then s
    else
      let key := calKey k d cls i
      let lim := calLimit cls
      let x := clampI (-lim) lim (signed 16 w)
      let s := { s with calClamped := tset false s.calClamped key (decide (x ≠ signed 16 w)) }
      let st := (s.tile (d * 65536 + i / 2048)).st
      if cls < 5 && (!s.atRest k d || st == .program || st == .probe) then { s with calStaged := tput s.calStaged key (x, s.ltime) }
      else { s with calUser := tset 0 s.calUser key x }

/-! ### Values that status fields report -/

def satAt (top v : Nat) : Nat := min top v

/-- Degrees of a temperature in 1/16 °C, for a tenant in steps of 5 °C (R528). -/
def degrees (tenant : Bool) (now view : Int) : Nat :=
  if tenant then min 255 (view / 80 * 5).toNat else min 255 (now / 16).toNat

/-- The code of a tile state (R81). -/
def tileCode : TileState → Nat
  | .off => 0
  | .sleep => 1
  | .idle => 2
  | .active => 3
  | .program => 4
  | .probe => 5
  | .retired => 6

/-- Entries in use and dead of a remap table. -/
def mapCount (f : Nat → Nat) (m : SMap Nat) (st : Nat) : Nat := (m.filter fun e => f e.2 == st).length

/-- Product bucket level in units of 16 µJ (R500). -/
def State.gateLevel (s : State) (d : Nat) : Nat := unsigned 16 (clampI (-3418) 27344 (roundAway (s.gate d).prod (16000000 * bucketUnit)))

/-- AD_TILEMAP of a tile (R251). -/
def State.mapFields (s : State) (t lo : Nat) : Nat :=
  match s.role t with
  | none => 0
  | some (_, l, _, e) =>
    match lo with
    | 0 => l.num
    | 16 => e.pos
    | 22 => b2n (e.pos + 1 == l.chainLen)
    | 23 => 1
    | 24 => e.load
    | _ => b2n (s.bypassed l e.tile)

/-- The remap or retirement map entry that AD_REMAPSEL selects (R204, R205, R224). -/
def State.remapEntry (s : State) (v : Via) (d : Nat) : Nat :=
  let x := s.tile (s.selTile (viaSel v) d)
  let i := s.regf 0 d 0xA0 2 10 (viaSel v)
  let tile := s.regf 0 d 0x44 6 10 (viaSel v) < 528
  match s.regf 0 d 0xA0 0 2 (viaSel v) with
  | 0 => if i < 32 && tile then tget 0 x.rowMap i else 0
  | 1 => if i < 32 && tile then tget 0 x.colMap i else 0
  | 2 => tget 0 s.retire (d * 1024 + i)
  | _ => 0

/-- RO fields of an array die. -/
def State.adValue (s : State) (v : Via) (d : Nat) (f : RegField) : Nat :=
  let t := s.selTile (viaSel v) d
  let x := s.tile t
  let g := s.gate d
  match f.off, f.lo with
  | 0x48, 0 => tileCode x.st
  | 0x48, 3 => b2n x.bankA
  | 0x48, 4 => b2n x.bankB
  | 0x48, _ => s.held t
  | 0x5C, _ => x.trim
  | 0x68, 0 => x.raise
  | 0x68, _ =>
    match s.owner (d / 2) with
    | some p => satAt 65535 ((s.deferList p).filter fun o => oTile o == t).length
    | none => 0
  | 0x6C, _ => satAt (2 ^ 32 - 1) x.period
  | 0x70, _ => x.life % 2 ^ 32
  | 0x74, _ => x.life / 2 ^ 32
  | 0x80, 0 => b2n x.due.isSome
  | 0x80, 1 => b2n x.refresh
  | 0x80, 2 => x.due.getD 0
  | 0x80, _ => satAt 65535 (x.age / 1024)
  | 0x84, 0 => x.stuck.length
  | 0x84, _ => satAt 255 x.inexact.length
  | 0x98, 0 => mapCount rowState x.rowMap 1
  | 0x98, 6 => mapCount rowState x.rowMap 2
  | 0x98, 12 => mapCount colState x.colMap 1
  | 0x98, _ => mapCount colState x.colMap 2
  | 0x9C, 0 => s.freeReserves d
  | 0x9C, _ => satAt 65535 (s.bypassedTiles d).length
  | 0xA4, _ => s.remapEntry v d
  | 0xA8, lo => s.mapFields t lo
  | 0xB4, 0 => s.gateLevel d
  | 0xB4, 16 => b2n (g.prevFill < g.prev * bucketUnit)
  | 0xB4, _ => b2n s.brake
  | _, _ => 0

/-- The argument blocks of the MATMUL, INGRAD and WGRAD descriptors that run on a gradient die (R277). Bypass work takes no time in
the model, so none runs between commands (log entry 101). -/
def State.engineWork (s : State) (d : Nat) : List (List Byte) :=
  match s.owner (d / 2) with
  | none => []
  | some p => (s.queuesOf p).filterMap fun e =>
      match e.2.running with
      | none => none
      | some r => if r.began && r.done.isNone && [0x12, 0x14, 0x15].contains (dOpcode r.desc) && field r.args 0 1 % 8 == d
          then some r.args else none
def State.enginesRun (s : State) (d : Nat) : Bool := !(s.engineWork d).isEmpty

/-- The most engines that those descriptors can hold: whole groups without a reserved engine (R265, R278). -/
def State.mostBusy (s : State) (d : Nat) : Nat :=
  let r := s.reservedEngines d
  min (engineCount - r) ((s.engineWork d).map fun bs =>
    let a := productArgs bs
    a.split * (engineGroups a.split r).length).sum
/-- BUSY: how many of them hold an output tile at the moment of a read is open while a product runs (R278; log entry 13). -/
def State.enginesBusy (s : State) (d : Nat) : Nat :=
  if s.enginesRun d then s.freeVal.toNat % (s.mostBusy d + 1) else 0

/-- RO fields of a gradient die. -/
def State.gdValue (s : State) (v : Via) (d : Nat) (f : RegField) : Nat :=
  let p := s.ownerD (d / 2)
  let m := 3 * d + s.regf 1 d 0x240 0 2 (viaSel v)
  let t := ((s.part p).groups.find? fun e => e.1 == s.regf 1 d 0x1CC 0 8 (viaSel v)).elim 0 fun e => e.2.lastT.toNat
  match f.off, f.lo with
  | 0x11C, _ => (s.part p).deferCount
  | 0x144, _ => s.enginesBusy d
  | 0x19C, _ => ceilDiv ((liveRanges (s.part p)).map (·.2)).sum mib
  | 0x1D0, _ => t % 2 ^ 32
  | 0x1D4, _ => t / 2 ^ 32
  | 0x1DC, _ => (s.part p).logCount
  | 0x244, 0 => (s.stack m).thermal
  | 0x244, 2 => b2n (s.stack m).online
  | 0x244, 4 => degrees (!viaOwner v) (s.stack m).temp (s.stack m).tTemp
  | 0x244, _ => (s.stack m).spared.length
  | 0x260, 3 => b2n (s.grad d).fpBusy
  | 0x260, _ => (s.grad d).fpResult
  | _, _ => 0

/-- HQ_QSTAT.STATE (R453). -/
def State.queueState (s : State) (q : Nat) : Nat :=
  let x := s.queue q
  if !s.queueOn q then 0
  else if x.stopped != 0 then 4
  else if x.running.isSome then 3
  else
    match x.fetched with
    | f :: _ => if dWaitEn f.desc && !f.met then 2 else 1
    | [] => 1

/-- The code of PART_STAT.STATE (R530). -/
def partCode : PState → Nat
  | .absent => 0
  | .scrubbing => 1
  | .vacant => 2
  | .inService => 3
  | .stopped => 4

/-- Key slot states, two bits a slot (R531). -/
def slotBits (xs : List Nat) : Nat := xs.zipIdx.foldl (fun v e => v + e.1 % 4 * 4 ^ e.2) 0
def Security.edSlots (x : Security) : Nat := slotBits (x.slotState.take 4)
def Security.mldsaSlots (x : Security) : Nat := slotBits (x.slotState.drop 4)

/-- Port registers that report state (R384). -/
def Port.statValue (x : Port) (lo : Nat) : Nat :=
  match lo with
  | 0 => x.st
  | 3 => b2n x.unavail
  | 4 => b2n x.foreign
  | 8 => x.neighbour
  | _ => x.nport

/-- RO fields of a hub die. -/
def State.hdValue (s : State) (v : Via) (d i : Nat) (f : RegField) : Nat :=
  let p := s.ownerD d
  let x := s.part p
  let fm := tget (0, 0) s.farPorts (d - 1)
  let w := s.twin
  match f.off, f.lo with
  | 0x208, lo => (s.port ((portOf d i).getD 9)).statValue lo
  | 0x230, _ => satAt 4095 x.colls.length
  | 0x280, 0 => fm.1
  | 0x280, _ => fm.2
  | 0x290, 0 => x.granted
  | 0x290, 3 => b2n s.brake
  | 0x290, _ => if viaOwner v then x.powerMw / 1000 else x.tPowerMw / 25000 * 25
  | 0x298, _ => s.ltime % 2 ^ 32
  | 0x29C, _ => s.ltime / 2 ^ 32
  | 0x310, 0 => (s.queue (d * 16384 + i)).head
  | 0x310, _ => s.queueState (d * 16384 + i)
  | 0x324, 0 => (s.ring (d * 1024 + i)).tail
  | 0x324, _ => (s.ring (d * 1024 + i)).head
  | 0x334, _ => x.eq.tail
  | 0x340, 0 => s.layout
  | 0x340, 2 => quadMask x.quads
  | 0x340, 6 => partCode x.st
  | 0x340, _ => tget 0 s.scrubs p
  | 0x344, 0 => s.sec.arb
  | 0x344, 8 => s.sec.svn
  | 0x344, 16 => s.sec.edSlots
  | 0x344, _ => s.sec.mldsaSlots
  | 0x348, 0 => s.sec.edSlot
  | 0x348, 2 => s.sec.mldsaSlot
  | 0x348, _ => s.sec.runBank
  | 0x370, 0 => twinCode w.st
  | 0x370, 3 => b2n w.mirroring
  | 0x370, 4 => b2n w.retValid
  | 0x370, _ => w.peerEp
  | 0x374, _ => w.heldMs.toNat % 2 ^ 32
  | 0x378, _ => w.heldMs.toNat / 2 ^ 32
  | 0x394, 0 => s.wm.fifo.length
  | 0x394, _ => b2n s.wm.running
  | 0x398, _ => (s.wm.fifo.headD 0).toNat % 2 ^ 32
  | 0x39C, _ => (s.wm.fifo.headD 0).toNat / 2 ^ 32
  | _, _ => 0

/-- A staged write of the block waits (R467). -/
def State.pendingIn (s : State) (k d : Nat) : Bool :=
  (s.staged.any fun e => keyBlock e.1 == dieBlock k d) || s.calStaged.any fun e => e.1 / 2 ^ 31 == dieBlock k d

/-- RO fields that every block has. -/
def State.blockValue (s : State) (v : Via) (k d : Nat) (f : RegField) : Nat :=
  match f.off, f.lo with
  | 0x000, 0 => k
  | 0x000, 2 => d
  | 0x000, _ => (Config.revision k d).toNat
  | 0x004, _ => b2n (s.pendingIn k d)
  | 0x020, 0 => degrees (!viaOwner v) (s.die k d).temp (s.die k d).tTemp
  | 0x020, _ => if viaOwner v then (s.die k d).share * 100 / 320 else (s.die k d).tShare / 25 * 25
  | _, _ => s.calRead v k d f.off / 2 ^ f.lo

/-! ### Reading (R14, R177, R464, R527) -/

/-- Counters of the AD, GD, NF and FM registers reach tenants in coarse form (R527). -/
def coarse (v : Via) (k off : Nat) : Bool := !viaOwner v && !(k == 2 && 0x300 ≤ off && off < 0x340)

/-- The value of a counting field (R97, R527). -/
def State.countValue (s : State) (v : Via) (k d i : Nat) (f : RegField) : Nat :=
  let c := s.counter (counterKey k d f.off f.lo i)
  satAt (2 ^ f.width - 1) (if coarse v k f.off then c.view else c.owner)

/-- The value of one field behind index `i`. -/
def State.fieldValue (s : State) (v : Via) (k d i : Nat) (f : RegField) : Nat :=
  let key := regKey k (regHome k d f.off) f.off i
  let inEffect := s.regf k (regHome k d f.off) f.off f.lo f.width i
  let x := match f.acc with
    | .wo => 0
    | .rw => inEffect
    | .rwh => if k = 2 && f.off = 0x228 then (match tget 0 s.routes (s.ownerD d * 4096 + i) with | 0 => 15 | n + 1 => n) else inEffect
    | .rws => match tfind s.staged key with | some w => bits w.1 f.lo f.width | none => inEffect
    | .w1c => if k = 1 && f.off = 0x244 then b2n (s.stack (3 * d + i)).lost else s.countValue v k d i f
    | .cal => s.calRead v k d f.off
    | .ro => if f.off < 0x40 then s.blockValue v k d f
             else match k with
               | 0 => s.adValue v d f
               | 1 => s.gdValue v d f
               | _ => s.hdValue v d i f
  x % 2 ^ f.width

/-- LO registers whose read latches the HI register behind them (R177, R356, R504, R549, R558). -/
def latchPairs : List (Nat × Nat) := [(0, 0x70), (1, 0x1D0), (2, 0x298), (2, 0x374), (2, 0x398)]
/-- Key of the latch that a path has of a LO register. -/
def latchKey (v : Via) (k d off : Nat) : Nat := viaPath v * 2 ^ 40 + regKey k d off 0

/-- The value that a register has for an access; 0 where no field is reached. -/
def State.regValue (s : State) (v : Via) (k d off : Nat) : Nat :=
  match s.selected v k d off with
  | none => 0
  | some i =>
    if s.inLayout (dieQuad k d) then 0
    else ((regAt k off).filter (s.reaches v k d)).foldl (fun x f => x + s.fieldValue v k d i f * 2 ^ f.lo) 0

/-- A read: a LO register latches its HI register, a HI register returns what was latched, where the access reaches it, and a
read of WM_FIFO_LO removes the oldest entry (R177, R463, R558). -/
def State.regRead (s : State) (v : Via) (k d off : Nat) : Nat × State :=
  let x := s.regValue v k d off
  if latchPairs.contains (k, off) then
    let empty := off = 0x398 && s.wm.fifo.isEmpty
    let t := if empty then s else { s with latches := tput s.latches (latchKey v k d off) (s.regValue v k d (off + 4)) }
    (x, if off = 0x398 && viaOwner v then { t with wm := { t.wm with fifo := t.wm.fifo.drop 1 } } else t)
  else if latchPairs.contains (k, off - 4) then
    (if (regAt k (off - 4)).any (s.reaches v k d) then tget 0 s.latches (latchKey v k d (off - 4)) else 0, s)
  else if k = 1 && off = 0x144 && s.enginesRun d then (x, s.useFree)
  else (x, s)

/-- LATCHED_PAIR_READ (R177). A die that the package does not have lies in a reserved part of BAR0, which reads 0, and answers
the register path with status 1 (R462, R464, R569). -/
def execLatchedPairRead (v : Via) (kind : DieKind) (d off : Nat) (s : State) : Result :=
  onVia v (
    if dieCount kind ≤ d then .next (s.emit (.regRead (b2n (viaOwner v)) 0))
    else if !s.viaOpen v then .next (s.emit (.regRead (b2n (viaOwner v) * 2) 0))
    else
      let r := s.regRead v (kindCode kind) d off
      .next (r.2.emit (.regRead 0 (BitVec.ofNat 32 r.1))))

/-- WM_FIFO_READ (R558): a read of WM_FIFO_LO. -/
def execWmFifoRead (v : Via) (s : State) : Result :=
  onVia v (
    if !s.viaOpen v then .next (s.emit (.regRead (b2n (viaOwner v) * 2) 0))
    else
      let r := s.regRead v 2 0 0x398
      .next (r.2.emit (.regRead 0 (BitVec.ofNat 32 r.1))))

/-! ### Writing (R14 to R17, R468 to R471) -/

/-- A held unit is active (R471). -/
def State.unitActive (s : State) (k d i : Nat) (u : Held) : Bool :=
  let x := s.part (s.ownerD (dieQuad k d))
  match u with
  | .free => false
  | .step => x.stepOn
  | .engines => s.enginesRun d
  | .window => x.hdm
  | .port => match portOf d i with | some n => (s.port n).st != 0 | none => false
  | .fabric => (List.range 9).any fun n => (s.port n).st != 0
  | .colls => !x.colls.isEmpty
  | .queue => s.queueOn (d * 16384 + i)
  | .ring => s.ringOn (d * 1024 + i)
  | .eventQ => s.regf 2 d eqCfg 15 1 == 1
  | .twin => s.twin.st == .pairing || s.twin.st == .paired || s.twin.st == .returning
  | .waymark => s.wm.running

/-- FIELD_HELD (R16): to the partition's event queue, and for the register path to the management stream only (R569). -/
def State.fieldHeld (s : State) (v : Via) (k d off w : Nat) : State :=
  let fs := [(24, 2, stFieldHeld), (26, 1, dieByte k d), (28, 4, off), (32, 4, w)]
  match v with
  | .tenant fn => s.raise fn evFieldHeld fs
  | .owner => s.mgmtRecord evFieldHeld fs

/-- The W1C counts whose tables do not say that a 1 in any bit clears the field: the bits written 1 are cleared (R14, R180,
R342). -/
def bitwise (k off : Nat) : Bool := k == 1 && (off == 0x120 || off == 0x1E0)

/-- What a W1C field keeps of its count `n` when `w` is written to it (R14, R97). -/
def Counter.left (c : Counter) (now k off w n : Nat) : Nat :=
  if bitwise k off then n - (n &&& w) else c.kept now

/-- A 1 in a W1C field clears it: a tenant's clear of a coarse counter acts at the next closure (R14, R527). -/
def State.clearField (s : State) (v : Via) (k d i w : Nat) (f : RegField) : State :=
  if k = 1 && f.off = 0x244 then s.setStack (3 * d + i) { s.stack (3 * d + i) with lost := false }
  else
    let key := counterKey k d f.off f.lo i
    match tfind s.counters key with
    | none => s
    | some c =>
      let n : Counter := if coarse v k f.off then { c with clear := true }
        else
          let kept := c.left s.ltime k f.off (bits w f.lo f.width)
          { c with
            owner := kept c.owner
            tenant := if k = 2 && 0x300 ≤ f.off && f.off < 0x340 then kept c.tenant else c.tenant }
      { s with counters := tput s.counters key n }

/-- HQ_QCFG.EN changes (R452). -/
def State.switchQueue (s : State) (q : Nat) (on : Bool) : State :=
  let x := s.queue q
  if on then s.setQueue q { x with head := 0, tail := 0, stopped := 0 }
  else
    (s.setQueue q { x with fetched := x.fetched.map fun f => { f with fate := some (f.fate.getD stQueueStopped) } }).settle q

/-- NF_PORTCFG.EN changes (R365, R383). -/
def State.switchPort (s : State) (n : Nat) (on : Bool) : State :=
  let x := s.port n
  if on then (if x.st = 0 && x.signal then s.setPort n { x with st := 1 } else s)
  else if x.st = 0 then s else s.portDown n x.signal

/-- NF_ROUTEDATA (R389): ports 0 to 7; other values are unreachable. -/
def State.setRoute (s : State) (p dest port : Nat) : State :=
  { s with routes := tset 0 s.routes (p * 4096 + dest) (if port < 8 then port + 1 else 0) }

/-- What a write does beyond the fields' values, from the state `s` with the fields written and the state `o` before. -/
def State.regAction (s o : State) (v : Via) (k d off i w : Nat) : State :=
  let was := fun (lo : Nat) => o.regf k d off lo 1 i == 1
  if k = 0 then
    let t := s.selTile (viaSel v) d
    if off = 0x7C then (if bit w 0 then s.requestRefresh t else s)
    else if off = 0x94 then
      let u := if bit w 0 then s.requestProbe t else s
      if bit w 1 then u.requestRetire t else u
    else s
  else if k = 1 then (if off = 0x260 then s.fpControl d w else s)
  else
    match off with
    | 0x204 => match portOf d i with
      | some n => if bit w 0 == was 0 then s else s.switchPort n (bit w 0)
      | none => s
    | 0x30C => if bit w 18 == was 18 then s else s.switchQueue (d * 16384 + i) (bit w 18)
    | 0x320 => if bit w 15 && !was 15 then s.setRing (d * 1024 + i) Ring.reset else s
    | 0x330 =>
      if bit w 15 && !was 15 then
        s.modPart (s.ownerD d) fun x => { x with eq := { x.eq with head := 0, tail := 0, tag := true, stopped := false } }
      else s
    | 0x360 =>
      let t := if bit w 0 then (if was 0 then s else s.announce portT 0).seekTwin else if was 0 then s.unpairTwin else s
      if bit w 28 then t.pullTwin else t
    | 0x384 => s.wmControl w
    | _ => s

/-- A write of `w` to one register, judged field by field against the state before it (R470). -/
def State.regWrite (s : State) (v : Via) (k d off w : Nat) : State :=
  let w := w % 2 ^ 32
  let fs := (regAt k off).filter fun f => s.reaches v k d f && (viaOwner v || f.view == .tenant)
  match s.selected v k d off with
  | none => s
  | some i =>
    if fs.isEmpty then s
    else
      let h := regHome k d off
      let calHeld := off == 0x18 && s.wm.running && ((s.calSelected v k d).elim false fun c => 6 ≤ c.1)
      let held := fun (f : RegField) => f.acc == .rwh && s.unitActive k d i f.unit
      let live := fs.filter fun f => (f.acc == .rw || (f.acc == .rwh && !held f))
      let staged := fs.filter fun f => f.acc == .rws
      let key := regKey k h off i
      let t :=
        if k = 2 && off = 0x228 then (if live.isEmpty then s else s.setRoute (s.ownerD d) i (bits w 0 4))
        else live.foldl (fun t f => t.setRegf k h off f.lo f.width (bits w f.lo f.width) i) s
      let t :=
        if staged.isEmpty then t
        else if s.atRest k d then staged.foldl (fun t f => t.setRegf k h off f.lo f.width (bits w f.lo f.width) i) t
        else
          let old := ((tfind t.staged key).map (·.1)).getD (t.reg k h off i)
          let new := staged.foldl (fun x f => setBits x f.lo f.width (bits w f.lo f.width)) old
          { t with staged := tput t.staged key (new, s.ltime) }
      let t := (fs.filter fun f => f.acc == .w1c && bits w f.lo f.width != 0).foldl (fun t f => t.clearField v k d i w f) t
      let t := if off = 0x18 then t.calWrite v k d w else t
      let t := t.regAction s v k h off i w
      if calHeld || fs.any held then t.fieldHeld v k d off w else t

/-- The die and offset of a BAR0 address: kind, number, offset (R462). -/
def barTarget (addr : Nat) : Option (Nat × Nat × Nat) :=
  let b := addr / 0x100000
  let o := addr % 0x100000
  if b < 8 then some (0, b, o) else if b < 16 then some (1, b - 8, o) else if b < 20 then some (2, b - 16, o) else none

/-- One 4-byte write of BAR0. -/
def State.barWrite (s : State) (fn addr w : Nat) : State :=
  match barTarget addr with
  | some (k, d, off) => s.regWrite (.tenant fn) k d off w
  | none => s

/-- REGISTER_WRITE (R464, R470): aligned 4-byte and 8-byte writes; any other has no effect. -/
def execRegisterWrite (fn addr width : Nat) (x : Word64) (s : State) : Result :=
  onFunction fn (
    if !s.viaOpen (.tenant fn) then .next s
    else if width = 4 && addr % 4 = 0 then .next (s.barWrite fn addr (bits x.toNat 0 32))
    else if width = 8 && addr % 8 = 0 then
      .next ((s.barWrite fn addr (bits x.toNat 0 32)).barWrite fn (addr + 4) (bits x.toNat 32 32))
    else .next s)

/-- A write of one register through a function or the register path; a block that the package does not have ignores it (R462,
R464). -/
def writeVia (v : Via) (kind : DieKind) (d off : Nat) (w : Word) (s : State) : Result :=
  onVia v (if d < dieCount kind && s.viaOpen v then .next (s.regWrite v (kindCode kind) d off w.toNat) else .next s)

/-- REFRESH_REQ (R187): a write of AD_REFRESHCFG. -/
def execRefreshReq (via : Via) (die : Nat) (w : Word) (s : State) : Result := writeVia via .ad die 0x7C w s
/-- PROBE_REQ (R219): a write of AD_FAULTCTL. -/
def execProbeReq (via : Via) (die : Nat) (w : Word) (s : State) : Result := writeVia via .ad die 0x94 w s
/-- RETIRE_REQ (R219): a write of AD_FAULTCTL. -/
def execRetireReq (via : Via) (die : Nat) (w : Word) (s : State) : Result := writeVia via .ad die 0x94 w s
/-- FOOTPATH_GO (R418): a write of GD_FPCTL. -/
def execFootpathGo (via : Via) (die : Nat) (w : Word) (s : State) : Result := writeVia via .gd die 0x260 w s
/-- QUEUE_ENABLE (R452): a write of HQ_QCFG. -/
def execQueueEnable (via : Via) (hub : Nat) (w : Word) (s : State) : Result := writeVia via .hd hub 0x30C w s
/-- QUEUE_DISABLE (R452): a write of HQ_QCFG. -/
def execQueueDisable (via : Via) (hub : Nat) (w : Word) (s : State) : Result := writeVia via .hd hub 0x30C w s
/-- COMPLETION_RING_ENABLE (R455): a write of HQ_CQCFG. -/
def execCompletionRingEnable (via : Via) (hub : Nat) (w : Word) (s : State) : Result := writeVia via .hd hub 0x320 w s
/-- EVENT_QUEUE_ENABLE (R458): a write of HQ_EQCFG. -/
def execEventQueueEnable (via : Via) (hub : Nat) (w : Word) (s : State) : Result := writeVia via .hd hub 0x330 w s
/-- PORT_ENABLE_WRITE (R383): a write of NF_PORTCFG. -/
def execPortEnableWrite (via : Via) (hub : Nat) (w : Word) (s : State) : Result := writeVia via .hd hub 0x204 w s
/-- TWIN_ENABLE (R535): a write of TW_CFG. -/
def execTwinEnable (via : Via) (w : Word) (s : State) : Result := writeVia via .hd 3 0x360 w s
/-- TWIN_DETACH (R541): a write of TW_CFG. -/
def execTwinDetach (via : Via) (w : Word) (s : State) : Result := writeVia via .hd 3 0x360 w s
/-- TWIN_PULL (R544): a write of TW_CFG. -/
def execTwinPull (via : Via) (w : Word) (s : State) : Result := writeVia via .hd 3 0x360 w s
/-- SW_TRIG (R561): a write of WM_CTRL. -/
def execSwTrig (via : Via) (w : Word) (s : State) : Result := writeVia via .hd 0 0x384 w s
/-- ABORT (R561): a write of WM_CTRL. -/
def execAbort (via : Via) (w : Word) (s : State) : Result := writeVia via .hd 0 0x384 w s
/-- FLUSH (R561): a write of WM_CTRL. -/
def execFlush (via : Via) (w : Word) (s : State) : Result := writeVia via .hd 0 0x384 w s

/-! ### The register path (R569) -/

/-- The static I3C address of a controller: primary 0, standby 1 (R568). -/
def State.i3cAddress (s : State) (ctrl : Nat) : Nat := 0x30 + ctrl + 2 * (s.mgmt.straps % 8)

/-- The controller that is active (R566). -/
def State.activeCtrl (s : State) : Nat := b2n s.mgmt.standbyActive
/-- The die that a DIE byte names. -/
def pathDie (b : Byte) : Option (Nat × Nat) :=
  let k := bits b.toNat 3 2
  let d := bits b.toNat 0 3
  if k = 3 || (k = 2 && 4 ≤ d) || 32 ≤ b.toNat then none else some (k, d)
/-- STATUS of a register-path access that cannot be made. -/
def State.pathStatus (s : State) (ctrl : Nat) (die : Byte) (off : Nat) : Option Nat :=
  if ctrl != s.activeCtrl then some 3
  else if (pathDie die).isNone || off % 4 != 0 || 0x100000 ≤ off then some 1
  else if !s.powered then some 2
  else none

/-- REGISTER_PATH_READ (R569). -/
def execRegisterPathRead (ctrl : Nat) (die : Byte) (off : Nat) (s : State) : Result :=
  onController ctrl (
    if !s.input then .next s
    else
      match s.pathStatus ctrl die off, pathDie die with
      | none, some (k, d) =>
        let r := s.regRead .owner k d off
        .next (r.2.emit (.regRead 0 (BitVec.ofNat 32 r.1)))
      | st, _ => .next (s.emit (.regRead (st.getD 1) 0)))

/-- REGISTER_PATH_WRITE (R569). -/
def execRegisterPathWrite (ctrl : Nat) (die : Byte) (off : Nat) (w : Word) (s : State) : Result :=
  onController ctrl (
    if !s.input then .next s
    else
      match s.pathStatus ctrl die off, pathDie die with
      | none, some (k, d) => .next ((s.regWrite .owner k d off w.toNat).emit (.regWrite 0))
      | st, _ => .next (s.emit (.regWrite (st.getD 1))))

end Sys2Proof.Machine
end

