-- ==== Sys2Proof/Machine/Partition.lean ====
section
/-! DEFINITION. Partitions: leaving service, function level reset, scrub, layout and the mailbox commands that carry them out (R425, R426, R496, R506 to R518). -/

namespace Sys2Proof.Machine

open Sys2Proof

/-! ### Stopping the work of a partition (R426, R511) -/

/-- A tile without the vectors, products and results of descriptors. -/
def Tile.halt (x : Tile) : Tile :=
  { x with
    slots := []
    prods := []
    bankA := false
    bankB := false
    pieces := []
    partials := []
    chain := []
    sums := []
    residuals := []
    pool := []
    normAcc := none }

/-- The tiles and roads of a partition's array dies hold no descriptor's work, and no segment waits for toll. Tiles that held
vectors become idle, and one whose retirement waited for them retires (R72, R220). -/
def State.haltTiles (s : State) (p : Nat) : State :=
  let ds := (s.part p).dies 0
  let t : State := { s with
    tiles := s.tiles.map fun (e : Nat × Tile) => if ds.contains (tileDie e.1) then (e.1, e.2.halt) else e
    gates := s.gates.map fun e => if ds.contains e.1 then (e.1, { e.2 with reqs := e.2.reqs.filter (·.program) }) else e
    roads := s.roads.filter fun e => !ds.contains e.1 }
  (s.tiles.filter fun e => ds.contains (tileDie e.1)).foldl (fun u e => u.settleTile e.1) t

/-- Orders of PROGRAM descriptors that run are given up (R146, R426). -/
def State.haltPrograms (s : State) (p : Nat) : State :=
  (s.queuesOf p).foldl (fun t e => if (t.runningOp e.1 0x30).isSome then t.failProgram p e.1 stStepAbandoned else t) s

/-- Every descriptor of the partition stops without a completion. -/
def State.haltWork (s : State) (p : Nat) : State :=
  let t := ((s.haltPrograms p).abandonColls p true).haltTiles p
  (t.modQueues p fun _ x => { x with fetched := [], running := none }).modPart p fun x =>
    { x with readers := x.readers.filter fun r => r.owner == mirrorOwner }

/-- The step in progress is abandoned without a record (R43, R426). -/
def State.abandonSilent (s : State) (p : Nat) : State :=
  if (s.part p).stepOn then s.abandon p (s.part p).phaseNow else s

/-! ### Function level reset (R426, R473, R496) -/

/-- An offset of the HQ_* registers. -/
def isHq (off : Nat) : Bool := 0x300 ≤ off && off < 0x340
/-- A register or counter of the HQ_* registers in the hub dies of the quadrants. -/
def hqOf (quads : List Nat) (k : Nat) : Bool := isHq (keyOff k) && quads.any fun q => keyBlock k == dieBlock 2 q

/-- Queues, rings, event queue and wayposts of a partition are disabled and cleared. -/
def State.clearQueues (s : State) (p : Nat) : State :=
  let qs := (s.part p).quads
  let t := { s with
    queues := s.queues.filter fun e => !qs.contains (queueHub e.1)
    turns := s.turns.filter fun e => !qs.contains (e.1 / 8)
    rings := s.rings.filter fun e => !qs.contains (e.1 / 1024)
    wayposts := s.wayposts.filter fun e => !qs.contains (e.1 / 4096)
    regs := s.regs.filter fun e => !hqOf qs e.1
    counters := s.counters.filter fun e => !hqOf qs (e.1 % 2 ^ 31 / 32) }
  t.modPart p fun x => { x with eq := EventQ.reset }

/-- A function level reset of a partition in service. -/
def State.resetFunction (s : State) (p : Nat) : State :=
  if (s.part p).inService then ((s.haltWork p).abandonSilent p).clearQueues p else s

/-- FUNCTION_LEVEL_RESET (R426); outside IN_SERVICE it changes nothing here (R512). -/
def execFunctionLevelReset (fn : Nat) (s : State) : Result := onFunction fn (.next (s.resetFunction fn))

/-- PERST (R496): a function level reset of every function. -/
def execPerst (s : State) : Result := .next ((List.range 4).foldl State.resetFunction s)

/-! ### Outside interfaces (R423, R425, R512, R514) -/

/-- The partitions of a layout (R506). -/
def layoutParts (code : Nat) : List (List Nat) :=
  match code with
  | 0 => [[0, 1, 2, 3]]
  | 1 => [[0, 1], [2, 3]]
  | 2 => [[0, 1], [2], [3]]
  | _ => [[0], [1], [2], [3]]

/-- A layout change that runs will create the function (R514). -/
def State.functionComing (s : State) (fn : Nat) : Bool :=
  s.mgmt.long.any fun l => l.cmd == cmdLayout && (layoutParts l.arg).any fun qs => qs.head? == some fn && qs.any l.quads.contains

/-- The answer to a configuration request: 0 normal, 1 Request Retry Status, 2 none, 3 normal with Memory_Active of the CXL DVSEC
reading 0 (R512, R514). -/
def State.configAnswer (s : State) (fn : Nat) : Nat :=
  if !s.powered then 2
  else
    match tfind s.parts fn with
    | none => if s.functionComing fn then 1 else 2
    | some x =>
      match x.st with
      | .inService => 0
      | .vacant => 3
      | .stopped => 1
      | .scrubbing => 1
      | .absent => 1

/-- CONFIG_REQUEST (R425, R512). -/
def execConfigRequest (fn : Nat) (s : State) : Result := onFunction fn (.next (s.emit (.config fn (s.configAnswer fn))))

/-- SNOOP (R423): a miss. -/
def execSnoop (_addr : Nat) (s : State) : Result := .next (if s.powered then s.emit .snoopMiss else s)

/-- Output Q_READY_N[q] is low: only while the partition that holds the quadrant is IN_SERVICE (R512, R592). -/
def State.readyLow (s : State) (q : Nat) : Bool :=
  s.powered && match s.owner q with
    | some p => (s.part p).inService
    | none => false

/-! ### Leaving service (R511, R512, R535, R541) -/

/-- The ports of a partition announce it: TYPE 4 while it is not in service (R512), which port T announces when its detach ends
(R541). -/
def State.announcePorts (s : State) (quads : List Nat) (ty : Nat) : State :=
  let t := quads.foldl (fun t q => (t.announce (2 * q) ty).announce (2 * q + 1) ty) s
  if ty = 0 && quads.contains 3 then t.announce portT 0 else t

/-- A partition leaves IN_SERVICE for state `new`: its descriptors stop, STEP_ABANDONED and PARTITION_STOPPING are its last
records, and its interfaces close. -/
def State.leaveService (s : State) (p : Nat) (new : PState) (reason : Nat) : State :=
  let t := s.haltWork p
  let t := if (t.part p).stepOn then t.abandonFree p else t
  let t := t.raise p evPartitionStopping [(24, 1, partCode new), (25, 1, reason)]
  let t := if (t.part p).holds 3 then t.unpairTwin else t
  (t.modPart p fun x => { x with st := new, hdm := false, spdmState := 0, session := false, ideKeys := [] }).announcePorts
    (s.part p).quads 4

/-- A partition in any state goes to `new`. -/
def State.takeOut (s : State) (p : Nat) (new : PState) (reason : Nat) : State :=
  if (s.part p).inService then s.leaveService p new reason
  else s.modPart p fun x => { x with st := new, spdmState := 0, session := false, ideKeys := [] }

/-! ### The mailbox (R570 to R572) -/


/-- A response: STATUS and arguments. -/
abbrev Reply := Nat × List Byte

/-- Carries out a mailbox command: an inactive controller answers ST_MGMT_STATE, a repeated SEQ gets its response again, and
until BOOT_DONE only REPORT and RECORD_READ are carried out (R568, R570, R574). -/
def mailbox (ctrl cmd seq : Nat) (early : Bool) (s : State) (f : State → State × Reply) : Result :=
  onController ctrl (
    if !s.input then .next s
    else if ctrl != s.activeCtrl then .next (s.emit (.mailbox cmd seq stMgmtState []))
    else
      match s.mgmt.resp.find? fun r => r.2.1 == seq with
      | some r => .next (s.emit (.mailbox r.1 r.2.1 r.2.2.1 r.2.2.2))
      | none =>
        let a := if s.mgmt.booting && (!early || s.mgmt.recovery) then (s, (stMgmtBusy, [])) else f s
        let rs := a.1.mgmt.resp ++ [(cmd, seq, a.2.1, a.2.2)]
        .next (({ a.1 with mgmt := { a.1.mgmt with resp := rs.drop (rs.length - 16) } }).emit (.mailbox cmd seq a.2.1 a.2.2)))

/-- The partition whose quadrants a mask names. -/
def State.maskPart (s : State) (m : Nat) : Option Nat :=
  (s.parts.find? fun e => e.2.st != .absent && quadMask e.2.quads == m).map (·.1)
/-- The same in any state, ABSENT among them (R526). -/
def State.anyPart (s : State) (m : Nat) : Option Nat := (s.parts.find? fun e => quadMask e.2.quads == m).map (·.1)
/-- A SCRUB, LAYOUT or RESET touches one of the quadrants (R572). -/
def State.longTouches (s : State) (m : Nat) : Bool := s.mgmt.long.any fun l => l.quads.any m.testBit

/-- A command on the partition that a mask names, allowed in some states (R510, R572). -/
def State.onPart (s : State) (m : Nat) (ok : PState → Bool) (f : Nat → State) : State × Reply :=
  if s.longTouches m then (s, (stMgmtBusy, []))
  else if !s.powered then (s, (stMgmtState, []))
  else
    match s.maskPart m with
    | none => (s, (stOpForm, []))
    | some p => if ok (s.part p).st then (f p, (stOk, [])) else (s, (stMgmtState, []))

/-- A long command begins. -/
def State.beginLong (s : State) (l : Long) : State := { s with mgmt := { s.mgmt with long := s.mgmt.long ++ [l] } }
/-- MGMT_DONE reports the end of a long command (R570). -/
def State.mgmtDone (s : State) (cmd seq : Nat) : State := s.mgmtRecord evMgmtDone [(24, 2, cmd), (26, 2, seq), (28, 2, stOk)]

/-- SCRUB (R510, R511, R515). -/
def execScrub (ctrl seq quads : Nat) (s : State) : Result :=
  mailbox ctrl 0x0001 seq false s fun s =>
    s.onPart quads (fun st => st == .inService || st == .stopped || st == .vacant) fun p =>
      (s.takeOut p .scrubbing 0).beginLong ⟨cmdScrub, seq, (s.part p).quads, (s.part p).quads, 0⟩

/-- A partition enters service: its ports carry normal flits, and the twin may seek its peer (R510, R512, R535). -/
def State.enterService (s : State) (p : Nat) : State :=
  let t := (s.modPart p fun x => { x with st := .inService }).announcePorts (s.part p).quads 0
  let t := (s.part p).quads.foldl (fun u q => (u.pumpPort (2 * q)).pumpPort (2 * q + 1)) t
  if (s.part p).holds 3 then t.seekTwin else t

/-- ASSIGN (R510): not over a quadrant with a stack that cannot enter service (R401). -/
def execAssign (ctrl seq quads : Nat) (s : State) : Result :=
  mailbox ctrl 0x0002 seq false s fun s =>
    s.onPart quads (fun st => st == .vacant && !(quadsOf quads).any s.mgmt.badQuads.contains) s.enterService

/-- STOP (R510, R511). -/
def execStop (ctrl seq quads : Nat) (s : State) : Result :=
  mailbox ctrl 0x0003 seq false s fun s => s.onPart quads (· == .inService) fun p => s.leaveService p .stopped 2

/-- RESUME (R510, R511). -/
def execResume (ctrl seq quads : Nat) (s : State) : Result :=
  mailbox ctrl 0x0004 seq false s fun s => s.onPart quads (· == .stopped) s.enterService

/-! ### The far tier's ranges (R394, R518) -/

/-- Bytes of the far tier (R408). -/
def State.farBytes (s : State) : Nat := ((tget (0, 0) s.farPorts 0).1 + (tget (0, 0) s.farPorts 1).1) * 2 ^ 30

def rangesMeet (a n b m : Nat) : Bool := a < b + m && b < a + n && n != 0 && m != 0

/-- The range of a partition returns toward the pool: it is zeroed first (R518). -/
def State.releaseFar (s : State) (m : Nat) : State :=
  let mine := s.mgmt.farRanges.filter fun e => e.1 == m
  { s with mgmt := { s.mgmt with
    farRanges := s.mgmt.farRanges.filter fun e => e.1 != m
    zeroing := s.mgmt.zeroing ++ mine.map (·.2) } }

/-- FAR_ASSIGN (R518, R571): a range of zeroed far memory that no partition holds. -/
def execFarAssign (ctrl seq quads base gib : Nat) (s : State) : Result :=
  mailbox ctrl 0x0006 seq false s fun s =>
    let n := gib * 2 ^ 30
    if base < farBase || farBase + s.farBytes < base + n then (s, (stOpForm, []))
    else if (s.mgmt.farRanges.any fun e => rangesMeet base n e.2.1 e.2.2) || s.mgmt.zeroing.any fun e => rangesMeet base n e.1 e.2 then
      (s, (stMgmtState, []))
    else
      s.onPart quads (· == .vacant) fun p =>
        let t := s.releaseFar quads
        ({ t with mgmt := { t.mgmt with farRanges := t.mgmt.farRanges ++ [(quads, base, n)] } }).modPart p fun x => { x with far := (base, n) }

/-- RANGE_ZEROING_COMPLETE (R518): a released range has been zeroed and returns to the pool. -/
def execRangeZeroingComplete (base : Nat) (s : State) : Result :=
  match s.mgmt.zeroing.find? fun e => e.1 == base with
  | none => .next s
  | some e =>
    if !s.powered || s.farDown e.1 e.2 then .next s
    else .next { s.zeroMem e.1 e.2 with mgmt := { s.mgmt with zeroing := s.mgmt.zeroing.filter (· != e) } }

/-! ### The scrub (R515 to R518) -/

/-- The devices of a tile that a scrub leaves above L0: those that eight resets did not bring down, and those of the stuck table,
which are never pulsed (R155, R517). -/
def Tile.heldAt (x : Tile) (stuck : List Nat) : List Nat :=
  (stuck ++ x.stuck.map fun e => deviceKey (bits e 0 11) (bits e 11 11) (bits e 22 1)).filter fun k =>
    320 < (x.cell (k / 2 / 1152) (k / 2 % 1152)).at_ (k % 2)

/-- Reference devices of a row that stand above L0 (R56). -/
def refPerRow : Nat := 40
/-- Rows of a tile that hold reference digits. -/
def Tile.refRows (x : Tile) : Nat := ((List.range 1056).filter x.refRow).length

/-- A row that a stuck device makes useless moves to a free spare row; a spare row not in use is dead; without a free spare row
the tile retires (R517). -/
def Tile.scrubRow (x : Tile) (prow : Nat) : Tile :=
  if x.st = .retired then x
  else if (x.lrow prow).isNone then (if 1024 ≤ prow then { x with rowMap := tput x.rowMap (prow - 1024) (2 * 1024) } else x)
  else
    match x.freeRow with
    | some r => { x.moveRow prow r with work := [], probeRows := 0 }
    | none => { x with st := .retired }

/-- One reference device is written by R154 with the readings given (R56). -/
def Tile.writeRef (x : Tile) (key : Nat) (readings : List Nat) : Tile :=
  let prow := key / 2 / 1152
  let c := key / 2 % 1152
  let lvl := halfOf (refLevels c) (key % 2)
  let y := { x with jobs := [newJob prow (2048 + (c - 1088)) 1 (refDigit c) false none] }
  { (y.setCell prow c (key % 2) 0 |>.writeOne ⟨0, c, key % 2, lvl, aim lvl (6400 * lvl) 320, 320, 1⟩ readings).1 with jobs := [] }

/-- A tile after the scrub of its die (R78, R213, R515 steps 6 to 8, R517, R518): every device at L0 but the stuck ones, whose rows
move to spare rows; reference digits written by R154 on a tile that is not retired, the devices that `refs` lists with its
readings and the others to their nominal levels in one pulse (log entry 18); the tables that describe the silicon kept; a scan or
repair that it cut short made up for later. -/
def Tile.scrubbed (x : Tile) (stuck : List Nat) (refs : List (Nat × List Nat)) : Tile :=
  let held := x.heldAt stuck
  let y : Tile := { x.kept with
    cells := []
    refs := x.st != .retired
    mark := 0
    rescan := x.rescan || x.scanning }
  let y := held.foldl (fun y k => y.setCell (k / 2 / 1152) (k / 2 % 1152) (k % 2)
    ((x.cell (k / 2 / 1152) (k / 2 % 1152)).at_ (k % 2))) y
  let y := (held.map fun k => k / 2 / 1152).eraseDups.foldl Tile.scrubRow y
  if y.st = .retired then y
  else
    let n := refPerRow * y.refRows
    refs.foldl (fun y e => y.writeRef e.1 e.2) { y with life := min (2 ^ 64 - 1) (y.life + (n - refs.length)) }

/-- The entries of a list by tile for tile `t`. -/
def ofTile {α : Type} (l : List (Nat × α)) (t : Nat) : List α := (l.filter fun e => e.1 == t).map (·.2)

/-- A tile that the scrub retired: a reserve is marked in the retirement map, and the retirement is recorded (R214, R215, R220). -/
def State.markRetired (s : State) (p : Option Nat) (t : Nat) : State :=
  let s := if isReserve t then s.retireReserve t else s
  match p with
  | some p => s.reportRetired p 0 t 0 2 6 s.ltime 0 0
  | none => s

/-- The tiles of an array die are scrubbed; tiles with stuck devices or listed readings are listed first. -/
def State.scrubDie (s : State) (stuck : List (Nat × Nat)) (refs : List (Nat × Nat × List Nat)) (d : Nat) : State :=
  let mine := ((stuck.map (·.1) ++ refs.map (·.1)).filter fun t => tileDie t == d && tileExists t).eraseDups
  let before := mine.foldl (fun u t => u.setTile t (u.tile t)) s
  let after := before.modTiles d fun t x => x.scrubbed (ofTile stuck t) (ofTile refs t)
  let gone := (after.tilesOf d).filter fun e => e.2.st == .retired && (before.tile e.1).st != .retired
  gone.foldl (fun u e => u.markRetired (s.owner (d / 2)) e.1) after

/-- A register key's counter or register is kept by a scrub: those of the owner only, and the waymark counters (R473, R518). -/
def scrubKeepsCount (quads : List Nat) (k : Nat) : Bool :=
  !(quadBlocks quads).contains (keyBlock (k % 2 ^ 31 / 32)) || k % 2 ^ 31 / 32 == blockBase 2 0 + 0x394

/-- One quadrant is cleared. -/
def State.scrubQuad (s : State) (stuck : List (Nat × Nat)) (refs : List (Nat × Nat × List Nat)) (q : Nat) : State :=
  let t := (s.scrubDie stuck refs (2 * q)).scrubDie stuck refs (2 * q + 1)
  let t := (t.zeroMem (q * quadBytes) quadBytes).dropStaged [q]
  { t with
    slab := t.slab.filter fun c => c.1 / 2 ^ 28 != q
    grads := t.grads.filter fun e => e.1 / 2 != q
    roads := t.roads.filter fun e => e.1 / 2 != q
    gates := t.gates.map fun e => if e.1 / 2 = q then (e.1, Gate.empty) else e
    queues := t.queues.filter fun e => queueHub e.1 != q
    turns := t.turns.filter fun e => e.1 / 8 != q
    rings := t.rings.filter fun e => e.1 / 1024 != q
    wayposts := t.wayposts.filter fun e => e.1 / 4096 != q
    routes := t.routes.filter fun e => e.1 / 4096 != q
    regs := t.regs.filter fun e => !(quadBlocks [q]).contains (keyBlock e.1) || ownerOnly e.1
    counters := t.counters.filter fun e => scrubKeepsCount [q] e.1
    latches := t.latches.filter fun e => !(quadBlocks [q]).contains (keyBlock e.1)
    hbm := t.hbm.map fun e => if e.1 / 6 = q then (e.1, { e.2 with lost := false }) else e
    scrubs := tset 0 t.scrubs q (tget 0 t.scrubs q + 1) }

/-- Every stack of a quadrant is in service, so that it has been overwritten (R515, R533). -/
def State.stacksOn (s : State) (q : Nat) : Bool := (List.range 6).all fun i => (s.stack (6 * q + i)).online

/-- A partition over cleared quadrants is VACANT. -/
def Part.vacantOf (qs : List Nat) : Part := { Part.absent with st := .vacant, quads := qs }

/-- The partitions of the present layout whose quadrants have all been scrubbed are VACANT (R515 step 10). -/
def State.vacate (s : State) (qs : List Nat) : State :=
  s.parts.foldl (fun t e =>
    if e.2.st == .scrubbing && e.2.quads.all qs.contains then
      (t.releaseFar (quadMask e.2.quads)).setPart e.1 (Part.vacantOf e.2.quads)
    else t) s

/-- The partitions of a layout that do not exist yet are created VACANT over scrubbed quadrants (R506, R513). -/
def State.createParts (s : State) (code : Nat) : State :=
  let gone := (s.parts.filter fun e => e.2.st == .absent).foldl (fun t e => t.releaseFar (quadMask e.2.quads)) s
  let t := { gone with layout := code, parts := gone.parts.filter fun e => e.2.st != .absent }
  (layoutParts code).foldl (fun u qs =>
    match qs with
    | [] => u
    | p :: _ =>
      if qs.any u.mgmt.badQuads.contains || (tfind u.parts p).isSome then u else u.setPart p (Part.vacantOf qs)) t

/-- BOOT_DONE, and MGMT_DONE of the RESET that asked for the start-up (R570, R574 step 12). -/
def State.bootDone (s : State) : State :=
  let t := { s with mgmt := { s.mgmt with booting := false } }
  let t := t.mgmtRecord evBootDone [(24, 1, t.layout), (25, 1, t.sec.runBank)]
  let rs := t.mgmt.long.filter fun l => l.cmd == cmdReset
  rs.foldl (fun u l => u.mgmtDone cmdReset l.seq) { t with mgmt := { t.mgmt with long := t.mgmt.long.filter fun l => l.cmd != cmdReset } }

/-- A long command that has no quadrant left ends (R513, R515, R570). -/
def State.endLong (s : State) (l : Long) : State :=
  let t := { s with mgmt := { s.mgmt with long := s.mgmt.long.filter (· != l) } }
  if l.cmd = cmdScrub then (t.vacate l.quads).mgmtDone cmdScrub l.seq
  else if l.cmd = cmdLayout then (t.createParts l.arg).mgmtDone cmdLayout l.seq
  else (t.vacate l.quads).bootDone

/-- The tollgates of quadrants whose partitions are created start afresh, with empty buckets (R485). -/
def State.freshGates (s : State) (qs : List Nat) : State :=
  { s with gates := s.gates.map fun e => if qs.contains (e.1 / 2) then (e.1, Gate.empty) else e }

/-- SCRUB_COMPLETE (R515, R517, R518): the quadrants of the mask have been cleared. -/
def execScrubComplete (quads : Nat) (found : ScrubIn) (s : State) : Result :=
  let qs := quadsOf quads
  match s.mgmt.long.find? fun l => !qs.isEmpty && qs.all l.left.contains with
  | none => .next s
  | some l =>
    if !s.powered || !qs.all s.stacksOn then .next s
    else
      let t := qs.foldl (fun u q => u.scrubQuad found.stuck found.refs q) s
      let l' := { l with left := l.left.filter fun q => !qs.contains q }
      let t := { t with mgmt := { t.mgmt with long := t.mgmt.long.map fun x => if x == l then l' else x } }
      .next (if l'.left.isEmpty then (t.freshGates l.quads).endLong l' else t)

/-! ### Layouts (R506, R513, R514) -/

/-- LAYOUT (R513): partitions that the new layout holds unchanged run on; all other quadrants are scrubbed. -/
def execLayout (ctrl seq code : Nat) (s : State) : Result :=
  mailbox ctrl 0x0005 seq false s fun s =>
    if 4 ≤ code then (s, (stOpForm, []))
    else if !s.mgmt.long.isEmpty then (s, (stMgmtBusy, []))
    else if !s.powered then (s, (stMgmtState, []))
    else
      let news := layoutParts code
      let kept := fun (e : Nat × Part) => news.contains e.2.quads
      let t := (s.parts.filter fun e => !kept e).foldl (fun u e => u.takeOut e.1 .absent 1) s
      let stay := (s.parts.filter kept).flatMap (·.2.quads)
      let qs := allQuads.filter fun q => !stay.contains q && !s.mgmt.badQuads.contains q
      let t := { t with mgmt := { t.mgmt with bootLayout := code } }
      let l : Long := ⟨cmdLayout, seq, qs, qs, code⟩
      (if qs.isEmpty then (t.beginLong l).endLong l else t.beginLong l, (stOk, []))

end Sys2Proof.Machine
end

