-- ==== Sys2Proof/Machine/Security.lean ====
section
/-! DEFINITION. Images and their verification, firmware update, key records, the anti-rollback counter, attestation and SPDM (R519 to R526, R579). -/

namespace Sys2Proof.Machine

open Sys2Proof

/-! ### Images (R519, R520) -/

/-- Bytes of an image header (R519). -/
def imageHeader : Nat := 5632
def imgStage (h : List Byte) : Nat := field h 6 1
def imgSvn (h : List Byte) : Nat := field h 7 1
/-- The key slot of an algorithm: 0 Ed25519, 1 ML-DSA-65. -/
def imgSlot (h : List Byte) (alg : Nat) : Nat := bits (field h 8 1) (2 * alg) 2
def imgLength (h : List Byte) : Nat := field h 16 8
def imgDigest (h : List Byte) : List Byte := slice h 24 64
/-- The public key of an algorithm. -/
def imgKey (h : List Byte) (alg : Nat) : List Byte := if alg = 0 then slice h 88 32 else slice h 120 1952

/-- Key slot `slot` of an algorithm. -/
def slotIndex (alg slot : Nat) : Nat := 4 * alg + slot
/-- The fuse digest of a slot; an empty one stands for the factory's (R521; log entry 6). -/
def Security.digest (x : Security) (alg slot : Nat) : List Byte :=
  match x.slotDigest.getD (slotIndex alg slot) [] with
  | [] => slice (Config.factoryDigest alg) 0 64
  | d => d

/-- Slot states and counter that a verification uses: 0 blank, 1 active, 2 revoked (R521, R522). -/
structure Fuses where
  slots : List Nat
  arb : Nat
deriving DecidableEq, Repr

/-- The fuses of this boot (R522). -/
def Security.booted (x : Security) : Fuses := ⟨x.bootSlots, x.bootArb⟩
/-- The fuses as they are blown. -/
def Security.blown (x : Security) : Fuses := ⟨x.slotState, x.arb⟩

/-- The tests of R520 but for MAGIC, VERSION and STAGE. -/
def Security.signed (x : Security) (f : Fuses) (img : List Byte) : Bool :=
  let body := (img.drop imageHeader).take (imgLength img)
  let key := fun (alg : Nat) =>
    f.slots.getD (slotIndex alg (imgSlot img alg)) 0 == 1 && sha512 (imgKey img alg) == x.digest alg (imgSlot img alg)
  imageHeader + imgLength img ≤ img.length && f.arb ≤ imgSvn img && key 0 && key 1 && sha512 body == imgDigest img &&
    Config.edVerify (imgKey img 0) (slice img 0 88) (slice img 2072 64) &&
    Config.mldsaVerify (imgKey img 1) (slice img 0 88) (slice img 2136 3309)

/-- The verification of an image (R520). -/
def Security.imageOk (x : Security) (f : Fuses) (stage : Nat) (img : List Byte) : Bool :=
  field img 0 4 == 0x594C4946 && field img 4 2 == 1 && imgStage img == stage && x.signed f img

/-- The bytes of a bank; none while it holds the factory's image set. -/
def Security.bank (x : Security) (b : Nat) : Option (List Byte) := if b = 0 then x.bank0 else x.bank1
/-- Writes the bytes of a bank. -/
def Security.setBank (x : Security) (b : Nat) (v : List Byte) : Security :=
  if b = 0 then { x with bank0 := some v } else { x with bank1 := some v }

/-- What follows an image in its bank (log entry 35). -/
def afterImage (bytes : List Byte) : List Byte := bytes.drop (imageHeader + imgLength bytes)
/-- The three images of a bank, one after another from its first byte (log entry 35). -/
def imageSet (bytes : List Byte) : List (List Byte) := [bytes, afterImage bytes, afterImage (afterImage bytes)]

/-- Every image of a bank's set passes verification (R520). -/
def Security.setOk (x : Security) (f : Fuses) (b : Nat) : Bool :=
  match x.bank b with
  | none => f.arb == 0 && f.slots.getD 0 0 == 1 && f.slots.getD 4 0 == 1
  | some bytes => (imageSet bytes).zipIdx.all fun e => x.imageOk f (e.2 + 1) e.1
/-- The three images of a set carry equal SVNs (R579). -/
def Security.svnsAgree (x : Security) (b : Nat) : Bool :=
  match x.bank b with
  | none => true
  | some bytes => (imageSet bytes).all fun i => imgSvn i == imgSvn bytes

/-- The set of a bank runs: its SVN, key slots and measurements, with the fuses of this boot (R522, R525, R532). -/
def Security.runSet (x : Security) (b : Nat) : Security :=
  let y := { x with runBank := b, bootSlots := x.slotState, bootArb := x.arb }
  match x.bank b with
  | none => { y with svn := 0, edSlot := 0, mldsaSlot := 0, meas := [1, 2, 3].map fun i => slice (Config.factoryMeas i) 0 64 }
  | some bytes =>
    { y with svn := imgSvn bytes, edSlot := imgSlot bytes 0, mldsaSlot := imgSlot bytes 1, meas := (imageSet bytes).map imgDigest }

/-- The bank that boots: the one the flag names, or the other (R520). -/
def Security.pickBank (x : Security) (flag : Nat) : Option Nat :=
  if x.setOk x.blown flag then some flag else if x.setOk x.blown (1 - flag) then some (1 - flag) else none

/-! ### Firmware update, keys and the counter (R521, R522, R579) -/

/-- Bytes of a bank with data written at an offset. -/
def bankPatch (b : List Byte) (off : Nat) (bytes : List Byte) : List Byte := slice b 0 off ++ bytes ++ b.drop (off + bytes.length)

/-- FW_WRITE (R571, R579): into the bank that is not running. -/
def execFwWrite (ctrl seq bank off : Nat) (bytes : List Byte) (s : State) : Result :=
  mailbox ctrl 0x0020 seq false s fun s =>
    if 2 ≤ bank || 1016 < bytes.length then (s, (stOpForm, []))
    else if bank = s.sec.runBank then (s, (stMgmtState, []))
    else ({ s with sec := s.sec.setBank bank (bankPatch ((s.sec.bank bank).getD (Config.factoryFlash bank)) off bytes) }, (stOk, []))

/-- FW_COMMIT (R579): the boot-select flag names the bank once its set passes verification with equal SVNs. -/
def execFwCommit (ctrl seq bank : Nat) (s : State) : Result :=
  mailbox ctrl 0x0021 seq false s fun s =>
    if 2 ≤ bank then (s, (stOpForm, []))
    else if s.sec.setOk s.sec.booted bank && s.sec.svnsAgree bank then ({ s with sec := { s.sec with bootBank := bank } }, (stOk, []))
    else (s, (stImageRejected, []))

/-- The last active slot of an algorithm would be revoked (R521). -/
def Security.lastActive (x : Security) (alg slot : Nat) : Bool :=
  (List.range 4).all fun i => i == slot || x.slotState.getD (slotIndex alg i) 0 != 1

/-- A slot takes a state, and a digest when it is activated. -/
def Security.setSlot (x : Security) (alg slot st : Nat) (d : List Byte) : Security :=
  { x with
    slotState := x.slotState.set (slotIndex alg slot) st
    slotDigest := if st = 1 then x.slotDigest.set (slotIndex alg slot) (slice d 0 64) else x.slotDigest }

/-- KEY_RECORD (R521; log entry 36): blank to active and active to revoked alone. -/
def execKeyRecord (ctrl seq alg slot : Nat) (activate : Bool) (digest record : List Byte) (s : State) : Result :=
  mailbox ctrl 0x0022 seq false s fun s =>
    let x := s.sec
    let st := x.slotState.getD (slotIndex alg slot) 0
    if 2 ≤ alg || 4 ≤ slot || digest.length != 64 then (s, (stOpForm, []))
    else if !x.signed x.booted record then (s, (stImageRejected, []))
    else if activate then (if st = 0 then ({ s with sec := x.setSlot alg slot 1 digest }, (stOk, [])) else (s, (stMgmtState, [])))
    else if st = 1 && !x.lastActive alg slot then ({ s with sec := x.setSlot alg slot 2 [] }, (stOk, []))
    else (s, (stMgmtState, []))

/-- ARB_RAISE (R522): to a value no greater than the SVN of the running set and than 63; it never falls. -/
def execArbRaise (ctrl seq value : Nat) (s : State) : Result :=
  mailbox ctrl 0x0023 seq false s fun s =>
    if value ≤ s.sec.svn && value ≤ 63 && s.sec.arb ≤ value then ({ s with sec := { s.sec with arb := value } }, (stOk, []))
    else (s, (stImageRejected, []))

/-! ### Attestation (R523 to R526) -/

/-- Digests of the running firmware, from which the Alias keys come (R523). -/
def State.firmware (s : State) : List Byte := s.sec.meas.flatten
/-- The Alias certificate chain of an algorithm (R524). -/
def State.chain (s : State) (alg : Nat) : List Byte := Config.aliasChain alg s.firmware

/-- Bytes 0 to 359 of the attestation report (R525). -/
def State.reportBody (s : State) (p : Nat) (owner : Bool) (nonce : List Byte) : List Byte :=
  let x := s.part p
  block 16 [(0, 4, 0x59505254), (4, 2, 1), (6, 2, b2n owner), (8, 4, 3733)] ++ slice nonce 0 32 ++ slice Config.serial 0 16 ++
    block 40 [(0, 1, s.layout), (1, 1, quadMask x.quads), (2, 1, partCode x.st), (8, 8, tget 0 s.scrubs p), (16, 8, x.milestone.toNat),
      (24, 8, s.ltime), (32, 1, s.sec.arb), (33, 1, s.sec.svn), (34, 1, s.sec.edSlots), (35, 1, s.sec.mldsaSlots),
      (36, 1, s.sec.runBank)] ++
    (s.sec.meas.flatMap fun m => slice m 0 64) ++ slice Config.deviceId 0 64

/-- The attestation report: 3,733 bytes with both Alias signatures (R525). -/
def State.attest (s : State) (p : Nat) (owner : Bool) (nonce : List Byte) : List Byte :=
  let b := s.reportBody p owner nonce
  b ++ slice (Config.edSign s.firmware (sha512 b)) 0 64 ++ slice (Config.mldsaSign s.firmware (sha512 b)) 0 3309

/-- REPORT (R526, R571): the owner obtains the report of any partition in any state. -/
def execReport (ctrl seq quads : Nat) (nonce : List Byte) (s : State) : Result :=
  mailbox ctrl 0x0030 seq true s fun s =>
    if !s.powered then (s, (stMgmtState, []))
    else
      match s.anyPart quads with
      | none => (s, (stOpForm, []))
      | some p => (s, (stOk, s.attest p true nonce))

/-- CERT_READ (R571): up to 1,016 bytes of a chain behind its total length. -/
def execCertRead (ctrl seq alg off : Nat) (s : State) : Result :=
  mailbox ctrl 0x0035 seq false s fun s =>
    if 2 ≤ alg || (s.chain alg).length < off then (s, (stOpForm, []))
    else (s, (stOk, natLe 4 (s.chain alg).length ++ ((s.chain alg).drop off).take 1016))

/-! ### SPDM (R524; log entry 37) -/

/-- Codes of the response messages of DSP0274. -/
def spdmVersion := 0x04
def spdmCapabilities := 0x61
def spdmAlgorithms := 0x63
def spdmDigests := 0x01
def spdmCertificate := 0x02
def spdmChallengeAuth := 0x03
def spdmMeasurements := 0x60
def spdmKeyExchangeRsp := 0x64
def spdmFinishRsp := 0x65
def spdmEndSessionAck := 0x6C
def spdmVendor := 0x7E
def spdmError := 0x7F

/-- The function's configuration space answers (R512): its partition is VACANT or IN_SERVICE. -/
def State.spdmOpen (s : State) (fn : Nat) : Bool :=
  s.powered && (((s.part fn).st == .inService) || ((s.part fn).st == .vacant))

/-- Answers an SPDM request of a function: it is accepted in the states `ok` of the exchange, else answered with ERROR. -/
def spdm (fn : Nat) (s : State) (ok : Part → Bool) (code : Nat) (body : List Byte) (f : Part → Part) : Result :=
  onFunction fn (
    if !s.spdmOpen fn then .next s
    else if ok (s.part fn) then .next ((s.modPart fn f).emit (.spdm fn code body))
    else .next (s.emit (.spdm fn spdmError [])))

/-- The algorithms have been negotiated. -/
def Part.negotiated (x : Part) : Bool := 3 ≤ x.spdmState

/-- GET_VERSION (R524): it begins the exchange anew. -/
def execGetVersion (fn : Nat) (s : State) : Result :=
  spdm fn s (fun _ => true) spdmVersion (Config.spdmBody spdmVersion []) fun x => { x with spdmState := 1, session := false }
/-- GET_CAPABILITIES (R524). -/
def execGetCapabilities (fn : Nat) (s : State) : Result :=
  spdm fn s (fun x => x.spdmState == 1) spdmCapabilities (Config.spdmBody spdmCapabilities []) fun x => { x with spdmState := 2 }
/-- NEGOTIATE_ALGORITHMS (R524). -/
def execNegotiateAlgorithms (fn : Nat) (s : State) : Result :=
  spdm fn s (fun x => x.spdmState == 2) spdmAlgorithms (Config.spdmBody spdmAlgorithms []) fun x => { x with spdmState := 3 }
/-- GET_DIGESTS (R524): the digests of the chains in slots 0 and 1. -/
def execGetDigests (fn : Nat) (s : State) : Result :=
  spdm fn s Part.negotiated spdmDigests (sha512 (s.chain 0) ++ sha512 (s.chain 1)) id
/-- GET_CERTIFICATE (R524): a part of the chain in slot 0 or 1. -/
def execGetCertificate (fn slot off len : Nat) (s : State) : Result :=
  spdm fn s (fun x => x.negotiated && slot < 2) spdmCertificate (((s.chain slot).drop off).take len) id
/-- CHALLENGE (R524). -/
def execChallenge (fn : Nat) (nonce : List Byte) (s : State) : Result :=
  spdm fn s Part.negotiated spdmChallengeAuth (Config.spdmBody spdmChallengeAuth (s.firmware ++ nonce)) id
/-- GET_MEASUREMENTS (R524, R526): block 0xF0 is the partition's attestation report. -/
def execGetMeasurements (fn b : Nat) (nonce : List Byte) (s : State) : Result :=
  spdm fn s Part.negotiated spdmMeasurements
    (if b = 0xF0 then s.attest fn false nonce else Config.spdmBody spdmMeasurements (s.firmware ++ natLe 1 b ++ nonce)) id
/-- KEY_EXCHANGE (R524). -/
def execKeyExchange (fn : Nat) (random : List Byte) (s : State) : Result :=
  spdm fn s Part.negotiated spdmKeyExchangeRsp (Config.spdmBody spdmKeyExchangeRsp (s.firmware ++ random)) fun x => { x with spdmState := 4 }
/-- FINISH (R524): a session opens where the requester's proof verifies. -/
def execFinish (fn : Nat) (verified : Bool) (s : State) : Result :=
  spdm fn s (fun x => x.spdmState == 4) (if verified then spdmFinishRsp else spdmError)
    (if verified then Config.spdmBody spdmFinishRsp [] else []) fun x => { x with spdmState := 3, session := verified }
/-- END_SESSION (R524). -/
def execEndSession (fn : Nat) (s : State) : Result :=
  spdm fn s (·.session) spdmEndSessionAck [] fun x => { x with session := false }

/-- An IDE key set of a stream is programmed, or made the active one of its stream. -/
def Part.ideKey (x : Part) (stream keySet : Nat) (activate : Bool) (key : List Byte) : Part :=
  if activate then { x with ideKeys := x.ideKeys.map fun e => if e.1 = stream then (e.1, e.2.1, e.2.1 == keySet, e.2.2.2) else e }
  else
    { x with ideKeys := (x.ideKeys.filter fun e => e.1 != stream || e.2.1 != keySet) ++ [(stream, keySet, false, key)] }

/-- IDE_KEY_MANAGEMENT (R524): the keys of a CXL IDE stream are set within a session. -/
def execIdeKeyManagement (fn stream keySet : Nat) (activate : Bool) (key : List Byte) (s : State) : Result :=
  spdm fn s (·.session) spdmVendor (Config.spdmBody spdmVendor (natLe 1 stream ++ natLe 1 keySet)) fun x => x.ideKey stream keySet activate key

end Sys2Proof.Machine
end

