-- ==== Sys2Proof/Machine/Startup.lean ====
section
/-! DEFINITION. The management record, power-on, start-up, the start-up array check, recovery and RESET (R485, R492, R496, R497, R573 to R578). -/

namespace Sys2Proof.Machine

open Sys2Proof

/-! ### The management record (R573) -/

/-- The tables of a tile that the record holds. -/
def Tile.toRecord (x : Tile) : TileRecord := ⟨x.st == .retired, x.stuck, x.rowMap, x.colMap, x.refExcl, x.life⟩
/-- Empty tables. -/
def TileRecord.empty : TileRecord := ⟨false, [], [], [], [], 0⟩

/-- The tables of a tile in a record. -/
def Record.tile (r : Record) (t : Nat) : TileRecord := (tfind r.tiles t).getD (tget TileRecord.empty r.tileDefs (tileDie t))

/-- What the record would hold now. -/
def State.record (s : State) : Record where
  tiles := s.tiles.map fun e => (e.1, e.2.toRecord)
  tileDefs := s.tileDef.map fun e => (e.1, e.2.toRecord)
  retire := s.retire
  faultLog := s.mgmt.faultLog
  ppr := s.mgmt.ppr
  calUser := s.calUser
  calClamped := s.calClamped
  regs := s.regs.filter fun e => ownerOnly e.1
  far := s.mgmt.farRanges
  layout := s.mgmt.bootLayout
  keep := s.mgmt.arrayKeep
  select := s.sec.bootBank

/-- The first copy is the newer one. -/
def Mgmt.firstNewer (m : Mgmt) : Bool := m.recCounts.2 ≤ m.recCounts.1
/-- The newest copy. -/
def Mgmt.newest (m : Mgmt) : Record := if m.firstNewer then m.recs.1 else m.recs.2

/-- A record that has changed is written over the older copy, with the next write count. -/
def State.writeRecord (s : State) : State :=
  let m := s.mgmt
  if s.record = m.newest then s
  else if m.firstNewer then { s with mgmt := { m with recs := (m.recs.1, s.record), recCounts := (m.recCounts.1, m.recCounts.1 + 1) } }
  else { s with mgmt := { m with recs := (s.record, m.recs.2), recCounts := (m.recCounts.2 + 1, m.recCounts.2) } }

/-- Choevesal runs on the active controller. -/
def State.mgmtRuns (s : State) : Bool := s.input && !s.mgmt.recovery && s.mgmt.bootFrom == 0

/-- MGMT_RECORD_WRITE (R573). -/
def execMgmtRecordWrite (s : State) : Result := .next (if s.mgmtRuns then s.writeRecord else s)

/-- The copy that start-up loads: of those whose digest holds, the one with the higher count. -/
def Mgmt.holding (m : Mgmt) (ok : Bool × Bool) : Option Record :=
  if ok.1 && (m.firstNewer || !ok.2) then some m.recs.1 else if ok.2 then some m.recs.2 else none

/-- A tile with the tables of the record. -/
def Tile.restored (x : Tile) (r : TileRecord) : Tile :=
  { x with
    st := if r.retired then .retired else .off
    stuck := r.stuck
    rowMap := r.rowMap
    colMap := r.colMap
    refExcl := r.refExcl
    life := r.life }

/-- Start-up takes a record's contents. -/
def State.takeRecord (s : State) (r : Record) : State :=
  let t := r.tiles.foldl (fun u e => u.setTile e.1 (u.tile e.1)) s
  { t with
    tiles := t.tiles.map fun e => (e.1, e.2.restored (r.tile e.1))
    tileDef := t.tileDef.map fun e => (e.1, e.2.restored (tget TileRecord.empty r.tileDefs e.1))
    retire := r.retire
    calUser := r.calUser
    calClamped := r.calClamped
    regs := r.regs
    sec := { t.sec with bootBank := r.select }
    mgmt := { t.mgmt with
      faultLog := r.faultLog
      ppr := r.ppr
      farRanges := r.far
      bootLayout := r.layout
      arrayKeep := r.keep } }

/-- The record is loaded, or factory defaults with RECORD_LOST. -/
def State.loadRecord (s : State) (ok : Bool × Bool) : State :=
  match s.mgmt.holding ok with
  | some r => s.takeRecord r
  | none => (s.takeRecord Record.factory).mgmtRecord evRecordLost []

/-! ### The start-up array check (R576) -/

def flNat (n : Nat) : Word64 := r64 (flInt n)

/-- The evaluation of R182 on the reference sums of 64 products: recorded τ, and whether the tile is unreliable. -/
def refCheck (a : Nat × Nat × Nat) : Nat × Bool :=
  let y := ({ Tile.fresh with aIdeal := flNat a.1, aMeas := flNat a.2.1, aZero := flNat a.2.2, driftN := 64 }).driftEval 0
  if y.1.urgent || y.2 then (trimTop, true) else (y.1.trim, false)

/-- A tile after the check, without power; `sums` are its reference sums where they are not the ideal ones. -/
def Tile.checked (x : Tile) (blank : Bool) (sums : Option (Nat × Nat × Nat)) : Tile :=
  if x.st = .retired then x
  else if blank || !x.refs then { x.blankRefs with outcome := 1, mark := 0, recTrim := 0x4000 }
  else
    match sums with
    | none => { x with outcome := 2, mark := 1, recTrim := 0x4000 }
    | some a =>
      let r := refCheck a
      { x with outcome := if r.2 then 3 else 2, mark := if r.2 then 2 else 1, recTrim := r.1 }

/-- The tiles of an array die are checked. -/
def State.checkDie (s : State) (x : PowerOnIn) (d : Nat) : State :=
  let named := ((x.blankTiles ++ x.refSums.map (·.1)).filter fun t => tileDie t == d && tileExists t)
  let t := named.foldl (fun u i => u.setTile i (u.tile i)) s
  t.modTiles d fun i y =>
    if named.contains i then y.checked (x.blankTiles.contains i) ((x.refSums.find? fun e => e.1 == i).map (·.2))
    else y.checked false none

/-! ### Start-up (R574, R575) -/

/-- Training of a stack in step 6, and its zeros of step 8 (R401). -/
def State.trainStack (s : State) (failed : List Nat) (lanes : List (Nat × List Nat)) (m : Nat) : State :=
  let x := s.stack m
  let ls := spareLanes x ((lanes.filter fun e => e.1 == m).flatMap (·.2))
  if failed.contains m || !sparesOk ls then
    (s.setStack m { Stack.reset with spared := ls, failed := true }).mgmtRecord evStackFail [(24, 1, m)]
  else s.setStack m { Stack.reset with spared := ls, online := true }

/-- A far-memory port of step 11; the port supports no more than 4 TiB (R407), and of a larger expander it uses that much (DESIGN
CHOICE, log entry 127). -/
def State.trainFar (s : State) (fm gib : Nat) : State :=
  if gib = 0 then ({ s with farPorts := tput s.farPorts fm (0, 0) }).mgmtRecord evFarDown [(24, 1, fm)]
  else { s with farPorts := tput s.farPorts fm (min gib 4096, 2) }

/-- Steps 3 to 10 of start-up: the data plane is on, trained and checked. -/
def State.bringUp (s : State) (x : PowerOnIn) : State :=
  let t := { s with
    powered := true
    ltime := 0
    brake := x.brake
    gates := (List.range 8).map fun d => (d, Gate.empty)
    mgmt := { s.mgmt with tripped := false, ppr := [] } }
  let t := x.fuseFaultDies.foldl (fun u e => u.mgmtRecord evCalFuse [(24, 1, dieByte (kindCode e.1) e.2)]) t
  let t := (List.range 24).foldl (fun u m => u.trainStack x.failedStacks x.failedLanes m) t
  let t := (t.trainFar 0 x.farGiB.1).trainFar 1 x.farGiB.2
  let bad := fun (q : Nat) =>
    ((List.range 6).any fun i => (t.stack (6 * q + i)).failed) || x.fuseFaultDies.any fun e => dieQuad (kindCode e.1) e.2 == q
  let t := { t with mgmt := { t.mgmt with badQuads := allQuads.filter bad } }
  (List.range 8).foldl (fun u d => u.checkDie x d) t

/-- The partition of some quadrants that start-up creates (R510, R574 step 12). -/
def State.bootPart (s : State) (qs : List Nat) : Part :=
  let keep := s.mgmt.arrayKeep && !qs.any s.mgmt.rescrub.contains
  { Part.absent with
    st := if keep then .stopped else .scrubbing
    quads := qs
    far := ((s.mgmt.farRanges.find? fun e => e.1 == quadMask qs).map (·.2)).getD (0, 0) }

/-- Step 12: the partitions of the boot layout are created, STOPPED or to be scrubbed; BOOT_DONE follows. -/
def State.handOver (s : State) : State :=
  let ps := (layoutParts s.mgmt.bootLayout).filter fun qs => !qs.any s.mgmt.badQuads.contains
  let gone := s.mgmt.farRanges.filter fun e => !(ps.map quadMask).contains e.1
  let t := gone.foldl (fun u e => u.releaseFar e.1) { s with layout := s.mgmt.bootLayout }
  let t := ps.foldl (fun u qs => match qs with
    | [] => u
    | p :: _ => u.setPart p (u.bootPart qs)) t
  let qs := (t.parts.filter fun e => e.2.st == .scrubbing).flatMap (·.2.quads)
  let t := { t with mgmt := { t.mgmt with rescrub := [], bootFrom := 0 } }
  if qs.isEmpty then t.bootDone else t.beginLong ⟨0, 0, qs, qs, 0⟩

/-- Start-up from where `bootFrom` says: the banks (R520), the record (R573), the data plane. -/
def State.startUp (s : State) (x : PowerOnIn) : State :=
  let run := fun (t : State) => (t.bringUp x).handOver
  match s.mgmt.bootFrom with
  | 1 => run s
  | 2 =>
    match s.sec.pickBank ((s.mgmt.holding x.recordOk).elim 0 (·.select)) with
    | none => { s with mgmt := { s.mgmt with recovery := true } }
    | some b => run ({ s with sec := s.sec.runSet b }.loadRecord x.recordOk)
  | _ => run (s.loadRecord x.recordOk)

/-- Power comes on: everything but cells, fuses and flash is reset, and the MGMT_ID pins are sampled (R496, R592). -/
def State.cold (s : State) (straps : Nat) : State :=
  { s.powerDown with
    input := true
    stbyNs := 0
    wm := { Waymark.reset with probes := s.wm.probes }
    counters := []
    mgmt := { Mgmt.reset with recCounts := s.mgmt.recCounts, recs := s.mgmt.recs, zeroing := s.mgmt.zeroing, booting := true, bootFrom := 2, straps := straps } }

/-- POWER_ON (R496, R497, R574, R575): the input comes within 44 V to 60 V, or the start-up that RESET or a recovery image asked
for takes its findings `x`. -/
def execPowerOn (x : PowerOnIn) (s : State) : Result :=
  if !s.input then .next (if 44000 ≤ x.millivolts && x.millivolts ≤ 60000 then (s.cold x.straps).startUp x else s)
  else if s.powered || s.mgmt.recovery || s.mgmt.bootFrom = 0 then .next s
  else .next (s.startUp x)

/-- RECOVERY_IMAGE (R520): in recovery S0 takes an image set into a bank, verifies it and boots it. -/
def execRecoveryImage (bank : Nat) (images : List (List Byte)) (s : State) : Result :=
  if !s.input || !s.mgmt.recovery || 2 ≤ bank then .next s
  else
    let x := s.sec.setBank bank images.flatten
    if x.setOk x.blown bank then
      .next { s with sec := x.runSet bank, mgmt := { s.mgmt with recovery := false, bootFrom := 3 } }
    else .next { s with sec := x }

/-! ### RESET (R492, R496, R571) -/

/-- Every sensor reads below 85 °C (R492, R580). -/
def State.coolEnough (s : State) : Bool := !s.mgmt.stbyTemps.isEmpty && s.mgmt.stbyTemps.all (· < 85)

/-- RESET (R496, R571): the data plane, or with scope 0 the module, starts up again; MGMT_DONE follows BOOT_DONE. -/
def execReset (ctrl seq scope : Nat) (s : State) : Result :=
  mailbox ctrl cmdReset seq false s fun s =>
    if 2 ≤ scope then (s, (stOpForm, []))
    else if !s.mgmt.long.isEmpty then (s, (stMgmtBusy, []))
    else if !s.powered && s.mgmt.tripped && !s.coolEnough then (s, (stMgmtState, []))
    else
      let t := s.writeRecord.powerDown
      ({ t with mgmt := { t.mgmt with
          booting := true
          bootFrom := if scope = 0 then 2 else 1
          standbyActive := if scope = 0 then false else t.mgmt.standbyActive
          long := [⟨cmdReset, seq, allQuads, [], scope⟩] } }, (stOk, []))

end Sys2Proof.Machine
end

