-- ==== Sys2Proof/Machine/Management.lean ====
section
/-! DEFINITION. The two controllers, telemetry, the management stream and the mailbox commands that read and set (R566, R567, R571, R577, R580 to R582). -/

namespace Sys2Proof.Machine

open Sys2Proof

/-! ### The controllers (R566, R567) -/

/-- STANDBY_COPY (R566): the responses to the last 16 commands and the unread records. -/
def execStandbyCopy (s : State) : Result :=
  .next (if s.mgmtRuns && !s.mgmt.standbyActive then
    { s with mgmt := { s.mgmt with copy := true, copyResp := s.mgmt.resp, copyRecords := s.mgmt.records } } else s)

/-- MGMT_FAILOVER (R567, R583): the standby becomes active with what was copied to it; the data plane is not touched. -/
def execMgmtFailover (reason : Nat) (s : State) : Result :=
  if !s.mgmtRuns || s.mgmt.standbyActive then .next s
  else
    let t := { s with mgmt := { s.mgmt with standbyActive := true, resp := s.mgmt.copyResp, records := s.mgmt.copyRecords } }
    .next (t.mgmtRecord evMgmtFailover [(24, 1, reason)])

/-! ### Temperatures and telemetry (R580, R581) -/

/-- STANDBY_TEMP_SAMPLE (R580): while the data plane is unpowered. -/
def execStandbyTempSample (temps : List Int) (s : State) : Result :=
  .next (if s.input && !s.powered then { s with mgmt := { s.mgmt with stbyTemps := temps } } else s)

/-- The dies in the order of telemetry: AD0 to AD7, GD0 to GD7, HD0 to HD3. -/
def dieOrder : List (Nat × Nat) :=
  (List.range 8).map (fun d => (0, d)) ++ (List.range 8).map (fun d => (1, d)) ++ (List.range 4).map fun d => (2, d)

/-- Temperature of die `i` in °C. -/
def State.dieCelsius (s : State) (i k d : Nat) : Nat :=
  unsigned 8 (if s.powered then (s.die k d).temp / 16 else s.mgmt.stbyTemps.getD i 0)

/-- Two bits of GD_STACKSTAT.STATE for each stack. -/
def State.stackStates (s : State) : Nat :=
  (List.range 24).foldl (fun v m => v + (s.stack m).thermal % 4 * 4 ^ m) 0

/-- A telemetry record: 256 bytes (R581). -/
def State.telemetry (s : State) (t : TelemetryIn) : List Byte :=
  let phase := fun (q : Nat) => match tfind s.parts q with
    | some x => if x.st = .absent then 0xFF else x.granted
    | none => 0xFF
  block 256 ([(0, 2, 1), (2, 2, 256), (4, 4, s.mgmt.teleSeq), (8, 8, s.stbyNs / 1000000), (16, 8, if s.powered then s.ltime else 0)] ++
    (List.range 6).map (fun i => (24 + 2 * i, 2, t.railW.getD i 0)) ++ [(36, 2, t.inputW)] ++
    (dieOrder.zipIdx.map fun e => (38 + e.2, 1, s.dieCelsius e.2 e.1.1 e.1.2)) ++
    (List.range 24).map (fun m => (58 + m, 1, unsigned 8 ((s.stack m).temp / 16))) ++ [(82, 6, s.stackStates)] ++
    (List.range 4).map (fun q => (88 + q, 1, phase q)) ++ (List.range 4).map (fun q => (92 + 8 * q, 8, (s.part q).milestone.toNat)) ++
    (List.range 8).map fun d => (124 + 2 * d, 2, s.gateLevel d))

/-- TELEMETRY_RECORD (R581): the end of a telemetry period. -/
def execTelemetryRecord (t : TelemetryIn) (s : State) : Result :=
  if !s.mgmtRuns || s.mgmt.telePeriod = 0 then .next s
  else
    let u := s.pushRecord (s.telemetry t)
    .next { u with mgmt := { u.mgmt with teleSeq := u.mgmt.teleSeq + 1 } }

/-- TELEMETRY (R571, R581). -/
def execTelemetry (ctrl seq period : Nat) (s : State) : Result :=
  mailbox ctrl 0x0031 seq false s fun s =>
    if 65535 < period then (s, (stOpForm, [])) else ({ s with mgmt := { s.mgmt with telePeriod := period } }, (stOk, []))

/-! ### The stream and the reports (R571, R577, R582) -/

/-- How many of the oldest records one response carries: at most `n`, and at most `room` bytes. -/
def recordFit : Nat → Nat → List (List Byte) → Nat
  | 0, _, _ => 0
  | _, _, [] => 0
  | n + 1, room, r :: t => if r.length ≤ room then recordFit n (room - r.length) t + 1 else 0

/-- RECORD_READ (R571, R582): the oldest unread records, removed as read. -/
def execRecordRead (ctrl seq count : Nat) (s : State) : Result :=
  mailbox ctrl 0x0032 seq true s fun s =>
    let n := recordFit count 1024 s.mgmt.records
    let t := { s with mgmt := { s.mgmt with records := s.mgmt.records.drop n } }
    (t.flushLost, (stOk, (s.mgmt.records.take n).flatten))

/-- Tiles of an array die with an outcome of the start-up array check: 33,792 in all (R13, R576). -/
def State.outcomes (s : State) (d o : Nat) : Nat :=
  let ts := s.tilesOf d
  (ts.filter fun e => e.2.outcome == o).length +
    if (tget Tile.fresh s.tileDef d).outcome = o then 33792 - ts.length else 0

/-- ARRAY_REPORT (R571, R577): the counts of blank, kept and unreliable tiles, and the unreliable ones (log entry 38). -/
def execArrayReport (ctrl seq d : Nat) (s : State) : Result :=
  mailbox ctrl 0x0033 seq false s fun s =>
    if 8 ≤ d then (s, (stOpForm, []))
    else
      let bad := ((s.tilesOf d).filter fun e => e.2.outcome == 3).map (·.1)
      (s, (stOk, (([1, 2, 3].map (s.outcomes d) ++ bad).flatMap (natLe 4)).take 1024))

/-- MARK_CLEAR (R571, R577). -/
def execMarkClear (ctrl seq tile : Nat) (s : State) : Result :=
  mailbox ctrl 0x0034 seq false s fun s =>
    if tile = 0x7FFFF then
      ((List.range 8).foldl (fun u d => u.modTiles d fun _ x => { x with mark := 0 }) s, (stOk, []))
    else if !tileExists tile then (s, (stOpForm, []))
    else (s.modTile tile fun x => { x with mark := 0 }, (stOk, []))

/-- BOOT_CFG (R571): ARRAY_KEEP for the next power-on. -/
def execBootCfg (ctrl seq : Nat) (keep : Bool) (s : State) : Result :=
  mailbox ctrl 0x0040 seq false s fun s => ({ s with mgmt := { s.mgmt with arrayKeep := keep } }, (stOk, []))

end Sys2Proof.Machine
end

