-- ==== Sys2Proof/Machine/RowEngine.lean ====
section
/-! DEFINITION. The row engine and the derivatives: ROW and DERIV (R302 to R312). -/

namespace Sys2Proof.Machine

open Sys2Proof

/-! ### The ROW block (R440) -/

/-- Bits that the ROW block defines. -/
def rowFields : List (Nat × Nat) := [(0, 6), (8, 6), (16, 16), (32, 16), (64, 24), (96, 24), (128, 640)]

structure RowArgs where
  fn : Nat
  mask : Nat
  die : Nat
  inBf : Bool
  outFmt : Nat
  slot : Nat
  d : Nat
  rows : Nat
  offset : Int
  scale : Word
  eps : Word
  x : Nat
  out : Nat
  dy : Nat
  gamma : Nat
  beta : Nat
  maskAddr : Nat
  resid : Nat
  dgamma : Nat
  dbeta : Nat
deriving DecidableEq, Repr

def rowArgs (bs : List Byte) : RowArgs where
  fn := bits (field bs 0 1) 0 4
  mask := bits (field bs 0 1) 4 2
  die := bits (field bs 1 1) 0 3
  inBf := bit (field bs 1 1) 3
  outFmt := bits (field bs 1 1) 4 2
  slot := field bs 2 2
  d := bits (field bs 4 4) 0 16 + 1
  rows := bits (field bs 8 4) 0 24 + 1
  offset := signed 24 (field bs 12 4)
  scale := BitVec.ofNat 32 (field bs 16 4)
  eps := BitVec.ofNat 32 (field bs 20 4)
  x := field bs 24 8
  out := field bs 32 8
  dy := field bs 40 8
  gamma := field bs 48 8
  beta := field bs 56 8
  maskAddr := field bs 64 8
  resid := field bs 72 8
  dgamma := field bs 80 8
  dbeta := field bs 88 8

def RowArgs.inFmt (a : RowArgs) : TFmt := if a.inBf then .bf16 else .f32
def RowArgs.fmt (a : RowArgs) : TFmt := outFmtOf a.outFmt
/-- A normalisation (FN 0 and 1), and a function with row records (R305). -/
def RowArgs.norm (a : RowArgs) : Bool := a.fn < 2
def RowArgs.records (a : RowArgs) : Bool := a.fn < 3
/-- β is given: always for LayerNorm, where its address is not 0 for RMSNorm (R302). -/
def RowArgs.hasBeta (a : RowArgs) : Bool := a.fn == 0 || a.beta != 0

/-! ### The forward algorithms (R303, R304) -/

/-- A sum in binary64 in ascending order. -/
def sum64 (xs : List Word64) : Word64 := xs.foldl add64 0
/-- x / D in binary64. -/
def div64 (x : Word64) (d : Nat) : Word64 := r64 ((f64 x).div (flInt d))
def to64 (x : Word) : Word64 := r64 (f32 x)

/-- mean32 and rstd of a row (R303). -/
def normStats (layer : Bool) (eps : Word) (xs : List Word) : Word × Word :=
  let d := xs.length
  let mean := if layer then div64 (sum64 (xs.map to64)) d else 0
  let var := div64 (sum64 (xs.map fun x => let y := sub64 (to64 x) mean; mul64 y y)) d
  (if layer then r32 (f64 mean) else 0, r32 ((f64 var).add (f32 eps)).rsqrt)

/-- xhat of one element, rounded once. -/
def xhat (st : Word × Word) (x : Word) : Word := r32 (((f32 x).add (f32 st.1).neg).mul (f32 st.2))

def negInf32 : Word := 0xFF800000

/-- The largest element; NaN where one is NaN. -/
def maxOf (zs : List Word) : Word :=
  if zs.any fun z => (f32 z).isNan then nan32
  else zs.foldl (fun m z => if (f32 m).lt (f32 z) then z else m) negInf32

/-- max and sum32 of a softmax row (R303, R304). -/
def softStats (zs : List Word) : Word × Word :=
  let m := maxOf zs
  (m, r32 (f64 (sum64 (zs.map fun z => to64 (expOf (sub32 z m))))))

/-- The softmax outputs from max and sum32. -/
def softRow (st : Word × Word) (zs : List Word) : List Word := zs.map fun z => div32 (expOf (sub32 z st.1)) st.2

/-- Element `j` of row `r` is masked (R304). -/
def RowArgs.masked (a : RowArgs) (bits_ : List Byte) (r j : Nat) : Bool :=
  match a.mask with
  | 1 => decide ((r : Int) + a.offset < j)
  | 2 => bit (bits_.getD ((r * a.d + j) / 8) 0).toNat ((r * a.d + j) % 8)
  | _ => false

/-- The scaled and masked elements of a softmax row. -/
def RowArgs.scaled (a : RowArgs) (mb : List Byte) (r : Nat) (xs : List Word) : List Word :=
  xs.zipIdx.map fun x => if a.masked mb r x.2 then negInf32 else mul32 x.1 a.scale
def RowArgs.allMasked (a : RowArgs) (mb : List Byte) (r : Nat) : Bool := (List.range a.d).all fun j => a.masked mb r j

/-- The statistics of a row: its record (R305). -/
def RowArgs.stats (a : RowArgs) (mb : List Byte) (r : Nat) (xs : List Word) : Word × Word :=
  if a.norm then normStats (a.fn == 0) a.eps xs
  else if a.allMasked mb r then (negInf32, 0)
  else softStats (a.scaled mb r xs)

/-- One forward row from its statistics (R303, R304). -/
def RowArgs.forward (a : RowArgs) (mb : List Byte) (gamma beta : List Word) (r : Nat) (st : Word × Word) (xs : List Word) :
    List Word :=
  if a.norm then
    if xs.any fun x => (f32 x).isNan then xs.map fun _ => nan32
    else xs.zipIdx.map fun x => fma32 (xhat st x.1) (gamma.getD x.2 0) (beta.getD x.2 0)
  else if a.fn = 2 then
    if a.allMasked mb r then xs.map fun _ => 0
    else if (f32 st.1).isNan then xs.map fun _ => nan32
    else softRow st (a.scaled mb r xs)
  else xs.map (pointOf a.fn)

/-! ### Checks -/

/-- The address fields that ROW uses: X, OUT and the parameters of its function. -/
def rowSpans (a : RowArgs) (back : Bool) : List Span :=
  let n := a.rows * a.d
  let x := ⟨24, a.x, n * a.inFmt.size, false⟩
  (if back then (if a.fn = 2 && a.slot = 0xFFFF then [x] else []) else [x]) ++
    [⟨32, a.out, tensorBytes a.fmt a.rows a.d, true⟩] ++
    (if back then [⟨40, a.dy, n * a.inFmt.size, false⟩] else []) ++
    (if a.norm then [⟨48, a.gamma, 4 * a.d, false⟩] else []) ++
    (if a.norm && !back && a.hasBeta then [⟨56, a.beta, 4 * a.d, false⟩] else []) ++
    (if a.fn = 2 && a.mask = 2 then [⟨64, a.maskAddr, ceilDiv n 8, false⟩] else []) ++
    (if back && a.norm && a.resid != 0 then [⟨72, a.resid, 4 * n, false⟩] else []) ++
    (if back && a.norm && a.dgamma != 0 then [⟨80, a.dgamma, 4 * a.d, true⟩] else []) ++
    if back && a.norm && a.dbeta != 0 then [⟨88, a.dbeta, 4 * a.d, true⟩] else []

/-- The form checks of ROW (R302, R306, R437). -/
def rowCheck (x : Part) (args : List Byte) (a : RowArgs) (back : Bool) : Option (Nat × List Byte) :=
  firstFail [(reservedAt args 128 rowFields).map fun o => (stOpForm, resultAt o true),
    startCheck x (rowSpans a back),
    formIf (8 < a.fn || (a.fn == 2 && a.mask == 3)) 0 true,
    formIf (!(x.dies 1).contains a.die || a.outFmt == 3) 1 true,
    formIf (!back && a.records && a.slot == 0xFFFF) 2 true,
    formIf (a.fn == 2 && !fin32 a.scale) 16 true,
    rangeCheck x (rowSpans a back)]

/-! ### Side memory (R305, R306) -/

/-- Row records that the side memory holds, and the place of the first one in 8-byte units, after the index (R305). -/
def sideRecords : Nat := 2095104
def sideFirst : Nat := 2048
def GradDie.sideRoom (g : GradDie) (rows : Nat) : Bool := g.sideIdx.length < 1024 && g.sideUsed + rows ≤ sideRecords

/-- Records of a descriptor go to the side memory of its die. -/
def GradDie.record (g : GradDie) (slot : Nat) (rs : List (Word × Word)) : GradDie :=
  { g with
    sideIdx := (slot, rs.length, sideFirst + g.sideUsed, false) :: g.sideIdx
    side := rs.zipIdx.foldl (fun m r => tput m (sideFirst + g.sideUsed + r.2) (r.1.1.toNat + r.1.2.toNat * 2 ^ 32)) g.side
    sideUsed := g.sideUsed + rs.length }

def recordBytes (rs : List (Word × Word)) : List Byte := rs.flatMap fun r => natLe 4 r.1.toNat ++ natLe 4 r.2.toNat
def recordOf (v : Nat) : Word × Word := (BitVec.ofNat 32 (v % 2 ^ 32), BitVec.ofNat 32 (v / 2 ^ 32))

/-! ### ROW forward -/

/-- `n` rows of `d` elements. -/
def State.loadRows (s : State) (f : TFmt) (pl : Place) (rows d : Nat) : List (List Word) :=
  (List.range rows).map fun r => s.loadRow f pl rows d r d
/-- Writes a tensor's rows. -/
def State.writeRows (s : State) (fn : Nat) (f : TFmt) (pl : Place) (ys : List (List Word)) : State :=
  ys.zipIdx.foldl (fun t e => t.writeAll fn pl (rowWrites f ys.length (ys.headD []).length e.2 (convRow f e.1))) s

/-- Where a forward ROW's slot goes: a refusal, or its address and the new state (R294, R296, R306). -/
def State.rowSlot (s : State) (p phase : Nat) (a : RowArgs) : Alloc :=
  if a.slot = 0xFFFF then .placed s 0 none
  else
    let f := if a.norm then a.inFmt else a.fmt
    let data := tensorBytes f a.rows a.d
    let inSide := !a.records || (s.grad a.die).sideRoom a.rows
    match s.allocSlot p a.slot (if inSide then data else roadUp data + 8 * a.rows) phase false with
    | .placed t st at_ => .placed (t.noteSlot p a.slot f.code a.rows a.d) st at_
    | r => r

/-- Records to the side memory, or after the slot's data (R306). -/
def State.putRecords (s : State) (a : RowArgs) (data : Nat) (at_ : Option Nat) (rs : List (Word × Word)) : State :=
  let g := s.grad a.die
  if !a.records then s
  else if g.sideRoom a.rows then s.setGrad a.die (g.record a.slot rs)
  else
    match at_ with
    | none => s
    | some b =>
      let s := (s.count 1 a.die 0x1A4 0 1).writeMem (b + roadUp data) (recordBytes rs)
      if g.sideIdx.length < 1024 then s.setGrad a.die { g with sideIdx := (a.slot, a.rows, 0, true) :: g.sideIdx } else s

/-- The operation of a ROW forward whose slot has its place. -/
def State.runRow (s : State) (q p : Nat) (a : RowArgs) (at_ : Option Nat) : State :=
  let xs := s.loadRows a.inFmt (placeOf a.x) a.rows a.d
  let gamma := if a.norm then words32 a.d (s.readAt (placeOf a.gamma) (4 * a.d)) else []
  let beta := if a.norm && a.hasBeta then words32 a.d (s.readAt (placeOf a.beta) (4 * a.d)) else []
  let mb := if a.fn = 2 && a.mask = 2 then s.readAt (placeOf a.maskAddr) (ceilDiv (a.rows * a.d) 8) else []
  let st := xs.zipIdx.map fun x => a.stats mb x.2 x.1
  let ys := xs.zipIdx.map fun x => a.forward mb gamma beta x.2 (st.getD x.2 (0, 0)) x.1
  let empty := if a.fn = 2 then ((List.range a.rows).filter fun r => a.allMasked mb r).length else 0
  let t := s.writeRows p a.fmt (placeOf a.out) ys
  let t := match at_ with
    | some b => if a.norm then t.writeRows p a.inFmt (.dev b) xs else t.writeRows p a.fmt (.dev b) ys
    | none => t
  let t := t.putRecords a (tensorBytes (if a.norm then a.inFmt else a.fmt) a.rows a.d) at_ st
  (t.count 1 a.die 0x1A4 16 empty).finish q stOk result0

/-! ### ROW backward (R307 to R309) -/

/-- The tensor of a slot, as the step wrote it; what a descriptor reads of it is taken in element order. None where it holds no
tensor, or fewer elements than are to be read (log entry 21). -/
def State.slotTensor (s : State) (p slot rows d : Nat) : Option (TFmt × Nat × Nat) :=
  match tfind (s.part p).slotFmts slot with
  | some (c, n, m) => if rows * d ≤ n * m then some (outFmtOf c, n, m) else none
  | none => none
/-- The first `rows` × `d` elements of a tensor. -/
def State.slotRows (s : State) (f : TFmt × Nat × Nat) (at_ rows d : Nat) : List (List Word) :=
  (chunk d (s.loadRows f.1 (.dev at_) f.2.1 f.2.2).flatten).take rows

/-- The records of a slot: in the side memory of the die, or after the slot's data; none where they must be computed again
(R307). -/
def State.records (s : State) (a : RowArgs) (slotAt len : Nat) : Option (List (Word × Word)) :=
  let g := s.grad a.die
  match g.sideIdx.find? fun e => e.1 == a.slot with
  | some (_, n, off, false) => some ((List.range n).map fun r => recordOf (tget 0 g.side (off + r)))
  | some (_, n, _, true) => some ((List.range n).map fun r => recordOf (leNat (memRead s.mem (slotAt + len - 8 * n + 8 * r) 8)))
  | none => none

/-- Normalisation backward of one row: dx before the residual, and xhat (R308). -/
def normBack (layer : Bool) (gamma : List Word) (st : Word × Word) (xs dy : List Word) : List Word × List Word :=
  let d := xs.length
  let xh := xs.map (xhat st)
  let g := dy.zipIdx.map fun y => r64 ((f32 y.1).mul (f32 (gamma.getD y.2 0)))
  let a := if layer then div64 (sum64 g) d else 0
  let b := div64 (sum64 (List.zipWith (fun u v => mul64 u (to64 v)) g xh)) d
  (List.zipWith (fun u v => r32 (f64 (mul64 (to64 st.2) (sub64 (sub64 u a) (mul64 (to64 v) b))))) g xh, xh)

/-- Softmax backward of one row (R309). -/
def softBack (a : RowArgs) (mb : List Byte) (r : Nat) (ys dy : List Word) : List Word :=
  let c := sum64 (List.zipWith (fun y v => mul64 (to64 y) (to64 v)) ys dy)
  (List.zipWith (fun y v => (y, v)) ys dy).zipIdx.map fun e =>
    if a.masked mb r e.2 || a.allMasked mb r then 0
    else r32 (f64 (mul64 (mul64 (to64 a.scale) (to64 e.1.1)) (sub64 (to64 e.1.2) c)))

/-- Adds column sums in binary64 to binary32 values, each with one rounding (R308). -/
def State.addColumns (s : State) (fn : Nat) (v : Nat) (sums : List Word64) : State :=
  if v = 0 then s
  else
    let old := words32 sums.length (s.readAt (placeOf v) (4 * sums.length))
    s.writeAt fn (placeOf v) (bytes32 (List.zipWith (fun o t => r32 ((f32 o).add (f64 t))) old sums))

/-- Sums of a column over rows, ascending. -/
def columnSums (d : Nat) (rows : List (List Word64)) : List Word64 := (List.range d).map fun j => sum64 (rows.map fun r => r.getD j 0)

/-- The operation of a ROW backward: `saved` holds x, or y where the slot holds it. -/
def State.runRowBack (s : State) (q p : Nat) (a : RowArgs) (saved : List (List Word)) (isY : Bool)
    (rs : Option (List (Word × Word))) (release : Bool) : State :=
  let dy := s.loadRows a.inFmt (placeOf a.dy) a.rows a.d
  let mb := if a.fn = 2 && a.mask = 2 then s.readAt (placeOf a.maskAddr) (ceilDiv (a.rows * a.d) 8) else []
  let st := fun (r : Nat) (xs : List Word) => match rs with
    | some v => v.getD r (0, 0)
    | none => a.stats mb r xs
  let pairs := saved.zip dy
  let done := fun (t : State) => (t.finish q stOk result0).releaseSlot p q a.slot release
  if a.norm then
    let gamma := words32 a.d (s.readAt (placeOf a.gamma) (4 * a.d))
    let os := pairs.zipIdx.map fun e => normBack (a.fn == 0) gamma (st e.2 e.1.1) e.1.1 e.1.2
    let dx := os.zipIdx.map fun e =>
      if a.resid = 0 then e.1.1
      else List.zipWith add32 (s.loadRow .f32 (placeOf a.resid) a.rows a.d e.2 a.d) e.1.1
    let t := s.writeRows p a.fmt (placeOf a.out) dx
    let t := t.addColumns p a.dgamma (columnSums a.d (List.zipWith (fun o y =>
      List.zipWith (fun u v => r64 ((f32 u).mul (f32 v))) y o.2) os dy))
    done (t.addColumns p a.dbeta (columnSums a.d (dy.map fun y => y.map to64)))
  else if a.fn = 2 then
    let dx := pairs.zipIdx.map fun e =>
      let ys := if isY then e.1.1 else a.forward mb [] [] e.2 (st e.2 e.1.1) e.1.1
      softBack a mb e.2 ys e.1.2
    done (s.writeRows p a.fmt (placeOf a.out) dx)
  else
    done (s.writeRows p a.fmt (placeOf a.out) (pairs.map fun e => List.zipWith (fun y v => mul32 v (derivOf a.fn y)) e.1 e.2))

/-- ROW backward: its slot, or x at X for a softmax that names none. -/
def State.startRowBack (s : State) (q p : Nat) (a : RowArgs) (release : Bool) : State :=
  let xs := spanAccess (rowSpans a true)
  if a.fn = 2 && a.slot = 0xFFFF then
    s.access q xs fun s => s.runRowBack q p a (s.loadRows a.inFmt (placeOf a.x) a.rows a.d) false none release
  else
    match s.readSlot p a.slot with
    | .inl st => s.fail q st [(false, .dev (s.dirAddr p a.slot), 16)]
    | .inr (at_, len) =>
      match s.slotTensor p a.slot a.rows a.d with
      | none => s.finish q stOpForm (resultAt 2 true)
      | some f =>
        let all := xs ++ [(false, .dev at_, len)]
        s.access q all fun s => s.runRowBack q p a (s.slotRows f at_ a.rows a.d) (!a.norm) (s.records a at_ len) release

/-- ROW (R302 to R309). A backward ROW carries phase code 2 (R282). -/
def execRow (q : Nat) (s : State) : Result :=
  onRunning q 0x13 s fun run =>
    let p := s.queuePart q
    let a := rowArgs run.args
    let back := dFlag run.desc 0
    if back && dPhase run.desc != 2 then s.finish q stPhaseOrder (resultAt 1 false)
    else
      match rowCheck (s.part p) run.args a back with
      | some (st, res) => s.finish q st res
      | none =>
        if back then s.startRowBack q p a (dFlag run.desc 1)
        else
          let xs := spanAccess (rowSpans a false)
          s.access q xs fun s =>
            match s.rowSlot p (dPhase run.desc) a with
            | .refused st => s.fail q st [(false, .dev (s.dirAddr p a.slot), 16)]
            | .placed t _ at_ =>
              let n := tensorBytes (if a.norm then a.inFmt else a.fmt) a.rows a.d
              s.slotsWritable q [(at_, n)] fun _ => t.runRow q p a at_

/-! ### DERIV (R310 to R312) -/

structure DerivArgs where
  fn : Nat
  pool : Nat
  win : Nat
  die : Nat
  slot : Nat
  cols : Nat
  rows : Nat
  dyFmt : TFmt
  outFmt : TFmt
  layer : Nat
  dy : Nat
  saved : Nat
  out : Nat
deriving DecidableEq, Repr

def derivArgs (d : List Byte) : DerivArgs where
  fn := bits (field d 24 1) 0 4
  pool := bits (field d 24 1) 4 2
  win := 2 ^ bits (field d 25 1) 0 3
  die := bits (field d 25 1) 3 3
  slot := field d 26 2
  cols := field d 28 4
  rows := field d 32 4
  dyFmt := outFmtOf (bits (field d 36 1) 0 2)
  outFmt := outFmtOf (bits (field d 36 1) 2 2)
  layer := field d 38 2
  dy := field d 40 8
  saved := field d 48 8
  out := field d 56 8

/-- The window of a pooled derivative. -/
def DerivArgs.window (a : DerivArgs) : Nat := if a.pool = 0 then 1 else a.win
/-- Rows of dy: one for each window of the products (log entry 22). -/
def DerivArgs.dyRows (a : DerivArgs) : Nat := ceilDiv a.rows a.window
/-- The saved tensor is the pre-activation copy: for the table and for max pooling (R310, R312). -/
def DerivArgs.preact (a : DerivArgs) : Bool := a.fn == 2 || a.pool == 3
/-- A saved tensor is read. -/
def DerivArgs.reads (a : DerivArgs) : Bool := a.fn != 0 || a.pool == 3
/-- A layer is needed: its table, or its activation. -/
def DerivArgs.needsLayer (a : DerivArgs) : Bool := a.fn == 2 || a.pool == 3

/-- The address fields that DERIV uses; they stand in the descriptor. -/
def derivSpans (a : DerivArgs) : List Span :=
  [⟨40, a.dy, tensorBytes a.dyFmt a.dyRows a.cols, false⟩] ++
    (if a.reads && a.slot = 0xFFFF then
      [⟨48, a.saved, tensorBytes (if a.preact then .bf16 else a.dyFmt) a.rows a.cols, false⟩] else []) ++
    [⟨56, a.out, tensorBytes a.outFmt a.rows a.cols, true⟩]

/-- A value is larger than another, +0 being larger than −0 (R131). -/
def larger32 (a b : Word) : Bool :=
  let x := f32 a
  let y := f32 b
  y.lt x || (x.isZero && !x.sign && y.isZero && y.sign)

/-- The gradient of the pooled output that reaches each product, by column (R312). -/
def poolBack (a : DerivArgs) (n r : Nat) (g : Word) (vals : List Word) : Word :=
  if a.pool = 2 then
    (if 2 ^ Nat.log2 n = n then r32 ((f32 g).scale (-(Nat.log2 n : Int))) else div32 g (int32 n))
  else if a.pool = 3 then
    let best := (List.range vals.length).foldl
      (fun b i => if larger32 (vals.getD i 0) (vals.getD b 0) then i else b) 0
    if r = best then g else 0
  else g

/-- dx of DERIV: pooling first, then f′ (R310, R312). -/
def derivRows (a : DerivArgs) (l : Option Layer) (dy saved : List (List Word)) : List (List Word) :=
  let table := (l.map (·.actTable)).getD []
  let act := fun (x : Word) => activate ((l.map (·.act)).getD 0) table x
  (List.range a.rows).map fun r =>
    let w := r / a.window
    let lo := w * a.window
    let n := min a.window (a.rows - lo)
    (List.range a.cols).map fun c =>
      let at_ := fun (i : Nat) => (saved.getD i []).getD c 0
      let vals := if a.pool = 3 then (List.range n).map fun i => act (at_ (lo + i)) else []
      let g := poolBack a n (r - lo) ((dy.getD w []).getD c 0) vals
      let p := at_ r
      let f := if a.fn = 2 then (if (f32 p).isNan then nan32 else tabA table (tabIndex table p))
        else derivOf a.fn (if a.preact then act p else p)
      if a.fn = 0 then g else mul32 g f

/-- DERIV's checks (R310, R437). -/
def derivCheck (x : Part) (a : DerivArgs) : Option (Nat × List Byte) :=
  firstFail [formIf (8 < a.fn) 24 false, formIf (16 < a.win || !(x.dies 1).contains a.die) 25 false,
    x.badRange ((derivSpans a).map fun e => (e.v, 3, e.n, e.off, false))]

/-- Where DERIV finds its saved tensor: place, format, rows, columns, bytes. -/
structure Saved where
  at_ : Place
  fmt : TFmt
  rows : Nat
  cols : Nat
  len : Nat

/-- DERIV's operation once its saved tensor is found. -/
def State.runDeriv (s : State) (q p : Nat) (a : DerivArgs) (l : Option Layer) (saved : Option Saved) (release : Bool) : State :=
  let xs := spanAccess (derivSpans a) ++ (match saved with | some v => [(false, v.at_, v.len)] | none => [])
  s.access q xs fun s =>
    let dy := s.loadRows a.dyFmt (placeOf a.dy) a.dyRows a.cols
    let vs := match saved with
      | some v => (chunk a.cols (s.loadRows v.fmt v.at_ v.rows v.cols).flatten).take a.rows
      | none => []
    ((s.writeRows p a.outFmt (placeOf a.out) (derivRows a l dy vs)).finish q stOk result0).releaseSlot p q a.slot release

/-- The saved tensor that DERIV reads: none, at SAVED, or in the slot; or why it cannot (R310, R298). A slot that is only released
must lie in the partition too (R314). -/
def State.derivSaved (s : State) (p : Nat) (a : DerivArgs) (release : Bool) : (Nat × List Byte) ⊕ Option Saved :=
  if !a.reads then
    if release && a.slot != 0xFFFF then
      match s.readSlot p a.slot with
      | .inl st => .inl (st, result0)
      | .inr _ => .inr none
    else .inr none
  else if a.slot = 0xFFFF then
    let f := if a.preact then TFmt.bf16 else a.dyFmt
    .inr (some ⟨placeOf a.saved, f, a.rows, a.cols, tensorBytes f a.rows a.cols⟩)
  else
    match s.readSlot p a.slot with
    | .inl st => .inl (st, result0)
    | .inr (at_, len) =>
      match s.slotTensor p a.slot a.rows a.cols with
      | none => .inl (stOpForm, resultAt 26 false)
      | some f => .inr (some ⟨.dev at_, f.1, f.2.1, f.2.2, len⟩)

/-- DERIV (R310 to R312). -/
def execDeriv (q : Nat) (s : State) : Result :=
  onRunning q 0x16 s fun run =>
    let p := s.queuePart q
    let a := derivArgs run.desc
    match derivCheck (s.part p) a with
    | some (st, res) => s.finish q st res
    | none =>
      let l := findLayer run.work.layers a.layer
      if a.needsLayer && l.isNone then s.finish q stMapAbsent result0
      else
        match s.derivSaved p a (dFlag run.desc 0) with
        | .inl (st, res) => (s.countBad st [(false, .dev (s.dirAddr p a.slot), 16)]).finish q st res
        | .inr saved => s.runDeriv q p a l saved (dFlag run.desc 0)

end Sys2Proof.Machine
end

