-- ==== Sys2Proof/Machine/Dispatch.lean ====
section
/-! DEFINITION. The meaning of every command: one arm per constructor of Instr. -/

namespace Sys2Proof.Machine

open Sys2Proof

def exec (i : Instr) (s : State) : Host.Outcome State Fault Refusal :=
  match i with
  | .doorbell fn slot width v => Sys2Proof.Machine.execDoorbell fn slot width v s
  | .descriptorFetch q r => Sys2Proof.Machine.execDescriptorFetch q r s
  | .descriptorBegin q r => Sys2Proof.Machine.execDescriptorBegin q r s
  | .budgetHandover p => Sys2Proof.Machine.execBudgetHandover p s
  | .completionPost q ok => Sys2Proof.Machine.execCompletionPost q ok s
  | .eqOverflow e => Sys2Proof.Machine.execEqOverflow e s
  | .nop q => Sys2Proof.Machine.execNop q s
  | .waypostSet q ok => Sys2Proof.Machine.execWaypostSet q ok s
  | .copy q r ok => Sys2Proof.Machine.execCopy q r ok s
  | .holdRelease q => Sys2Proof.Machine.execHoldRelease q s
  | .mapLoad q r => Sys2Proof.Machine.execMapLoad q r s
  | .groupLoad q r => Sys2Proof.Machine.execGroupLoad q r s
  | .vprogLoad q r => Sys2Proof.Machine.execVprogLoad q r s
  | .collGroup q r => Sys2Proof.Machine.execCollGroup q r s
  | .forward q => Sys2Proof.Machine.execForward q s
  | .dispatch q => Sys2Proof.Machine.execDispatch q s
  | .matmul q slabErr => Sys2Proof.Machine.execMatmul q slabErr s
  | .row q => Sys2Proof.Machine.execRow q s
  | .ingrad q slabErr => Sys2Proof.Machine.execIngrad q slabErr s
  | .wgrad q slabErr => Sys2Proof.Machine.execWgrad q slabErr s
  | .deriv q => Sys2Proof.Machine.execDeriv q s
  | .vprog q => Sys2Proof.Machine.execVprog q s
  | .reduceScatter q => Sys2Proof.Machine.execReduceScatter q s
  | .allGather q => Sys2Proof.Machine.execAllGather q s
  | .allReduce q => Sys2Proof.Machine.execAllReduce q s
  | .broadcast q => Sys2Proof.Machine.execBroadcast q s
  | .orderGather q => Sys2Proof.Machine.execOrderGather q s
  | .updateNorm q => Sys2Proof.Machine.execUpdateNorm q s
  | .updateApply q => Sys2Proof.Machine.execUpdateApply q s
  | .pass2BlockResume q => Sys2Proof.Machine.execPass2BlockResume q s
  | .updateInit q => Sys2Proof.Machine.execUpdateInit q s
  | .program q => Sys2Proof.Machine.execProgram q s
  | .programBatch tile readings => Sys2Proof.Machine.execProgramBatch tile readings s
  | .milestone q => Sys2Proof.Machine.execMilestone q s
  | .milestoneClosure p => Sys2Proof.Machine.execMilestoneClosure p s
  | .snapshot q ok => Sys2Proof.Machine.execSnapshot q ok s
  | .snapshotDeferredStart q ok => Sys2Proof.Machine.execSnapshotDeferredStart q ok s
  | .restore q r => Sys2Proof.Machine.execRestore q r s
  | .vectorLatch tile => Sys2Proof.Machine.execVectorLatch tile s
  | .segmentSample tile dev => Sys2Proof.Machine.execSegmentSample tile dev s
  | .edgePipeline tile => Sys2Proof.Machine.execEdgePipeline tile s
  | .partialPacket tile => Sys2Proof.Machine.execPartialPacket tile s
  | .residualArrival tile seq values => Sys2Proof.Machine.execResidualArrival tile seq values s
  | .inputPieceArrival tile => Sys2Proof.Machine.execInputPieceArrival tile s
  | .idleTimeout tile => Sys2Proof.Machine.execIdleTimeout tile s
  | .wakeAdmit die => Sys2Proof.Machine.execWakeAdmit die s
  | .tileWakeDone tile => Sys2Proof.Machine.execTileWakeDone tile s
  | .tollAdmit die => Sys2Proof.Machine.execTollAdmit die s
  | .debtCheck die drawn => Sys2Proof.Machine.execDebtCheck die drawn s
  | .railMeasure p gradientMw memoryMw => Sys2Proof.Machine.execRailMeasure p gradientMw memoryMw s
  | .refreshStart die => Sys2Proof.Machine.execRefreshStart die s
  | .refreshComplete tile => Sys2Proof.Machine.execRefreshComplete tile s
  | .probeStart die => Sys2Proof.Machine.execProbeStart die s
  | .probeScanDone tile meas reads => Sys2Proof.Machine.execProbeScanDone tile meas reads s
  | .repairDone tile => Sys2Proof.Machine.execRepairDone tile s
  | .reserveProgrammed tile => Sys2Proof.Machine.execReserveProgrammed tile s
  | .refreshReq via die w => Sys2Proof.Machine.execRefreshReq via die w s
  | .probeReq via die w => Sys2Proof.Machine.execProbeReq via die w s
  | .retireReq via die w => Sys2Proof.Machine.execRetireReq via die w s
  | .footpathGo via die w => Sys2Proof.Machine.execFootpathGo via die w s
  | .footpathComplete die errs => Sys2Proof.Machine.execFootpathComplete die errs s
  | .queueEnable via hub w => Sys2Proof.Machine.execQueueEnable via hub w s
  | .queueDisable via hub w => Sys2Proof.Machine.execQueueDisable via hub w s
  | .completionRingEnable via hub w => Sys2Proof.Machine.execCompletionRingEnable via hub w s
  | .eventQueueEnable via hub w => Sys2Proof.Machine.execEventQueueEnable via hub w s
  | .portEnableWrite via hub w => Sys2Proof.Machine.execPortEnableWrite via hub w s
  | .latchedPairRead via kind die off => Sys2Proof.Machine.execLatchedPairRead via kind die off s
  | .wmFifoRead via => Sys2Proof.Machine.execWmFifoRead via s
  | .registerWrite fn addr width v => Sys2Proof.Machine.execRegisterWrite fn addr width v s
  | .hostWindowRead fn off => Sys2Proof.Machine.execHostWindowRead fn off s
  | .hostWindowWrite fn off line => Sys2Proof.Machine.execHostWindowWrite fn off line s
  | .configRequest fn => Sys2Proof.Machine.execConfigRequest fn s
  | .snoop addr => Sys2Proof.Machine.execSnoop addr s
  | .functionLevelReset fn => Sys2Proof.Machine.execFunctionLevelReset fn s
  | .perst => Sys2Proof.Machine.execPerst s
  | .powerBrakeAssert => Sys2Proof.Machine.execPowerBrakeAssert s
  | .powerBrakeRelease => Sys2Proof.Machine.execPowerBrakeRelease s
  | .dieTempSample kind die sensors => Sys2Proof.Machine.execDieTempSample kind die sensors s
  | .clockFault kind die source ppm => Sys2Proof.Machine.execClockFault kind die source ppm s
  | .inputFault above centivolts => Sys2Proof.Machine.execInputFault above centivolts s
  | .powerOn x => Sys2Proof.Machine.execPowerOn x s
  | .recoveryImage bank images => Sys2Proof.Machine.execRecoveryImage bank images s
  | .mgmtRecordWrite => Sys2Proof.Machine.execMgmtRecordWrite s
  | .standbyCopy => Sys2Proof.Machine.execStandbyCopy s
  | .mgmtFailover reason => Sys2Proof.Machine.execMgmtFailover reason s
  | .telemetryRecord t => Sys2Proof.Machine.execTelemetryRecord t s
  | .standbyTempSample temps => Sys2Proof.Machine.execStandbyTempSample temps s
  | .registerPathRead ctrl die off => Sys2Proof.Machine.execRegisterPathRead ctrl die off s
  | .registerPathWrite ctrl die off w => Sys2Proof.Machine.execRegisterPathWrite ctrl die off w s
  | .scrub ctrl seq quads => Sys2Proof.Machine.execScrub ctrl seq quads s
  | .scrubComplete quads found => Sys2Proof.Machine.execScrubComplete quads found s
  | .assign ctrl seq quads => Sys2Proof.Machine.execAssign ctrl seq quads s
  | .stop ctrl seq quads => Sys2Proof.Machine.execStop ctrl seq quads s
  | .resume ctrl seq quads => Sys2Proof.Machine.execResume ctrl seq quads s
  | .layout ctrl seq code => Sys2Proof.Machine.execLayout ctrl seq code s
  | .farAssign ctrl seq quads base gib => Sys2Proof.Machine.execFarAssign ctrl seq quads base gib s
  | .reset ctrl seq scope => Sys2Proof.Machine.execReset ctrl seq scope s
  | .fwWrite ctrl seq bank off bytes => Sys2Proof.Machine.execFwWrite ctrl seq bank off bytes s
  | .fwCommit ctrl seq bank => Sys2Proof.Machine.execFwCommit ctrl seq bank s
  | .keyRecord ctrl seq alg slot activate digest record => Sys2Proof.Machine.execKeyRecord ctrl seq alg slot activate digest record s
  | .arbRaise ctrl seq value => Sys2Proof.Machine.execArbRaise ctrl seq value s
  | .report ctrl seq quads nonce => Sys2Proof.Machine.execReport ctrl seq quads nonce s
  | .telemetry ctrl seq period => Sys2Proof.Machine.execTelemetry ctrl seq period s
  | .recordRead ctrl seq count => Sys2Proof.Machine.execRecordRead ctrl seq count s
  | .arrayReport ctrl seq die => Sys2Proof.Machine.execArrayReport ctrl seq die s
  | .markClear ctrl seq tile => Sys2Proof.Machine.execMarkClear ctrl seq tile s
  | .certRead ctrl seq alg off => Sys2Proof.Machine.execCertRead ctrl seq alg off s
  | .bootCfg ctrl seq keep => Sys2Proof.Machine.execBootCfg ctrl seq keep s
  | .getVersion fn => Sys2Proof.Machine.execGetVersion fn s
  | .getCapabilities fn => Sys2Proof.Machine.execGetCapabilities fn s
  | .negotiateAlgorithms fn => Sys2Proof.Machine.execNegotiateAlgorithms fn s
  | .getDigests fn => Sys2Proof.Machine.execGetDigests fn s
  | .getCertificate fn slot off len => Sys2Proof.Machine.execGetCertificate fn slot off len s
  | .challenge fn nonce => Sys2Proof.Machine.execChallenge fn nonce s
  | .getMeasurements fn block nonce => Sys2Proof.Machine.execGetMeasurements fn block nonce s
  | .keyExchange fn random => Sys2Proof.Machine.execKeyExchange fn random s
  | .finish fn verified => Sys2Proof.Machine.execFinish fn verified s
  | .endSession fn => Sys2Proof.Machine.execEndSession fn s
  | .linkFlitReceive port flit uncorr => Sys2Proof.Machine.execLinkFlitReceive port flit uncorr s
  | .replayRequest port ack => Sys2Proof.Machine.execReplayRequest port ack s
  | .replayTimeout port => Sys2Proof.Machine.execReplayTimeout port s
  | .trainComplete port t => Sys2Proof.Machine.execTrainComplete port t s
  | .trainTimeout port => Sys2Proof.Machine.execTrainTimeout port s
  | .linkSignalLoss port => Sys2Proof.Machine.execLinkSignalLoss port s
  | .packetReceive port => Sys2Proof.Machine.execPacketReceive port s
  | .readyReceive p r => Sys2Proof.Machine.execReadyReceive p r s
  | .readyResend p group tag => Sys2Proof.Machine.execReadyResend p group tag s
  | .collDataReceive p => Sys2Proof.Machine.execCollDataReceive p s
  | .abortReceive p a => Sys2Proof.Machine.execAbortReceive p a s
  | .collSettleExpiry p group tag => Sys2Proof.Machine.execCollSettleExpiry p group tag s
  | .collWatchdogExpiry p group tag => Sys2Proof.Machine.execCollWatchdogExpiry p group tag s
  | .stackTempSample m t => Sys2Proof.Machine.execStackTempSample m t s
  | .stackReturn m failedLanes => Sys2Proof.Machine.execStackReturn m failedLanes s
  | .patrolRead m rb errs laneErrs => Sys2Proof.Machine.execPatrolRead m rb errs laneErrs s
  | .farTimeout fm f => Sys2Proof.Machine.execFarTimeout fm f s
  | .farLinkDown fm => Sys2Proof.Machine.execFarLinkDown fm s
  | .spillCopyDone p slot ok => Sys2Proof.Machine.execSpillCopyDone p slot ok s
  | .twinEnable via w => Sys2Proof.Machine.execTwinEnable via w s
  | .twinDetach via w => Sys2Proof.Machine.execTwinDetach via w s
  | .twinPull via w => Sys2Proof.Machine.execTwinPull via w s
  | .hello m => Sys2Proof.Machine.execHello m s
  | .chain edChain mldsaChain => Sys2Proof.Machine.execChain edChain mldsaChain s
  | .ident record => Sys2Proof.Machine.execIdent record s
  | .confirm accept => Sys2Proof.Machine.execConfirm accept s
  | .pairingTimeout => Sys2Proof.Machine.execPairingTimeout s
  | .heartbeatSend => Sys2Proof.Machine.execHeartbeatSend s
  | .heartbeatReceive h => Sys2Proof.Machine.execHeartbeatReceive h s
  | .twinHeartbeatMiss => Sys2Proof.Machine.execTwinHeartbeatMiss s
  | .detachEnd => Sys2Proof.Machine.execDetachEnd s
  | .mirrorReceived toReturnSlot image whole => Sys2Proof.Machine.execMirrorReceived toReturnSlot image whole s
  | .swTrig via w => Sys2Proof.Machine.execSwTrig via w s
  | .abort via w => Sys2Proof.Machine.execAbort via w s
  | .flush via w => Sys2Proof.Machine.execFlush via w s
  | .trigInEdge rising => Sys2Proof.Machine.execTrigInEdge rising s
  | .waymarkStep uv => Sys2Proof.Machine.execWaymarkStep uv s
  | .signalPresent port => Sys2Proof.Machine.execSignalPresent port s
  | .farLinkTrained fm => Sys2Proof.Machine.execFarLinkTrained fm s
  | .rangeZeroingComplete base => Sys2Proof.Machine.execRangeZeroingComplete base s
  | .mirrorSendComplete => Sys2Proof.Machine.execMirrorSendComplete s
  | .returnConfirmed => Sys2Proof.Machine.execReturnConfirmed s
  | .returnRequestReceive => Sys2Proof.Machine.execReturnRequestReceive s
  | .hdmDecoderCommit fn committed => Sys2Proof.Machine.execHdmDecoderCommit fn committed s
  | .ideKeyManagement fn stream keySet activate key => Sys2Proof.Machine.execIdeKeyManagement fn stream keySet activate key s

end Sys2Proof.Machine
end

