-- ==== Sys2Proof/WellFormed.lean ====
section
/-! DEFINITION. Which commands name hardware that the module has, in fields of the widths the spec gives. -/

namespace Sys2Proof

/-- PCIe functions 0 to 3 (R425). -/
def okFunction (fn : Nat) : Bool := fn < 4

/-- A register access through a function of the module, or the owner's path. -/
def okVia : Via → Bool
  | .tenant fn => okFunction fn
  | .owner => true

/-- Queues 0 to 65,535, 16,384 of each hub die (R427). -/
def okQueue (q : Nat) : Bool := q < 65536

/-- A 19-bit tile identifier whose block is at most 527 (R13). -/
def okTile (t : Nat) : Bool := t < 2 ^ 19 && t / 64 % 1024 < 528

/-- Array and gradient dies 0 to 7, hub dies 0 to 3 (the package at a glance of 00). -/
def okDie : DieKind → Nat → Bool
  | .ad, n => n < 8
  | .gd, n => n < 8
  | .hd, n => n < 4

/-- Quadrants 0 to 3 (R8). -/
def okQuadrant (p : Nat) : Bool := p < 4

/-- P0 to P7, and T as 8 (R360). -/
def okPort (p : Nat) : Bool := p < 9

/-- Stacks M0 to M23 (R7). -/
def okStack (m : Nat) : Bool := m < 24

/-- FM0 and FM1 (R407). -/
def okFarPort (f : Nat) : Bool := f < 2

/-- The primary (0) and the standby (1) controller (R566). -/
def okController (c : Nat) : Bool := c < 2

/-- A register access is 4 or 8 bytes wide, naturally aligned (R464). -/
def okAccess (addr width : Nat) : Bool := (width == 4 || width == 8) && addr % width == 0

/-- A quadrant mask of 4 bits that names a quadrant. -/
def okQuads (m : Nat) : Bool := 0 < m && m < 16

/-- A nonce is 32 bytes (R525, R536). -/
def okNonce (bs : List Byte) : Bool := bs.length == 32

/-- A host-window line is 64 bytes (R412). -/
def okLine (bs : List Byte) : Bool := bs.length == 64

/-- A link flit is 256 bytes (R362). -/
def okFlit (bs : List Byte) : Bool := bs.length == 256

/-- Every operand of a command lies in the field the spec gives it. -/
def Instr.wellFormed : Instr → Bool
  | .doorbell fn slot width _ => okFunction fn && slot < 65536 && okAccess (slot * 8) width
  | .descriptorFetch q _ => okQueue q
  | .descriptorBegin q _ => okQueue q
  | .budgetHandover p => okQuadrant p
  | .completionPost q _ => okQueue q
  | .eqOverflow e => okQuadrant e.p
  | .nop q => okQueue q
  | .waypostSet q _ => okQueue q
  | .copy q _ _ => okQueue q
  | .holdRelease q => okQueue q
  | .mapLoad q _ => okQueue q
  | .groupLoad q _ => okQueue q
  | .vprogLoad q _ => okQueue q
  | .collGroup q _ => okQueue q
  | .forward q => okQueue q
  | .dispatch q => okQueue q
  | .matmul q _ => okQueue q
  | .row q => okQueue q
  | .ingrad q _ => okQueue q
  | .wgrad q _ => okQueue q
  | .deriv q => okQueue q
  | .vprog q => okQueue q
  | .reduceScatter q => okQueue q
  | .allGather q => okQueue q
  | .allReduce q => okQueue q
  | .broadcast q => okQueue q
  | .orderGather q => okQueue q
  | .updateNorm q => okQueue q
  | .updateApply q => okQueue q
  | .pass2BlockResume q => okQueue q
  | .updateInit q => okQueue q
  | .program q => okQueue q
  | .programBatch t _ => okTile t
  | .milestone q => okQueue q
  | .milestoneClosure p => okQuadrant p
  | .snapshot q _ => okQueue q
  | .snapshotDeferredStart q _ => okQueue q
  | .restore q _ => okQueue q
  | .vectorLatch t => okTile t
  | .segmentSample t _ => okTile t
  | .edgePipeline t => okTile t
  | .partialPacket t => okTile t
  | .residualArrival t _ _ => okTile t
  | .inputPieceArrival t => okTile t
  | .idleTimeout t => okTile t
  | .wakeAdmit d => okDie .ad d
  | .tileWakeDone t => okTile t
  | .tollAdmit d => okDie .ad d
  | .debtCheck d _ => okDie .ad d
  | .railMeasure p _ _ => okQuadrant p
  | .refreshStart d => okDie .ad d
  | .refreshComplete t => okTile t
  | .probeStart d => okDie .ad d
  | .probeScanDone t _ _ => okTile t
  | .repairDone t => okTile t
  | .reserveProgrammed t => okTile t
  | .refreshReq v d _ => okVia v && okDie .ad d
  | .probeReq v d _ => okVia v && okDie .ad d
  | .retireReq v d _ => okVia v && okDie .ad d
  | .footpathGo v d _ => okVia v && okDie .gd d
  | .footpathComplete d _ => okDie .gd d
  | .queueEnable v d _ => okVia v && okDie .hd d
  | .queueDisable v d _ => okVia v && okDie .hd d
  | .completionRingEnable v d _ => okVia v && okDie .hd d
  | .eventQueueEnable v d _ => okVia v && okDie .hd d
  | .portEnableWrite v d _ => okVia v && okDie .hd d
  | .latchedPairRead v k d off => okVia v && okDie k d && okAccess off 4
  | .wmFifoRead v => okVia v
  | .registerWrite fn addr width _ => okFunction fn && okAccess addr width && addr < 2 ^ 26
  | .hostWindowRead fn off => okFunction fn && off % 64 == 0
  | .hostWindowWrite fn off line => okFunction fn && off % 64 == 0 && okLine line
  | .configRequest fn => okFunction fn
  | .snoop _ => true
  | .functionLevelReset fn => okFunction fn
  | .perst => true
  | .powerBrakeAssert => true
  | .powerBrakeRelease => true
  | .dieTempSample k d ts => okDie k d && ts.length == 4
  | .clockFault k d _ _ => okDie k d
  | .inputFault _ _ => true
  | .powerOn x => x.blankTiles.all okTile && x.refSums.all fun e => okTile e.1
  | .recoveryImage bank _ => bank < 2
  | .mgmtRecordWrite => true
  | .standbyCopy => true
  | .mgmtFailover _ => true
  | .telemetryRecord _ => true
  | .standbyTempSample ts => ts.length == 20
  | .registerPathRead c _ off => okController c && okAccess off 4
  | .registerPathWrite c _ off _ => okController c && okAccess off 4
  | .scrub c _ m => okController c && okQuads m
  | .scrubComplete m found => okQuads m && found.stuck.all (fun e => e.2 < 1056 * 1152 * 2) &&
      found.refs.all fun e => e.2.1 < 1056 * 1152 * 2 && 1088 ≤ e.2.1 / 2 % 1152 && e.2.1 / 2 % 1152 < 1120
  | .assign c _ m => okController c && okQuads m
  | .stop c _ m => okController c && okQuads m
  | .resume c _ m => okController c && okQuads m
  | .layout c _ _ => okController c
  | .farAssign c _ m _ _ => okController c && okQuads m
  | .reset c _ _ => okController c
  | .fwWrite c _ bank _ bytes => okController c && bank < 2 && bytes.length ≤ 1016
  | .fwCommit c _ bank => okController c && bank < 2
  | .keyRecord c _ alg slot _ d r =>
      okController c && alg < 2 && slot < 4 && d.length == 64 && r.length ≤ 1024
  | .arbRaise c _ _ => okController c
  | .report c _ m n => okController c && okQuads m && okNonce n
  | .telemetry c _ _ => okController c
  | .recordRead c _ _ => okController c
  | .arrayReport c _ d => okController c && okDie .ad d
  | .markClear c _ t => okController c && (okTile t || t == 0x7FFFF)
  | .certRead c _ alg _ => okController c && alg < 2
  | .bootCfg c _ _ => okController c
  | .getVersion fn => okFunction fn
  | .getCapabilities fn => okFunction fn
  | .negotiateAlgorithms fn => okFunction fn
  | .getDigests fn => okFunction fn
  | .getCertificate fn slot _ _ => okFunction fn && slot < 2
  | .challenge fn n => okFunction fn && okNonce n
  | .getMeasurements fn _ n => okFunction fn && okNonce n
  | .keyExchange fn _ => okFunction fn
  | .finish fn _ => okFunction fn
  | .endSession fn => okFunction fn
  | .linkFlitReceive p f _ => okPort p && okFlit f
  | .replayRequest p _ => okPort p
  | .replayTimeout p => okPort p
  | .trainComplete p t => okPort p && t.lanes ≤ 8
  | .trainTimeout p => okPort p
  | .linkSignalLoss p => okPort p
  | .packetReceive p => okPort p
  | .readyReceive p _ => okQuadrant p
  | .readyResend p _ _ => okQuadrant p
  | .collDataReceive p => okQuadrant p
  | .abortReceive p _ => okQuadrant p
  | .collSettleExpiry p _ _ => okQuadrant p
  | .collWatchdogExpiry p _ _ => okQuadrant p
  | .stackTempSample m _ => okStack m
  | .stackReturn m lanes => okStack m && lanes.all (· < 2304)
  | .patrolRead m _ _ _ => okStack m
  | .farTimeout fm f => okFarPort fm && okQueue f.q
  | .farLinkDown fm => okFarPort fm
  | .spillCopyDone p _ _ => okQuadrant p
  | .twinEnable v _ => okVia v
  | .twinDetach v _ => okVia v
  | .twinPull v _ => okVia v
  | .hello m => okNonce m.nonce && m.serial.length == 16
  | .chain _ _ => true
  | .ident _ => true
  | .confirm _ => true
  | .pairingTimeout => true
  | .heartbeatSend => true
  | .heartbeatReceive _ => true
  | .twinHeartbeatMiss => true
  | .detachEnd => true
  | .mirrorReceived _ _ _ => true
  | .swTrig v _ => okVia v
  | .abort v _ => okVia v
  | .flush v _ => okVia v
  | .trigInEdge _ => true
  | .waymarkStep uv => uv.length == 8
  | .signalPresent p => okPort p
  | .farLinkTrained fm => okFarPort fm
  | .rangeZeroingComplete _ => true
  | .mirrorSendComplete => true
  | .returnConfirmed => true
  | .returnRequestReceive => true
  | .hdmDecoderCommit fn _ => okFunction fn
  | .ideKeyManagement fn _ _ _ _ => okFunction fn

end Sys2Proof
end

