-- ==== Sys2Proof/Safety.lean ====
section
/-! DEFINITION. What counts as a safe state and a safe run of the block, in the terms the statements use. -/

namespace Sys2Proof.Safety

open Sys2Proof Sys2Proof.Machine

/-- Device memory and the slabs are in canonical form. -/
def MemoryOk (s : State) : Prop := Memory.wf s.mem = true ∧ Memory.wf s.slab = true

/-- A command ends in a next state. -/
def Completes (c : Instr) (s : State) : Prop := ∃ t, exec c s = .next t

/-- A command ends in a next state of which `P` holds. -/
def Answers (c : Instr) (s : State) (P : State → Prop) : Prop := ∃ t, exec c s = .next t ∧ P t

/-- No command is left to run that could stop the block: every waiting command names hardware that exists. -/
def QueueOk (s : State) : Prop := ∀ c ∈ s.pending, c.wellFormed = true

/-- What a loss of power, a reset and every command leave standing: the security counter never falls, and a revoked key slot
stays revoked (R521, R522). -/
structure Lasting (s t : State) : Prop where
  arb : s.sec.arb ≤ t.sec.arb
  revoked : ∀ i, s.sec.slotState.getD i 0 = 2 → t.sec.slotState.getD i 0 = 2

/-! ### Frames -/

/-- The components of the state, by the names of its fields. -/
inductive Comp where
  | pending | out | free | ltime | stbyNs | input | powered | brake | layout | parts | queues | turns | rings
  | wayposts | regs | staged | counters | latches | calUser | calStaged | calClamped | calFactory | mem | poison
  | raw | slab | tiles | tileDef | retire | gates | roads | dies | grads | hbm | farPorts | ports | routes | twin | wm | mgmt
  | sec | scrubs
deriving DecidableEq, Repr

/-- A component is the same in two states. -/
def Comp.same (s t : State) : Comp → Prop
  | .pending => t.pending = s.pending
  | .out => t.out = s.out
  | .free => t.free = s.free
  | .ltime => t.ltime = s.ltime
  | .stbyNs => t.stbyNs = s.stbyNs
  | .input => t.input = s.input
  | .powered => t.powered = s.powered
  | .brake => t.brake = s.brake
  | .layout => t.layout = s.layout
  | .parts => t.parts = s.parts
  | .queues => t.queues = s.queues
  | .turns => t.turns = s.turns
  | .rings => t.rings = s.rings
  | .wayposts => t.wayposts = s.wayposts
  | .regs => t.regs = s.regs
  | .staged => t.staged = s.staged
  | .counters => t.counters = s.counters
  | .latches => t.latches = s.latches
  | .calUser => t.calUser = s.calUser
  | .calStaged => t.calStaged = s.calStaged
  | .calClamped => t.calClamped = s.calClamped
  | .calFactory => t.calFactory = s.calFactory
  | .mem => t.mem = s.mem
  | .poison => t.poison = s.poison
  | .raw => t.raw = s.raw
  | .slab => t.slab = s.slab
  | .tiles => t.tiles = s.tiles
  | .tileDef => t.tileDef = s.tileDef
  | .retire => t.retire = s.retire
  | .gates => t.gates = s.gates
  | .roads => t.roads = s.roads
  | .dies => t.dies = s.dies
  | .grads => t.grads = s.grads
  | .hbm => t.hbm = s.hbm
  | .farPorts => t.farPorts = s.farPorts
  | .ports => t.ports = s.ports
  | .routes => t.routes = s.routes
  | .twin => t.twin = s.twin
  | .wm => t.wm = s.wm
  | .mgmt => t.mgmt = s.mgmt
  | .sec => t.sec = s.sec
  | .scrubs => t.scrubs = s.scrubs

/-- At most the listed components differ. -/
def Only (cs : List Comp) (s t : State) : Prop := ∀ c, c ∉ cs → c.same s t

/-- Every next state that the command answers differs at most in the listed components. -/
def Frame (c : Instr) (cs : List Comp) : Prop := ∀ s t, exec c s = .next t → Only cs s t

/-! ### Descriptors -/

/-- The descriptor at the head of queue `q`, which exists, has begun, has opcode `op` and has not finished. -/
def Runs (s : State) (q op : Nat) (r : Running) : Prop := q < 65536 ∧ s.runningOp q op = some r

/-- A descriptor of queue `q` can read `n` bytes at address field `v`, from device memory or from the host's reply, and they
are `bs` (R394, R436, R449). -/
def Delivers (s : State) (q v n : Nat) (reply : HostReply) (bs : List Byte) : Prop :=
  ∃ pl, (s.part (s.queuePart q)).reach 5 v n = some pl ∧ s.placeStatus false pl n = none ∧ s.source pl n reply = some bs

/-- The descriptor at the head of queue `q` has finished with a status and RESULT. -/
def Finished (t : State) (q st : Nat) (res : List Byte) : Prop :=
  ∃ r, (t.queue q).running = some r ∧ r.done = some (st, res)

/-- A packet is on the roads of array die `d` to a destination, or has just reached it. -/
def OnRoads (s : State) (d dst : Nat) (c : Cargo) : Prop :=
  (∃ k p, tfind (s.road d).pkts k = some p ∧ p.cargo = c ∧ dst ∈ p.left.map (·.1)) ∨
    ∃ p : RoadPkt, p.cargo = c ∧ (dst, p) ∈ (s.road d).due

/-- Where a packet from the gradient die goes for a position: over the roads to the tile that serves it, or, on the bypass, no
further than the gradient die (R238, R245, R249). -/
def downDst (s : State) (l : Layer) (pl : Nat) : Nat :=
  if s.bypassed l pl then dstCode (bridgeEnd 0) pl else dstCode (s.physTile pl % 65536) pl

/-! ### Packets between modules -/

/-- The flits of a packet that the module itself sends wait at a port, or have been put out there (R362, R364, R366). -/
def Carried (t : State) (n : Nat) (k : Packet) : Prop :=
  ∀ f ∈ packetFlits k.vc ownInput none k.bytes, f ∈ (t.port n).txq ∨
    ∃ b, Output.flit n b ∈ t.out ∧ bits (field b 0 8) 4 2 = k.vc ∧ slice b 8 240 = f.payload

/-- A message of the twin is on its way over port T, in packets of at most 4,096 bytes (R366). -/
def Sent (t : State) (kind vc tag : Nat) (msg : List Byte) : Prop :=
  ∀ e ∈ (chunk 4096 msg).zipIdx, Carried t portT (t.twinPacket kind vc tag (4096 * e.2, e.1))

/-- Pairing message `k` of the twin is on its way (R535, R536). -/
def PairingSent (t : State) (k : Nat) (bs : List Byte) : Prop := Sent t 4 3 0 (BitVec.ofNat 8 k :: bs)

/-- Rank `i` of a collective has a route, over port `n` (R368). -/
def Routed (s : State) (p : Nat) (c : Coll) (i n : Nat) : Prop :=
  s.hopOf p (c.members.getD i (0, 0)).1 (c.members.getD i (0, 0)).2 32 = .out n

/-- The READY of a member is on its way to rank `i` over port `n` (R373). -/
def ReadySent (s t : State) (p : Nat) (c : Coll) (i n : Nat) : Prop :=
  Carried t n { s.readyPacket p (c.members.getD i (0, 0)).1 (c.members.getD i (0, 0)).2 c.mine with hops := 31 }

/-- A collective of operation `op` stands at the head of queue `q`, passes every check and access, and has a route to every peer;
nothing of its key has been received yet (R371 to R373). -/
structure MayBegin (s : State) (q code : Nat) (op : CollOp) (r : Running) (c : Coll) : Prop where
  runs : Runs s q code r
  first : r.work.started = false
  form : reservedAt r.args 128 collFields = none
  starts : collStarts (s.part (s.queuePart q)) op r.args
    (tget CollGroup.none (s.part (s.queuePart q)).collGroups (aGroup r.args)).rank = none
  loaded : (tget CollGroup.none (s.part (s.queuePart q)).collGroups (aGroup r.args)).loaded = true
  fresh : (tget CollGroup.none (s.part (s.queuePart q)).collGroups (aGroup r.args)).tags.contains (aTag r.args).toNat = false
  tables : s.badAccess (s.collTables (s.queuePart q) op r.args
    (tget CollGroup.none (s.part (s.queuePart q)).collGroups (aGroup r.args)).members.length) = none
  plan : s.planColl (s.queuePart q) (s.newColl (s.queuePart q) q op r
    (tget CollGroup.none (s.part (s.queuePart q)).collGroups (aGroup r.args))) r.args = .inr c
  access : s.badAccess c.accesses = none
  peers : 2 ≤ c.n ∧ c.rank < c.n
  unknown : (s.part (s.queuePart q)).coll c.key = none
  noAbort : ∀ m ∈ (s.part (s.queuePart q)).heldAbort, collKey m.group m.milestone m.tag ≠ c.key
  noReady : ∀ h ∈ (s.part (s.queuePart q)).heldReady, ¬ (h.group = c.mine.group ∧ h.tag = c.mine.tag)
  domain : s.domain ≠ 0
  routed : ∀ i ∈ c.peers, ∃ n, Routed s (s.queuePart q) c i n

/-- The collective has taken its tag, sent READY to every peer, and runs on. -/
def Begun (s : State) (q : Nat) (r : Running) (c : Coll) (t : State) : Prop :=
  (∃ r', (t.queue q).running = some r' ∧ r'.desc = r.desc ∧ r'.done = none ∧ r'.work.started = true) ∧
    (∃ c', (t.part (s.queuePart q)).coll c.key = some c' ∧ c'.mine = c.mine ∧ c'.causes = []) ∧
    (tget CollGroup.none (t.part (s.queuePart q)).collGroups c.mine.group).tags.contains (aTag r.args).toNat = true ∧
    ∀ i ∈ c.peers, ∀ n, Routed s (s.queuePart q) c i n → ReadySent s t (s.queuePart q) c i n

/-! ### What a command writes -/

/-- Device memory, slab and host memory are as before but for `n` bytes at a place. -/
def Outside (s t : State) (pl : Place) (n : Nat) : Prop :=
  match pl with
  | .dev a => (∀ b, b < a ∨ a + n ≤ b → memByte t.mem b = memByte s.mem b) ∧ t.slab = s.slab ∧ t.out = s.out
  | .slab a => (∀ b, b < a ∨ a + n ≤ b → memByte t.slab b = memByte s.slab b) ∧ t.mem = s.mem ∧ t.out = s.out
  | .host _ => t.mem = s.mem ∧ t.slab = s.slab

/-- The bytes stand at a place and nothing else is written; a host place is written by function `fn`. -/
def Wrote (s t : State) (fn : Nat) (pl : Place) (bs : List Byte) : Prop :=
  Outside s t pl bs.length ∧
    match pl with
    | .host a => t.out = s.out ++ [.hostWrite fn a bs]
    | _ => t.readAt pl bs.length = bs

/-- The rows stand at a place of device memory or slab as a tensor of format `f`, elements first and scales after them, and
nothing else is written (R134, R604). -/
def Stored (s t : State) (f : TFmt) (pl : Place) (ys : List (List Word)) : Prop :=
  let els := ys.flatMap fun y => (convRow f y).elems
  let scs := ys.flatMap fun y => (convRow f y).scales
  let n := tensorBytes f ys.length (ys.headD []).length
  Outside s t pl n ∧ t.readAt pl els.length = els ∧ t.readAt (pl.plus (n - scs.length)) scs.length = scs

/-- Nothing of device memory, slab or host memory is written. -/
def Untouched (s t : State) : Prop := t.mem = s.mem ∧ t.slab = s.slab ∧ t.out = s.out

/-! ### The mailbox -/

/-- The mailbox carries out a command of this sequence number: its controller is active, the input is within range, start-up is
over, and no response of the last 16 has the number (R568, R570, R574). -/
def Accepts (s : State) (ctrl seq : Nat) : Prop :=
  ctrl < 2 ∧ ctrl = s.activeCtrl ∧ s.input = true ∧ s.mgmt.booting = false ∧ ∀ r ∈ s.mgmt.resp, r.2.1 ≠ seq

/-- The last thing put out is the response to a mailbox command. -/
def Replied (t : State) (cmd seq st : Nat) (args : List Byte) : Prop := t.out.getLast? = some (.mailbox cmd seq st args)

end Sys2Proof.Safety
end

