-- ==== Sys2Proof/Certificates/Slice0/Obligations.lean ====
section
/-! DEFINITION. The statements for the provers. -/

open Sys2Proof Sys2Proof.Machine Sys2Proof.Safety

/-! ### The whole machine -/

/-- A step runs the command at the front of the queue on the state with the queue's rest. Rests on log entry 98. -/
def Obligations.StepRunsFrontCommand : Prop :=
  ∀ (c : Instr) (rest : List Instr) (s : State),
    s.pending = c :: rest → step s = exec c { s with pending := rest }

/-- With no command waiting, a step is one period of the road clock (log entry 2): standby time runs while the input is within
range, local time while the data plane is powered (R494, R580), and nothing else runs without the data plane. -/
def Obligations.IdleStepIsOneClockPeriod : Prop :=
  ∀ s : State, s.pending = [] → ∃ t, step s = .next t ∧
    t.ltime = (if s.powered then s.ltime + 1 else s.ltime) ∧
    t.stbyNs = (if s.input then s.stbyNs + 1 else s.stbyNs) ∧
    Only [.ltime, .stbyNs, .gates, .parts, .dies, .hbm] s t ∧
    (s.powered = false → Only [.stbyNs] s t)

/-- The state right after reset: no command waits, the data plane has no power, no partition exists, memory is in canonical
form, and of the key slots of each algorithm slot 0 alone is active with the security counter at 0 (R521, R522). Rests on log
entries 1, 6. -/
def Obligations.ResetLeavesNothingRunning : Prop :=
  State.reset.pending = [] ∧ State.reset.powered = false ∧ (∀ p, (State.reset.part p).st = .absent) ∧
    (∀ q, State.reset.queue q = SubQ.reset) ∧ MemoryOk State.reset ∧ QueueOk State.reset ∧
    State.reset.sec.slotState = [1, 0, 0, 0, 1, 0, 0, 0] ∧ State.reset.sec.arb = 0

/-- Every command whose operands name hardware that the module has ends in a next state: none is refused and none faults. Rests
on log entries 3, 99. -/
def Obligations.WellFormedCommandsComplete : Prop :=
  ∀ (c : Instr) (s : State), c.wellFormed = true → Completes c s

/-- Whatever waits names existing hardware, so the block never stops: each step answers a next state, takes exactly the front
command, and leaves a queue of which the same holds. Rests on log entries 3, 99. -/
def Obligations.StepsNeverStop : Prop :=
  ∀ s : State, QueueOk s → ∃ t, step s = .next t ∧ t.pending = s.pending.tail ∧ QueueOk t

/-- Every step keeps device memory and the slabs in canonical form, so that equal memories stay equal data. Rests on log
entries 8, 9. -/
def Obligations.StepsKeepMemoryCanonical : Prop :=
  ∀ s t : State, MemoryOk s → step s = .next t → MemoryOk t

/-- No step lowers the security counter, and none takes a key slot out of the revoked state: the fuses only ever advance (R521,
R522). -/
def Obligations.StepsNeverUndoFuses : Prop :=
  ∀ s t : State, step s = .next t → Lasting s t

/-! ### What each command leaves alone -/

/-- The queue engine, control, load, snapshot and milestone commands change only the components of the state that are listed
for each: every other component is as before in every next state. The matrix, row, vector, collective and update descriptors
change only the components of the state that are listed for each: every other component is as before in every next state. The
commands of the forward pass, the array tiles, their programming, their power and their faults change only the components of
the state that are listed for each: every other component is as before in every next state. -/
def Obligations.ProgramAndEngineCommandsChangeOnly : Prop :=
  ((∀ x0 x1 x2 x3, Frame (.doorbell x0 x1 x2 x3) [.out, .parts, .queues, .rings, .counters, .mgmt]) ∧
    (∀ x0 x1, Frame (.descriptorFetch x0 x1) [.out, .free, .parts, .queues, .wayposts, .regs, .staged, .counters,
        .calUser, .calStaged, .mem, .poison, .raw, .ports, .mgmt]) ∧
    (∀ x0 x1, Frame (.descriptorBegin x0 x1) [.out, .parts, .queues, .turns, .wayposts, .counters, .mem, .poison,
        .raw, .tiles, .tileDef, .grads, .mgmt]) ∧
    (∀ x0, Frame (.budgetHandover x0) [.parts]) ∧
    (∀ x0 x1, Frame (.completionPost x0 x1) [.out, .free, .parts, .queues, .rings, .wayposts, .regs, .staged,
        .counters, .calUser, .calStaged, .mem, .poison, .raw, .ports, .mgmt]) ∧
    (∀ x0, Frame (.eqOverflow x0) [.out, .parts]) ∧
    (∀ x0, Frame (.nop x0) [.queues, .wayposts]) ∧
    (∀ x0 x1, Frame (.waypostSet x0 x1) [.out, .queues, .wayposts, .counters, .mem, .poison, .raw, .slab]) ∧
    (∀ x0 x1 x2, Frame (.copy x0 x1 x2) [.out, .queues, .wayposts, .counters, .mem, .poison, .raw, .slab]) ∧
    (∀ x0, Frame (.holdRelease x0) [.parts, .queues, .wayposts]) ∧
    (∀ x0 x1, Frame (.mapLoad x0 x1) [.out, .free, .parts, .queues, .wayposts, .counters, .mem, .poison, .raw,
        .tiles, .retire, .gates, .mgmt]) ∧
    (∀ x0 x1, Frame (.groupLoad x0 x1) [.parts, .queues, .wayposts, .counters]) ∧
    (∀ x0 x1, Frame (.vprogLoad x0 x1) [.parts, .queues, .wayposts, .counters]) ∧
    (∀ x0 x1, Frame (.collGroup x0 x1) [.parts, .queues, .wayposts, .counters]) ∧
    (∀ x0, Frame (.milestone x0) [.queues]) ∧
    (∀ x0, Frame (.milestoneClosure x0) [.out, .free, .parts, .queues, .wayposts, .regs, .staged, .counters,
        .calUser, .calStaged, .mem, .poison, .raw, .tiles, .tileDef, .retire, .gates, .grads, .ports, .twin, .wm,
        .mgmt]) ∧
    (∀ x0 x1, Frame (.snapshot x0 x1) [.out, .parts, .queues, .wayposts, .counters, .mem, .poison, .raw, .slab]) ∧
    (∀ x0 x1, Frame (.snapshotDeferredStart x0 x1) [.out, .parts, .queues, .wayposts, .counters, .mem, .poison, .raw,
        .slab]) ∧
    (∀ x0 x1, Frame (.restore x0 x1) [.parts, .queues, .wayposts, .counters, .mem, .poison, .raw, .grads])) ∧
  ((∀ x0 x1, Frame (.matmul x0 x1) [.out, .queues, .wayposts, .counters, .mem, .poison, .raw, .slab, .grads]) ∧
    (∀ x0, Frame (.row x0) [.out, .parts, .queues, .wayposts, .counters, .mem, .poison, .raw, .slab, .grads, .mgmt]) ∧
    (∀ x0 x1, Frame (.ingrad x0 x1) [.out, .queues, .wayposts, .counters, .mem, .poison, .raw, .slab, .grads]) ∧
    (∀ x0 x1, Frame (.wgrad x0 x1) [.out, .parts, .queues, .wayposts, .counters, .mem, .poison, .raw, .slab, .grads]) ∧
    (∀ x0, Frame (.deriv x0) [.out, .parts, .queues, .wayposts, .counters, .mem, .poison, .raw, .slab]) ∧
    (∀ x0, Frame (.vprog x0) [.out, .free, .queues, .wayposts, .counters, .mem, .poison, .raw, .slab]) ∧
    (∀ x0, Frame (.reduceScatter x0) [.out, .free, .parts, .queues, .wayposts, .counters, .mem, .poison, .raw,
        .ports, .mgmt]) ∧
    (∀ x0, Frame (.allGather x0) [.out, .free, .parts, .queues, .wayposts, .counters, .mem, .poison, .raw, .ports,
        .mgmt]) ∧
    (∀ x0, Frame (.allReduce x0) [.out, .free, .parts, .queues, .wayposts, .counters, .mem, .poison, .raw, .ports,
        .mgmt]) ∧
    (∀ x0, Frame (.broadcast x0) [.out, .free, .parts, .queues, .wayposts, .counters, .mem, .poison, .raw, .ports,
        .mgmt]) ∧
    (∀ x0, Frame (.orderGather x0) [.out, .free, .parts, .queues, .wayposts, .counters, .mem, .poison, .raw, .ports,
        .mgmt]) ∧
    (∀ x0, Frame (.updateNorm x0) [.out, .queues, .wayposts, .counters, .mem, .poison, .raw, .slab]) ∧
    (∀ x0, Frame (.updateApply x0) [.out, .free, .parts, .queues, .wayposts, .counters, .mem, .poison, .raw, .mgmt]) ∧
    (∀ x0, Frame (.pass2BlockResume x0) [.out, .free, .parts, .queues, .wayposts, .counters, .mem, .poison, .raw,
        .mgmt]) ∧
    (∀ x0, Frame (.updateInit x0) [.out, .free, .parts, .queues, .wayposts, .counters, .mem, .poison, .raw, .mgmt])) ∧
  ((∀ x0, Frame (.forward x0) [.out, .free, .parts, .queues, .wayposts, .counters, .mem, .poison, .raw, .slab,
        .tiles, .retire, .gates, .roads, .grads, .mgmt]) ∧
    (∀ x0, Frame (.dispatch x0) [.out, .free, .parts, .queues, .wayposts, .counters, .mem, .poison, .raw, .slab,
        .tiles, .retire, .gates, .roads, .grads, .mgmt]) ∧
    (∀ x0, Frame (.program x0) [.out, .free, .parts, .queues, .wayposts, .counters, .mem, .poison, .raw, .tiles,
        .retire, .gates, .roads, .mgmt]) ∧
    (∀ x0 x1, Frame (.programBatch x0 x1) [.out, .free, .parts, .queues, .wayposts, .regs, .counters, .calUser, .mem,
        .poison, .raw, .slab, .tiles, .retire, .gates, .roads, .grads, .mgmt]) ∧
    (∀ x0, Frame (.vectorLatch x0) [.out, .free, .parts, .queues, .wayposts, .regs, .counters, .calUser, .mem,
        .poison, .raw, .slab, .tiles, .retire, .gates, .roads, .grads, .mgmt]) ∧
    (∀ x0 x1, Frame (.segmentSample x0 x1) [.tiles, .gates]) ∧
    (∀ x0, Frame (.edgePipeline x0) [.out, .free, .parts, .queues, .wayposts, .counters, .mem, .poison, .raw, .slab,
        .tiles, .retire, .gates, .roads, .grads, .mgmt]) ∧
    (∀ x0, Frame (.partialPacket x0) [.out, .free, .parts, .queues, .wayposts, .counters, .mem, .poison, .raw, .slab,
        .tiles, .retire, .gates, .roads, .grads, .mgmt]) ∧
    (∀ x0 x1 x2, Frame (.residualArrival x0 x1 x2) [.out, .free, .parts, .queues, .wayposts, .counters, .mem,
        .poison, .raw, .slab, .tiles, .retire, .gates, .roads, .grads, .mgmt]) ∧
    (∀ x0, Frame (.inputPieceArrival x0) [.out, .free, .parts, .queues, .wayposts, .counters, .mem, .poison, .raw,
        .slab, .tiles, .retire, .gates, .roads, .grads, .mgmt]) ∧
    (∀ x0, Frame (.idleTimeout x0) [.tiles]) ∧
    (∀ x0, Frame (.wakeAdmit x0) [.counters, .tiles, .gates]) ∧
    (∀ x0, Frame (.tileWakeDone x0) [.out, .free, .parts, .queues, .wayposts, .counters, .mem, .poison, .raw, .slab,
        .tiles, .retire, .gates, .roads, .grads, .mgmt]) ∧
    (∀ x0, Frame (.tollAdmit x0) [.counters, .tiles, .gates]) ∧
    (∀ x0 x1, Frame (.debtCheck x0 x1) [.counters, .gates]) ∧
    (∀ x0 x1 x2, Frame (.railMeasure x0 x1 x2) [.free, .parts, .dies, .hbm]) ∧
    (∀ x0, Frame (.refreshStart x0) [.out, .free, .parts, .queues, .wayposts, .counters, .mem, .poison, .raw, .tiles,
        .retire, .gates, .roads, .mgmt]) ∧
    (∀ x0, Frame (.refreshComplete x0) [.out, .free, .parts, .queues, .wayposts, .counters, .mem, .poison, .raw,
        .slab, .tiles, .retire, .gates, .roads, .grads, .wm, .mgmt]) ∧
    (∀ x0, Frame (.probeStart x0) [.out, .free, .parts, .queues, .wayposts, .counters, .mem, .poison, .raw, .slab,
        .tiles, .retire, .gates, .roads, .grads, .mgmt]) ∧
    (∀ x0 x1 x2, Frame (.probeScanDone x0 x1 x2) [.out, .free, .parts, .queues, .wayposts, .counters, .mem, .poison,
        .raw, .slab, .tiles, .retire, .gates, .roads, .grads, .mgmt]) ∧
    (∀ x0, Frame (.repairDone x0) [.out, .free, .parts, .queues, .wayposts, .counters, .mem, .poison, .raw, .slab,
        .tiles, .retire, .gates, .roads, .grads, .mgmt]) ∧
    (∀ x0, Frame (.reserveProgrammed x0) [.out, .free, .parts, .queues, .wayposts, .counters, .mem, .poison, .raw,
        .slab, .tiles, .retire, .gates, .roads, .grads, .mgmt]))

/-- The register, footpath, host window, stack and far-memory commands change only the components of the state that are listed
for each: every other component is as before in every next state. The reset, power, start-up, mailbox and security commands
change only the components of the state that are listed for each: every other component is as before in every next state. The
link, collective packet, twin and waymark commands change only the components of the state that are listed for each: every
other component is as before in every next state. -/
def Obligations.AccessAndModuleCommandsChangeOnly : Prop :=
  ((∀ x0 x1 x2, Frame (.refreshReq x0 x1 x2) [.out, .free, .parts, .queues, .rings, .wayposts, .regs, .staged,
        .counters, .calUser, .calStaged, .calClamped, .mem, .poison, .raw, .slab, .tiles, .retire, .gates, .roads,
        .grads, .hbm, .ports, .routes, .twin, .wm, .mgmt]) ∧
    (∀ x0 x1 x2, Frame (.probeReq x0 x1 x2) [.out, .free, .parts, .queues, .rings, .wayposts, .regs, .staged,
        .counters, .calUser, .calStaged, .calClamped, .mem, .poison, .raw, .slab, .tiles, .retire, .gates, .roads,
        .grads, .hbm, .ports, .routes, .twin, .wm, .mgmt]) ∧
    (∀ x0 x1 x2, Frame (.retireReq x0 x1 x2) [.out, .free, .parts, .queues, .rings, .wayposts, .regs, .staged,
        .counters, .calUser, .calStaged, .calClamped, .mem, .poison, .raw, .slab, .tiles, .retire, .gates, .roads,
        .grads, .hbm, .ports, .routes, .twin, .wm, .mgmt]) ∧
    (∀ x0 x1 x2, Frame (.footpathGo x0 x1 x2) [.out, .free, .parts, .queues, .rings, .wayposts, .regs, .staged,
        .counters, .calUser, .calStaged, .calClamped, .mem, .poison, .raw, .slab, .tiles, .retire, .gates, .roads,
        .grads, .hbm, .ports, .routes, .twin, .wm, .mgmt]) ∧
    (∀ x0 x1, Frame (.footpathComplete x0 x1) [.free, .regs, .counters, .mem, .poison, .raw, .grads]) ∧
    (∀ x0 x1 x2, Frame (.queueEnable x0 x1 x2) [.out, .free, .parts, .queues, .rings, .wayposts, .regs, .staged,
        .counters, .calUser, .calStaged, .calClamped, .mem, .poison, .raw, .slab, .tiles, .retire, .gates, .roads,
        .grads, .hbm, .ports, .routes, .twin, .wm, .mgmt]) ∧
    (∀ x0 x1 x2, Frame (.queueDisable x0 x1 x2) [.out, .free, .parts, .queues, .rings, .wayposts, .regs, .staged,
        .counters, .calUser, .calStaged, .calClamped, .mem, .poison, .raw, .slab, .tiles, .retire, .gates, .roads,
        .grads, .hbm, .ports, .routes, .twin, .wm, .mgmt]) ∧
    (∀ x0 x1 x2, Frame (.completionRingEnable x0 x1 x2) [.out, .free, .parts, .queues, .rings, .wayposts, .regs,
        .staged, .counters, .calUser, .calStaged, .calClamped, .mem, .poison, .raw, .slab, .tiles, .retire, .gates,
        .roads, .grads, .hbm, .ports, .routes, .twin, .wm, .mgmt]) ∧
    (∀ x0 x1 x2, Frame (.eventQueueEnable x0 x1 x2) [.out, .free, .parts, .queues, .rings, .wayposts, .regs, .staged,
        .counters, .calUser, .calStaged, .calClamped, .mem, .poison, .raw, .slab, .tiles, .retire, .gates, .roads,
        .grads, .hbm, .ports, .routes, .twin, .wm, .mgmt]) ∧
    (∀ x0 x1 x2, Frame (.portEnableWrite x0 x1 x2) [.out, .free, .parts, .queues, .rings, .wayposts, .regs, .staged,
        .counters, .calUser, .calStaged, .calClamped, .mem, .poison, .raw, .slab, .tiles, .retire, .gates, .roads,
        .grads, .hbm, .ports, .routes, .twin, .wm, .mgmt]) ∧
    (∀ x0 x1 x2 x3, Frame (.latchedPairRead x0 x1 x2 x3) [.out, .free, .latches, .wm]) ∧
    (∀ x0, Frame (.wmFifoRead x0) [.out, .free, .latches, .wm]) ∧
    (∀ x0 x1 x2 x3, Frame (.registerWrite x0 x1 x2 x3) [.out, .free, .parts, .queues, .rings, .wayposts, .regs,
        .staged, .counters, .calUser, .calStaged, .calClamped, .mem, .poison, .raw, .slab, .tiles, .retire, .gates,
        .roads, .grads, .hbm, .ports, .routes, .twin, .wm, .mgmt]) ∧
    (∀ x0 x1, Frame (.hostWindowRead x0 x1) [.out, .free, .counters]) ∧
    (∀ x0 x1 x2, Frame (.hostWindowWrite x0 x1 x2) [.counters, .mem, .poison, .raw]) ∧
    (∀ x0, Frame (.configRequest x0) [.out]) ∧
    (∀ x0, Frame (.snoop x0) [.out]) ∧
    (∀ x0 x1 x2, Frame (.registerPathRead x0 x1 x2) [.out, .free, .latches, .wm]) ∧
    (∀ x0 x1 x2 x3, Frame (.registerPathWrite x0 x1 x2 x3) [.out, .free, .parts, .queues, .rings, .wayposts, .regs,
        .staged, .counters, .calUser, .calStaged, .calClamped, .mem, .poison, .raw, .slab, .tiles, .retire, .gates,
        .roads, .grads, .hbm, .ports, .routes, .twin, .wm, .mgmt]) ∧
    (∀ x0 x1, Frame (.stackTempSample x0 x1) [.out, .free, .parts, .queues, .wayposts, .counters, .mem, .poison,
        .raw, .tiles, .retire, .gates, .roads, .grads, .hbm, .ports, .twin, .mgmt]) ∧
    (∀ x0 x1, Frame (.stackReturn x0 x1) [.out, .free, .parts, .counters, .mem, .poison, .raw, .hbm, .mgmt]) ∧
    (∀ x0 x1 x2 x3, Frame (.patrolRead x0 x1 x2 x3) [.out, .parts, .counters, .poison, .raw, .hbm, .mgmt]) ∧
    (∀ x0 x1, Frame (.farTimeout x0 x1) [.out, .free, .parts, .queues, .wayposts, .counters, .mem, .poison,
        .raw, .tiles, .retire, .gates, .roads, .grads, .ports, .mgmt]) ∧
    (∀ x0, Frame (.farLinkDown x0) [.out, .parts, .counters, .farPorts, .mgmt]) ∧
    (∀ x0 x1 x2, Frame (.spillCopyDone x0 x1 x2) [.parts, .counters, .mem, .poison, .raw]) ∧
    (∀ x0 x1, Frame (.twinEnable x0 x1) [.out, .free, .parts, .queues, .rings, .wayposts, .regs, .staged, .counters,
        .calUser, .calStaged, .calClamped, .mem, .poison, .raw, .slab, .tiles, .retire, .gates, .roads, .grads, .hbm,
        .ports, .routes, .twin, .wm, .mgmt]) ∧
    (∀ x0 x1, Frame (.twinDetach x0 x1) [.out, .free, .parts, .queues, .rings, .wayposts, .regs, .staged, .counters,
        .calUser, .calStaged, .calClamped, .mem, .poison, .raw, .slab, .tiles, .retire, .gates, .roads, .grads, .hbm,
        .ports, .routes, .twin, .wm, .mgmt]) ∧
    (∀ x0 x1, Frame (.twinPull x0 x1) [.out, .free, .parts, .queues, .rings, .wayposts, .regs, .staged, .counters,
        .calUser, .calStaged, .calClamped, .mem, .poison, .raw, .slab, .tiles, .retire, .gates, .roads, .grads, .hbm,
        .ports, .routes, .twin, .wm, .mgmt]) ∧
    (∀ x0 x1, Frame (.swTrig x0 x1) [.out, .free, .parts, .queues, .rings, .wayposts, .regs, .staged, .counters,
        .calUser, .calStaged, .calClamped, .mem, .poison, .raw, .slab, .tiles, .retire, .gates, .roads, .grads, .hbm,
        .ports, .routes, .twin, .wm, .mgmt]) ∧
    (∀ x0 x1, Frame (.abort x0 x1) [.out, .free, .parts, .queues, .rings, .wayposts, .regs, .staged, .counters,
        .calUser, .calStaged, .calClamped, .mem, .poison, .raw, .slab, .tiles, .retire, .gates, .roads, .grads, .hbm,
        .ports, .routes, .twin, .wm, .mgmt]) ∧
    (∀ x0 x1, Frame (.flush x0 x1) [.out, .free, .parts, .queues, .rings, .wayposts, .regs, .staged, .counters,
        .calUser, .calStaged, .calClamped, .mem, .poison, .raw, .slab, .tiles, .retire, .gates, .roads, .grads, .hbm,
        .ports, .routes, .twin, .wm, .mgmt]) ∧
    (∀ x0, Frame (.farLinkTrained x0) [.farPorts]) ∧
    (∀ x0, Frame (.rangeZeroingComplete x0) [.mem, .poison, .raw, .mgmt]) ∧
    (∀ x0 x1, Frame (.hdmDecoderCommit x0 x1) [.parts])) ∧
  ((∀ x0, Frame (.functionLevelReset x0) [.out, .free, .parts, .queues, .turns, .rings, .wayposts, .regs, .staged,
        .counters, .calUser, .calStaged, .mem, .poison, .raw, .tiles, .retire, .gates, .roads, .ports, .mgmt]) ∧
    (Frame .perst [.out, .free, .parts, .queues, .turns, .rings, .wayposts, .regs, .staged, .counters, .calUser,
        .calStaged, .mem, .poison, .raw, .tiles, .retire, .gates, .roads, .ports, .mgmt]) ∧
    (Frame .powerBrakeAssert [.out, .brake, .parts, .counters, .gates, .mgmt]) ∧
    (Frame .powerBrakeRelease [.out, .brake, .parts, .counters, .gates, .mgmt]) ∧
    (∀ x0 x1 x2, Frame (.dieTempSample x0 x1 x2) [.out, .free, .powered, .parts, .queues, .turns, .rings, .wayposts,
        .regs, .staged, .counters, .latches, .calStaged, .mem, .poison, .raw, .slab, .tiles, .tileDef, .gates, .roads,
        .dies, .grads, .hbm, .farPorts, .ports, .routes, .twin, .mgmt]) ∧
    (∀ x0 x1 x2 x3, Frame (.clockFault x0 x1 x2 x3) [.free, .powered, .parts, .queues, .turns, .rings, .wayposts,
        .regs, .staged, .counters, .latches, .calStaged, .mem, .poison, .raw, .slab, .tiles, .tileDef, .gates, .roads,
        .dies, .grads, .hbm, .farPorts, .ports, .routes, .twin, .mgmt]) ∧
    (∀ x0 x1, Frame (.inputFault x0 x1) [.free, .input, .powered, .parts, .queues, .turns, .rings, .wayposts, .regs,
        .staged, .counters, .latches, .calStaged, .mem, .poison, .raw, .slab, .tiles, .tileDef, .gates, .roads, .dies,
        .grads, .hbm, .farPorts, .ports, .routes, .twin, .mgmt]) ∧
    (∀ x0, Frame (.powerOn x0) [.free, .ltime, .stbyNs, .input, .powered, .brake, .layout, .parts, .queues, .turns,
        .rings, .wayposts, .regs, .staged, .counters, .latches, .calUser, .calStaged, .calClamped, .mem, .poison, .raw,
        .slab, .tiles, .tileDef, .retire, .gates, .roads, .dies, .grads, .hbm, .farPorts, .ports, .routes, .twin, .wm,
        .mgmt, .sec]) ∧
    (∀ x0 x1, Frame (.recoveryImage x0 x1) [.mgmt, .sec]) ∧
    (Frame .mgmtRecordWrite [.mgmt]) ∧
    (Frame .standbyCopy [.mgmt]) ∧
    (∀ x0, Frame (.mgmtFailover x0) [.free, .mgmt]) ∧
    (∀ x0, Frame (.telemetryRecord x0) [.mgmt]) ∧
    (∀ x0, Frame (.standbyTempSample x0) [.mgmt]) ∧
    (∀ x0 x1 x2, Frame (.scrub x0 x1 x2) [.out, .free, .parts, .queues, .wayposts, .regs, .staged, .counters,
        .calUser, .calStaged, .mem, .poison, .raw, .tiles, .retire, .gates, .roads, .ports, .twin, .mgmt]) ∧
    (∀ x0 x1, Frame (.scrubComplete x0 x1) [.out, .free, .layout, .parts, .queues, .turns, .rings, .wayposts,
        .regs, .staged, .counters, .latches, .calStaged, .mem, .poison, .raw, .slab, .tiles, .tileDef, .retire, .gates,
        .roads, .grads, .hbm, .routes, .mgmt, .scrubs]) ∧
    (∀ x0 x1 x2, Frame (.assign x0 x1 x2) [.out, .free, .parts, .counters, .ports, .twin, .mgmt]) ∧
    (∀ x0 x1 x2, Frame (.stop x0 x1 x2) [.out, .free, .parts, .queues, .wayposts, .regs, .staged, .counters,
        .calUser, .calStaged, .mem, .poison, .raw, .tiles, .retire, .gates, .roads, .ports, .twin, .mgmt]) ∧
    (∀ x0 x1 x2, Frame (.resume x0 x1 x2) [.out, .free, .parts, .counters, .ports, .twin, .mgmt]) ∧
    (∀ x0 x1 x2, Frame (.layout x0 x1 x2) [.out, .free, .layout, .parts, .queues, .wayposts, .regs, .staged,
        .counters, .calUser, .calStaged, .mem, .poison, .raw, .tiles, .retire, .gates, .roads, .ports, .twin, .mgmt]) ∧
    (∀ x0 x1 x2 x3 x4, Frame (.farAssign x0 x1 x2 x3 x4) [.out, .parts, .mgmt]) ∧
    (∀ x0 x1 x2, Frame (.reset x0 x1 x2) [.out, .powered, .parts, .queues, .turns, .rings, .wayposts, .regs, .staged,
        .counters, .latches, .calStaged, .mem, .poison, .raw, .slab, .tiles, .tileDef, .gates, .roads, .dies, .grads,
        .hbm, .farPorts, .ports, .routes, .twin, .mgmt]) ∧
    (∀ x0 x1 x2 x3 x4, Frame (.fwWrite x0 x1 x2 x3 x4) [.out, .mgmt, .sec]) ∧
    (∀ x0 x1 x2, Frame (.fwCommit x0 x1 x2) [.out, .mgmt, .sec]) ∧
    (∀ x0 x1 x2 x3 x4 x5 x6, Frame (.keyRecord x0 x1 x2 x3 x4 x5 x6) [.out, .mgmt, .sec]) ∧
    (∀ x0 x1 x2, Frame (.arbRaise x0 x1 x2) [.out, .mgmt, .sec]) ∧
    (∀ x0 x1 x2 x3, Frame (.report x0 x1 x2 x3) [.out, .mgmt]) ∧
    (∀ x0 x1 x2, Frame (.telemetry x0 x1 x2) [.out, .mgmt]) ∧
    (∀ x0 x1 x2, Frame (.recordRead x0 x1 x2) [.out, .free, .mgmt]) ∧
    (∀ x0 x1 x2, Frame (.arrayReport x0 x1 x2) [.out, .mgmt]) ∧
    (∀ x0 x1 x2, Frame (.markClear x0 x1 x2) [.out, .tiles, .tileDef, .mgmt]) ∧
    (∀ x0 x1 x2 x3, Frame (.certRead x0 x1 x2 x3) [.out, .mgmt]) ∧
    (∀ x0 x1 x2, Frame (.bootCfg x0 x1 x2) [.out, .mgmt]) ∧
    (∀ x0, Frame (.getVersion x0) [.out, .parts]) ∧
    (∀ x0, Frame (.getCapabilities x0) [.out, .parts]) ∧
    (∀ x0, Frame (.negotiateAlgorithms x0) [.out, .parts]) ∧
    (∀ x0, Frame (.getDigests x0) [.out, .parts]) ∧
    (∀ x0 x1 x2 x3, Frame (.getCertificate x0 x1 x2 x3) [.out, .parts]) ∧
    (∀ x0 x1, Frame (.challenge x0 x1) [.out, .parts]) ∧
    (∀ x0 x1 x2, Frame (.getMeasurements x0 x1 x2) [.out, .parts]) ∧
    (∀ x0 x1, Frame (.keyExchange x0 x1) [.out, .parts]) ∧
    (∀ x0 x1, Frame (.finish x0 x1) [.out, .parts]) ∧
    (∀ x0, Frame (.endSession x0) [.out, .parts]) ∧
    (∀ x0 x1 x2 x3 x4, Frame (.ideKeyManagement x0 x1 x2 x3 x4) [.out, .parts])) ∧
  ((∀ x0 x1 x2, Frame (.linkFlitReceive x0 x1 x2) [.out, .parts, .counters, .ports, .twin, .mgmt]) ∧
    (∀ x0 x1, Frame (.replayRequest x0 x1) [.out, .counters, .ports]) ∧
    (∀ x0, Frame (.replayTimeout x0) [.out, .counters, .ports]) ∧
    (∀ x0 x1, Frame (.trainComplete x0 x1) [.out, .free, .parts, .counters, .ports, .twin, .mgmt]) ∧
    (∀ x0, Frame (.trainTimeout x0) [.out, .parts, .counters, .ports, .twin, .mgmt]) ∧
    (∀ x0, Frame (.linkSignalLoss x0) [.out, .parts, .counters, .ports, .twin, .mgmt]) ∧
    (∀ x0, Frame (.packetReceive x0) [.out, .free, .parts, .counters, .ports]) ∧
    (∀ x0 x1, Frame (.readyReceive x0 x1) [.out, .parts, .queues, .wayposts, .counters, .mem, .poison, .raw, .ports]) ∧
    (∀ x0 x1 x2, Frame (.readyResend x0 x1 x2) [.out, .parts, .counters, .ports]) ∧
    (∀ x0, Frame (.collDataReceive x0) [.out, .parts, .queues, .wayposts, .counters, .mem, .poison, .raw, .ports]) ∧
    (∀ x0 x1, Frame (.abortReceive x0 x1) [.parts, .counters]) ∧
    (∀ x0 x1 x2, Frame (.collSettleExpiry x0 x1 x2) [.out, .free, .parts, .queues, .wayposts, .counters, .mem,
        .poison, .raw, .mgmt]) ∧
    (∀ x0 x1 x2, Frame (.collWatchdogExpiry x0 x1 x2) [.out, .parts, .counters, .ports]) ∧
    (∀ x0, Frame (.hello x0) [.out, .parts, .counters, .ports, .twin, .mgmt]) ∧
    (∀ x0 x1, Frame (.chain x0 x1) [.out, .parts, .counters, .ports, .twin, .mgmt]) ∧
    (∀ x0, Frame (.ident x0) [.out, .parts, .counters, .ports, .twin, .mgmt]) ∧
    (∀ x0, Frame (.confirm x0) [.out, .free, .parts, .counters, .ports, .twin, .mgmt]) ∧
    (Frame .pairingTimeout [.out, .parts, .counters, .ports, .twin, .mgmt]) ∧
    (Frame .heartbeatSend [.out, .counters, .ports, .twin]) ∧
    (∀ x0, Frame (.heartbeatReceive x0) [.out, .parts, .counters, .twin, .mgmt]) ∧
    (Frame .twinHeartbeatMiss [.out, .parts, .counters, .twin, .mgmt]) ∧
    (Frame .detachEnd [.out, .twin]) ∧
    (∀ x0 x1 x2, Frame (.mirrorReceived x0 x1 x2) [.out, .free, .parts, .counters, .mem, .poison, .raw, .ports,
        .twin, .mgmt]) ∧
    (∀ x0, Frame (.trigInEdge x0) [.counters, .wm]) ∧
    (∀ x0, Frame (.waymarkStep x0) [.free, .counters, .wm]) ∧
    (∀ x0, Frame (.signalPresent x0) [.ports]) ∧
    (Frame .mirrorSendComplete [.out, .parts, .counters, .ports, .twin, .mgmt]) ∧
    (Frame .returnConfirmed [.out, .parts, .counters, .twin, .mgmt]) ∧
    (Frame .returnRequestReceive [.out, .counters, .ports, .twin]))

/-! ### The queue engine -/

/-- A doorbell of 8 bytes to an enabled queue of the partition: the new tail and the returned head take effect together, each
where it is given; if either is bad, neither does and the queue stops with reason 1 (R433, R434). -/
def Obligations.DoorbellAppliesTailAndHeadOrStopsQueue : Prop :=
  ∀ (s : State) (fn slot : Nat) (v : Word64), fn < 4 → (s.part fn).inService = true →
    (s.part fn).holds (queueHub slot) = true → s.queueOn slot = true →
    let n := v.toNat
    let r := s.queueRing slot
    let tailOk := bit n 16 = false ∨ badTail (s.queue slot) (s.queueSize slot) (bits n 0 16) = false
    let headOk := bits n 48 2 = 0 ∨
      (bits n 48 2 = 1 ∧ s.ringOk fn slot = true ∧
        badHead (s.ring r).head (s.ring r).tail (s.ringSize r) (bits n 32 16) = false) ∨
      (bits n 48 2 = 2 ∧ badHead (s.part fn).eq.head (s.part fn).eq.tail (s.eqSize fn) (bits n 32 16) = false)
    (tailOk → headOk → Answers (.doorbell fn slot 8 v) s fun t =>
      t.queue slot = { s.queue slot with tail := if bit n 16 then bits n 0 16 else (s.queue slot).tail } ∧
      t.ring r = { s.ring r with head := if bits n 48 2 = 1 then bits n 32 16 else (s.ring r).head } ∧
      (t.part fn).eq = { (s.part fn).eq with head := if bits n 48 2 = 2 then bits n 32 16 else (s.part fn).eq.head } ∧
      t.out = s.out) ∧
    (¬ (tailOk ∧ headOk) → (s.queue slot).stopped = 0 → Answers (.doorbell fn slot 8 v) s fun t =>
      t.queue slot = { s.queue slot with stopped := 1 } ∧ t.rings = s.rings ∧
      (t.part fn).eq.head = (s.part fn).eq.head)

/-- DESCRIPTOR_FETCH reads the submitted descriptor at the head once: the head moves on by one in its ring, and behind a
descriptor that still runs the new one joins the end of those fetched (R428). DESCRIPTOR_BEGIN: a pending descriptor that has
no failing check, whose wait is met, that the phase rules let go, whose ring is ready and whose turn it is begins to run with
its argument block and with the layer map, the settings and the calibration of its beginning; its predecessor has left the
queue (R18, R429 to R431). BUDGET_HANDOVER: the incoming phase's budget is granted and no phase is incoming any more; nothing
else changes (R41). Rests on log entries 41, 52, 110, 112, 126. -/
def Obligations.DescriptorsAreFetchedBegunAndGrantedBudget : Prop :=
  (∀ (s : State) (q : Nat) (bs : List Byte), q < 65536 → (s.part (s.queuePart q)).inService = true → s.queueOn q = true →
      (s.queue q).stopped = 0 → (s.queue q).head ≠ (s.queue q).tail → bs.length = 64 →
      Answers (.descriptorFetch q (.data bs)) s fun t =>
        (t.queue q).head = ((s.queue q).head + 1) % s.queueSize q ∧ (t.queue q).tail = (s.queue q).tail ∧
        ((s.queue q).running.isSome = true → t.queue q = { s.queue q with
          head := ((s.queue q).head + 1) % s.queueSize q
          fetched := (s.queue q).fetched ++ [⟨bs, none, false⟩] })) ∧
  (∀ (s : State) (q : Nat) (r : HostReply) (f : Slot) (rest : List Slot) (args : List Byte), q < 65536 →
      let p := s.queuePart q
      (s.part p).inService = true → (s.queue q).running = none → (s.queue q).fetched = f :: rest → f.fate = none →
      f.met = true → pendCheck (s.part p) f.desc = none → s.eligible p q (s.queue q) = true → s.itsTurn p q = true →
      s.readArgs p f.desc r = .inr args →
      Answers (.descriptorBegin q r) s fun t =>
        ∃ d, (t.queue q).running = some d ∧ d.desc = f.desc ∧ d.args = args ∧ d.began = true ∧ d.done = none ∧
          d.work.layers = (s.part p).layers ∧ d.work.regs = s.regs ∧ d.work.cal = s.calUser) ∧
  (∀ (s : State) (p c : Nat), p < 4 → (s.part p).incoming = some c →
      exec (.budgetHandover p) s = .next (s.setPart p { s.part p with granted := c, incoming := none }))

/-- COMPLETION_POST: a finished descriptor that is not suppressed has its entry put at the tail of its ring, whose tail and tag
move on as the ring wraps; with a status of success the host sees exactly the 32-byte entry and, where IRQ or the ring asks for
it, the ring's interrupt, once no completion that became due before it waits for the same ring (R431, R444, R445, R450). A host
that refuses the write stops the ring, whose tail stays (R449). EQ_OVERFLOW: once the event queue has room again, one
EQ_OVERFLOW record that carries the number lost is written at its tail, and nothing is counted as lost any more (R432). A host
that refuses the write stops the event queue, which AER reports (R448). Rests on log entries 10, 48, 129. -/
def Obligations.CompletionsAndLostEventsAreReported : Prop :=
  (∀ (s : State) (q st : Nat) (res : List Byte) (r : Running), q < 65536 → (s.queue q).running = some r →
      r.done = some (st, res) → ¬ (dNocomp r.desc = true ∧ st = stOk) → s.ringOk (s.queuePart q) q = true →
      let c := s.queueRing q
      s.postsLater (s.queuePart q) q r = false → (s.ring c).stopped = false → s.ringFull c = false →
      (Answers (.completionPost q true) s fun t =>
        t.ring c = { s.ring c with
          tail := if (s.ring c).tail + 1 = s.ringSize c then 0 else (s.ring c).tail + 1
          tag := if (s.ring c).tail + 1 = s.ringSize c then !(s.ring c).tag else (s.ring c).tag } ∧
        (success st = true → t.out = s.out ++ [.hostWrite (s.queuePart q) (s.ringBase c + 32 * (s.ring c).tail)
            (completionEntry r.desc q (s.headAfter q) st (s.ring c).tag r.work.skewed res)] ++
          if dIrq r.desc = true ∨ s.ccfg c 16 1 = 1 then [.msix (s.queuePart q) (s.ccfg c 4 11)] else [])) ∧
      (Answers (.completionPost q false) s fun t => (t.ring c).stopped = true ∧ (t.ring c).tail = (s.ring c).tail)) ∧
  (∀ (s : State) (p : Nat), p < 4 → (s.part p).eq.lost ≠ 0 → s.eqOn p = true → s.eqRoom p = true →
      (Answers (.eqOverflow ⟨p, false⟩) s fun t => (t.part p).eq = { (s.part p).eq with stopped := true } ∧ t.out = s.out ++ [.aer p]) ∧
      Answers (.eqOverflow ⟨p, true⟩) s fun t =>
        (t.part p).eq.lost = 0 ∧
        t.out = s.out ++ [.hostWrite p (s.ppair p 2 0x328 + 64 * (s.part p).eq.tail)
          (eventRecord evEqOverflow (s.part p).eq.tag false (s.part p).eq.seq s.ltime (s.part p).milestone.toNat
            [(24, 4, (s.part p).eq.lost)]), .msix p (s.pregf p 2 eqCfg 4 11)])

/-! ### Descriptors that order, copy, release and load -/

/-- NOP finishes with ST_OK and changes no partition; HOLD_RELEASE lifts the hold and changes nothing else of the partition
(R36, R438). A NOP with SIG_EN adds 1 to its partition's waypost SIG_WP, modulo 2^64; one without adds nothing (R441, R442).
Rests on log entry 10. -/
def Obligations.NopAndHoldReleaseFinish : Prop :=
  ∀ (s : State) (q : Nat) (r : Running),
    let w := dSigWp r.desc
    let up : Word64 := if dSigEn r.desc = true ∧ (s.part (s.queuePart q)).holds (w / 4096) = true then 1 else 0
    (Runs s q 0x00 r → Answers (.nop q) s fun t =>
      Finished t q stOk result0 ∧ t.parts = s.parts ∧ t.waypost w = s.waypost w + up) ∧
    (Runs s q 0x03 r → Answers (.holdRelease q) s fun t =>
      Finished t q stOk result0 ∧ t.part (s.queuePart q) = { s.part (s.queuePart q) with hold := false })

/-- WAYPOST_SET sets or adds VALUE, or leaves the waypost unchanged; it writes the result to REPORT when REPORT is not 0 and
returns it; the SIG_EN increment follows its own operation (R443). -/
def Obligations.WaypostSetReportsAndReturnsResult : Prop :=
  ∀ (s : State) (q : Nat) (ok : Bool) (r : Running), MemoryOk s → Runs s q 0x01 r →
    let d := r.desc
    let p := s.queuePart q
    let op := field d 2 2 % 4
    let w := bits (field d 24 2) 0 14
    let value := BitVec.ofNat 64 (field d 32 8)
    let result := if op = 0 then value else if op = 1 then s.waypost w + value else s.waypost w
    let bytes := natLe 8 result.toNat
    let report := (s.part p).reach 5 (field d 40 8) 8
    let sig := dSigEn d = true ∧ (s.part p).holds (dSigWp d / 4096) = true
    op < 3 →
    (field d 40 8 ≠ 0 → ∃ pl, report = some pl ∧ s.placeStatus true pl 8 = none ∧ (pl.isHost = true → ok = true)) →
    Answers (.waypostSet q ok) s fun t =>
      Finished t q stOk (bytes ++ List.replicate 8 0) ∧
      (∀ v, t.waypost v = (if v = w then result else s.waypost v) + if sig ∧ dSigWp d = v then 1 else 0) ∧
      (field d 40 8 = 0 → t.mem = s.mem ∧ t.out = s.out) ∧
      (∀ a, field d 40 8 ≠ 0 → report = some (.dev a) → memRead t.mem a 8 = bytes ∧ t.out = s.out ∧
        ∀ b, b < a ∨ a + 8 ≤ b → memByte t.mem b = memByte s.mem b) ∧
      (∀ a, field d 40 8 ≠ 0 → report = some (.host a) → t.out = s.out ++ [.hostWrite p a bytes] ∧ t.mem = s.mem)

/-- COPY puts the bytes of the source at the destination, returns their number, and changes no other byte of device memory and
slab (R438). A COPY whose ranges overlap moves nothing and completes with ST_OP_FORM at its destination field (R438, R444).
Rests on log entries 40, 101. -/
def Obligations.CopyMovesBytesOrIsRefused : Prop :=
  (∀ (s : State) (q : Nat) (reply : HostReply) (ok : Bool) (r : Running) (a b : Place) (bs : List Byte),
      MemoryOk s → Runs s q 0x02 r →
      let n := field r.desc 40 8
      (s.part (s.queuePart q)).reach 7 (field r.desc 24 8) n = some a →
      (s.part (s.queuePart q)).reach 7 (field r.desc 32 8) n = some b → overlap a b n = false →
      s.badAccess [(false, a, n), (true, b, n)] = none → s.source a n reply = some bs → (b.isHost = true → ok = true) →
      Answers (.copy q reply ok) s fun t =>
        Finished t q stOk (natLe 8 n ++ List.replicate 8 0) ∧
        match b with
        | .dev i => memRead t.mem i n = bs ∧ t.slab = s.slab ∧ t.out = s.out ∧
            ∀ c, c < i ∨ i + n ≤ c → memByte t.mem c = memByte s.mem c
        | .slab i => memRead t.slab i n = bs ∧ t.mem = s.mem ∧ t.out = s.out ∧
            ∀ c, c < i ∨ i + n ≤ c → memByte t.slab c = memByte s.slab c
        | .host i => t.out = s.out ++ [.hostWrite (s.queuePart q) i bs] ∧ t.mem = s.mem ∧ t.slab = s.slab) ∧
  (∀ (s : State) (q : Nat) (reply : HostReply) (ok : Bool) (r : Running) (a b : Place), Runs s q 0x02 r →
      place (field r.desc 24 8) = some a → place (field r.desc 32 8) = some b → overlap a b (field r.desc 40 8) = true →
      Answers (.copy q reply ok) s fun t =>
        Finished t q stOpForm (resultAt 32 false) ∧ t.mem = s.mem ∧ t.slab = s.slab ∧ t.out = s.out)

/-- MAP_LOAD, once no MAP_LOAD that began before it still runs (R252): an image that passes every check replaces the
partition's map whole, unless a copy that moves with it cannot be read or written; one that fails any check, or whose copies
cannot move, leaves the map, and all of the partition, as it was and finishes with the status and RESULT (R225, R230 to R233,
R399). Rests on log entry 57. -/
def Obligations.MapLoadIsAllOrNothing : Prop :=
  ∀ (s : State) (q : Nat) (reply : HostReply) (r : Running) (bs : List Byte), Runs s q 0x08 r →
    let p := s.queuePart q
    s.earlier p 0x08 r.work.gen (fun _ => true) = false →
    Delivers s q (field r.desc 24 8) (field r.desc 32 8) reply bs →
    (∀ new, s.checkMap p bs = .inr new → s.moveFault (copyMoves (s.part p).layers new) = none →
      Answers (.mapLoad q reply) s fun t => Finished t q stOk result0 ∧ (t.part p).layers = new) ∧
    (∀ new st a len, s.checkMap p bs = .inr new → s.moveFault (copyMoves (s.part p).layers new) = some (st, a, len) →
      Answers (.mapLoad q reply) s fun t =>
        Finished t q st result0 ∧ t.parts = s.parts ∧ t.mem = s.mem ∧ t.tiles = s.tiles) ∧
    (∀ st res, s.checkMap p bs = .inl (st, res) → Answers (.mapLoad q reply) s fun t =>
      Finished t q st res ∧ t.parts = s.parts ∧ t.mem = s.mem ∧ t.tiles = s.tiles)

/-- GROUP_LOAD: 1 to 256 records that all pass their checks, each checked against the table that the records before it leave,
leave that table, of which only the loaded groups differ, each with a used entry; if one fails, no group changes (R322, R324,
R325). VPROG_LOAD: a well-formed program takes its slot alone (R347). COLL_GROUP: a valid record, its header read first and
then the entries that COUNT says, defines its group and keeps the tags that the group has used (R370, R392); a COUNT outside 2
to 4,096 is refused before the entries are read. Rests on log entries 73, 74. -/
def Obligations.LoadsDefineGroupsProgramsAndMembers : Prop :=
  ∀ (s : State) (q : Nat) (reply : HostReply) (r : Running) (bs : List Byte),
    let p := s.queuePart q
    let x := s.part p
    let d := r.desc
    (Runs s q 0x09 r → 0 < field d 32 2 → field d 32 2 ≤ 256 →
      Delivers s q (field d 24 8) (128 * field d 32 2) reply bs →
      (∀ y, loadRecords bs (field d 32 2) 0 x = .inr y → Answers (.groupLoad q reply) s fun t =>
        Finished t q stOk result0 ∧ t.part p = { x with groups := y.groups } ∧
        (∀ k, (∀ i, i < field d 32 2 → field bs (128 * i) 1 ≠ k) →
          tget Group.unused (t.part p).groups k = tget Group.unused x.groups k) ∧
        ∀ i, i < field d 32 2 → (tget Group.unused (t.part p).groups (field bs (128 * i) 1)).used = true) ∧
      (field d 32 2 = 1 → ∀ g, g = slice bs 0 128 → groupFault x g = none →
        let cur := tget Group.unused x.groups (field g 0 1)
        let ch := if cur.used then shardChange cur.record g else some 1
        (ch.isSome = false ∨ x.stepOn = false) → Answers (.groupLoad q reply) s fun t =>
          Finished t q stOk result0 ∧ tget Group.unused (t.part p).groups (field g 0 1) = cur.load g ch.isSome x.stepOn) ∧
      (∀ st res, loadRecords bs (field d 32 2) 0 x = .inl (st, res) → Answers (.groupLoad q reply) s fun t =>
        Finished t q st res ∧ t.parts = s.parts)) ∧
    (Runs s q 0x0A r → 0 < field d 26 2 → field d 26 2 ≤ 256 →
      Delivers s q (field d 32 8) (4 * field d 26 2) reply bs →
      let slot := bits (field d 24 1) 0 4
      programOk (words32 (field d 26 2) bs) = true → ¬ (x.slotNamed slot = true ∧ x.stepOn = true) →
      Answers (.vprogLoad q reply) s fun t => Finished t q stOk result0 ∧
        tget [] (t.part p).progs slot = words32 (field d 26 2) bs ∧
        ∀ k, k ≠ slot → tget [] (t.part p).progs k = tget [] x.progs k) ∧
    (∀ h, Runs s q 0x0B r → Delivers s q (field d 24 8) 64 reply h →
      let n := field h 2 2
      (n < 2 ∨ 4096 < n → Answers (.collGroup q reply) s fun t => Finished t q stCollForm result0 ∧ t.parts = s.parts) ∧
      (∀ g, 2 ≤ n → n ≤ 4096 → Delivers s q (field d 24 8) (64 + 4 * n) reply bs → s.groupOf p bs = some g →
        x.collRuns (field bs 0 1) = false → Answers (.collGroup q reply) s fun t => Finished t q stOk result0 ∧
          tget CollGroup.none (t.part p).collGroups (field bs 0 1) =
            { g with tags := (tget CollGroup.none x.collGroups (field bs 0 1)).tags } ∧
          ∀ k, k ≠ field bs 0 1 → tget CollGroup.none (t.part p).collGroups k = tget CollGroup.none x.collGroups k))

/-! ### The forward pass and the array tiles -/

/-- FORWARD: a descriptor that passes its checks starts with every result row still to be written, and each of its rows is sent
to every position of its layer with the block of inputs, base and shifts of that position; then the roads move (R138, R245,
R460). DISPATCH: a list that passes its checks starts, and each entry's row is sent to every position of the layer that it
names, as the token of its sequence number; then the roads move (R245 to R247). Rests on log entries 113, 115. -/
def Obligations.ForwardAndDispatchSendTheirRows : Prop :=
  (∀ (s u : State) (q st : Nat) (r : Running) (l : Layer) (slotAt preAt : Option Nat), Runs s q 0x10 r → r.work.started = false →
      let d := r.desc
      let p := s.queuePart q
      let fmt := bits (field d 54 1) 0 2
      let n := field d 28 3 + 1
      let route := r.work.route l.num
      let out := rowCount route n
      let last := route.getLastD l
      let a := field d 32 8
      let b := field d 40 8
      let srcLen := if fmt = 0 then n * (l.inputs + 4 * l.blocks) else n * l.inputs * srcSize fmt
      let dstLen := resultBytes b out last.rowBytes last.fmt.blocked
      let slotLen := n * (l.inputs + 4 * l.blocks)
      let preLen := 2 * n * l.outputs
      let xs := [(false, .dev a, srcLen), (true, .dev b, dstLen)] ++ s.bypassReads route
      let row := fun (i : Nat) =>
        if fmt = 0 then codeRow l (memRead s.mem (a + i * l.inputs) l.inputs)
          (memRead s.mem (a + n * l.inputs + 4 * l.blocks * i) (4 * l.blocks))
        else quantRow l (srcElems fmt l.inputs (memRead s.mem (a + i * l.inputs * srcSize fmt) (l.inputs * srcSize fmt)))
      findLayer r.work.layers (field d 24 2) = some l → fmt < 3 →
      ((s.part p).reach 1 a srcLen).isSome = true → ((s.part p).reach 1 b dstLen).isSome = true → s.badAccess xs = none →
      (s.countReads xs).productSlots p (dPhase d) (field d 26 2) slotLen (dFlag d 0)
        (if l.preact then field d 52 2 else 0xFFFF) preLen = .inr (u, st, slotAt, preAt) →
      s.badAccess ((placed [(slotAt, slotLen), (preAt, preLen)]).map fun e => (true, .dev e.1, e.2)) = none → 0 < out →
      Answers (.forward q) s fun t => ∃ v : State, t = v.settleRoads ∧
        (∃ r', (v.queue q).running = some r' ∧ r'.desc = d ∧ r'.done = none ∧ r'.work.started = true ∧
          r'.work.rows = List.range out) ∧
        ∀ i, i < n → ∀ e ∈ l.tiles, e.pos < l.blocks → OnRoads v (tileDie e.tile) (downDst v l e.tile)
          (.vector ((row i).vec l ⟨q, r.work.gen, l.num, l.num, i, i, BitVec.ofNat 32 (field d 48 4 + i)⟩ e.pos))) ∧
  (∀ (s u : State) (q st : Nat) (r : Running) (slotAt preAt : Option Nat), Runs s q 0x11 r → r.work.started = false →
      let d := r.desc
      let p := s.queuePart q
      let fmt := bits (field d 58 1) 0 2
      let n := field d 32 4
      let ls := r.work.layers
      let list := field d 24 8
      let rowBytes := field d 60 4
      let srcLen := field d 36 4 * rowBytes
      let a := field d 40 8
      let b := field d 48 8
      let es := (List.range n).map fun i => dispEntry (memRead s.mem (list + 8 * i) 8)
      let toks := dispTokens ls q r.work.gen es
      let nums := (es.map (·.layer)).eraseDups
      let lasts := nums.filterMap fun m => (r.work.route m).getLast?
      let stride := (lasts.map Layer.rowBytes).foldl max 0
      let dstLen := resultBytes b n stride (lasts.any fun l => l.fmt.blocked)
      let slotLen := (toks.map fun e => e.1.inputs + 4 * e.1.blocks).sum
      let xs := [(false, .dev list, 8 * n), (false, .dev a, srcLen), (true, .dev b, dstLen)] ++
        s.bypassReads ((nums.flatMap r.work.route).eraseDups)
      let out := nums.flatMap fun m => dispRows (r.work.route m) ((toks.filter fun e => e.1.num == m).map fun e => e.2.2.row)
      let row := fun (l : Layer) (e : DispEntry) =>
        let base := a + e.src * rowBytes
        if fmt = 0 then codeRow l (memRead s.mem base l.inputs) (memRead s.mem (base + l.inputs) (4 * l.blocks))
        else quantRow l (srcElems fmt l.inputs (memRead s.mem base (l.inputs * srcSize fmt)))
      fmt < 3 → ((s.part p).reach 1 list (8 * n)).isSome = true → s.placeStatus false (.dev list) (8 * n) = none →
      dispFault ls fmt (field d 36 4) rowBytes es = none →
      ((s.part p).reach 1 a srcLen).isSome = true → ((s.part p).reach 1 b dstLen).isSome = true → s.badAccess xs = none →
      (s.countReads xs).productSlots p (dPhase d) (field d 56 2) slotLen (dFlag d 0) 0xFFFF 0 = .inr (u, st, slotAt, preAt) →
      s.badAccess ((placed [(slotAt, slotLen)]).map fun e => (true, .dev e.1, e.2)) = none → out ≠ [] →
      Answers (.dispatch q) s fun t => ∃ v : State, t = v.settleRoads ∧
        (∃ r', (v.queue q).running = some r' ∧ r'.desc = d ∧ r'.done = none ∧ r'.work.started = true ∧ r'.work.rows = out) ∧
        ∀ k ∈ toks, ∀ e ∈ k.1.tiles, e.pos < k.1.blocks → OnRoads v (tileDie e.tile) (downDst v k.1 e.tile)
          (.vector ((row k.1 k.2.1).vec k.1 k.2.2 e.pos)))

/-- VECTOR_LATCH: the vector that waits longest at a tile enters its row drivers, with its segments chosen and the tile's trim
and corrections of that moment, when the tile is idle or active, drives no vector and its edge unit has room; the tile is
ACTIVE, and what waits for the place that has become free follows (R64 to R66, R121, R243, R477). Until then the vector waits
(R66, R76). Rests on log entry 113. -/
def Obligations.LatchedVectorEntersRowDriversOrWaits : Prop :=
  ∀ (s : State) (t p i : Nat) (l0 l : Layer) (e : TileEntry) (v : Vec) (rest : List Vec),
    let x := s.tile t
    tileExists t = true → s.role t = some (p, l0, i, e) → s.physTile e.tile = t → (s.tile e.tile).slots = v :: rest →
    s.tokLayer v.tok = some l →
    ((x.st = .idle ∨ x.st = .active) ∧ x.driving = false ∧ s.outRoom l e = true →
      Answers (.vectorLatch t) s fun s' => ∃ u : State,
        s' = (State.assemble (u.tile e.tile).pieces.length e.tile u).settleRoads.settleTile t ∧
        (u.tile t).st = .active ∧ (u.tile e.tile).slots = rest ∧
        (u.tile t).prods = x.prods ++ [newProd l v x.trim ((s.asBegan v.tok.q).adcUser t)]) ∧
    (¬ ((x.st = .idle ∨ x.st = .active) ∧ x.driving = false ∧ s.outRoom l e = true) → exec (.vectorLatch t) s = .next s)

/-- Conversion with neither gain nor offset to correct: the code is the one from −511 to 511 nearest to the sum in steps of the
range code, on a transition the one of larger magnitude, and ±511 beyond the last transitions (R84). -/
def Obligations.ConversionTakesNearestCode : Prop :=
  ∀ (k : Nat) (sum : Int),
    let q : Int := ((anUnit * 2 ^ k : Nat) : Int)
    let c := corrected 0 0 (rawCode k 0 0 sum)
    c ≤ 511 ∧ -511 ≤ c ∧ (1021 * q ≤ 2 * sum → c = 511) ∧ (2 * sum ≤ -1021 * q → c = -511) ∧
    (∀ n : Int, -511 ≤ n → n ≤ 511 → (sum - c * q).natAbs ≤ (sum - n * q).natAbs) ∧
    ∀ n : Int, -511 ≤ n → n ≤ 510 → 2 * sum = (2 * n + 1) * q → c = if 0 ≤ n then n + 1 else n

/-- SEGMENT_SAMPLE: the next segment, whose toll is paid, is sampled on every column; its codes join the product's, it leaves
the list of segments to come, and nothing else of the tile's products changes. Every code lies from −512 to 511 and codes of 0
are not listed (R63, R67, R84). EDGE_PIPELINE takes the oldest product of a tile, all of whose segments are converted, off the
tile; its outputs become a packet of its position, which then sends on or closes what it can, and the roads move (R113, R114,
R236). A product of a chain of one position, with nothing to preload, to pool or to copy, leaves as its result rows, each
output activated (R122, R125). Rests on log entries 7, 59, 101, 113. -/
def Obligations.SegmentsAreSampledAndProductsPassedOn : Prop :=
  (∀ (s : State) (t g : Nat) (dev : List (Nat × Int)) (p : Prod) (l : Layer) (rest : List Nat), tileExists t = true →
      (s.tile t).prods.find? (fun p => !p.todo.isEmpty) = some p → s.tokLayer p.vec.tok = some l → p.todo = g :: rest →
      p.toll = 2 →
      let codes := s.sample t l p.vec p.n g dev
      (∀ c ∈ codes, -512 ≤ c.2 ∧ c.2 ≤ 511 ∧ c.2 ≠ 0 ∧ c.1 < 1152) ∧
      Answers (.segmentSample t dev) s fun s' =>
        (s'.tile t).prods = updateFirst (fun p => !p.todo.isEmpty)
          (fun _ => { p with todo := rest, toll := if rest.isEmpty then 0 else 1, codes := p.codes ++ [(g, codes)] }) (s.tile t).prods) ∧
  (∀ (s : State) (t p i : Nat) (l l0 : Layer) (e : TileEntry) (x : Prod) (rest : List Prod), tileExists t = true →
      (s.tile t).prods = x :: rest → x.todo = [] → s.tokLayer x.vec.tok = some l → s.role t = some (p, l0, i, e) →
      (s.tile t).retireReq = false →
      let outs := (l.outputsOf e (s.columns t l x).data x.tau x.vec.b).map (·.1)
      Answers (.edgePipeline t) s fun s' => ∃ u : State, s' = (u.advance e.tile).settleRoads ∧ (u.tile t).prods = rest ∧
        (u.tile e.tile).partials = (s.tile e.tile).partials ++ [⟨x.vec.tok, e.pos, true, outs⟩] ∧
        ∀ (j : Nat) (r : Running), s.runningProduct x.vec.tok.q = some r → l.entryOf e.tile = some (j, e) → e.pos = 0 →
          l.chainLen = 1 → l.preload = 0 → l.preact = false → l.pool = 0 → l.outFmt < 3 → (s.tile e.tile).partials = [] →
          (s.tile e.tile).pool.find? (·.of x.vec.tok) = none → x.vec.tok.idx = 0 →
          OnRoads (u.advance e.tile) (tileDie e.tile)
            (dstCode (bridgeEnd (bridgeFor (tileDie e.tile) (tileDie e.tile) (endBlock (s.physTile e.tile % 65536)))) e.tile)
            (.result (windowToken (dOpcode r.desc) l x.vec.tok)
              (outs.map fun v => { v with val := activate l.act l.actTable (add32 v.val 0) })))

/-- PARTIAL_PACKET, at a tile that has taken no other packet yet: one that is next in the order of its chain moves on to the
next position, by the chain link or over the roads; any other waits until it is; the closing tile adds one that continues the
sum of its product, in road order (R235, R236, R238). RESIDUAL_ARRIVAL: the residual vector joins those that its closing tile
holds, and stays there while no product of the tile can close (R124). INPUT_PIECE_ARRIVAL: a piece is taken, and stays while
other pieces of its vector are missing or the tile has no place for the vector; with the last piece the whole vector waits at
the tile, its codes merged row by row (R66, R244). Rests on log entries 58, 59, 113. -/
def Obligations.PacketsMoveAndPiecesWaitForTheRest : Prop :=
  (∀ (s : State) (t p i j : Nat) (l l0 : Layer) (e : TileEntry) (a : Partial), tileExists t = true →
      s.role t = some (p, l0, i, e) → (s.tile e.tile).partials.find? (fun a => !a.got) = some a → s.tokLayer a.tok = some l →
      l.entryOf e.tile = some (j, e) → (∀ b ∈ (s.tile e.tile).partials, b.got = false) →
      let b := { a with got := true }
      let left := removeFirst a (s.tile e.tile).partials
      let held := s.modTile e.tile fun y => { y with partials := left ++ [b] }
      (e.pos + 1 ≠ l.chainLen →
        (∀ f, (held.tile e.tile).sendsNext b = true → f.tile ≠ e.tile →
          l.tiles.find? (fun f => f.chain == e.chain && f.pos == e.pos + 1) = some f →
          Answers (.partialPacket t) s fun s' => ∃ u : State, s' = u.settleRoads ∧ (u.tile e.tile).partials = left ∧
            if s.linked l e.tile f.tile then (u.tile f.tile).partials = (s.tile f.tile).partials ++ [a]
            else OnRoads u (tileDie e.tile) (if s.bypassed l e.tile then downDst s l f.tile
              else dstCode (s.stationOf l f.tile (s.physTile e.tile % 65536)) f.tile) (.packet a)) ∧
        ((held.tile e.tile).sendsNext b = false → a.pos + 1 ≠ l.chainLen →
          exec (.partialPacket t) s = .next held.settleRoads)) ∧
      (e.pos + 1 = l.chainLen → a.pos ≠ e.pos →
        let c := ((s.tile e.tile).sums.find? fun c => c.tok == a.tok).getD ⟨a.tok, 0, []⟩
        (c.next = a.pos → Answers (.partialPacket t) s fun s' => ∃ u : State, s' = u.settleRoads ∧
          (u.tile e.tile).partials = left ∧ (u.tile e.tile).sums.find? (fun c => c.tok == a.tok) =
            some ⟨a.tok, a.pos + 1, if a.pos = 0 then a.vals else chainCombine [c.vals, a.vals]⟩) ∧
        (c.next ≠ a.pos → exec (.partialPacket t) s = .next held.settleRoads))) ∧
  (∀ (s : State) (t p i : Nat) (l0 : Layer) (e : TileEntry), tileExists t = true → s.role t = some (p, l0, i, e) →
      (∀ (seq : Word) (vs : List Word),
        let with_ := s.modTile e.tile fun y => { y with residuals := y.residuals ++ [⟨seq, vs⟩] }
        with_.forwardOne e.tile = none → with_.readyProduct e.tile = none →
        exec (.residualArrival t seq vs) s = .next with_.settleRoads) ∧
      (∀ (a : Piece) (l : Layer) (j : Nat), (s.tile e.tile).pieces.find? (fun a => !a.got) = some a →
        s.tokLayer a.vec.tok = some l → l.entryOf e.tile = some (j, e) →
        (∀ b ∈ (s.tile e.tile).pieces, b.got = true → b.vec.tok = a.vec.tok) →
        let ps := removeFirst a (s.tile e.tile).pieces ++ [{ a with got := true }]
        let mine := ps.filter fun b => b.got && b.vec.tok == a.vec.tok
        let held := s.modTile e.tile fun y => { y with pieces := ps }
        ((∀ b ∈ mine, mine.length < b.want) → exec (.inputPieceArrival t) s = .next held.settleRoads) ∧
        ((∀ b ∈ mine, b.want ≤ mine.length) → s.bypassed l e.tile = false →
          (s.slotRoom l e = 0 → exec (.inputPieceArrival t) s = .next held.settleRoads) ∧
          (s.slotRoom l e ≠ 0 → Answers (.inputPieceArrival t) s fun s' => ∃ (u : State) (v : Vec), s' = u.settleRoads ∧
            (u.tile e.tile).pieces = ps.filter (fun b => b.vec.tok != a.vec.tok) ∧
            (u.tile e.tile).slots = (s.tile e.tile).slots ++ [v] ∧ v.tok = a.vec.tok ∧
            v.codes = mine.foldl (fun c b => mergeCodes c b.vec.codes) []))))

/-- IDLE_TIMEOUT puts a tile to sleep only when it has nothing to do, a refresh that may begin among it, and SLEEP_EN and
IDLE_TO ask for it (R72, R75, R79); TILE_WAKE_DONE brings an admitted tile to IDLE, or to PROGRAM where something is to be
written and no vector waits at it, after which the roads move; it leaves every tile that was not admitted as it is (R72, R74,
R76). WAKE_ADMIT: a die admits its next wake, vectors before other work before power-up, and at most 256 in a period of 1 µs;
the tile is then on its way to IDLE. With 256 admitted, the wakes go on waiting and each is counted once (R489, R501). Rests on
log entry 4. -/
def Obligations.TilesSleepAndWakeInOrder : Prop :=
  (∀ (s : State) (t : Nat), tileExists t = true →
      exec (.idleTimeout t) s = .next (if s.tileFree t = true ∧ s.regf 0 (tileDie t) 0x40 0 16 ≠ 0 ∧ s.regf 0 (tileDie t) 0x40 16 1 = 1
        then s.modTile t fun y => { y with st := .sleep } else s) ∧
      (s.refreshMay t = true → s.tileFree t = false) ∧
      let x := s.tile t
      let work := x.programWork = true ∨ ∃ r, s.role t = some r ∧ (s.tile r.2.2.2.tile).orders ≠ []
      (x.waking = true → x.st = .sleep ∨ x.st = .off →
        (work → s.slotsOf t = [] →
          exec (.tileWakeDone t) s = .next (s.setTile t { x with st := .program, waking := false }).settleRoads) ∧
        (¬ (work ∧ s.slotsOf t = []) →
          exec (.tileWakeDone t) s = .next (s.setTile t { x with st := .idle, waking := false }).settleRoads)) ∧
      (x.waking = false ∨ x.st ≠ .sleep ∧ x.st ≠ .off → exec (.tileWakeDone t) s = .next s)) ∧
  (∀ (s : State) (d : Nat) (w : WakeReq), d < 8 →
      let g0 := s.gate d
      let g := if g0.wakeAt = s.ltime / 1000 then g0 else { g0 with wakeAt := s.ltime / 1000, wakeN := 0 }
      g.nextWake = some w →
      (∀ v ∈ g.wakes, (v.cls = 1 → w.cls = 1) ∧ (v.cls = 2 → w.cls = 1 ∨ w.cls = 2)) ∧
      (g.wakeN < 256 → Answers (.wakeAdmit d) s fun t => Only [.gates, .tiles] s t ∧
        t.gate d = { g with wakes := removeFirst w g.wakes, wakeN := g.wakeN + 1 } ∧
        t.tile w.tile = { s.tile w.tile with waking := true, wake := 0 }) ∧
      (256 ≤ g.wakeN → exec (.wakeAdmit d) s =
        .next ((s.setGate d { g with wakes := g.wakes.map fun r => { r with waited := true } }).count 0 d 0xB8 16
          (g.wakes.filter fun r => !r.waited).length)))

/-! ### Power, heat and clocks -/

/-- TOLL_ADMIT: the request admitted is the earliest of its bucket; its toll leaves the bucket, which it never overdraws, the 1
µs window stays within its ceiling and its rise limit, and the tile has its toll. With nothing to admit, each waiting request
counts as stalled once (R486, R488, R501). DEBT_CHECK: what a die drew beyond the tolls charged is taken from its product
bucket, down to an eighth of the bucket below empty, and counted; a die that drew no more pays nothing (R482). Rests on log
entry 4. -/
def Obligations.TollsAndDebtsLeaveTheBuckets : Prop :=
  (∀ (s : State) (d : Nat), d < 8 →
      let g := s.gate d
      (∀ r, s.nextToll d = some r → r ∈ g.reqs ∧ Answers (.tollAdmit d) s fun t =>
        Only [.gates, .tiles] s t ∧ (t.gate d).reqs = removeFirst r g.reqs ∧
        (t.gate d).prod = (if r.program then g.prod else g.prod - r.pj * bucketUnit) ∧
        (t.gate d).prog = (if r.program then g.prog - r.pj * bucketUnit else g.prog) ∧
        (r.program = false → 0 ≤ (t.gate d).prod) ∧ (r.program = true → 0 ≤ (t.gate d).prog) ∧
        (t.gate d).cur ≤ s.ceiling d ∧ (t.gate d).cur ≤ s.riseLimit d ∧
        t.tile r.tile = (s.tile r.tile).tollTaken r.program) ∧
      (s.nextToll d = none → exec (.tollAdmit d) s =
        .next ((s.setGate d { g with reqs := g.reqs.map fun r => { r with waited := true } }).count 0 d 0xB8 0
          (g.reqs.filter fun r => !r.waited).length))) ∧
  (∀ (s : State) (d drawn : Nat), d < 8 →
      let g := s.gate d
      (drawn ≤ g.charged → exec (.debtCheck d drawn) s = .next (s.setGate d { g with charged := 0 })) ∧
      (g.charged < drawn → exec (.debtCheck d drawn) s = .next ((s.setGate d { g with
        charged := 0
        prod := max (-((productCap / 8 : Nat) : Int)) (g.prod - ((drawn - g.charged : Nat) : Int) * bucketUnit) }).count 0 d 0xB4 24 1)))

/-- RAIL_MEASURE: of every 16 clock cycles each gradient die of the partition skips the least number, at most 12, that brings
the measured draw within the group's budget times the die's share factor; a hub die skips so only while it is throttled, and
the stacks are slowed exactly while the draw of their group is over its budget. The partition's power is what was measured with
its array tolls (R480, R491, R503); in a scrub it lies within 5 % of the scrub's cap (R516). POWER_BRAKE_ASSERT and
POWER_BRAKE_RELEASE: the brake takes effect or ends, both buckets of every tollgate start empty, and levels, requests and
windows of the tollgates stay; asserting it again, or releasing it when it is not asserted, does nothing (R485, R490). Rests on
log entries 16, 124. -/
def Obligations.RailBudgetsAndBrakeHold : Prop :=
  (∀ (s : State) (p gw mw d m : Nat), p < 4 → (s.part p).st ≠ .absent →
      let x := s.part p
      let share := fun (w : Nat) => w * 1000 * x.quads.length / 4 / (if s.brake then 2 else 1)
      let own := s.dieShare 1 d (share x.budget.2.1)
      let k := skipFor gw own
      let array := ((x.dies 0).map fun d => (s.gate d).prev / 1000).sum
      let mine := if x.st = .scrubbing then gw + mw + array else mw
      k ≤ 12 ∧ (k < 12 → gw * (16 - k) ≤ 16 * own) ∧ (∀ j, j < k → 16 * own < gw * (16 - j)) ∧
      Answers (.railMeasure p gw mw) s fun t =>
        (d < 8 → d ∈ x.dies 1 → t.die 1 d = { s.die 1 d with skip := k }) ∧
        (d ∈ x.dies 2 → t.die 2 d = { s.die 2 d with
          skip := if (s.die 2 d).share < 320 then skipFor mw (s.dieShare 2 d (share x.budget.2.2)) else 0 }) ∧
        (m < 24 → m / 6 ∈ x.quads → t.stack m = { s.stack m with slowed := decide (share x.budget.2.2 < mine) }) ∧
        (x.st ≠ .scrubbing → (t.part p).powerMw = gw + mw + array ∧ Only [.parts, .dies, .hbm] s t) ∧
        (x.st = .scrubbing → share scrubCap * 950 / 1000 ≤ (t.part p).powerMw ∧ (t.part p).powerMw ≤ share scrubCap * 1050 / 1000 ∧
          Only [.free, .parts, .dies, .hbm] s t)) ∧
  (∀ s : State,
      (s.brake = false → Answers .powerBrakeAssert s fun t => t.brake = true ∧ t.gates = s.emptyBuckets.gates) ∧
      (s.brake = true → Answers .powerBrakeRelease s fun t => t.brake = false ∧ t.gates = s.emptyBuckets.gates) ∧
      (s.brake = true → exec .powerBrakeAssert s = .next s) ∧ (s.brake = false → exec .powerBrakeRelease s = .next s))

/-- DIE_TEMP_SAMPLE: below 110 °C a powered die takes the hottest corrected reading, with the share factor of that temperature:
320 of 320 below 95 °C, less one for every sixteenth of a degree up to 105 °C, and 80 above. From 110 °C on the data plane
loses power (R491, R492). A clock fault brings the data plane down as a trip does; an input fault brings it down and ends the
input. What lies in the far tier stays, HBM, slabs, queues, partitions and wayposts are lost, and fuses, factory and user
calibration stay (R492, R495, R496). Rests on log entries 51, 86. -/
def Obligations.HeatAndFaultsTakePowerAway : Prop :=
  (∀ (s : State) (k : DieKind) (d i : Nat) (t : Int) (sensors : List Int), d < dieCount k → s.powered = true →
      s.hottest (kindCode k) d sensors 0 = some (t, i) →
      (t < 1760 → Answers (.dieTempSample k d sensors) s fun s' =>
        (s'.die (kindCode k) d).temp = t ∧ s'.powered = true ∧
        ((s'.die (kindCode k) d).share : Int) = if t < 1520 then 320 else if t ≤ 1680 then 320 - (t - 1520) else 80) ∧
      (1760 ≤ t → Answers (.dieTempSample k d sensors) s fun s' =>
        s'.powered = false ∧ s'.mgmt.tripped = true ∧ s'.parts = [] ∧ s'.queues = [])) ∧
  (∀ (s : State) (k : DieKind) (d source centivolts : Nat) (ppm : Int) (above : Bool), d < dieCount k → s.input = true →
      s.powered = true → MemoryOk s →
      let down := fun (t : State) => t.powered = false ∧ t.parts = [] ∧ t.queues = [] ∧ t.wayposts = [] ∧ t.slab = [] ∧
        (∀ a, memByte t.mem a = if farBase ≤ a then memByte s.mem a else 0) ∧ t.sec = s.sec ∧ t.calUser = s.calUser ∧
        t.calFactory = s.calFactory ∧ t.retire = s.retire ∧ t.scrubs = s.scrubs
      (s.mgmt.recovery = false → Answers (.clockFault k d source ppm) s fun t => down t ∧ t.input = true ∧ t.mgmt.tripped = true) ∧
      Answers (.inputFault above centivolts) s fun t => down t ∧ t.input = false)

/-! ### Matrix, row and vector engines -/

/-- MATMUL: once every check and access passes, OUT holds the tensor of the outputs, PREACT the pre-activation values where it
asks for them, nothing else of memory is written, and RESULT holds the sum of squares where SUMSQ asks for it (R253, R261 to
R273). After an uncorrectable slab error nothing is written (R281). Rests on log entry 101. -/
def Obligations.MatmulStoresItsProduct : Prop :=
  ∀ (s : State) (q : Nat) (r : Running), MemoryOk s → Runs s q 0x12 r →
    let p := s.queuePart q
    let a := productArgs r.args
    let mode := if fp8Rate a then LoadMode.unscaled else .toBf16
    let ma := s.loadOperand a.aFmt mode a.m a.k a.aTrans (placeOf a.a) (placeOf a.aScales)
    let mb := s.loadOperand a.bFmt mode a.n a.k (!a.bTrans) (placeOf a.b) (placeOf a.bScales)
    let ea := if fp8Rate a then ma.exps else []
    let eb := if fp8Rate a then mb.exps else []
    let pre := words32 (a.m * a.n) (s.readAt (placeOf a.preAddr) (4 * (a.m * a.n)))
    let bias := words32 a.n (s.readAt (placeOf a.biasAddr) (4 * a.n))
    let table := s.readAt (placeOf a.actAddr) 528
    let start := fun (i j : Nat) => if a.preload = 1 then pre.getD j 0 else if a.preload = 2 then pre.getD (i * a.n + j) 0 else 0
    let wide := fun (i j : Nat) => (dotProduct (ma.vals.getD i []) (mb.vals.getD j []) (ea.getD i []) (eb.getD j []) (start i j) a.split).w
    let before := fun (i j : Nat) => if a.epiBias then add32 (scaleAlpha (wide i j) a.alpha) (bias.getD j 0) else scaleAlpha (wide i j) a.alpha
    let rows := fun (f : Nat → Nat → Word) => (List.range a.m).map fun i => (List.range a.n).map fun j => f i j
    let ys := rows fun i j => activate a.act (if a.act = 2 then table else []) (before i j)
    s.matmulCheck (s.part p) r.args a = none → s.badAccess (spanAccess (matmulSpans a)) = none →
    (Answers (.matmul q true) s fun t => Finished t q stSlabEcc result0 ∧ Untouched s t) ∧
    Answers (.matmul q false) s fun t => Finished t q stOk (sumResult a.sumsq (sumSquares a.shape ys)) ∧
      ∃ u, Stored s u (outFmtOf a.outFmt) (placeOf a.out) ys ∧
        if a.preact then Stored u t .bf16 (placeOf a.preactAddr) (rows before) else Untouched u t

/-- INGRAD: OUT holds the input gradient of every token, one row of the layer's inputs each, and nothing else of memory is
written. WGRAD without a release: OUT holds the weight gradients in parameter order, positions beyond the layer's inputs 0;
BIAS_OUT takes each output's gradient summed over the tokens and rounded once, added to what stood there when there is a
preload; nothing else is written; and with FINAL the square sum of the gradients, tile by tile, joins the layer's gradient sum
on that die (R284 to R291, R271, R313). Rests on log entries 63, 64, 101, 104, 107. -/
def Obligations.GradientsAreStored : Prop :=
  ∀ (s : State) (q : Nat) (r : Running) (l : Layer), MemoryOk s →
    let p := s.queuePart q
    let x := s.part p
    let a := productArgs r.args
    findLayer r.work.layers a.layer = some l →
    (Runs s q 0x14 r → gradCheck x r.args a (gradStarts a false) = none →
      spanCheck x (a.m * l.inputs * (outFmtOf a.outFmt).size) (ingradSpans a l) = none →
      s.badAccess (spanAccess (ingradSpans a l) ++ l.copyAccess) = none →
      let dy := s.loadOperand a.aFmt .exact a.m l.outputs a.aTrans (placeOf a.a) (placeOf a.aScales)
      let cols := (List.range l.inputs).map fun i => (List.range l.outputs).map fun o => s.weightOperand l o i
      let np := if a.preload = 1 then l.inputs else if a.preload = 2 then a.m * l.inputs else 0
      let pre := words32 np (s.readAt (placeOf a.preAddr) (4 * np))
      let ys := (List.range a.m).map fun i => (State.ingradRow a l cols pre i
        (List.zipWith (fun y v => toBf (y.mul v)) (dy.vals.getD i []) ((List.range l.outputs).map l.sigma))).map (·.y)
      (Answers (.ingrad q true) s fun t => Finished t q stSlabEcc result0 ∧ Untouched s t) ∧
      Answers (.ingrad q false) s fun t => Finished t q stOk (sumResult a.sumsq (sumSquares a.shape ys)) ∧
        Stored s t (outFmtOf a.outFmt) (placeOf a.out) ys) ∧
    (∀ at_ len, Runs s q 0x15 r → gradCheck x r.args a (gradStarts a true) = none → s.readSlot p a.slot = .inr (at_, len) →
      let need := a.k * (l.inputs + 4 * l.blocks)
      need ≤ len → spanCheck x (l.weights * (outFmtOf a.outFmt).size) (wgradSpans a l at_ len) = none →
      s.badAccess (spanAccess (wgradSpans a l at_ len)) = none → dFlag r.desc 0 = false → x.wantRelease.contains a.slot = false →
      let dy := s.loadOperand a.aFmt .exact l.outputs a.k a.aTrans (placeOf a.a) (placeOf a.aScales)
      let xs := (s.stashedInputs l at_ a.k (len / (l.inputs + 4 * l.blocks))).1
      let pre := if a.preload = 0 then [] else words32 l.weights (s.readAt (placeOf a.preAddr) (4 * l.weights))
      let g := fun (o i : Nat) => scaleAlpha
        (dotProduct ((dy.vals.getD o []).map toBf) (xs.getD i []) [] [] (pre.getD (l.paramIndex o i) 0) a.split).w a.alpha
      let sq := sumSquares a.shape ((List.range l.outputs).map fun o => (List.range l.inputs).map fun i => g o i)
      let ys := (paramOrder l).map fun e => if e.1 < l.outputs ∧ e.2 < l.inputs then g e.1 e.2 else 0
      let old := if a.preload = 0 then [] else words32 l.outputs (s.readAt (placeOf a.biasOut) (4 * l.outputs))
      (Answers (.wgrad q true) s fun t => Finished t q stSlabEcc result0 ∧ Untouched s t) ∧
      Answers (.wgrad q false) s fun t => Finished t q stOk (sumResult a.sumsq sq) ∧
        (∃ u, Stored s u (outFmtOf a.outFmt) (placeOf a.out) [ys] ∧
          if a.biasOut = 0 then Untouched u t
          else Wrote u t p (placeOf a.biasOut) (bytes32 (dy.vals.zipIdx.map fun v => biasGrad (old[v.2]?) v.1))) ∧
        tget 0 (t.grad a.die).gradSq l.num =
          if a.final then add64 (tget 0 (s.grad a.die).gradSq l.num) sq else tget 0 (s.grad a.die).gradSq l.num)

/-- ROW forward: OUT holds one output row for each row of X, from the row's own statistics; a slot takes the saved tensor, and
the side memory the row records while it has room (R302 to R306). Rests on log entries 11, 61, 101. -/
def Obligations.RowForwardIsStored : Prop :=
  ∀ (s u : State) (q st : Nat) (r : Running) (at_ : Option Nat), MemoryOk s → Runs s q 0x13 r → dFlag r.desc 0 = false →
    let p := s.queuePart q
    let a := rowArgs r.args
    let mb := if a.fn = 2 && a.mask = 2 then u.readAt (placeOf a.maskAddr) (ceilDiv (a.rows * a.d) 8) else []
    let xs := u.loadRows a.inFmt (placeOf a.x) a.rows a.d
    let gamma := if a.norm then words32 a.d (u.readAt (placeOf a.gamma) (4 * a.d)) else []
    let beta := if a.norm && a.hasBeta then words32 a.d (u.readAt (placeOf a.beta) (4 * a.d)) else []
    let stats := xs.zipIdx.map fun x => a.stats mb x.2 x.1
    let ys := xs.zipIdx.map fun x => a.forward mb gamma beta x.2 (a.stats mb x.2 x.1) x.1
    let data := tensorBytes (if a.norm then a.inFmt else a.fmt) a.rows a.d
    rowCheck (s.part p) r.args a false = none → s.badAccess (spanAccess (rowSpans a false)) = none →
    (s.countReads (spanAccess (rowSpans a false))).rowSlot p (dPhase r.desc) a = .placed u st at_ →
    s.badAccess ((placed [(at_, data)]).map fun e => (true, .dev e.1, e.2)) = none →
    Answers (.row q) s fun t => Finished t q stOk result0 ∧
      (∃ v, Stored u v a.fmt (placeOf a.out) ys ∧
        match at_ with
        | none => Untouched v t
        | some b => ∀ c, c < b ∨ b + roadUp data + 8 * a.rows ≤ c →
            memByte t.mem c = memByte v.mem c) ∧
      (a.records = true → (u.grad a.die).sideRoom a.rows = true → t.grad a.die = (u.grad a.die).record a.slot stats)

/-- ROW backward without a release: OUT holds the gradient of every row, from the saved tensor of the slot, or from X for a
softmax that names none; without column sums nothing else of memory is written (R307 to R309). Rests on log entries 21, 61, 62,
101. -/
def Obligations.RowBackwardIsStored : Prop :=
  ∀ (s : State) (q : Nat) (r : Running), MemoryOk s → Runs s q 0x13 r → dFlag r.desc 0 = true → dPhase r.desc = 2 →
    let p := s.queuePart q
    let a := rowArgs r.args
    let mb := if a.fn = 2 && a.mask = 2 then s.readAt (placeOf a.maskAddr) (ceilDiv (a.rows * a.d) 8) else []
    let dy := s.loadRows a.inFmt (placeOf a.dy) a.rows a.d
    let gamma := words32 a.d (s.readAt (placeOf a.gamma) (4 * a.d))
    dFlag r.desc 1 = false → (s.part p).wantRelease.contains a.slot = false → rowCheck (s.part p) r.args a true = none →
    (∀ at_ len f, a.slot ≠ 0xFFFF → s.readSlot p a.slot = .inr (at_, len) → s.slotTensor p a.slot a.rows a.d = some f →
      s.badAccess (spanAccess (rowSpans a true) ++ [(false, .dev at_, len)]) = none →
      let saved := (s.slotRows f at_ a.rows a.d).zip dy
      let stat := fun (i : Nat) (x : List Word) => match s.records a at_ len with
        | some v => v.getD i (0, 0)
        | none => a.stats mb i x
      (2 < a.fn → Answers (.row q) s fun t => Finished t q stOk result0 ∧ Stored s t a.fmt (placeOf a.out)
        (saved.map fun e => List.zipWith (fun y v => mul32 v (derivOf a.fn y)) e.1 e.2)) ∧
      (a.fn = 2 → Answers (.row q) s fun t => Finished t q stOk result0 ∧ Stored s t a.fmt (placeOf a.out)
        (saved.zipIdx.map fun e => softBack a mb e.2 e.1.1 e.1.2)) ∧
      (a.fn < 2 → Answers (.row q) s fun t => Finished t q stOk result0 ∧
        (a.dgamma = 0 → a.dbeta = 0 → Stored s t a.fmt (placeOf a.out) (saved.zipIdx.map fun e =>
          let dx := (normBack (a.fn == 0) gamma (stat e.2 e.1.1) e.1.1 e.1.2).1
          if a.resid = 0 then dx else List.zipWith add32 (s.loadRow .f32 (placeOf a.resid) a.rows a.d e.2 a.d) dx)))) ∧
    (a.fn = 2 → a.slot = 0xFFFF → s.badAccess (spanAccess (rowSpans a true)) = none →
      Answers (.row q) s fun t => Finished t q stOk result0 ∧ Stored s t a.fmt (placeOf a.out)
        (((s.loadRows a.inFmt (placeOf a.x) a.rows a.d).zip dy).zipIdx.map fun e =>
          softBack a mb e.2 (a.forward mb [] [] e.2 (a.stats mb e.2 e.1.1) e.1.1) e.1.2))

/-- DERIV without a release: OUT holds the gradient through pooling and activation, one row for each product, and nothing else
of memory is written (R310 to R312). VPROG: the program that its slot held when it began runs over every bundle of 512 elements
in order; what it stores goes to the bound output streams alone, so every byte of device memory outside them is as before
(R352, R359). Rests on log entries 22, 23, 65, 101. -/
def Obligations.DerivativesAndProgramsAreStored : Prop :=
  (∀ (s : State) (q : Nat) (r : Running) (saved : Option Saved), MemoryOk s → Runs s q 0x16 r →
      let p := s.queuePart q
      let a := derivArgs r.desc
      let l := findLayer r.work.layers a.layer
      let rows := match saved with
        | some v => (chunk a.cols (s.loadRows v.fmt v.at_ v.rows v.cols).flatten).take a.rows
        | none => []
      let reads := match saved with
        | some v => [(false, v.at_, v.len)]
        | none => []
      derivCheck (s.part p) a = none → (a.needsLayer = true → l.isSome = true) → s.derivSaved p a false = .inr saved →
      s.badAccess (spanAccess (derivSpans a) ++ reads) = none → dFlag r.desc 0 = false →
      (s.part p).wantRelease.contains a.slot = false →
      Answers (.deriv q) s fun t => Finished t q stOk result0 ∧
        Stored s t a.outFmt (placeOf a.out) (derivRows a l (s.loadRows a.dyFmt (placeOf a.dy) a.dyRows a.cols) rows)) ∧
  (∀ (s : State) (q : Nat) (r : Running), MemoryOk s → Runs s q 0x17 r →
      let p := s.queuePart q
      let a := vprogArgs r.args
      let bundles := ceilDiv a.count 512
      vprogCheck (s.part p) r.args a r.work.prog = none → s.badAccess (spanAccess a.spans) = none →
      Answers (.vprog q) s fun t => Finished t q stOk result0 ∧ t.free = s.free + 32 * bundles ∧
        (∀ u, u = (List.range bundles).foldl (fun v k => v.customBundle p a r.work.prog k) s →
          t.mem = u.mem ∧ t.slab = u.slab) ∧
        ∀ b, (∀ i, i < 4 → bit a.outs i = true → ∀ c, placeOf (a.addr (8 + i)) = .dev c →
          b < c ∨ c + tensorBytes (a.fmt (8 + i)) 1 a.count ≤ b) → memByte t.mem b = memByte s.mem b)

/-! ### Collectives -/

/-- REDUCE_SCATTER, ALL_GATHER, ALL_REDUCE, BROADCAST and ORDER_GATHER: a descriptor that passes its checks, with peers that
all have a route, takes its tag, announces itself to every peer by READY, and runs on, since no peer is ready yet (R371 to
R374). Rests on log entries 106, 122. -/
def Obligations.CollectiveBeginsWithReadyToEveryPeer : Prop :=
  ∀ (s : State) (q : Nat) (r : Running) (c : Coll),
    (MayBegin s q 0x20 .reduceScatter r c → Answers (.reduceScatter q) s (Begun s q r c)) ∧
    (MayBegin s q 0x21 .allGather r c → Answers (.allGather q) s (Begun s q r c)) ∧
    (MayBegin s q 0x22 .allReduce r c → Answers (.allReduce q) s (Begun s q r c)) ∧
    (MayBegin s q 0x23 .broadcast r c → Answers (.broadcast q) s (Begun s q r c)) ∧
    (MayBegin s q 0x24 .orderGather r c → Answers (.orderGather q) s (Begun s q r c))

/-- READY_RECEIVE: a READY whose key is not running is held, or discarded once the key has completed; one that disagrees with
the member's own makes it abort; one that agrees is kept with its order count; in rack domain 0 it is dropped and counted
(R367, R371, R373). READY_RESEND goes exactly to the peers from which neither READY nor data has come (R373). COLL_DATA_RECEIVE
takes the oldest delivered packet: with no collective of its key it is discarded; in a REDUCE_SCATTER a block of it is added to
the accumulator of that block and counted, and a block that has every peer's values is converted and written at once; in an
ALL_GATHER its blocks are written unchanged at their place (R371, R372, R375). Rests on log entries 28, 106, 122, 123. -/
def Obligations.ReadysAreComparedAndDataAdded : Prop :=
  (∀ (s : State) (p : Nat) (r : Ready) (c : Coll), p < 4 →
      let x := s.part p
      let k := collKey r.group r.milestone r.tag
      (x.inService = true → s.domain = 0 → exec (.readyReceive p r) s = .next (s.dropDomain (2 * p))) ∧
      (x.inService = true → s.domain ≠ 0 → x.coll k = none → x.collTag r.group r.tag = none →
        exec (.readyReceive p r) s = .next (if x.doneKeys.contains k then s
          else s.modPart p fun y => { y with heldReady := y.heldReady ++ [r] })) ∧
      (x.inService = true → s.domain ≠ 0 → x.coll k = some c → r.rank < c.n → r.rank ≠ c.rank → (∀ e ∈ c.ready, e.1 ≠ r.rank) →
        (∀ st, readyFault c.mine r = some st → Answers (.readyReceive p r) s fun t =>
          ∃ c', (t.part p).coll k = some c' ∧ c'.causes = c.causes ++ [(st, c.rank)]) ∧
        (readyFault c.mine r = none → Answers (.readyReceive p r) s fun t =>
          ∀ c', (t.part p).coll k = some c' → (r.rank, r.orders) ∈ c'.ready)) ∧
      (x.collTag r.group r.tag = some c → c.causes = [] → s.domain ≠ 0 → (∀ i ∈ c.peers, ∃ n, Routed s p c i n) →
        let silent := c.peers.filter fun i => !(c.ready.any fun e => e.1 == i) && !c.heard.contains i
        Answers (.readyResend p r.group r.tag) s fun t => t = (s.sendReadys p c silent).1 ∧
          ∀ i ∈ silent, ∀ n, Routed s p c i n → ReadySent s t p c i n)) ∧
  (∀ (s : State) (p rk b : Nat) (k : Packet) (rest : List Packet) (c : Coll) (a : List Word), p < 4 →
      (s.part p).delivered = k :: rest →
      let found := (s.part p).colls.find? fun c => c.mine.group == k.group && c.mine.tag.toNat == k.tag &&
        c.mine.milestone.toNat % 256 == k.mtag
      let z := wireSize c.inF
      (found = none → exec (.collDataReceive p) s = .next (s.modPart p fun x => { x with delivered := rest })) ∧
      (found = some c → c.rankOf k = some rk → rk ≠ c.rank → c.causes = [] →
        (c.mine.op = .reduceScatter → k.payload.length = z → k.offset = b * z → tfind c.acc b = some a →
          let v := List.zipWith add32 a (wireVals c.inF a.length k.payload)
          Answers (.collDataReceive p) s fun t =>
            (∀ c', (t.part p).coll c.key = some c' → tfind c'.acc b = some v ∧ tget 0 c'.cnt b = tget 0 c.cnt b + 1) ∧
            (c.mine.outFmt ≠ 0 → t.mem = if tget 0 c.cnt b + 2 = c.n then (s.finalBlock c b v).mem else s.mem)) ∧
        (c.mine.op = .allGather → Answers (.collDataReceive p) s fun t =>
          t.mem = (s.copyBlocks c c.inF (c.lo rk + k.offset / z) (chunk z k.payload)).1.mem)))

/-- ABORT_RECEIVE starts the settle time of a running key, is held for one not begun, and is discarded for a completed one;
COLL_WATCHDOG_EXPIRY makes the member abort with ST_COLL_TIMEOUT; at COLL_SETTLE_EXPIRY the collective ends with the cause of
highest priority and its rank, and its key is done (R371, R379, R380). In rack domain 0 an ABORT is dropped and counted (R367).
Rests on log entry 122. -/
def Obligations.AbortsSettleOnHighestPriority : Prop :=
  ∀ (s : State) (p : Nat) (a : AbortMsg) (c : Coll) (r : Running), p < 4 →
    let x := s.part p
    let k := collKey a.group a.milestone a.tag
    (x.inService = true → s.domain = 0 → exec (.abortReceive p a) s = .next (s.dropDomain (2 * p))) ∧
    (x.inService = true → s.domain ≠ 0 →
      (x.coll k = some c → exec (.abortReceive p a) s = .next (s.putColl p { c with causes := c.causes ++ [(a.status, a.rank)] })) ∧
      (x.coll k = none → exec (.abortReceive p a) s = .next (if x.doneKeys.contains k then s
        else s.modPart p fun y => { y with heldAbort := y.heldAbort ++ [a] }))) ∧
    ((x.colls.find? fun d => d.mine.group == a.group && d.mine.tag == a.tag && d.causes.isEmpty) = some c →
      Answers (.collWatchdogExpiry p a.group a.tag) s fun t =>
        ∃ c', (t.part p).coll c.key = some c' ∧ c'.causes = [(stCollTimeout, c.rank)]) ∧
    ((x.colls.find? fun d => d.mine.group == a.group && d.mine.tag == a.tag && !d.causes.isEmpty) = some c →
      (s.queue c.q).running = some r → r.done = none →
      Answers (.collSettleExpiry p a.group a.tag) s fun t =>
        ∃ st rank, (st, rank) ∈ c.causes ∧ (∀ e ∈ c.causes, abortPriority st ≤ abortPriority e.1) ∧
          Finished t c.q st (block 16 [(0, 2, rank % 4096)]) ∧ (t.part p).coll c.key = none ∧
          (t.part p).doneKeys = c.key :: x.doneKeys)

/-! ### Update and programming -/

/-- UPDATE_NORM: with FINAL 0 a group's two square sums, each rounded once, go to its places of OUT and 0 to every other; with
FINAL 1 RESULT gives the square root of the named groups' sum, added in binary64 in ascending group, and the number of sums
that are not finite (R334, R335). UPDATE_INIT of a tile-weight group that owns one block: every weight's order enters the log,
its issued values follow, and master weights and state stay (R343); of a digital group: nothing is written. Rests on log
entries 70, 105, 121. -/
def Obligations.NormsAreSummedAndInitialValuesIssued : Prop :=
  (∀ (s : State) (q : Nat) (r : Running), MemoryOk s → Runs s q 0x28 r →
      let d := r.desc
      let p := s.queuePart q
      let x := s.part p
      (∀ g out, dFlag d 1 = false → dFlag d 0 = false → x.usable (field d 24 1) = some g → x.reach 1 (field d 32 8) 2048 = some out →
        s.badAccess (((List.range (gCount g.record)).flatMap fun i => blockAccess g.record i true false) ++ [(true, out, 2048)]) = none →
        let sums := s.groupSums (BitVec.ofNat 32 (field d 28 4)) g.record
        let at_ := fun (w : Word) => (List.range 256).map fun i => if i = field d 24 1 then w else 0
        Answers (.updateNorm q) s fun t => Finished t q stOk result0 ∧ Wrote s t p out (bytes32 (at_ sums.1 ++ at_ sums.2))) ∧
      (∀ pl, dFlag d 1 = true → x.reach 1 (field d 40 8) 2048 = some pl → s.placeStatus false pl 2048 = none →
        let sums := words32 256 (s.readAt pl 1024)
        let total := (x.groups.filter fun e => e.2.used && gNormIn e.2.record).foldl
          (fun t e => add64 t (r64 (f32 (sums.getD e.1 0)))) 0
        Answers (.updateNorm q) s fun t => Untouched s t ∧
          Finished t q stOk (block 16 [(0, 4, (r32 (f64 total).sqrt).toNat), (4, 2, (sums.filter fun w => !fin32 w).length)]))) ∧
  (∀ (s : State) (q : Nat) (r : Running) (g : Group), Runs s q 0x2A r →
      let p := s.queuePart q
      let x := s.part p
      let b := s.readBlock g.record 0
      let os := s.blockOrders p (groupLayers x.layers g.record) g.record (gFirst g.record) b true
      x.usable (field r.desc 24 1) = some g → x.stepOn = false →
      (gKind g.record ≠ 0 → Answers (.updateInit q) s fun t => Finished t q stOk result0 ∧ Untouched s t) ∧
      (gKind g.record = 0 → gCount g.record = 1 → s.badAccess (blockAccess g.record 0 false false) = none →
        x.logCount + os.length ≤ s.logCap p → s.logStatus p os.length = none →
        Answers (.updateInit q) s fun t => Finished t q stOk result0 ∧ (t.part p).logCount = x.logCount + os.length ∧
          t.mem = ((s.writeMem (s.logBase p + 8 * x.logCount) (os.flatMap fun o => natLe 8 o.2.2)).writeBlock g.record 0
            (b.issue os)).mem))

/-- UPDATE_APPLY: a step number that is not above the group's is a replay and changes nothing; one that skips ahead is refused
where the group asks for it, and changes nothing; the next one updates every owned block, records the step with the group and
returns the counts, or waits for the readers of the blocks they have yet to read (R332, R337, R38). PASS2_BLOCK_RESUME: the
first waiting block that its readers can now give up counts as read by all of them and is updated; with no block left the
descriptor completes, else the rest go on waiting (R38). Rests on log entries 68, 71, 101. -/
def Obligations.UpdateApplyTakesOneStepAndResumes : Prop :=
  (∀ (s : State) (q : Nat) (r : Running) (g : Group), Runs s q 0x29 r → r.work.started = false →
      let p := s.queuePart q
      let x := s.part p
      let c := applyCtx p r.desc r.work.record r.work.prog
      let last := g.lastT.toNat
      let a := (List.range (gCount c.g)).foldl (Pass2.next c (groupLayers x.layers c.g)) ⟨s, 0, 0, 0, [], none⟩
      x.usable c.k = some g → fin32 c.eta = true → fin32 c.clip = true → ¬ (gPriv c.g = true ∧ updateMisuse c.prog = true) →
      s.shardHeld p r.work.gen c.k = false →
      (c.t.toNat ≤ last → Answers (.updateApply q) s fun t => Finished t q stStepReplay result0 ∧ Untouched s t ∧ t.parts = s.parts) ∧
      (last + 1 < c.t.toNat → gSkew c.g = false →
        Answers (.updateApply q) s fun t => Finished t q stStepSkew result0 ∧ Untouched s t ∧ t.parts = s.parts) ∧
      (c.t.toNat = last + 1 → a.fail = none →
        (a.wait = [] → Answers (.updateApply q) s fun t =>
          Finished t q stOk (block 16 [(0, 5, a.updated), (8, 4, a.orders), (12, 2, min a.nonfin 65535)]) ∧
          (tget Group.unused (t.part p).groups c.k).lastT = c.t ∧ t.mem = a.s.mem) ∧
        (a.wait ≠ [] → Answers (.updateApply q) s fun t =>
          (∃ r', (t.queue q).running = some r' ∧ r'.done = none ∧ r'.work.todo = a.wait) ∧
          (tget Group.unused (t.part p).groups c.k).lastT = g.lastT))) ∧
  (∀ (s : State) (q i : Nat) (r : Running), Runs s q 0x29 r →
      let p := s.queuePart q
      let x := s.part p
      let w := r.work
      let c := applyCtx p r.desc w.record w.prog
      let key := blockKey c i
      let a := Pass2.next c (groupLayers x.layers c.g) ⟨s.modPart p fun y => y.readBlock key, w.n0, w.n1, w.n2, w.todo.filter (· != i), none⟩ i
      w.todo.find? (fun j => x.readers.all fun d => d.begun || d.read.contains (blockKey c j)) = some i → a.fail = none →
      Answers (.pass2BlockResume q) s fun t => t.mem = a.s.mem ∧ (∀ d ∈ (t.part p).readers, d.read.contains key = true) ∧
        (a.wait = [] → Finished t q stOk (block 16 [(0, 5, a.updated), (8, 4, a.orders), (12, 2, min a.nonfin 65535)]) ∧
          (tget Group.unused (t.part p).groups c.k).lastT = c.t) ∧
        (a.wait ≠ [] → ∃ r', (t.queue q).running = some r' ∧ r'.done = none ∧ r'.work.todo = a.wait))

/-- One owned block in pass 2: one that has had this step is left alone, one that a reader still needs waits; a value that is
not finite marks the block and changes none of its weights; otherwise master weights and state take their new values, and a
digital group's working copy the new weights in binary32 (R38, R332, R337 to R340). Rests on log entry 11. -/
def Obligations.BlockUpdateIsAtomic : Prop :=
  ∀ (c : ApplyCtx) (ls : List Layer) (a : Pass2) (i : Nat), a.fail = none →
    let xs := blockAccess c.g i true (gKind c.g == 1)
    a.s.badAccess xs = none →
    let s := a.s
    let b := s.readBlock c.g i
    let a1 := { a with s := s.countReads xs }
    (c.t.toNat ≤ b.t.toNat → Pass2.next c ls a i = a1) ∧
    (b.t.toNat < c.t.toNat → (s.part c.p).heldBlock (blockKey c i) = true → Pass2.next c ls a i = { a1 with wait := a.wait ++ [i] }) ∧
    (b.t.toNat < c.t.toNat → (s.part c.p).heldBlock (blockKey c i) = false → gPriv c.g = false →
      (c.table (s.gradBlock c.g i) b = none →
        (Pass2.next c ls a i).nonfin = a.nonfin + 1 ∧ (Pass2.next c ls a i).updated = a.updated ∧
        (Pass2.next c ls a i).s.mem =
          ((s.writeMem (tailAddr c.g i + 35) [1]).writeMem (tailAddr c.g i + 40) (natLe 8 c.t.toNat)).mem) ∧
      (∀ v, c.table (s.gradBlock c.g i) b = some v → gKind c.g = 1 →
        let n := { (b.update (gStateEn c.g) v).1 with nonfin := false, t := c.t }
        (Pass2.next c ls a i).updated = a.updated + 1 ∧ (Pass2.next c ls a i).s.mem =
          ((s.writeMem (gWork c.g + 128 * (gFirst c.g + i)) (bytes32 (n.master.map r32))).writeBlock c.g i n).mem))

/-- PROGRAM: if every order of its inbox is refused, it completes with ST_ORDER_REFUSED and their number (with none, with
ST_OK); otherwise each order that stands waits at its tile, here one that still multiplies, in place of one that waited there
for the same weight, and the descriptor runs on (R147, R149, R165, R189, R378). Rests on log entries 102, 108, 117. -/
def Obligations.ProgramRefusesOrHandsOutOrders : Prop :=
  ∀ (s : State) (q : Nat) (r : Running), Runs s q 0x30 r → r.work.started = false →
    let p := s.queuePart q
    let x := s.part p
    let a := field r.desc 24 8
    let start := a + roadUp (64 + 8 * leNat (memRead s.mem (a + 16) 2))
    let n := leNat (memRead s.mem a 8)
    let os := wordsOf 8 n (memRead s.mem start (8 * n))
    let good := lastOrders (os.filter fun o => (x.refuse (dPhase r.desc) o).isNone)
    x.holds (queueHub q) = true → (x.reach 1 a 64).isSome = true → s.memStatus false a 64 = none → x.owns start (8 * n) = true →
    s.memStatus false start (8 * n) = none →
    s.memStatus false (s.deferBase p) (if x.deferCount = 0 then 0 else 8 * x.deferCount) = none →
    x.flushDefer = false → (s.tiles.any fun e => e.2.holds q) = false →
    (good = [] → Answers (.program q) s fun t =>
      Finished t q (if r.work.n1 + os.length = 0 then stOk else stOrderRefused)
        (programResult { r.work with n1 := r.work.n1 + os.length })) ∧
    ((∀ o ∈ good, s.physTile (oTile o) = oTile o ∧ (s.tile (oTile o)).st = .active ∧
        ∀ p l i e, s.role (oTile o) = some (p, l, i, e) → ∀ k, (s.orderLayer k l).bypass = false) → good ≠ [] →
      Answers (.program q) s fun t =>
        (∃ r', (t.queue q).running = some r' ∧ r'.done = none ∧ r'.work.started = true) ∧
        ∀ pl, let new := good.filter fun o => oTile o == pl
          (t.tile pl).orders = ((s.tile pl).orders.filter fun o => !(new.any fun u => oWeight u == oWeight o.1)) ++
            new.map fun o => (o, q))

/-- PROGRAM_BATCH with its toll paid: every device of the batch is written by its verify readings, and the tile keeps the
cells, counts and stuck entries that this leaves; the program bucket is charged what the pulses and reads took, in place of the
toll asked; the next batch asks its toll; and a weight that is finished counts as applied for its order. Then the programs that
have ended are finished and the roads move on (R154 to R166, R168). Rests on log entries 18, 54, 55, 118. -/
def Obligations.ProgramBatchWritesItsDevices : Prop :=
  ∀ (s : State) (t p i : Nat) (l : Layer) (e : TileEntry) (readings : List (List Nat)), tileExists t = true →
    s.role t = some (p, l, i, e) → ¬ (s.narrowOnly l e.tile = true ∧ (s.tile e.tile).orders ≠ []) → (s.tile t).batchToll = 2 →
    (s.tile t).jobs ≠ [] →
    let f := (s.batchOf t l).zipIdx.foldl (fun (a : Tile × Bool × Nat) d =>
      let w := a.1.writeOne d.1 (readings.getD d.2 [])
      (w.1, a.2.1 || w.2.1, a.2.2 + w.2.2)) (s.tile t, false, standingPj)
    let y := f.1
    let g := s.gate (tileDie t)
    f.2.1 = false → y.jobs.find? y.mustMove = none → y.jobs.any (fun j => !j.isDone) = true →
    Answers (.programBatch t readings) s fun u => ∃ v : State, u = (v.finishPrograms p).settleRoads ∧
      (v.tile t).cells = y.cells ∧ (v.tile t).stuck = y.stuck ∧ (v.tile t).unverified = y.unverified ∧
      (v.tile t).life = y.life ∧ (v.tile t).period = y.period ∧ (v.tile t).batchToll = 1 ∧
      (v.tile t).jobs.length = (y.jobs.filter fun j => !j.isDone).length ∧
      (v.gate (tileDie t)).prog =
        min (programCap : Int) (g.prog + ((s.batchToll t l : Int) - (f.2.2 : Int)) * bucketUnit) ∧
      ∀ j o row run, y.jobs.filter Job.isDone = [j] → j.stage = 0 → j.order = some o → o.2 < 65536 → y.lrow j.prow = some row →
        runAt (runsOf e.widths) j.col = some run →
        (v.queue o.2).running.map (·.work.n0) = (s.queue o.2).running.map (·.work.n0 + 1) ∧
        (v.tile e.tile).known.contains (row * 1024 + run.col) = true

/-! ### Refresh, probe, milestones and snapshots -/

/-- Refresh, probe and reserve programming of a tile for which no retirement and no order waits: a refresh whose turn has come
begins, with its scan where SCAN_ON_REFRESH asks for one, and a probe begins with one; a scan that finds no deviation, a repair
that is written, a refresh or a reserve that is written each bring the tile back to IDLE, a refresh and a reserve with drift
trim 1.0 and age 0; the roads then move on (R184, R185, R194 to R203, R207). A retirement that was requested meanwhile comes
before the repair (R220). Rests on log entries 17, 20, 75, 116, 119. -/
def Obligations.RefreshProbeAndReserveEndAtIdle : Prop :=
  ∀ (s : State) (d t : Nat) (meas : List (Nat × Nat × Int)) (reads : List (Nat × Nat × Nat × Nat)), d < 8 → tileExists t = true →
    let x := s.tile t
    let fresh := fun (y : Tile) => y.st = .idle ∧ y.refresh = false ∧ y.reserveProg = false ∧ y.trim = 0x4000 ∧ y.age = 0 ∧
      y.aIdeal = 0 ∧ y.aMeas = 0 ∧ y.aZero = 0 ∧ y.driftN = 0
    ((s.refreshTurn d).find? (fun e => s.refreshMay e.1) = some (t, x) → x.dormant = false →
      s.regf 0 (tileDie t) 0x90 28 1 = 1 → Answers (.refreshStart d) s fun u =>
        (u.tile t).st = .program ∧ (u.tile t).refresh = true ∧ (u.tile t).due = none ∧ (u.tile t).scanning = true) ∧
    (((s.tilesOf d).filter fun e => e.2.st == .probe).length < 16 → (s.tilesOf d).find? (fun e => s.probeMay e.1) = some (t, x) →
      x.dormant = false → Answers (.probeStart d) s fun u => ∃ v : State, u = v.settleRoads ∧ (v.tile t).st = .probe ∧
        (v.tile t).scanning = true ∧ (v.tile t).flagged = false ∧ (v.tile t).probeReq = false ∧ (v.tile t).checks = []) ∧
    (∀ p l i e, s.role t = some (p, l, i, e) → (∀ k, (s.tile k).orders = []) →
      (x.scanning = true → x.scanToll = 2 → x.batchToll = 0 → x.jobs = [] → x.retireReq = true →
        Answers (.probeScanDone t meas reads) s fun u => ∃ v : State, u = v.settleRoads ∧
          (v.tile t).st = .retired ∧ (v.tile t).scanning = false) ∧
      (x.retireReq = false →
        (x.scanning = true → x.scanToll = 2 → x.batchToll = 0 → x.jobs = [] → x.work = [] → x.refresh = false →
          s.deviations t (runsOf e.widths) (l.narrowAddr i) meas = [] →
          Answers (.probeScanDone t meas reads) s fun u => ∃ v : State, u = v.settleRoads ∧ (v.tile t).st = .idle ∧
            (v.tile t).scanning = false ∧ (v.tile t).scanToll = 0 ∧ (v.tile t).cells = x.cells) ∧
        (x.scanning = true → x.settled = true → x.refresh = false → Answers (.repairDone t) s fun u =>
          ∃ v : State, u = v.settleRoads ∧ (v.tile t).st = .idle ∧ (v.tile t).scanning = false) ∧
        (x.refresh = true → x.scanning = false → x.st = .program → x.settled = true →
          Answers (.refreshComplete t) s fun u => ∃ v : State, u = v.settleRoads.refreshProbes t ∧ fresh (v.tile t)) ∧
        (x.reserveProg = true → x.st = .program → x.settled = true → isReserve t = true →
          Answers (.reserveProgrammed t) s fun u => ∃ v : State, u = v.settleRoads ∧ fresh (v.tile t) ∧
            tget 0 v.retire (tileDie t * 1024 + (t % 65536 - 32768)) = s.retireEntry t % 65536 + 65536)))

/-- MILESTONE asks for the closure; MILESTONE_CLOSURE, once nothing of the step is left, raises the milestone number, completes
MILESTONE with it, ends the step, empties order log, stash and tags, puts the staged writes into effect that were made before
it, and lets the SNAPSHOTs that waited for it hold the blocks of the new milestone; the descriptors that became pending are
then judged. While something is left it changes nothing (R17, R34 to R36, R299, R344, R478). Rests on log entries 44, 47, 110,
120. -/
def Obligations.ClosureEndsTheStep : Prop :=
  ∀ (s : State) (q p : Nat) (r : Running), p < 4 →
    let x := s.part p
    (Runs s q 0x31 r → Answers (.milestone q) s fun t => Only [.queues] s t ∧
      (t.queue q).running = some { r with work := { r.work with started := true } }) ∧
    (s.closingQueue p = none → exec (.milestoneClosure p) s = .next s) ∧
    (s.closingQueue p = some q → Answers (.milestoneClosure p) s fun u => ∃ t : State, u = t.settleAll p ∧
      let y := t.part p
      Finished t q stOk (natLe 8 (x.milestone + 1).toNat ++ List.replicate 8 0) ∧ y.milestone = x.milestone + 1 ∧
      y.stepOn = false ∧ y.phase = 0 ∧ y.abandoned = none ∧ y.logCount = 0 ∧ y.live = [] ∧ y.stashNext = 0 ∧
      y.closedAt = some s.ltime ∧ (∀ k, (tget CollGroup.none y.collGroups k).tags = []) ∧
      (∀ e ∈ t.staged, (quadBlocks x.quads).contains (keyBlock e.1) = true → e.2.2 = s.ltime) ∧
      ∀ k r', k < 65536 → (s.queuesOf p).any (fun e => e.1 == k) = true → s.runningOp k 0x38 = some r' →
        r'.work.deferred = true → x.readers.any (fun f => f.owner == k) = false →
        ⟨k, (x.milestone + 1).toNat, false, []⟩ ∈ y.readers)

/-- SNAPSHOT writes the partition's image at the milestone whose blocks it holds, returns the milestone and the length, and
lets the blocks go. One that waits for the closure does so only when SNAPSHOT_DEFERRED_START comes (R344, R345). RESTORE: a
snapshot whose digest, header and directory agree with the partition is written back, group by group, and its length returned;
with MS_SET the milestone number is set and the order log emptied. One that does not agree writes nothing (R346). Rests on log
entries 69, 101. -/
def Obligations.SnapshotsAreWrittenAndRestored : Prop :=
  (∀ (s : State) (q : Nat) (ok : Bool) (r : Running) (pl : Place) (e : Reader), MemoryOk s → Runs s q 0x38 r →
      let d := r.desc
      let p := s.queuePart q
      let x := s.part p
      let n := x.imageLen (dFlag d 0)
      let took := fun (t : State) => Finished t q stOk (block 16 [(0, 8, e.milestone), (8, 8, n)]) ∧
        Wrote s t p pl (s.image p (dFlag d 0) e.milestone) ∧ ∀ f ∈ (t.part p).readers, f.owner ≠ q
      x.readers.find? (fun f => f.owner == q) = some e → s.earlier p 0x39 r.work.gen (fun _ => true) = false →
      n ≤ field d 32 8 → x.reach 5 (field d 24 8) n = some pl → s.badAccess (x.imageAccess ++ [(true, pl, n)]) = none →
      (pl.isHost = true → ok = true) →
      (r.work.deferred = false → Answers (.snapshot q ok) s took) ∧
      (r.work.deferred = true → exec (.snapshot q ok) s = .next s ∧ Answers (.snapshotDeferredStart q ok) s took)) ∧
  (∀ (s : State) (q : Nat) (reply : HostReply) (r : Running) (bs : List Byte), Runs s q 0x39 r →
      let d := r.desc
      let p := s.queuePart q
      let x := s.part p
      let n := field d 32 8
      let back := fun (es : List RestoreItem) => es.foldl (fun t e => t.restoreGroup p bs (bit (field bs 6 2) 0) e) s
      x.stepOn = false → s.earlier p 0x38 r.work.gen (fun _ => true) = false → Delivers s q (field d 24 8) n reply bs →
      (x.restoreItems bs n = none → Answers (.restore q reply) s fun t => Finished t q stSnapshotForm result0 ∧ Untouched s t ∧ t.parts = s.parts) ∧
      (∀ es, x.restoreItems bs n = some es → s.badAccess (es.flatMap x.restoreAccess) = none →
        Answers (.restore q reply) s fun t => Finished t q stOk (block 16 [(0, 8, n)]) ∧
          (dFlag d 0 = false → t.mem = (back es).mem ∧ (t.part p).milestone = x.milestone) ∧
          (dFlag d 0 = true → (t.part p).milestone = BitVec.ofNat 64 (field d 40 8) ∧ (t.part p).logCount = 0) ∧
          ∀ e, es = [e] → (tget Group.unused (t.part p).groups e.k).lastT = e.lastT))

/-! ### Registers, footpath and host window -/

/-- A register write by a function in service or through the register path: every read-write field that it reaches takes its
bits; a staged field keeps its value in effect while a step is in progress and takes the bits as its staged value (R14, R463,
R468, R470, R569). Rests on log entry 47. -/
def Obligations.RegisterWritesSetReachedFields : Prop :=
  ∀ (s : State) (fn addr k d off i ctrl : Nat) (v : Word64) (die : Byte) (w : Word) (f : RegField), f ∈ regAt k off →
    let set := fun (t : State) (x : Nat) => t.regf k (regHome k d off) off f.lo f.width i = bits x f.lo f.width
    let stages := fun (t : State) (x : Nat) => t.reg k (regHome k d off) off i = s.reg k (regHome k d off) off i ∧
      ∃ y, tfind t.staged (regKey k (regHome k d off) off i) = some (y, s.ltime) ∧ bits y f.lo f.width = bits x f.lo f.width
    (fn < 4 → s.viaOpen (.tenant fn) = true → addr % 4 = 0 → barTarget addr = some (k, d, off) → ¬ (k = 2 ∧ off = 0x228) →
      s.reaches (.tenant fn) k d f = true → f.view = .tenant → s.selected (.tenant fn) k d off = some i →
      (f.acc = .rw → Answers (.registerWrite fn addr 4 v) s fun t => set t (bits v.toNat 0 32)) ∧
      ((∀ g ∈ regAt k off, g.acc = .rws) → s.atRest k d = false → Answers (.registerWrite fn addr 4 v) s fun t => stages t (bits v.toNat 0 32))) ∧
    (ctrl < 2 → s.input = true → s.pathStatus ctrl die off = none → pathDie die = some (k, d) → ¬ (k = 2 ∧ off = 0x228) →
      s.reaches .owner k d f = true → s.selected .owner k d off = some i →
      (f.acc = .rw → Answers (.registerPathWrite ctrl die off w) s fun t => set t w.toNat ∧ t.out.getLast? = some (.regWrite 0)) ∧
      ((∀ g ∈ regAt k off, g.acc = .rws) → s.atRest k d = false → Answers (.registerPathWrite ctrl die off w) s fun t => stages t w.toNat))

/-- Register reads: the register path returns the register's value, or status 3 from the controller that is not active and 2
without the data plane; a read of a LO register latches its HI register for that path alone; the owner's read of WM_FIFO_LO
removes the oldest entry (R177, R464, R558, R569). Rests on log entry 91. -/
def Obligations.RegisterReadsReturnAndLatch : Prop :=
  ∀ (s : State) (ctrl off d : Nat) (die : Byte) (kind : DieKind) (v : Via), ctrl < 2 →
    (∀ k d', s.input = true → s.pathStatus ctrl die off = none → pathDie die = some (k, d') →
      (k, off) ∉ latchPairs → (k, off - 4) ∉ latchPairs → Answers (.registerPathRead ctrl die off) s fun t =>
        Only [.out, .free] s t ∧ t.out = s.out ++ [.regRead 0 (BitVec.ofNat 32 (s.regValue .owner k d' off))]) ∧
    (s.input = true → ctrl ≠ s.activeCtrl → exec (.registerPathRead ctrl die off) s = .next (s.emit (.regRead 3 0))) ∧
    (s.input = true → ctrl = s.activeCtrl → s.powered = false → off % 4 = 0 → off < 0x100000 → (pathDie die).isSome = true →
      exec (.registerPathRead ctrl die off) s = .next (s.emit (.regRead 2 0))) ∧
    ((∀ fn, v = .tenant fn → fn < 4) → d < dieCount kind → s.viaOpen v = true →
      let k := kindCode kind
      ((k, off) ∈ latchPairs → off ≠ 0x398 → Answers (.latchedPairRead v kind d off) s fun t => Only [.out, .latches] s t ∧
        t.out = s.out ++ [.regRead 0 (BitVec.ofNat 32 (s.regValue v k d off))] ∧
        tget 0 t.latches (latchKey v k d off) = s.regValue v k d (off + 4) ∧
        ∀ j, j ≠ latchKey v k d off → tget 0 t.latches j = tget 0 s.latches j) ∧
      ((k, off) ∈ latchPairs → Answers (.latchedPairRead v kind d (off + 4)) s fun t => Only [.out] s t ∧
        t.out = s.out ++ [.regRead 0 (BitVec.ofNat 32 (if (regAt k off).any (s.reaches v k d) then
          tget 0 s.latches (latchKey v k d off) else 0))])) ∧
    (∀ x rest, s.powered = true → s.inLayout 0 = false → s.wm.fifo = x :: rest → Answers (.wmFifoRead .owner) s fun t =>
      t.wm.fifo = rest ∧ t.out = s.out ++ [.regRead 0 (x.setWidth 32)] ∧
      tget 0 t.latches (latchKey .owner 2 0 0x398) = x.toNat / 2 ^ 32)

/-- The waymark's registers are the owner's alone: each reads 0 to a tenant and ignores its writes, and a tenant's read of
WM_FIFO_LO returns 0 and removes nothing (R559). -/
def Obligations.TenantsReadWaymarkAsZero : Prop :=
  ∀ (s : State) (fn d off w : Nat), fn < 4 → off ∈ [0x380, 0x384, 0x388, 0x38C, 0x390, 0x394, 0x398, 0x39C] →
    (s.regRead (.tenant fn) 2 d off).1 = 0 ∧ (s.regRead (.tenant fn) 2 d off).2.wm = s.wm ∧
    s.regWrite (.tenant fn) 2 d off w = s ∧
    (s.viaOpen (.tenant fn) = true → Answers (.wmFifoRead (.tenant fn)) s fun t =>
      t.out = s.out ++ [.regRead 0 0] ∧ t.wm = s.wm ∧ Only [.out, .latches] s t)

/-- A command that stands for the write of one register does exactly what that write does, through a function or through the
register path (R187, R219, R383, R418, R452, R455, R458, R535, R541, R544, R561). -/
def Obligations.RegisterCommandsAreRegisterWrites : Prop :=
  ∀ (s : State) (v : Via) (d h : Nat) (w : Word), (∀ fn, v = .tenant fn → fn < 4) → s.viaOpen v = true → d < 8 → h < 4 →
    let put := fun (k n off : Nat) => Host.Outcome.next (s.regWrite v k n off w.toNat)
    exec (.refreshReq v d w) s = put 0 d 0x7C ∧ exec (.probeReq v d w) s = put 0 d 0x94 ∧ exec (.retireReq v d w) s = put 0 d 0x94 ∧
    exec (.footpathGo v d w) s = put 1 d 0x260 ∧ exec (.queueEnable v h w) s = put 2 h 0x30C ∧
    exec (.queueDisable v h w) s = put 2 h 0x30C ∧ exec (.completionRingEnable v h w) s = put 2 h 0x320 ∧
    exec (.eventQueueEnable v h w) s = put 2 h 0x330 ∧ exec (.portEnableWrite v h w) s = put 2 h 0x204 ∧
    exec (.twinEnable v w) s = put 2 3 0x360 ∧ exec (.twinDetach v w) s = put 2 3 0x360 ∧ exec (.twinPull v w) s = put 2 3 0x360 ∧
    exec (.swTrig v w) s = put 2 0 0x384 ∧ exec (.abort v w) s = put 2 0 0x384 ∧ exec (.flush v w) s = put 2 0 0x384

/-- What a write of a request, enable or trigger register does besides its fields, through any path that reaches the register:
a refresh falls due, a probe or retirement is requested (R187, R219, R220), and the roads move on; queues, rings and event
queue start afresh, a disabled queue's descriptors are to complete as stopped (R452, R455, R458); a port with a signal trains
(R383); waymark passes start, stop and their FIFO is emptied (R556, R561). -/
def Obligations.ControlWritesAct : Prop :=
  ∀ (s : State) (v : Via) (d h : Nat) (w : Word), (∀ fn, v = .tenant fn → fn < 4) → s.viaOpen v = true → d < 8 → h < 4 →
    let whole := fun (k n off : Nat) => ∀ f ∈ regAt k off, s.reaches v k n f = true ∧ (viaOwner v = true ∨ f.view = .tenant)
    let k := s.selTile (viaSel v) d
    let x := s.tile k
    let q := h * 16384 + s.regf 2 h 0x300 0 14 (viaSel v)
    let ring := h * 1024 + s.regf 2 h 0x314 0 10 (viaSel v)
    let b := fun (i : Nat) => w.toNat.testBit i
    (tileExists k = true → x.mark = 0 →
      (whole 0 d 0x7C → b 0 = true → x.due = none → x.st ≠ .retired → Answers (.refreshReq v d w) s fun t =>
        (t.tile k).due = some 3) ∧
      (whole 0 d 0x94 →
        (b 0 = true → b 1 = false → x.st ≠ .retired → x.st ≠ .probe → Answers (.probeReq v d w) s fun u =>
          ∃ t : State, u = t.settleRoads ∧ (t.tile k).probeReq = true ∧ (t.tile k).st = x.st) ∧
        (b 0 = false → b 1 = true → x.st = .active ∨ (x.st = .program ∧ x.jobs ≠ []) → Answers (.retireReq v d w) s fun u =>
          ∃ t : State, u = t.settleRoads ∧ (t.tile k).retireReq = true ∧ (t.tile k).st = x.st) ∧
        (b 0 = false → b 1 = true → x.st = .idle ∨ x.st = .sleep ∨ x.st = .off → Answers (.retireReq v d w) s fun u =>
          ∃ t : State, u = t.settleRoads ∧ (t.tile k).st = .retired))) ∧
    (whole 2 h 0x30C →
      (b 18 = true → s.queueOn q = false → Answers (.queueEnable v h w) s fun t => t.queueOn q = true ∧
        t.queue q = { s.queue q with head := 0, tail := 0, stopped := 0 }) ∧
      (b 18 = false → s.queueOn q = true → (s.queue q).running.isSome = true → Answers (.queueDisable v h w) s fun t =>
        t.queueOn q = false ∧ ∀ f ∈ (t.queue q).fetched, f.fate.isSome = true)) ∧
    (whole 2 h 0x320 → b 15 = true → s.ringOn ring = false → Answers (.completionRingEnable v h w) s fun t =>
      t.ringOn ring = true ∧ t.ring ring = Ring.reset) ∧
    (∀ p, whole 2 h 0x330 → b 15 = true → s.owner h = some p → s.regf 2 h 0x330 15 1 = 0 →
      Answers (.eventQueueEnable v h w) s fun t => t.regf 2 h 0x330 15 1 = 1 ∧ (t.part p).eq =
        { (s.part p).eq with head := 0, tail := 0, tag := true, stopped := false }) ∧
    (∀ n, whole 2 h 0x204 → portOf h (s.regf 2 h 0x200 0 2 (viaSel v)) = some n → b 0 = true → s.portEn n = false →
      (s.port n).st = 0 → (s.port n).signal = true →
      Answers (.portEnableWrite v h w) s fun t => t.portEn n = true ∧ (t.port n).st = 1) ∧
    (whole 2 0 0x384 →
      (b 0 = true → b 1 = false → b 2 = false → s.input = true → s.wmCfg 0 1 = 1 → s.wmCfg 1 2 = 0 → s.wm.running = false →
        s.wmSteps ≠ 0 → Answers (.swTrig v w) s fun t => t.wm.running = true ∧ t.wm.step = 0 ∧ t.wm.pass = 0 ∧
          t.wm.trigTime = s.ltime) ∧
      (b 1 = true → b 2 = false → Answers (.abort v w) s fun t => t.wm.running = false ∧ t.wm.fifo = s.wm.fifo) ∧
      (b 2 = true → b 1 = false → b 0 = false → Answers (.flush v w) s fun t => t.wm.fifo = [] ∧ t.wm.running = s.wm.running))

/-- The footpath: GO starts an access that is allowed, which works with what the registers hold then, and refuses any other; a
write puts its eight bytes at its address, a read brings them to GD_FPDATA, and RESULT tells whether the block was corrected; a
RAW write changes what a RAW read brings and not what the check symbols give (R403, R418). At a stack that is powered down an
access ends with RESULT 2 and changes no memory (R405). Rests on log entries 13, 31, 49, 128. -/
def Obligations.FootpathMovesEightBytes : Prop :=
  ∀ (s : State) (d errs : Nat) (w : Word), d < 8 → MemoryOk s →
    let g := s.grad d
    let a := g.fpAt
    let fixed := decide (0 < errs) || s.rawBlocks.contains (a / 256)
    let done := fun (t : State) (r : Nat) => (t.grad d).fpBusy = false ∧ (t.grad d).fpResult = r
    let brings := fun (t : State) (bs : List Byte) => t.reg 1 d 0x258 = leNat (bs.take 4) ∧ t.reg 1 d 0x25C = leNat (bs.drop 4)
    (s.powered = true → w.toNat.testBit 0 = true → g.fpBusy = false → Answers (.footpathGo .owner d w) s fun t =>
      t.grad d = if s.fpAllowed d then { g with
          fpBusy := true
          fpAt := s.fpAddr d
          fpWrite := w.toNat.testBit 1
          fpRaw := w.toNat.testBit 2
          fpWord := natLe 4 (s.reg 1 d 0x258) ++ natLe 4 (s.reg 1 d 0x25C) }
        else { g with fpResult := 3 }) ∧
    (g.fpBusy = true → s.offline a 8 = true → Answers (.footpathComplete d errs) s fun t => Untouched s t ∧ s.raw = t.raw ∧ done t 2) ∧
    (g.fpBusy = true → s.offline a 8 = false →
      (g.fpRaw = false → errs ≤ 16 → s.poisoned a 8 = false →
        (g.fpWrite = true → g.fpWord.length = 8 → Answers (.footpathComplete d errs) s fun t =>
          Wrote s t 0 (.dev a) g.fpWord ∧ done t (b2n fixed)) ∧
        (g.fpWrite = false → Answers (.footpathComplete d errs) s fun t =>
          Untouched s t ∧ brings t (memRead s.mem a 8) ∧ done t (b2n fixed))) ∧
      (g.fpRaw = true →
        (g.fpWrite = true → g.fpWord.length = 8 → tsorted 0 s.raw = true → Answers (.footpathComplete d errs) s fun t =>
          Untouched s t ∧ t.rawRead a 8 = g.fpWord ∧ done t 0) ∧
        (g.fpWrite = false → Answers (.footpathComplete d 0) s fun t => Untouched s t ∧ brings t (s.rawRead a 8) ∧ done t 0)))

/-- The host window of a partition in service: a read returns the 64 bytes of the line, a write puts them there; a line in an
offline stack reads poison and takes no write (R397, R399, R405, R412). The host commits and uncommits the decoder (R411),
configuration requests are answered by the partition's state, with Memory_Active 0 of a vacant one (R512), and every snoop
misses (R423). Rests on log entries 79, 80. -/
def Obligations.HostReachesWindowAndConfiguration : Prop :=
  ∀ (s : State) (fn off a addr : Nat) (line : List Byte) (c : Bool), fn < 4 → MemoryOk s →
    let x := s.part fn
    (x.inService = true → s.windowLine fn off = some a → s.offline a 64 = false → s.poisoned a 64 = false →
      exec (.hostWindowRead fn off) s = .next ((s.countReads [(false, .dev a, 64)]).emit (.windowData false (memRead s.mem a 64)))) ∧
    (x.inService = true → s.windowLine fn off = some a → s.offline a 64 = false → line.length = 64 →
      Answers (.hostWindowWrite fn off line) s fun t => Wrote s t fn (.dev a) line) ∧
    (x.inService = true → s.windowLine fn off = some a → s.offline a 64 = true →
      exec (.hostWindowWrite fn off line) s = .next s ∧
      Answers (.hostWindowRead fn off) s fun t => Only [.out, .free] s t ∧ ∃ bs, t.out = s.out ++ [.windowData true bs]) ∧
    (x.inService = true → (c = true → (s.hostWindow fn).2 ≠ 0) → Answers (.hdmDecoderCommit fn c) s fun t =>
      t.part fn = { x with hdm := c } ∧ Only [.parts] s t) ∧
    (s.powered = true → tfind s.parts fn = some x → exec (.configRequest fn) s =
      .next (s.emit (.config fn (if x.st = .inService then 0 else if x.st = .vacant then 3 else 1)))) ∧
    (s.powered = true → exec (.snoop addr) s = .next (s.emit .snoopMiss))

/-! ### Partitions, start-up and security -/

/-- Leaving and entering service: a function level reset stops the function's work and disables and clears its queues, rings,
wayposts and event queue (R426), and PERST resets every function (R496); STOP and SCRUB take a partition out of service and
close its interfaces, ASSIGN and RESUME bring one into service, ASSIGN none with a stack that cannot enter service (R401, R510
to R512, R570, R571). A partition in another state is left alone with ST_MGMT_STATE. Rests on log entries 43, 88, 89. -/
def Obligations.PartitionsLeaveAndEnterService : Prop :=
  ∀ (s : State) (ctrl seq quads p : Nat),
    let x := s.part p
    let names := s.longTouches quads = false ∧ s.powered = true ∧ s.maskPart quads = some p
    let stopped := fun (t : State) => (∀ q, x.holds (queueHub q) = true →
      (t.queue q).fetched = [] ∧ (t.queue q).running = none) ∧ (t.part p).hdm = false ∧ (t.part p).session = false ∧
      (t.part p).stepOn = false
    (p < 4 → x.inService = true → Answers (.functionLevelReset p) s fun t =>
      (∀ q, x.holds (queueHub q) = true → t.queue q = SubQ.reset ∧ t.queueOn q = false) ∧
      (∀ r, x.holds (r / 1024) = true → t.ring r = Ring.reset) ∧ (∀ w, x.holds (w / 4096) = true → t.waypost w = 0) ∧
      (t.part p).eq = EventQ.reset ∧ (t.part p).stepOn = false ∧ (t.part p).st = .inService) ∧
    (p < 4 → x.inService = false → exec (.functionLevelReset p) s = .next s) ∧
    (∃ t0 t1 t2 t3, exec (.functionLevelReset 0) s = .next t0 ∧ exec (.functionLevelReset 1) t0 = .next t1 ∧
      exec (.functionLevelReset 2) t1 = .next t2 ∧ exec (.functionLevelReset 3) t2 = .next t3 ∧ exec .perst s = .next t3) ∧
    (Accepts s ctrl seq → names →
      (x.st = .inService → Answers (.stop ctrl seq quads) s fun t => Replied t 3 seq stOk [] ∧ (t.part p).st = .stopped ∧ stopped t) ∧
      (x.st ≠ .inService → Answers (.stop ctrl seq quads) s fun t => Replied t 3 seq stMgmtState [] ∧ Only [.out, .mgmt] s t) ∧
      (x.st = .inService ∨ x.st = .stopped ∨ x.st = .vacant → Answers (.scrub ctrl seq quads) s fun t =>
        Replied t 1 seq stOk [] ∧ (t.part p).st = .scrubbing ∧ t.mgmt.long = s.mgmt.long ++ [⟨cmdScrub, seq, x.quads, x.quads, 0⟩] ∧
        (x.st = .inService → stopped t)) ∧
      let bad := (quadsOf quads).any s.mgmt.badQuads.contains
      (x.st = .vacant → bad = false → Answers (.assign ctrl seq quads) s fun t => Replied t 2 seq stOk [] ∧
        (t.part p).st = .inService) ∧
      (x.st ≠ .vacant ∨ bad = true → Answers (.assign ctrl seq quads) s fun t => Replied t 2 seq stMgmtState [] ∧ Only [.out, .mgmt] s t) ∧
      (x.st = .stopped → Answers (.resume ctrl seq quads) s fun t => Replied t 4 seq stOk [] ∧ (t.part p).st = .inService))

/-- Quadrants that are scrubbed read zero, lose their queues, slabs and registers, and count the scrub; a SCRUB whose last
quadrant is done leaves its partition VACANT (R515, R518). LAYOUT takes out the partitions that the new layout does not hold
and scrubs their quadrants (R513); FAR_ASSIGN gives a vacant partition a range that nobody holds, and a released range is
zeroed before it returns to the pool (R518). Rests on log entries 18, 85, 88. -/
def Obligations.ScrubbedMemoryIsZero : Prop :=
  ∀ (s : State) (ctrl seq quads : Nat), MemoryOk s →
    (∀ (l : Long) (found : ScrubIn), let qs := quadsOf quads
      s.mgmt.long.find? (fun l => !qs.isEmpty && qs.all l.left.contains) = some l → s.powered = true → qs.all s.stacksOn = true →
      Answers (.scrubComplete quads found) s fun t => MemoryOk t ∧
        (∀ q ∈ qs, (∀ a, q * quadBytes ≤ a → a < (q + 1) * quadBytes → memByte t.mem a = 0) ∧
          (∀ a, a / 2 ^ 28 = q → memByte t.slab a = 0) ∧ (∀ k, queueHub k = q → t.queue k = SubQ.reset) ∧
          tget 0 t.scrubs q = tget 0 s.scrubs q + 1) ∧
        (l.cmd = cmdScrub → l.left.all qs.contains = true → ∀ e ∈ s.parts, (∀ f ∈ s.parts, f.1 = e.1 → f = e) → e.2.st = .scrubbing →
          e.2.quads.all l.quads.contains = true → t.part e.1 = Part.vacantOf e.2.quads)) ∧
    (∀ code, Accepts s ctrl seq → s.powered = true → s.mgmt.long = [] → code < 4 →
      let kept := fun (e : Nat × Part) => (layoutParts code).contains e.2.quads
      let stay := (s.parts.filter kept).flatMap (·.2.quads)
      let qs := allQuads.filter fun q => !stay.contains q && !s.mgmt.badQuads.contains q
      qs ≠ [] → Answers (.layout ctrl seq code) s fun t => Replied t 5 seq stOk [] ∧ t.mgmt.long = [⟨cmdLayout, seq, qs, qs, code⟩] ∧
        (∀ e ∈ s.parts, kept e = false → (t.part e.1).st = .absent) ∧
        (∀ p, (∀ e ∈ s.parts, e.1 = p → kept e = true) → (t.part p).st = (s.part p).st)) ∧
    (∀ p base gib, Accepts s ctrl seq → s.longTouches quads = false → s.powered = true → s.maskPart quads = some p →
      (s.part p).st = .vacant → farBase ≤ base → base + gib * 2 ^ 30 ≤ farBase + s.farBytes →
      (∀ e ∈ s.mgmt.farRanges, rangesMeet base (gib * 2 ^ 30) e.2.1 e.2.2 = false) →
      (∀ e ∈ s.mgmt.zeroing, rangesMeet base (gib * 2 ^ 30) e.1 e.2 = false) →
      Answers (.farAssign ctrl seq quads base gib) s fun t => Replied t 6 seq stOk [] ∧ (t.part p).far = (base, gib * 2 ^ 30) ∧
        (quads, base, gib * 2 ^ 30) ∈ t.mgmt.farRanges ∧ (t.part p).st = .vacant) ∧
    (∀ base e, s.mgmt.zeroing.find? (fun e => e.1 == base) = some e → s.powered = true → s.farDown e.1 e.2 = false →
      Answers (.rangeZeroingComplete base) s fun t => e ∉ t.mgmt.zeroing ∧
        (∀ a, e.1 ≤ a → a < e.1 + e.2 → memByte t.mem a = 0) ∧ (∀ a, a < e.1 ∨ e.1 + e.2 ≤ a → memByte t.mem a = memByte s.mem a))

/-- Start-up: with the input between 44 V and 60 V and a bank that verifies, the data plane comes up with HBM zero and the
running set of that bank; with none the module waits in recovery for an image set that verifies (R496, R497, R520, R574). RESET
keeps the record and takes the data plane down until start-up brings it up again (R496, R571). The management plane on its own:
it writes its record, copies responses and unread records to the standby, which a failover makes active with what it was given,
records telemetry at each period's end, and keeps the temperatures that standby senses (R566, R567, R573, R580, R581). Rests on
log entries 51, 83, 84, 92, 93. -/
def Obligations.StartUpAndManagementKeepTheRecord : Prop :=
  (∀ (s : State) (x : PowerOnIn) (ctrl seq scope bank : Nat) (images : List (List Byte)),
      let flag := (s.mgmt.holding x.recordOk).elim 0 (·.select)
      (s.input = false → 44000 ≤ x.millivolts → x.millivolts ≤ 60000 →
        (∀ b, s.sec.pickBank flag = some b → Answers (.powerOn x) s fun t => t.input = true ∧ t.powered = true ∧ t.ltime = 0 ∧
          t.sec.runBank = b ∧ t.mgmt.recovery = false ∧ ∀ a, a < hbmEnd → memByte t.mem a = 0) ∧
        (s.sec.pickBank flag = none → Answers (.powerOn x) s fun t => t.input = true ∧ t.powered = false ∧ t.mgmt.recovery = true)) ∧
      (s.input = false → x.millivolts < 44000 ∨ 60000 < x.millivolts → exec (.powerOn x) s = .next s) ∧
      (s.input = true → s.powered = false → s.mgmt.recovery = false → s.mgmt.bootFrom = 1 → Answers (.powerOn x) s fun t =>
        t.powered = true ∧ t.ltime = 0 ∧ t.sec.runBank = s.sec.runBank) ∧
      (s.input = true → s.mgmt.recovery = true → bank < 2 →
        let v := s.sec.setBank bank images.flatten
        Answers (.recoveryImage bank images) s fun t => t.sec.bank bank = some images.flatten ∧
          if v.setOk v.blown bank then t.mgmt.recovery = false ∧ t.sec.runBank = bank
          else t.mgmt = s.mgmt ∧ t.sec.runBank = s.sec.runBank) ∧
      (Accepts s ctrl seq → scope < 2 → s.mgmt.long = [] → s.powered = true ∨ s.mgmt.tripped = false ∨ s.coolEnough = true →
        Answers (.reset ctrl seq scope) s fun t => Replied t cmdReset seq stOk [] ∧ t.powered = false ∧ t.mgmt.booting = true ∧
          t.mgmt.newest = s.record ∧ t.parts = [] ∧ t.mgmt.long = [⟨cmdReset, seq, allQuads, [], scope⟩])) ∧
  (∀ (s : State) (reason : Nat) (x : TelemetryIn) (temps : List Int),
      (s.mgmtRuns = true → Answers .mgmtRecordWrite s fun t => t.mgmt.newest = s.record ∧ Only [.mgmt] s t) ∧
      (s.mgmtRuns = true → s.mgmt.standbyActive = false → Answers .standbyCopy s fun t => Only [.mgmt] s t ∧
        t.mgmt.copyResp = s.mgmt.resp ∧ t.mgmt.copyRecords = s.mgmt.records) ∧
      (s.mgmtRuns = true → s.mgmt.standbyActive = false → Answers (.mgmtFailover reason) s fun t => Only [.mgmt, .free] s t ∧
        t.activeCtrl = 1 ∧ t.mgmt.resp = s.mgmt.copyResp ∧ s.mgmt.copyRecords <+: t.mgmt.records) ∧
      (s.mgmtRuns = true → s.mgmt.telePeriod ≠ 0 → s.mgmt.records.length < 1024 → Answers (.telemetryRecord x) s fun t => Only [.mgmt] s t ∧
        t.mgmt.records = s.mgmt.records ++ [s.telemetry x] ∧ (s.telemetry x).length = 256 ∧ t.mgmt.teleSeq = s.mgmt.teleSeq + 1) ∧
      (s.input = true → s.powered = false → Answers (.standbyTempSample temps) s fun t => Only [.mgmt] s t ∧ t.mgmt.stbyTemps = temps))

/-- The mailbox: a command whose number was answered among the last 16 gets that response again, and the controller that is not
active answers ST_MGMT_STATE (R568, R570); firmware goes into the bank that does not run and is committed once it verifies
(R579); key slots go from blank to active and from active to revoked under a signed record (R521); the counter rises no higher
than the running set's SVN (R522); reports, certificates, records, the array check's outcomes and marks are given and set
(R525, R526, R571, R576, R577, R581, R582). Rests on log entries 36, 38, 88, 94, 95, 96. -/
def Obligations.MailboxCommandsAreAnswered : Prop :=
  ∀ (s : State) (ctrl seq n p off : Nat) (bs rec : List Byte) (b : Bool),
    (∀ c r, c = .bootCfg ctrl seq b ∨ c = .stop ctrl seq n ∨ c = .reset ctrl seq n ∨ c = .report ctrl seq n bs → ctrl < 2 → s.input = true →
      (ctrl = s.activeCtrl → s.mgmt.resp.find? (fun r => r.2.1 == seq) = some r →
        exec c s = .next (s.emit (.mailbox r.1 seq r.2.2.1 r.2.2.2))) ∧
      (ctrl ≠ s.activeCtrl → ∃ cmd, exec c s = .next (s.emit (.mailbox cmd seq stMgmtState [])))) ∧
    (Accepts s ctrl seq →
      (n < 2 → bs.length ≤ 1016 → n ≠ s.sec.runBank → Answers (.fwWrite ctrl seq n off bs) s fun t =>
        Replied t 0x20 seq stOk [] ∧ Only [.out, .mgmt, .sec] s t ∧ ∃ v, t.sec.bank n = some v ∧ slice v off bs.length = bs ∧
          slice v 0 off = slice ((s.sec.bank n).getD (Config.factoryFlash n)) 0 off) ∧
      (n < 2 → n = s.sec.runBank → bs.length ≤ 1016 → Answers (.fwWrite ctrl seq n off bs) s fun t =>
        Replied t 0x20 seq stMgmtState [] ∧ Only [.out, .mgmt] s t) ∧
      (n < 2 → Answers (.fwCommit ctrl seq n) s fun t => if s.sec.setOk s.sec.booted n && s.sec.svnsAgree n
        then Replied t 0x21 seq stOk [] ∧ t.sec = { s.sec with bootBank := n }
        else Replied t 0x21 seq stImageRejected [] ∧ Only [.out, .mgmt] s t) ∧
      (n < 2 → p < 4 → bs.length = 64 → s.sec.slotState.length = 8 → s.sec.slotDigest.length = 8 →
        let st := fun (t : State) => t.sec.slotState.getD (slotIndex n p) 0
        let good := s.sec.signed s.sec.booted rec
        let rejected := fun (t : State) => Replied t 0x22 seq (if good then stMgmtState else stImageRejected) [] ∧ Only [.out, .mgmt] s t
        (st s = 0 → Answers (.keyRecord ctrl seq n p true bs rec) s fun t =>
          if good then Replied t 0x22 seq stOk [] ∧ st t = 1 ∧ t.sec.digest n p = bs else rejected t) ∧
        (st s = 1 → s.sec.lastActive n p = false → Answers (.keyRecord ctrl seq n p false bs rec) s fun t =>
          if good then Replied t 0x22 seq stOk [] ∧ st t = 2 else rejected t) ∧
        (st s = 1 → s.sec.lastActive n p = true → Answers (.keyRecord ctrl seq n p false bs rec) s rejected) ∧
        (st s ≠ 0 → Answers (.keyRecord ctrl seq n p true bs rec) s rejected) ∧
        (st s ≠ 1 → Answers (.keyRecord ctrl seq n p false bs rec) s rejected)) ∧
      Answers (.arbRaise ctrl seq n) s (fun t => if n ≤ s.sec.svn ∧ n ≤ 63 ∧ s.sec.arb ≤ n
        then Replied t 0x23 seq stOk [] ∧ t.sec = { s.sec with arb := n }
        else Replied t 0x23 seq stImageRejected [] ∧ Only [.out, .mgmt] s t) ∧
      (s.powered = true → s.anyPart n = some p → Answers (.report ctrl seq n bs) s fun t =>
        Replied t 0x30 seq stOk (s.attest p true bs) ∧ Only [.out, .mgmt] s t ∧
        (s.sec.meas.length = 3 → (s.attest p true bs).length = 3733)) ∧
      (n ≤ 65535 → Answers (.telemetry ctrl seq n) s fun t => Replied t 0x31 seq stOk [] ∧ t.mgmt.telePeriod = n ∧ Only [.out, .mgmt] s t) ∧
      Answers (.recordRead ctrl seq n) s (fun t => ∃ k, k ≤ n ∧ Replied t 0x32 seq stOk (s.mgmt.records.take k).flatten ∧
        (s.mgmt.records.take k).flatten.length ≤ 1024 ∧
        (k = n ∨ s.mgmt.records.length ≤ k ∨ 1024 < (s.mgmt.records.take (k + 1)).flatten.length) ∧
        (s.mgmt.lost = 0 → t.mgmt.records = s.mgmt.records.drop k)) ∧
      (n < 8 → Answers (.arrayReport ctrl seq n) s fun t => ∃ args, Replied t 0x33 seq stOk args ∧ Only [.out, .mgmt] s t ∧
        args.take 12 = natLe 4 (s.outcomes n 1) ++ natLe 4 (s.outcomes n 2) ++ natLe 4 (s.outcomes n 3)) ∧
      (tileExists n = true → Answers (.markClear ctrl seq n) s fun t => Replied t 0x34 seq stOk [] ∧ (t.tile n).mark = 0 ∧
        ∀ k, k ≠ n → t.tile k = s.tile k) ∧
      Answers (.markClear ctrl seq 0x7FFFF) s (fun t => Replied t 0x34 seq stOk [] ∧ ∀ k, tileExists k = true → (t.tile k).mark = 0) ∧
      (n < 2 → off ≤ (s.chain n).length → Answers (.certRead ctrl seq n off) s fun t => Only [.out, .mgmt] s t ∧
        Replied t 0x35 seq stOk (natLe 4 (s.chain n).length ++ ((s.chain n).drop off).take 1016)) ∧
      Answers (.bootCfg ctrl seq b) s (fun t => Replied t 0x40 seq stOk [] ∧ t.mgmt.arrayKeep = b ∧ Only [.out, .mgmt] s t))

/-- The SPDM exchange of a function whose configuration space answers: each request gets its response in its place of the
exchange and an ERROR outside it; a session opens with a proof that verifies, sets IDE keys while it lasts, and ends (R524,
R526; the order and codes are the model's, log entry 37). -/
def Obligations.SpdmExchangeOpensSessions : Prop :=
  ∀ (s : State) (fn a b n : Nat) (bs : List Byte) (v : Bool), fn < 4 → s.spdmOpen fn = true →
    let x := s.part fn
    let replies := fun (t : State) (code : Nat) (body : List Byte) => t.out = s.out ++ [.spdm fn code body] ∧ Only [.out, .parts] s t
    let error := fun (c : Instr) => exec c s = .next (s.emit (.spdm fn spdmError []))
    Answers (.getVersion fn) s (fun t => (∃ y, replies t spdmVersion y) ∧ t.part fn = { x with spdmState := 1, session := false }) ∧
    (x.spdmState = 1 → Answers (.getCapabilities fn) s fun t => (∃ y, replies t spdmCapabilities y) ∧ t.part fn = { x with spdmState := 2 }) ∧
    (x.spdmState ≠ 1 → error (.getCapabilities fn)) ∧
    (x.spdmState = 2 → Answers (.negotiateAlgorithms fn) s fun t => (∃ y, replies t spdmAlgorithms y) ∧ t.part fn = { x with spdmState := 3 }) ∧
    (x.spdmState ≠ 2 → error (.negotiateAlgorithms fn)) ∧
    (3 ≤ x.spdmState →
      Answers (.getDigests fn) s (fun t => replies t spdmDigests (sha512 (s.chain 0) ++ sha512 (s.chain 1)) ∧ t.part fn = x) ∧
      (a < 2 → Answers (.getCertificate fn a b n) s fun t => replies t spdmCertificate (((s.chain a).drop b).take n) ∧ t.part fn = x) ∧
      Answers (.challenge fn bs) s (fun t => (∃ y, replies t spdmChallengeAuth y) ∧ t.part fn = x) ∧
      Answers (.getMeasurements fn 0xF0 bs) s (fun t => replies t spdmMeasurements (s.attest fn false bs) ∧ t.part fn = x) ∧
      Answers (.getMeasurements fn a bs) s (fun t => (∃ y, replies t spdmMeasurements y) ∧ t.part fn = x) ∧
      Answers (.keyExchange fn bs) s (fun t => (∃ y, replies t spdmKeyExchangeRsp y) ∧ t.part fn = { x with spdmState := 4 })) ∧
    (x.spdmState < 3 → error (.getDigests fn) ∧ error (.getCertificate fn a b n) ∧ error (.challenge fn bs) ∧
      error (.getMeasurements fn a bs) ∧ error (.keyExchange fn bs)) ∧
    (x.spdmState = 4 → Answers (.finish fn v) s fun t => (∃ y, replies t (if v then spdmFinishRsp else spdmError) y) ∧
      t.part fn = { x with spdmState := 3, session := v }) ∧
    (x.spdmState ≠ 4 → error (.finish fn v)) ∧
    (x.session = true → Answers (.endSession fn) s (fun t => (∃ y, replies t spdmEndSessionAck y) ∧ t.part fn = { x with session := false }) ∧
      Answers (.ideKeyManagement fn a b false bs) s (fun t => (∃ y, replies t spdmVendor y) ∧ (a, b, false, bs) ∈ (t.part fn).ideKeys) ∧
      Answers (.ideKeyManagement fn a b true bs) s (fun t => (∃ y, replies t spdmVendor y) ∧
        ∀ e ∈ (t.part fn).ideKeys, e.1 = a → e.2.2.1 = (e.2.1 == b))) ∧
    (x.session = false → error (.endSession fn) ∧ error (.ideKeyManagement fn a b v bs))

/-! ### Fabric ports -/

/-- Link flits: an intact data flit in order joins its packet and moves SEQ on, one that is damaged is asked for once, and a
port that is asked resends what is unacknowledged, or retrains after eight tries without progress (R362, R363). Rests on log
entry 76. -/
def Obligations.LinkFlitsArriveInOrder : Prop :=
  ∀ (s : State) (n ack k : Nat) (f : List Byte), n < 9 → s.powered = true → (s.port n).live = true → s.speaks n = true →
    let x := s.port n
    let w := field f 0 8
    let vc := bits w 4 2
    let asks := fun (c : Instr) => (x.asked = false → Answers c s fun t => t.out = s.out ++ [.flit n (x.plainFlit 2)] ∧
      t.port n = { x with asked := true }) ∧ (x.asked = true → Answers c s fun t => t.out = s.out ∧ t.port n = x)
    let resends := fun (c : Instr) (r : List (Nat × FlitStage × List Byte)) => Answers c s fun t => ∀ e ∈ r, .flit n (x.restamp e.2.2) ∈ t.out
    (flitOk f = true → bits w 0 4 = 1 → bits w 8 12 = x.rxSeq → Answers (.linkFlitReceive n f none) s fun t =>
      (t.port n).rxSeq = (x.rxSeq + 1) % 4096 ∧ (t.port n).asked = false ∧
      (bit w 6 = true → bit w 7 = true → (t.port n).rxq = x.rxq ++ [(vc, slice f 8 240)]) ∧
      (bit w 6 = false → bit w 7 = true → (t.port n).rxq = x.rxq ++ [(vc, (x.part vc).flatten ++ slice f 8 240)]) ∧
      (bit w 7 = false → (t.port n).rxq = x.rxq)) ∧
    (flitOk f = false → asks (.linkFlitReceive n f none)) ∧
    asks (.linkFlitReceive n f (some k)) ∧
    (ackReplay ack x.replay = [] → exec (.replayRequest n ack) s = .next ((s.setPort n (x.acked ack)).pumpPort n)) ∧
    (ackReplay ack x.replay ≠ [] → (x.acked ack).tries < 8 → resends (.replayRequest n ack) (ackReplay ack x.replay)) ∧
    (x.replay ≠ [] → x.tries < 8 → resends (.replayTimeout n) x.replay) ∧
    (x.replay ≠ [] → 8 ≤ x.tries → Answers (.replayTimeout n) s fun t => (t.port n).st = 4 ∧ (t.port n).replay = x.replay)

/-- Ports train when enabled with a signal, come up at eight lanes or degraded at four, and go down, with their replay buffer
discarded, when training fails or the signal is lost (R365). A received packet of another domain is dropped, one for this
partition is delivered, and one for another endpoint waits at the port that the routing table names (R364 to R368). Rests on
log entries 27, 76. -/
def Obligations.PortsTrainAndPacketsAreRouted : Prop :=
  ∀ (s : State) (n : Nat) (r : TrainResult), n < 9 → s.powered = true →
    let x := s.port n
    (x.st = 0 → s.portEn n = true → Answers (.signalPresent n) s fun t => t.port n = { x with signal := true, st := 1 }) ∧
    (x.st = 1 ∨ x.st = 4 →
      (8 ≤ r.lanes → Answers (.trainComplete n r) s fun t => (t.port n).st = 2 ∧ (t.port n).neighbour = r.neighbour % 4096) ∧
      (r.lanes = 4 → s.portX4 n = true → Answers (.trainComplete n r) s fun t => (t.port n).st = 3) ∧
      (r.lanes < 8 → r.lanes ≠ 4 ∨ s.portX4 n = false → exec (.trainComplete n r) s = .next s) ∧
      Answers (.trainTimeout n) s (fun t => (t.port n).st = (if x.signal && s.portEn n then 1 else 0) ∧ (t.port n).replay = [] ∧
        (t.port n).rxq = [])) ∧
    (x.st ≠ 0 → Answers (.linkSignalLoss n) s fun t => (t.port n).st = 0 ∧ (t.port n).signal = false ∧ (t.port n).replay = []) ∧
    (∀ vc bs rest p, x.rxq = (vc, bs) :: rest → vc < 4 → x.freed.length = 4 → s.portOwner n = some p →
      (s.part p).inService = true →
      let took := fun (t : State) => (t.port n).rxq = rest ∧ (t.port n).freed.getD vc 0 = x.freed.getD vc 0 + ceilDiv bs.length 240
      let dropped := fun (t : State) (lo : Nat) => let k := counterKey 2 (portHub n) 0x210 lo (portSel n)
        took t ∧ (t.counter k).owner = (s.counter k).owner + 1 ∧ t.parts = s.parts
      (s.domain = 0 ∨ field bs 0 2 ≠ s.domain → Answers (.packetReceive n) s fun t => dropped t 0) ∧
      (s.domain ≠ 0 → field bs 0 2 = s.domain → parsePacket vc bs = none → Answers (.packetReceive n) s fun t => dropped t 16) ∧
      (∀ k, s.domain ≠ 0 → field bs 0 2 = s.domain → parsePacket vc bs = some k → n ≠ 8 →
        (s.hopOf p k.dst k.dstPart k.hops = .drop → Answers (.packetReceive n) s fun t => dropped t 16) ∧
        (s.hopOf p k.dst k.dstPart k.hops = .unavailable → 2 ≤ k.kind → Answers (.packetReceive n) s fun t => dropped t 16) ∧
        (s.hopOf p k.dst k.dstPart k.hops = .deliver → k.kind = 0 → Answers (.packetReceive n) s fun t => took t ∧
          (t.part p).delivered = (s.part p).delivered ++ [k]) ∧
        (∀ m, s.hopOf p k.dst k.dstPart k.hops = .out m → (s.port m).live = false → Answers (.packetReceive n) s fun t => took t ∧
          (t.port m).txq = (s.port m).txq ++ packetFlits vc n none { k with hops := k.hops - 1 }.bytes)))

/-! ### Stacks and far tier -/

/-- A stack follows its temperature through the thermal states; at critical it goes offline and its contents are lost, and it
returns filled with zeros once cool (R404 to R406). A patrol read repairs or marks its road block (R399, R400). The far tier:
an access that stands unanswered, or brings poison, ends its descriptor with ST_FAR_ERROR, a link goes down and comes up again
with its capacity, and a spill copy that is done leaves the slot's bytes in the far tier and its space in the reserve free
(R297, R408 to R410). Rests on log entries 30, 46, 49, 77, 78, 127. -/
def Obligations.StacksFollowTemperatureAndFarTierItsLinks : Prop :=
  (∀ (s : State) (m rb errs : Nat) (tc : Int) (lanes : List Nat), m < 24 → s.powered = true →
      let x := s.stack m
      let a := stackAddr m rb
      let lost := fun (t : State) => ∀ b, b < hbmEnd → stackOf b = m → memByte t.mem b = 0
      (x.online = true → tc < 1680 → Answers (.stackTempSample m tc) s fun t =>
        t.stack m = { x with temp := tc, thermal := thermalNext x.thermal tc } ∧ t.mem = s.mem) ∧
      (x.online = true → 1680 ≤ tc → x.thermal < 3 → Answers (.stackTempSample m tc) s fun t =>
        (t.stack m).online = false ∧ (t.stack m).thermal = 3 ∧ lost t) ∧
      (x.online = false → x.thermal = 3 → x.temp ≤ 1472 →
        (sparesOk (spareLanes x lanes) = true → Answers (.stackReturn m lanes) s fun t => (t.stack m).online = true ∧
          (t.stack m).lost = true ∧ (t.stack m).thermal = thermalOf x.temp ∧ (t.stack m).spared = spareLanes x lanes ∧ lost t) ∧
        (sparesOk (spareLanes x lanes) = false → Answers (.stackReturn m lanes) s fun t => (t.stack m).online = false ∧
          (t.stack m).failed = true)) ∧
      (x.online = true → s.regf 1 (m / 3) 0x24C 0 8 ≠ 0 → rb < 2 ^ 28 →
        (16 < errs → Answers (.patrolRead m rb errs lanes) s fun t => t.poisoned a 256 = true ∧ t.mem = s.mem) ∧
        (0 < errs → errs ≤ 16 → s.poisoned a 256 = false → Answers (.patrolRead m rb errs lanes) s fun t =>
          t.mem = s.mem ∧ t.poison = s.poison ∧ rb ∈ (t.stack m).pass ∧ ∀ c ∈ t.raw, c.1 / 256 ≠ a / 256) ∧
        (errs = 0 → s.poisoned a 256 = false → (∀ c ∈ s.raw, c.1 / 256 ≠ a / 256) → Answers (.patrolRead m rb errs lanes) s fun t =>
          Only [.hbm] s t ∧ t.stack m = x.newPass rb))) ∧
  (∀ (s : State) (fm q p slot : Nat) (poison : Bool), MemoryOk s → fm < 2 →
      let x := tget (0, 0) s.farPorts fm
      (∀ r, q < 65536 → (s.queue q).running = some r → r.began = true → r.done = none →
        (∀ c ∈ (s.part (s.queuePart q)).colls, c.q ≠ q) → Answers (.farTimeout fm ⟨q, poison⟩) s fun t => Finished t q stFarError
          (if r.work.started = true ∧ (dOpcode r.desc = 0x10 ∨ dOpcode r.desc = 0x11) then productResult r.work else result0)) ∧
      (x.2 ≠ 0 → Answers (.farLinkDown fm) s fun t => tget (0, 0) t.farPorts fm = (x.1, 0) ∧
        tget (0, 0) t.farPorts (1 - fm) = tget (0, 0) s.farPorts (1 - fm) ∧ t.mem = s.mem) ∧
      (s.powered = true → x.1 ≠ 0 → Answers (.farLinkTrained fm) s fun t => tget (0, 0) t.farPorts fm = (x.1, 2) ∧ Only [.farPorts] s t) ∧
      (∀ i b fa n, p < 4 → (s.part p).spills.find? (fun e => e.1 == slot) = some (i, b, fa, n) →
        s.offline (s.dirAddr p slot) 16 = false → s.memStatus true fa n = none → s.memStatus false b n = none →
        s.dirAddr p slot + 16 ≤ fa ∨ fa + n ≤ s.dirAddr p slot →
        Answers (.spillCopyDone p slot true) s fun t => memRead t.mem fa n = memRead s.mem b n ∧
          t.dirEntry p slot = mkEntry fa true slSpilled (entryCkpt (s.dirEntry p slot)) n ∧
          (∀ e ∈ (t.part p).live, e.1 ≠ slot) ∧ (∀ e ∈ (t.part p).spills, e.1 ≠ slot) ∧
          ∀ c, (c < s.dirAddr p slot ∨ s.dirAddr p slot + 16 ≤ c) → (c < fa ∨ fa + n ≤ c) → memByte t.mem c = memByte s.mem c))

/-! ### Twin and waymark -/

/-- The twin's pairing over a live port T in a domain: enabling it sends HELLO; HELLO, CHAIN, IDENT and CONFIRM that pass their
checks lead to PAIRED, or to RETURNING where an image of the peer is held; a check that fails or a handshake that takes too
long leads back to where pairing began (R535 to R537). A peer that is silent or detaches is lost and its image held; detaching
discards it (R538 to R541). Rests on log entries 32, 33, 81, 122. -/
def Obligations.TwinPairsHoldsAndDetaches : Prop :=
  ∀ (s : State) (p : Nat) (w : Word) (m : HelloMsg) (ed ml rec : List Byte) (h : Heartbeat),
    s.twinPart = some p → s.powered = true → (s.port 8).live = true → s.domain ≠ 0 →
    let x := s.twin
    let b := fun (i : Nat) => w.toNat.testBit i
    let failed := fun (r : Nat) (t : State) => t.twin.st = x.from_ ∧ t.twin.progress = 0 ∧ PairingSent t 5 [BitVec.ofNat 8 r]
    let reaches := Config.chainReachesRoot 0 ed && Config.chainReachesRoot 1 ml
    let chains := fun (s : State) => Config.aliasChain 0 s.sec.meas.flatten ++ Config.aliasChain 1 s.sec.meas.flatten
    (b 0 = true → x.st = .unpaired → (s.part p).inService = true → Answers (.twinEnable .owner w) s fun t =>
      t.twin.st = .pairing ∧ t.twin.from_ = .unpaired ∧ t.twin.progress = 0 ∧ t.twin.nonceOwn.length = 32 ∧
      PairingSent t 1 (natLe 2 s.endpoint ++ natLe 2 s.domain ++ slice Config.serial 0 16 ++ t.twin.nonceOwn)) ∧
    (b 0 = false → s.twCfg 0 1 = 1 → Answers (.twinDetach .owner w) s fun t => t.twin.st = .unpaired ∧ t.twin.detaching = true ∧
      t.twin.held = none ∧ t.twin.mirroring = false ∧ ∀ r ∈ (t.part p).readers, r.owner ≠ mirrorOwner) ∧
    (x.st = .pairing →
      Answers .pairingTimeout s (failed 0) ∧
      (x.progress = 0 →
        (m.endpoint = s.twCfg 16 12 → m.domain = s.domain → s.regf 2 3 0x36C 0 16 ≠ 0 → Answers (.hello m) s fun t =>
          t.twin = { x with noncePeer := slice m.nonce 0 32, peerSerial := slice m.serial 0 16, progress := 1 } ∧
          PairingSent t 2 (chains s)) ∧
        (m.endpoint ≠ s.twCfg 16 12 ∨ m.domain ≠ s.domain → Answers (.hello m) s (failed 2)) ∧
        (m.endpoint = s.twCfg 16 12 → m.domain = s.domain → s.regf 2 3 0x36C 0 16 = 0 → Answers (.hello m) s (failed 3))) ∧
      (x.progress = 1 →
        (x.nonceOwn.length = 32 → x.noncePeer.length = 32 → s.identity.length = 3597) ∧
        Answers (.chain ed ml) s fun t => if reaches
          then t.twin.progress = 2 ∧ t.twin.peerChains = (ed, ml) ∧ PairingSent t 3 s.identity else failed 1 t) ∧
      (x.progress = 2 →
        let fresh := slice rec 64 32 = x.nonceOwn ∧ field rec 10 2 % 4096 = s.endpoint
        (fresh → Answers (.ident rec) s fun t => if s.identSigned rec then t.twin = { x with progress := 3 } ∧ PairingSent t 4 [1] else failed 1 t) ∧
        (¬ fresh → Answers (.ident rec) s fun t => if s.identSigned rec then failed 2 t else failed 1 t)) ∧
      (x.progress = 3 →
        (x.from_ = .unpaired ∨ x.held = none → Answers (.confirm true) s fun t => t.twin.st = .paired ∧ t.twin.progress = 4 ∧
          t.twin.peerEp = s.twCfg 16 12) ∧
        (∀ i, x.from_ = .holding → x.held = some i → Answers (.confirm true) s fun t => t.twin.st = .returning ∧
          Sent t 5 2 1 (s.slotImage i))) ∧
      Answers (.confirm false) s (fun t => t.twin.st = x.from_ ∧ ∃ r, PairingSent t 5 [r])) ∧
    (x.st ≠ .unpaired ∨ x.detaching = true → Answers .heartbeatSend s fun t => t.twin.hbSeq = (x.hbSeq + 1) % 2 ^ 32 ∧
      Sent t 3 3 0 (block 24 [(0, 1, twinCode x.st), (1, 1, b2n x.detaching), (4, 4, x.hbSeq), (8, 8, (s.part p).milestone.toNat),
        (16, 8, x.heldMs.toNat)])) ∧
    (h.detaching = false → Answers (.heartbeatReceive h) s fun t => t.twin = { x with peerState := h.state } ∧ Only [.twin] s t) ∧
    (x.st = .paired ∨ x.st = .returning → ∀ c, c = .twinHeartbeatMiss ∨ c = .heartbeatReceive h ∧ h.detaching = true →
      Answers c s fun t => t.twin.st = .holding ∧ t.twin.held = x.held ∧ t.twin.heldMs = x.heldMs ∧ t.twin.mirroring = false) ∧
    (x.st ≠ .paired → x.st ≠ .returning → exec .twinHeartbeatMiss s = .next s) ∧
    (x.detaching = true → Answers .detachEnd s fun t => t.twin = { x with detaching := false } ∧
      t.out = s.out ++ [.flit 8 ((s.port 8).plainFlit 4)])

/-- The twin's images over a live port T in a domain: a whole image with its digest goes into the slot that does not hold the
newest one, or into the return slot, and a damaged one leaves what is held; a mirror that has been sent releases pass 2; PULL
asks for the return, which a paired peer answers with its held image, and its confirmation ends RETURNING (R38, R542 to R544,
R550). Rests on log entries 26, 82, 122. -/
def Obligations.TwinImagesAreHeldAndReturned : Prop :=
  ∀ (s : State) (p : Nat) (w : Word) (img : List Byte), s.twinPart = some p → s.powered = true → (s.port 8).live = true → s.domain ≠ 0 →
    MemoryOk s →
    let x := s.twin
    let slot := if x.held = some 0 then 1 else 0
    (x.st = .paired →
      (s.imageFail slot img true = none → Answers (.mirrorReceived false img true) s fun t => Wrote s t 0 (.dev (s.mirrorSlot slot)) img ∧
        t.twin = { x with held := some slot, heldMs := BitVec.ofNat 64 (field img 8 8) }) ∧
      (∀ r, s.imageFail slot img true = some r → Answers (.mirrorReceived false img true) s fun t => t.twin = x) ∧
      (s.imageFail 2 img true = none → Answers (.mirrorReceived true img true) s fun t => t.twin = { x with retValid := true } ∧
        PairingSent t 7 [] ∧ memRead t.mem (s.mirrorSlot 2) img.length = img) ∧
      (w.toNat.testBit 0 = true → w.toNat.testBit 28 = true →
        (x.mirroring = false → Answers (.twinPull .owner w) s fun t => PairingSent t 6 [] ∧ t.twin.st = .paired) ∧
        (x.mirroring = true → Answers (.twinPull .owner w) s fun t => t.out = s.out ∧ t.twin = { x with pullDue := true })) ∧
      (∀ i, x.held = some i → x.mirroring = false → Answers .returnRequestReceive s fun t =>
        Sent t 5 2 1 (s.slotImage i) ∧ t.twin.returnSent = true ∧ t.twin.held = x.held) ∧
      (x.mirroring = true → Answers .returnRequestReceive s fun t => t.twin = { x with returnDue := true } ∧ Only [.twin] s t)) ∧
    (x.mirroring = true → x.mirrorsDue = [] → x.pullDue = false → x.returnDue = false →
      ((s.port 8).txq.any fun e => e.vc == 2) = false → Answers .mirrorSendComplete s fun t =>
      t.twin = { x with mirroring := false } ∧
      ∀ r ∈ (t.part p).readers, r.owner ≠ mirrorOwner ∨ r.milestone ≠ x.mirrorMs) ∧
    (x.st = .returning → x.returnSent = true → Answers .returnConfirmed s fun t =>
      t.twin = { x with returnSent := false, st := .paired } ∧ t.mem = s.mem ∧ t.slab = s.slab)

/-- The waymark converters: an edge of the kind that EDGE selects begins passes where the trigger is enabled and idle, and is
counted as missed while they run; a step ends with one result per converter that has an entry for it, with its code, numbers,
clipping and trigger time in their places, and the next step, the next pass or the end (R555 to R558). Rests on log entry 72. -/
def Obligations.WaymarkConvertsStepByStep : Prop :=
  ∀ (s : State) (rising : Bool) (uv : List Nat), s.input = true →
    let x := s.wm
    let cs := s.wmEnabled.filter fun c => x.step < s.wmLength c
    (s.wmCfg 0 1 = 1 → s.wmCfg 1 2 = 1 → bit (s.wmCfg 3 2) (b2n (!rising)) = true →
      (x.running = false → s.wmSteps ≠ 0 → Answers (.trigInEdge rising) s fun t =>
        t.wm = { x with running := true, pass := 0, step := 0, trigTime := s.ltime, trigLevel := rising } ∧ Only [.wm] s t) ∧
      (x.running = true → Answers (.trigInEdge rising) s fun t => t.wm = { x with trigLevel := rising } ∧
        let k := counterKey 2 0 0x394 16 0
        (t.counter k).owner = (s.counter k).owner + 1)) ∧
    (s.wmCfg 0 1 = 0 → Answers (.trigInEdge rising) s fun t => t.wm = { x with trigLevel := rising } ∧ Only [.wm] s t) ∧
    (x.running = true → x.fifo.length + 8 ≤ 4096 → Answers (.waymarkStep uv) s fun t => Only [.wm, .free] s t ∧
      t.wm.fifo = x.fifo ++ cs.map (fun c => s.wmResult c (uv.getD c 0)) ∧
      (x.step + 1 < s.wmSteps → t.wm.step = x.step + 1 ∧ t.wm.pass = x.pass ∧ t.wm.running = true) ∧
      (s.wmSteps ≤ x.step + 1 → x.pass < s.wmCfg 8 8 → t.wm.step = 0 ∧ t.wm.pass = x.pass + 1 ∧ t.wm.running = true) ∧
      (s.wmSteps ≤ x.step + 1 → s.wmCfg 8 8 ≤ x.pass → t.wm.running = false)) ∧
    (∀ c ∈ cs, let v := (s.wmResult c (uv.getD c 0)).toNat
      let r := s.wmConvert c (s.wmEntry c x.step 9 3) (s.wmInput c (uv.getD c 0))
      bits v 0 16 = r.1 ∧ bits v 16 3 = c ∧ bits v 19 4 = x.step ∧ bit v 23 = r.2 ∧ bits v 24 8 = x.pass % 256 ∧
      bits v 32 32 = x.trigTime / 10 % 2 ^ 32)
end

