-- ==== Sys2Proof/Laws/Tables.lean ====
section
/-! SUPPORT. The sorted tables: what a read gives after a write, and that every operation keeps the order of the keys. -/

set_option Elab.async false

namespace Sys2Proof.Machine

variable {α : Type}

theorem tsorted_mono {lo lo' : Nat} (h : lo' ≤ lo) : ∀ {m : SMap α}, tsorted lo m = true → tsorted lo' m = true
  | [], _ => rfl
  | (k, v) :: t, hs => by
    simp only [tsorted, Bool.and_eq_true, decide_eq_true_eq] at hs ⊢
    exact ⟨by omega, hs.2⟩

/-- A key below every key of a sorted table is not listed. -/
theorem tfind_below {lo i : Nat} : ∀ {m : SMap α}, tsorted lo m = true → i < lo → tfind m i = none
  | [], _, _ => rfl
  | (k, v) :: t, hs, hi => by
    simp only [tsorted, Bool.and_eq_true, decide_eq_true_eq] at hs
    simp only [tfind]
    rw [if_neg (by omega), if_pos (by omega)]

@[simp] theorem tfind_tput_self (i : Nat) (v : α) : ∀ m : SMap α, tfind (tput m i v) i = some v
  | [] => by simp [tput, tfind]
  | (k, w) :: t => by
    simp only [tput]
    split
    · simp [tfind]
    · split
      · simp [tfind]
      · next h1 h2 => simp only [tfind, if_neg h1, if_neg h2]; exact tfind_tput_self i v t

theorem tfind_tput_other {i j : Nat} (h : j ≠ i) (v : α) : ∀ m : SMap α, tfind (tput m i v) j = tfind m j
  | [] => by
    simp only [tput, tfind, if_neg h]
    split <;> rfl
  | (k, w) :: t => by
    simp only [tput]
    split
    · next hk =>
      subst hk
      simp only [tfind, if_neg h]
    · split
      · next h1 h2 =>
        simp only [tfind, if_neg h]
        split
        · rw [if_neg (by omega), if_pos (by omega)]
        · rfl
      · simp only [tfind]
        rw [tfind_tput_other h v t]

@[simp] theorem tget_tput_self (d : α) (m : SMap α) (i : Nat) (v : α) : tget d (tput m i v) i = v := by simp [tget]
theorem tget_tput_other (d : α) (m : SMap α) {i j : Nat} (h : j ≠ i) (v : α) : tget d (tput m i v) j = tget d m j := by
  simp [tget, tfind_tput_other h]

theorem tsorted_tput {lo i : Nat} (v : α) : ∀ {m : SMap α}, tsorted lo m = true → lo ≤ i → tsorted lo (tput m i v) = true
  | [], _, h => by simp [tput, tsorted, h]
  | (k, w) :: t, hs, h => by
    simp only [tsorted, Bool.and_eq_true, decide_eq_true_eq] at hs
    simp only [tput]
    split
    · next e => subst e; simp [tsorted, h, hs.2]
    · split
      · next h1 h2 => simp [tsorted, h, hs.2]; omega
      · next h1 h2 =>
        simp only [tsorted, Bool.and_eq_true, decide_eq_true_eq]
        exact ⟨hs.1, tsorted_tput v hs.2 (by omega)⟩

theorem tsorted_tdel {lo : Nat} (i : Nat) : ∀ {m : SMap α}, tsorted lo m = true → tsorted lo (tdel m i) = true
  | [], _ => rfl
  | (k, w) :: t, hs => by
    have hs' := hs
    simp only [tsorted, Bool.and_eq_true, decide_eq_true_eq] at hs
    simp only [tdel]
    split
    · exact tsorted_mono (by omega) hs.2
    · split
      · exact hs'
      · simp only [tsorted, Bool.and_eq_true, decide_eq_true_eq]
        exact ⟨hs.1, tsorted_tdel i hs.2⟩

theorem tfind_tdel_self {lo : Nat} (i : Nat) : ∀ {m : SMap α}, tsorted lo m = true → tfind (tdel m i) i = none
  | [], _ => rfl
  | (k, w) :: t, hs => by
    simp only [tsorted, Bool.and_eq_true, decide_eq_true_eq] at hs
    simp only [tdel]
    split
    · next e => subst e; exact tfind_below hs.2 (by omega)
    · split
      · next h1 h2 => simp only [tfind, if_neg h1, if_pos h2]
      · next h1 h2 => simp only [tfind, if_neg h1, if_neg h2]; exact tfind_tdel_self i hs.2

theorem tfind_tdel_other {lo i j : Nat} (h : j ≠ i) : ∀ {m : SMap α}, tsorted lo m = true → tfind (tdel m i) j = tfind m j
  | [], _ => rfl
  | (k, w) :: t, hs => by
    simp only [tsorted, Bool.and_eq_true, decide_eq_true_eq] at hs
    simp only [tdel]
    split
    · next e =>
      subst e
      simp only [tfind, if_neg h]
      split
      · exact tfind_below hs.2 (by omega)
      · rfl
    · split
      · rfl
      · simp only [tfind]
        rw [tfind_tdel_other h hs.2]

theorem tsorted_filter {lo : Nat} (f : Nat × α → Bool) : ∀ {m : SMap α}, tsorted lo m = true → tsorted lo (m.filter f) = true
  | [], _ => rfl
  | (k, w) :: t, hs => by
    simp only [tsorted, Bool.and_eq_true, decide_eq_true_eq] at hs
    rw [List.filter_cons]
    split
    · simp only [tsorted, Bool.and_eq_true, decide_eq_true_eq]
      exact ⟨hs.1, tsorted_filter f hs.2⟩
    · exact tsorted_mono (by omega) (tsorted_filter f hs.2)

/-- Filtering a sorted table by a test of the key. -/
theorem tfind_filter {lo : Nat} (f : Nat → Bool) (i : Nat) : ∀ {m : SMap α}, tsorted lo m = true →
    tfind (m.filter fun e => f e.1) i = if f i then tfind m i else none
  | [], _ => by simp [tfind]
  | (k, w) :: t, hs => by
    have hs' := hs
    simp only [tsorted, Bool.and_eq_true, decide_eq_true_eq] at hs
    have ih := tfind_filter f i hs.2
    rw [List.filter_cons]
    by_cases hk : f k = true
    · simp only [hk, if_true, tfind]
      by_cases h1 : i = k
      · subst h1; simp [hk]
      · simp only [if_neg h1]
        by_cases h2 : i < k
        · simp [h2]
        · simp only [if_neg h2, ih]
    · simp only [hk, Bool.false_eq_true, if_false, ih, tfind]
      by_cases h1 : i = k
      · subst h1; simp [hk]
      · simp only [if_neg h1]
        by_cases h2 : i < k
        · simp only [h2, if_true]
          rw [tfind_below hs.2 (by omega)]
        · simp [h2]

end Sys2Proof.Machine
end

