-- ==== Sys2Proof/Laws/Memory.lean ====
section
/-! SUPPORT. Memory: what a read gives after a write, and that every operation on memory keeps its canonical form. -/

set_option Elab.async false

namespace Sys2Proof.Machine

open Sys2Proof

theorem Memory.wf_iff (m : List Host.Cell) :
    Memory.wf m = true ↔ tsorted 0 m = true ∧ ∀ c ∈ m, c.2 ≠ memDefault := by
  simp [Memory.wf, List.all_eq_true]

theorem mem_tput {i : Nat} {v : Byte} {c : Nat × Byte} : ∀ {m : SMap Byte}, c ∈ tput m i v → c = (i, v) ∨ c ∈ m
  | [], h => by simp [tput] at h; exact .inl h
  | (k, w) :: t, h => by
    simp only [tput] at h
    split at h
    · rcases List.mem_cons.1 h with h | h
      · exact .inl h
      · exact .inr (List.mem_cons_of_mem _ h)
    · split at h
      · rcases List.mem_cons.1 h with h | h
        · exact .inl h
        · exact .inr h
      · rcases List.mem_cons.1 h with h | h
        · exact .inr (h ▸ List.mem_cons_self)
        · rcases mem_tput h with h | h
          · exact .inl h
          · exact .inr (List.mem_cons_of_mem _ h)

theorem mem_tdel {i : Nat} {c : Nat × Byte} : ∀ {m : SMap Byte}, c ∈ tdel m i → c ∈ m
  | [], h => h
  | (k, w) :: t, h => by
    simp only [tdel] at h
    split at h
    · exact List.mem_cons_of_mem _ h
    · split at h
      · exact h
      · rcases List.mem_cons.1 h with h | h
        · exact h ▸ List.mem_cons_self
        · exact List.mem_cons_of_mem _ (mem_tdel h)

theorem memSet_wf {m : List Host.Cell} (h : Memory.wf m = true) (a : Nat) (b : Byte) : Memory.wf (memSet m a b) = true := by
  rw [Memory.wf_iff] at h ⊢
  unfold memSet tset
  split
  · exact ⟨tsorted_tdel a h.1, fun c hc => h.2 c (mem_tdel hc)⟩
  · next hb =>
    refine ⟨tsorted_tput b h.1 (Nat.zero_le a), fun c hc => ?_⟩
    rcases mem_tput hc with rfl | hc
    · exact hb
    · exact h.2 c hc

theorem foldl_memSet_wf {α : Type} {m : List Host.Cell} (h : Memory.wf m = true) (l : List α) (f : α → Nat) (g : α → Byte) :
    Memory.wf (l.foldl (fun m c => memSet m (f c) (g c)) m) = true := by
  induction l generalizing m with
  | nil => exact h
  | cons c l ih => exact ih (memSet_wf h _ _)

theorem memWrite_wf (bs : List Byte) : ∀ {m : List Host.Cell} (a : Nat), Memory.wf m = true → Memory.wf (memWrite m a bs) = true := by
  induction bs with
  | nil => exact fun _ h => h
  | cons b t ih => exact fun a h => ih (a + 1) (memSet_wf h a b)

theorem filter_wf (f : Host.Cell → Bool) {m : List Host.Cell} (h : Memory.wf m = true) : Memory.wf (m.filter f) = true := by
  rw [Memory.wf_iff] at h ⊢
  exact ⟨tsorted_filter f h.1, fun c hc => h.2 c (List.mem_filter.1 hc).1⟩

theorem memZero_wf {m : List Host.Cell} (h : Memory.wf m = true) (a n : Nat) : Memory.wf (memZero m a n) = true := filter_wf _ h

theorem moveMem_wf {m : List Host.Cell} (h : Memory.wf m = true) (ms : List (Nat × Nat × Nat)) : Memory.wf (moveMem m ms) = true := by
  unfold moveMem
  have zeros : ∀ (l : List (Nat × Nat × Nat)) (t : List Host.Cell), Memory.wf t = true →
      Memory.wf (l.foldl (fun t e => memZero t e.2.1 e.2.2) t) = true := by
    intro l
    induction l with
    | nil => exact fun _ h => h
    | cons e l ih => exact fun t h => ih _ (memZero_wf h _ _)
  have sets : ∀ (l : List (Nat × Byte)) (t : List Host.Cell), Memory.wf t = true →
      Memory.wf (l.foldl (fun t c => memSet t c.1 c.2) t) = true := by
    intro l
    induction l with
    | nil => exact fun _ h => h
    | cons e l ih => exact fun t h => ih _ (memSet_wf h _ _)
  exact sets _ _ (zeros _ _ h)

theorem memByte_memSet_self {m : List Host.Cell} (h : Memory.wf m = true) (a : Nat) (b : Byte) : memByte (memSet m a b) a = b := by
  unfold memByte memSet tset tget
  split
  · next hb => rw [tfind_tdel_self a ((Memory.wf_iff m).1 h).1]; exact hb.symm
  · simp

theorem memByte_memSet_other {m : List Host.Cell} (h : Memory.wf m = true) {a c : Nat} (hc : c ≠ a) (b : Byte) :
    memByte (memSet m a b) c = memByte m c := by
  unfold memByte memSet tset tget
  split
  · rw [tfind_tdel_other hc ((Memory.wf_iff m).1 h).1]
  · rw [tfind_tput_other hc]

/-- A byte outside the bytes written reads as before. -/
theorem memByte_memWrite_out (bs : List Byte) : ∀ {m : List Host.Cell} {a c : Nat}, Memory.wf m = true →
    c < a ∨ a + bs.length ≤ c → memByte (memWrite m a bs) c = memByte m c := by
  induction bs with
  | nil => intros; rfl
  | cons b t ih =>
    intro m a c h hc
    simp only [List.length_cons] at hc
    rw [memWrite, ih (memSet_wf h a b) (by omega), memByte_memSet_other h (by omega)]

/-- A byte among those written reads as written. -/
theorem memByte_memWrite_in (bs : List Byte) : ∀ {m : List Host.Cell} {a i : Nat} (hi : i < bs.length), Memory.wf m = true →
    memByte (memWrite m a bs) (a + i) = bs[i] := by
  induction bs with
  | nil => intro m a i hi; exact absurd hi (Nat.not_lt_zero i)
  | cons b t ih =>
    intro m a i hi h
    rw [memWrite]
    cases i with
    | zero => rw [memByte_memWrite_out t (memSet_wf h a b) (.inl (by omega))]; exact memByte_memSet_self h a b
    | succ j =>
      have := ih (m := memSet m a b) (a := a + 1) (i := j) (by simpa using hi) (memSet_wf h a b)
      simpa [Nat.add_assoc, Nat.add_comm 1 j] using this

/-- What is read back is what was written. -/
theorem memRead_memWrite (bs : List Byte) {m : List Host.Cell} (h : Memory.wf m = true) (a : Nat) :
    memRead (memWrite m a bs) a bs.length = bs := by
  refine List.ext_getElem (by simp [memRead]) fun i h1 h2 => ?_
  simp only [memRead, List.getElem_map, List.getElem_range]
  exact memByte_memWrite_in bs h2 h

theorem memByte_memZero {m : List Host.Cell} (h : Memory.wf m = true) (a n c : Nat) :
    memByte (memZero m a n) c = if a ≤ c ∧ c < a + n then memDefault else memByte m c := by
  unfold memByte memZero tclear tget
  rw [tfind_filter (fun k => decide (k < a) || decide (a + n ≤ k)) c ((Memory.wf_iff m).1 h).1]
  by_cases hc : a ≤ c ∧ c < a + n
  · rw [if_neg (by simp; omega), if_pos hc]; rfl
  · rw [if_pos (by simp; omega), if_neg hc]

end Sys2Proof.Machine
end

