-- ==== Sys2Proof/Laws/Evolves.lean ====
section
/-! SUPPORT. The relation that every command keeps: which components of the state may differ, that memory keeps its canonical
form, and that the security counter and revoked key slots last. One lemma per component, one per way of building a state. -/

set_option Elab.async false

namespace Sys2Proof.Machine

open Sys2Proof Sys2Proof.Safety

/-- Bit number of a component in a mask. -/
def compBit : Comp → Nat
  | .pending => 0
  | .out => 1
  | .free => 2
  | .ltime => 3
  | .stbyNs => 4
  | .input => 5
  | .powered => 6
  | .brake => 7
  | .layout => 8
  | .parts => 9
  | .queues => 10
  | .turns => 11
  | .rings => 12
  | .wayposts => 13
  | .regs => 14
  | .staged => 15
  | .counters => 16
  | .latches => 17
  | .calUser => 18
  | .calStaged => 19
  | .calClamped => 20
  | .calFactory => 21
  | .mem => 22
  | .poison => 23
  | .raw => 24
  | .slab => 25
  | .tiles => 26
  | .tileDef => 27
  | .retire => 28
  | .gates => 29
  | .roads => 30
  | .dies => 31
  | .grads => 32
  | .hbm => 33
  | .farPorts => 34
  | .ports => 35
  | .routes => 36
  | .twin => 37
  | .wm => 38
  | .mgmt => 39
  | .sec => 40
  | .scrubs => 41

/-- `t` differs from `s` at most in the components of the mask, and keeps what every command keeps. -/
structure Evolves (m : Nat) (s t : State) : Prop where
  same : ∀ c : Comp, m.testBit (compBit c) = false → c.same s t
  memory : MemoryOk s → MemoryOk t
  lasts : Lasting s t

theorem same_refl (s : State) (c : Comp) : c.same s s := by cases c <;> exact rfl
theorem same_trans {s t u : State} {c : Comp} (h : c.same s t) (k : c.same t u) : c.same s u := by
  cases c <;> exact Eq.trans k h

theorem lasting_refl (s : State) : Lasting s s := ⟨Nat.le_refl _, fun _ h => h⟩
theorem lasting_trans {s t u : State} (h : Lasting s t) (k : Lasting t u) : Lasting s u :=
  ⟨Nat.le_trans h.arb k.arb, fun i hi => k.revoked i (h.revoked i hi)⟩

namespace Evolves

variable {m n : Nat} {s t u : State}

theorem refl : Evolves m s s := ⟨fun c _ => same_refl s c, id, lasting_refl s⟩
theorem trans (h : Evolves m s t) (k : Evolves m t u) : Evolves m s u :=
  ⟨fun c b => same_trans (h.same c b) (k.same c b), fun x => k.memory (h.memory x), lasting_trans h.lasts k.lasts⟩
theorem mono (h : Evolves n s t) (e : n &&& m = n) : Evolves m s t :=
  ⟨fun c b => h.same c (by rw [← e, Nat.testBit_and, b, Bool.and_false]), h.memory, h.lasts⟩
/-- A function of a state is applied. -/
theorem app (k : Evolves n t u) (h : Evolves m s t) (e : n &&& m = n) : Evolves m s u := h.trans (k.mono e)
/-- Components of the mask are written, neither memory nor the fuses among them. -/
theorem put {x0 x1 x2 x3 x4 x5 x6 x7 x8 x9 x10 x11 x12 x13 x14 x15 x16 x17 x18 x19 x20 x21 x22 x23 x24 x25 x26 x27 x28 x29 x30 x31 x32 x33 x34 x35 x36 x37 x38 x39 x40 x41} (h : Evolves m s t)
    (h0 : x0 = t.pending) (h22 : x22 = t.mem := by rfl) (h25 : x25 = t.slab := by rfl) (h40 : x40 = t.sec := by rfl)
    (h1 : m.testBit 1 = true ∨ x1 = t.out := by first | exact .inl rfl | exact .inr rfl)
    (h2 : m.testBit 2 = true ∨ x2 = t.free := by first | exact .inl rfl | exact .inr rfl)
    (h3 : m.testBit 3 = true ∨ x3 = t.ltime := by first | exact .inl rfl | exact .inr rfl)
    (h4 : m.testBit 4 = true ∨ x4 = t.stbyNs := by first | exact .inl rfl | exact .inr rfl)
    (h5 : m.testBit 5 = true ∨ x5 = t.input := by first | exact .inl rfl | exact .inr rfl)
    (h6 : m.testBit 6 = true ∨ x6 = t.powered := by first | exact .inl rfl | exact .inr rfl)
    (h7 : m.testBit 7 = true ∨ x7 = t.brake := by first | exact .inl rfl | exact .inr rfl)
    (h8 : m.testBit 8 = true ∨ x8 = t.layout := by first | exact .inl rfl | exact .inr rfl)
    (h9 : m.testBit 9 = true ∨ x9 = t.parts := by first | exact .inl rfl | exact .inr rfl)
    (h10 : m.testBit 10 = true ∨ x10 = t.queues := by first | exact .inl rfl | exact .inr rfl)
    (h11 : m.testBit 11 = true ∨ x11 = t.turns := by first | exact .inl rfl | exact .inr rfl)
    (h12 : m.testBit 12 = true ∨ x12 = t.rings := by first | exact .inl rfl | exact .inr rfl)
    (h13 : m.testBit 13 = true ∨ x13 = t.wayposts := by first | exact .inl rfl | exact .inr rfl)
    (h14 : m.testBit 14 = true ∨ x14 = t.regs := by first | exact .inl rfl | exact .inr rfl)
    (h15 : m.testBit 15 = true ∨ x15 = t.staged := by first | exact .inl rfl | exact .inr rfl)
    (h16 : m.testBit 16 = true ∨ x16 = t.counters := by first | exact .inl rfl | exact .inr rfl)
    (h17 : m.testBit 17 = true ∨ x17 = t.latches := by first | exact .inl rfl | exact .inr rfl)
    (h18 : m.testBit 18 = true ∨ x18 = t.calUser := by first | exact .inl rfl | exact .inr rfl)
    (h19 : m.testBit 19 = true ∨ x19 = t.calStaged := by first | exact .inl rfl | exact .inr rfl)
    (h20 : m.testBit 20 = true ∨ x20 = t.calClamped := by first | exact .inl rfl | exact .inr rfl)
    (h21 : m.testBit 21 = true ∨ x21 = t.calFactory := by first | exact .inl rfl | exact .inr rfl)
    (h23 : m.testBit 23 = true ∨ x23 = t.poison := by first | exact .inl rfl | exact .inr rfl)
    (h24 : m.testBit 24 = true ∨ x24 = t.raw := by first | exact .inl rfl | exact .inr rfl)
    (h26 : m.testBit 26 = true ∨ x26 = t.tiles := by first | exact .inl rfl | exact .inr rfl)
    (h27 : m.testBit 27 = true ∨ x27 = t.tileDef := by first | exact .inl rfl | exact .inr rfl)
    (h28 : m.testBit 28 = true ∨ x28 = t.retire := by first | exact .inl rfl | exact .inr rfl)
    (h29 : m.testBit 29 = true ∨ x29 = t.gates := by first | exact .inl rfl | exact .inr rfl)
    (h30 : m.testBit 30 = true ∨ x30 = t.roads := by first | exact .inl rfl | exact .inr rfl)
    (h31 : m.testBit 31 = true ∨ x31 = t.dies := by first | exact .inl rfl | exact .inr rfl)
    (h32 : m.testBit 32 = true ∨ x32 = t.grads := by first | exact .inl rfl | exact .inr rfl)
    (h33 : m.testBit 33 = true ∨ x33 = t.hbm := by first | exact .inl rfl | exact .inr rfl)
    (h34 : m.testBit 34 = true ∨ x34 = t.farPorts := by first | exact .inl rfl | exact .inr rfl)
    (h35 : m.testBit 35 = true ∨ x35 = t.ports := by first | exact .inl rfl | exact .inr rfl)
    (h36 : m.testBit 36 = true ∨ x36 = t.routes := by first | exact .inl rfl | exact .inr rfl)
    (h37 : m.testBit 37 = true ∨ x37 = t.twin := by first | exact .inl rfl | exact .inr rfl)
    (h38 : m.testBit 38 = true ∨ x38 = t.wm := by first | exact .inl rfl | exact .inr rfl)
    (h39 : m.testBit 39 = true ∨ x39 = t.mgmt := by first | exact .inl rfl | exact .inr rfl)
    (h41 : m.testBit 41 = true ∨ x41 = t.scrubs := by first | exact .inl rfl | exact .inr rfl) :
    Evolves m s ⟨x0, x1, x2, x3, x4, x5, x6, x7, x8, x9, x10, x11, x12, x13, x14, x15, x16, x17, x18, x19, x20, x21, x22, x23, x24, x25, x26, x27, x28, x29, x30, x31, x32, x33, x34, x35, x36, x37, x38, x39, x40, x41⟩ := by
  subst h0 h22 h25 h40
  refine h.trans ⟨fun c b => ?_, id, ⟨Nat.le_refl _, fun _ h => h⟩⟩
  cases c
  · exact rfl
  · exact h1.resolve_left fun a => nomatch a.symm.trans b
  · exact h2.resolve_left fun a => nomatch a.symm.trans b
  · exact h3.resolve_left fun a => nomatch a.symm.trans b
  · exact h4.resolve_left fun a => nomatch a.symm.trans b
  · exact h5.resolve_left fun a => nomatch a.symm.trans b
  · exact h6.resolve_left fun a => nomatch a.symm.trans b
  · exact h7.resolve_left fun a => nomatch a.symm.trans b
  · exact h8.resolve_left fun a => nomatch a.symm.trans b
  · exact h9.resolve_left fun a => nomatch a.symm.trans b
  · exact h10.resolve_left fun a => nomatch a.symm.trans b
  · exact h11.resolve_left fun a => nomatch a.symm.trans b
  · exact h12.resolve_left fun a => nomatch a.symm.trans b
  · exact h13.resolve_left fun a => nomatch a.symm.trans b
  · exact h14.resolve_left fun a => nomatch a.symm.trans b
  · exact h15.resolve_left fun a => nomatch a.symm.trans b
  · exact h16.resolve_left fun a => nomatch a.symm.trans b
  · exact h17.resolve_left fun a => nomatch a.symm.trans b
  · exact h18.resolve_left fun a => nomatch a.symm.trans b
  · exact h19.resolve_left fun a => nomatch a.symm.trans b
  · exact h20.resolve_left fun a => nomatch a.symm.trans b
  · exact h21.resolve_left fun a => nomatch a.symm.trans b
  · exact rfl
  · exact h23.resolve_left fun a => nomatch a.symm.trans b
  · exact h24.resolve_left fun a => nomatch a.symm.trans b
  · exact rfl
  · exact h26.resolve_left fun a => nomatch a.symm.trans b
  · exact h27.resolve_left fun a => nomatch a.symm.trans b
  · exact h28.resolve_left fun a => nomatch a.symm.trans b
  · exact h29.resolve_left fun a => nomatch a.symm.trans b
  · exact h30.resolve_left fun a => nomatch a.symm.trans b
  · exact h31.resolve_left fun a => nomatch a.symm.trans b
  · exact h32.resolve_left fun a => nomatch a.symm.trans b
  · exact h33.resolve_left fun a => nomatch a.symm.trans b
  · exact h34.resolve_left fun a => nomatch a.symm.trans b
  · exact h35.resolve_left fun a => nomatch a.symm.trans b
  · exact h36.resolve_left fun a => nomatch a.symm.trans b
  · exact h37.resolve_left fun a => nomatch a.symm.trans b
  · exact h38.resolve_left fun a => nomatch a.symm.trans b
  · exact h39.resolve_left fun a => nomatch a.symm.trans b
  · exact rfl
  · exact h41.resolve_left fun a => nomatch a.symm.trans b

theorem ite {c : Prop} [Decidable c] {a b : State} (h : Evolves m s a) (k : Evolves m s b) : Evolves m s (if c then a else b) := by
  split <;> assumption
theorem iteFst {α : Type} {c : Prop} [Decidable c] {a b : State × α} (h : Evolves m s a.1) (k : Evolves m s b.1) :
    Evolves m s (if c then a else b).1 := by split <;> assumption
theorem iteSnd {α : Type} {c : Prop} [Decidable c] {a b : α × State} (h : Evolves m s a.2) (k : Evolves m s b.2) :
    Evolves m s (if c then a else b).2 := by split <;> assumption

theorem foldl {α : Type} {f : State → α → State} {l : List α} (h : Evolves m s t) (k : ∀ v a, Evolves m v (f v a)) :
    Evolves m s (l.foldl f t) := by
  induction l generalizing t with
  | nil => exact h
  | cons a l ih => exact ih (h.trans (k t a))
/-- A fold whose accumulator holds the state. -/
theorem foldlBy {α β : Type} (π : β → State) {f : β → α → β} {l : List α} {b : β} (h : Evolves m s (π b))
    (k : ∀ v a, Evolves m (π v) (π (f v a))) : Evolves m s (π (l.foldl f b)) := by
  induction l generalizing b with
  | nil => exact h
  | cons a l ih => exact ih (h.trans (k b a))

theorem ofFst {α : Type} {p : State × α} {a : α} (e : p = (t, a)) (h : Evolves m s p.1) : Evolves m s t := by rw [e] at h; exact h
theorem ofSnd {α : Type} {p : α × State} {a : α} (e : p = (a, t)) (h : Evolves m s p.2) : Evolves m s t := by rw [e] at h; exact h

theorem out (h : Evolves m s t) {x} (b : m.testBit 1 = true) : Evolves m s { t with out := x } :=
  h.put rfl (h1 := .inl b)
theorem free (h : Evolves m s t) {x} (b : m.testBit 2 = true) : Evolves m s { t with free := x } :=
  h.put rfl (h2 := .inl b)
theorem ltime (h : Evolves m s t) {x} (b : m.testBit 3 = true) : Evolves m s { t with ltime := x } :=
  h.put rfl (h3 := .inl b)
theorem stbyNs (h : Evolves m s t) {x} (b : m.testBit 4 = true) : Evolves m s { t with stbyNs := x } :=
  h.put rfl (h4 := .inl b)
theorem input (h : Evolves m s t) {x} (b : m.testBit 5 = true) : Evolves m s { t with input := x } :=
  h.put rfl (h5 := .inl b)
theorem powered (h : Evolves m s t) {x} (b : m.testBit 6 = true) : Evolves m s { t with powered := x } :=
  h.put rfl (h6 := .inl b)
theorem brake (h : Evolves m s t) {x} (b : m.testBit 7 = true) : Evolves m s { t with brake := x } :=
  h.put rfl (h7 := .inl b)
theorem layout (h : Evolves m s t) {x} (b : m.testBit 8 = true) : Evolves m s { t with layout := x } :=
  h.put rfl (h8 := .inl b)
theorem parts (h : Evolves m s t) {x} (b : m.testBit 9 = true) : Evolves m s { t with parts := x } :=
  h.put rfl (h9 := .inl b)
theorem queues (h : Evolves m s t) {x} (b : m.testBit 10 = true) : Evolves m s { t with queues := x } :=
  h.put rfl (h10 := .inl b)
theorem turns (h : Evolves m s t) {x} (b : m.testBit 11 = true) : Evolves m s { t with turns := x } :=
  h.put rfl (h11 := .inl b)
theorem rings (h : Evolves m s t) {x} (b : m.testBit 12 = true) : Evolves m s { t with rings := x } :=
  h.put rfl (h12 := .inl b)
theorem wayposts (h : Evolves m s t) {x} (b : m.testBit 13 = true) : Evolves m s { t with wayposts := x } :=
  h.put rfl (h13 := .inl b)
theorem regs (h : Evolves m s t) {x} (b : m.testBit 14 = true) : Evolves m s { t with regs := x } :=
  h.put rfl (h14 := .inl b)
theorem staged (h : Evolves m s t) {x} (b : m.testBit 15 = true) : Evolves m s { t with staged := x } :=
  h.put rfl (h15 := .inl b)
theorem counters (h : Evolves m s t) {x} (b : m.testBit 16 = true) : Evolves m s { t with counters := x } :=
  h.put rfl (h16 := .inl b)
theorem latches (h : Evolves m s t) {x} (b : m.testBit 17 = true) : Evolves m s { t with latches := x } :=
  h.put rfl (h17 := .inl b)
theorem calUser (h : Evolves m s t) {x} (b : m.testBit 18 = true) : Evolves m s { t with calUser := x } :=
  h.put rfl (h18 := .inl b)
theorem calStaged (h : Evolves m s t) {x} (b : m.testBit 19 = true) : Evolves m s { t with calStaged := x } :=
  h.put rfl (h19 := .inl b)
theorem calClamped (h : Evolves m s t) {x} (b : m.testBit 20 = true) : Evolves m s { t with calClamped := x } :=
  h.put rfl (h20 := .inl b)
theorem calFactory (h : Evolves m s t) {x} (b : m.testBit 21 = true) : Evolves m s { t with calFactory := x } :=
  h.put rfl (h21 := .inl b)
theorem poison (h : Evolves m s t) {x} (b : m.testBit 23 = true) : Evolves m s { t with poison := x } :=
  h.put rfl (h23 := .inl b)
theorem raw (h : Evolves m s t) {x} (b : m.testBit 24 = true) : Evolves m s { t with raw := x } :=
  h.put rfl (h24 := .inl b)
theorem tiles (h : Evolves m s t) {x} (b : m.testBit 26 = true) : Evolves m s { t with tiles := x } :=
  h.put rfl (h26 := .inl b)
theorem tileDef (h : Evolves m s t) {x} (b : m.testBit 27 = true) : Evolves m s { t with tileDef := x } :=
  h.put rfl (h27 := .inl b)
theorem retire (h : Evolves m s t) {x} (b : m.testBit 28 = true) : Evolves m s { t with retire := x } :=
  h.put rfl (h28 := .inl b)
theorem gates (h : Evolves m s t) {x} (b : m.testBit 29 = true) : Evolves m s { t with gates := x } :=
  h.put rfl (h29 := .inl b)
theorem roads (h : Evolves m s t) {x} (b : m.testBit 30 = true) : Evolves m s { t with roads := x } :=
  h.put rfl (h30 := .inl b)
theorem dies (h : Evolves m s t) {x} (b : m.testBit 31 = true) : Evolves m s { t with dies := x } :=
  h.put rfl (h31 := .inl b)
theorem grads (h : Evolves m s t) {x} (b : m.testBit 32 = true) : Evolves m s { t with grads := x } :=
  h.put rfl (h32 := .inl b)
theorem hbm (h : Evolves m s t) {x} (b : m.testBit 33 = true) : Evolves m s { t with hbm := x } :=
  h.put rfl (h33 := .inl b)
theorem farPorts (h : Evolves m s t) {x} (b : m.testBit 34 = true) : Evolves m s { t with farPorts := x } :=
  h.put rfl (h34 := .inl b)
theorem ports (h : Evolves m s t) {x} (b : m.testBit 35 = true) : Evolves m s { t with ports := x } :=
  h.put rfl (h35 := .inl b)
theorem routes (h : Evolves m s t) {x} (b : m.testBit 36 = true) : Evolves m s { t with routes := x } :=
  h.put rfl (h36 := .inl b)
theorem twin (h : Evolves m s t) {x} (b : m.testBit 37 = true) : Evolves m s { t with twin := x } :=
  h.put rfl (h37 := .inl b)
theorem wm (h : Evolves m s t) {x} (b : m.testBit 38 = true) : Evolves m s { t with wm := x } :=
  h.put rfl (h38 := .inl b)
theorem mgmt (h : Evolves m s t) {x} (b : m.testBit 39 = true) : Evolves m s { t with mgmt := x } :=
  h.put rfl (h39 := .inl b)
theorem scrubs (h : Evolves m s t) {x} (b : m.testBit 41 = true) : Evolves m s { t with scrubs := x } :=
  h.put rfl (h41 := .inl b)

theorem mem (h : Evolves m s t) {x} (b : m.testBit 22 = true) (w : Memory.wf t.mem = true → Memory.wf x = true) :
    Evolves m s { t with mem := x } :=
  h.trans ⟨fun c k => by cases c <;> first | rfl | exact absurd (b.symm.trans k) (by decide), fun o => ⟨w o.1, o.2⟩, ⟨Nat.le_refl _, fun _ h => h⟩⟩
theorem slab (h : Evolves m s t) {x} (b : m.testBit 25 = true) (w : Memory.wf t.slab = true → Memory.wf x = true) :
    Evolves m s { t with slab := x } :=
  h.trans ⟨fun c k => by cases c <;> first | rfl | exact absurd (b.symm.trans k) (by decide), fun o => ⟨o.1, w o.2⟩, ⟨Nat.le_refl _, fun _ h => h⟩⟩
theorem sec (h : Evolves m s t) {x : Security} (b : m.testBit 40 = true) (ha : t.sec.arb ≤ x.arb)
    (hr : ∀ i, t.sec.slotState.getD i 0 = 2 → x.slotState.getD i 0 = 2) : Evolves m s { t with sec := x } :=
  h.trans ⟨fun c k => by cases c <;> first | rfl | exact absurd (b.symm.trans k) (by decide), id, ⟨ha, hr⟩⟩

end Evolves

/-- Every next state of a result evolves from `s`. -/
structure Ends (m : Nat) (s : State) (r : Result) : Prop where
  run : ∀ t, r = .next t → Evolves m s t

namespace Ends

variable {m n : Nat} {s : State}

theorem next {t : State} (h : Evolves m s t) : Ends m s (.next t) := ⟨fun _ e => by cases e; exact h⟩
theorem fault {f : Fault} : Ends m s (.fault f) := ⟨fun _ e => nomatch e⟩
theorem mono {r : Result} (h : Ends n s r) (e : n &&& m = n) : Ends m s r := ⟨fun t k => (h.run t k).mono e⟩
theorem ite {c : Prop} [Decidable c] {a b : Result} (h : Ends m s a) (k : Ends m s b) : Ends m s (if c then a else b) := by
  split <;> assumption
theorem onTile {k : Nat} {r : Result} (h : Ends m s r) : Ends m s (onTile k r) := ite h fault
theorem onQueue {k : Nat} {r : Result} (h : Ends m s r) : Ends m s (onQueue k r) := ite h fault
theorem onQuad {k : Nat} {r : Result} (h : Ends m s r) : Ends m s (onQuad k r) := ite h fault
theorem onPort {k : Nat} {r : Result} (h : Ends m s r) : Ends m s (onPort k r) := ite h fault
theorem onStack {k : Nat} {r : Result} (h : Ends m s r) : Ends m s (onStack k r) := ite h fault
theorem onFunction {k : Nat} {r : Result} (h : Ends m s r) : Ends m s (onFunction k r) := ite h fault
theorem onFarPort {k : Nat} {r : Result} (h : Ends m s r) : Ends m s (onFarPort k r) := ite h fault
theorem onController {k : Nat} {r : Result} (h : Ends m s r) : Ends m s (onController k r) := ite h fault
theorem onDie {k d : Nat} {r : Result} (h : Ends m s r) : Ends m s (onDie k d r) := ite h fault
theorem onVia {v : Via} {r : Result} (h : Ends m s r) : Ends m s (onVia v r) := by cases v <;> first | exact onFunction h | exact h

end Ends

/-- Counting changes the counters. -/
theorem State.count_evolves : ∀ s x1 x2 x3 x4 x5 x6, Evolves 65536 s (State.count s x1 x2 x3 x4 x5 x6) := by
  intro s k d o l n i
  unfold State.count
  exact .ite .refl (.counters .refl rfl)

/-- The read of a read-modify-write changes counts and marks. -/
theorem State.modifyBlocks_evolves : ∀ s x1 x2, Evolves 8454144 s (State.modifyBlocks s x1 x2) := by
  intro s a n
  unfold State.modifyBlocks
  refine .ite .refl (.foldl .refl fun v b => ?_)
  unfold State.modifyBlock
  refine .ite ?_ (.ite ?_ .refl)
  · unfold State.countUncorr State.poisonBlock
    exact .ite ((State.count_evolves ..).app (.poison .refl rfl) rfl) ((State.count_evolves ..).app (.poison .refl rfl) rfl)
  · exact (State.count_evolves ..).mono rfl

/-- A write of device memory changes memory, its marks and counts. -/
theorem State.writeMem_evolves : ∀ s x1 x2, Evolves 29425664 s (State.writeMem s x1 x2) := by
  intro s a bs
  unfold State.writeMem
  refine .ite .refl (.put (Evolves.mem (x := memWrite _ a bs) ((State.modifyBlocks_evolves ..).mono rfl) rfl (memWrite_wf bs a)) rfl)

/-- Zeroing a range changes memory and its marks. -/
theorem State.zeroMem_evolves : ∀ s x1 x2, Evolves 29360128 s (State.zeroMem s x1 x2) := by
  intro s a n
  unfold State.zeroMem
  refine .put (Evolves.mem (x := memZero s.mem a n) .refl rfl fun h => memZero_wf h a n) rfl

/-! ### The fuses and the mailbox -/

theorem runSet_arb (x : Security) (b : Nat) : (x.runSet b).arb = x.arb := by
  unfold Security.runSet
  dsimp only
  split <;> rfl
theorem runSet_slotState (x : Security) (b : Nat) : (x.runSet b).slotState = x.slotState := by
  unfold Security.runSet
  dsimp only
  split <;> rfl
theorem Evolves.runSet {m : Nat} {s : State} (b : Nat) (h : m.testBit 40 = true) :
    Evolves m s { s with sec := s.sec.runSet b } :=
  .sec .refl h (Nat.le_of_eq (runSet_arb ..).symm) fun i k => by rw [runSet_slotState]; exact k

theorem setBank_arb (x : Security) (b : Nat) (v : List Byte) : (x.setBank b v).arb = x.arb := by
  unfold Security.setBank; split <;> rfl
theorem setBank_slotState (x : Security) (b : Nat) (v : List Byte) : (x.setBank b v).slotState = x.slotState := by
  unfold Security.setBank; split <;> rfl
theorem Evolves.setBank {m : Nat} {s : State} (b : Nat) (v : List Byte) (h : m.testBit 40 = true) :
    Evolves m s { s with sec := s.sec.setBank b v } :=
  .sec .refl h (Nat.le_of_eq (setBank_arb ..).symm) fun i k => by rw [setBank_slotState]; exact k

/-- A slot that is not revoked takes a state; revoked ones stay. -/
theorem Evolves.setSlot {m : Nat} {s : State} (alg slot st : Nat) (d : List Byte) (h : m.testBit 40 = true)
    (hs : s.sec.slotState.getD (slotIndex alg slot) 0 ≠ 2) : Evolves m s { s with sec := s.sec.setSlot alg slot st d } := by
  refine .sec .refl h (Nat.le_refl _) fun i hi => ?_
  have ne : slotIndex alg slot ≠ i := fun e => hs (e ▸ hi)
  simp only [Security.setSlot, List.getD_eq_getElem?_getD, List.getElem?_set_ne ne]
  simpa only [List.getD_eq_getElem?_getD] using hi

/-- A mailbox command changes what its own part changes, the responses and the output. -/
theorem Ends.mailbox {m c cmd seq : Nat} {early : Bool} {s : State} {f : State → State × Reply} (h : Evolves m s (f s).1)
    (e : m.testBit 39 = true) (e' : m.testBit 1 = true) : Ends m s (mailbox c cmd seq early s f) := by
  unfold Machine.mailbox
  simp only [State.emit]
  refine .onController (.ite (.next .refl) (.ite (.next (Evolves.out .refl e')) ?_))
  split
  · exact .next (Evolves.out .refl e')
  · refine .next (.put ?_ rfl (h1 := .inl e') (h39 := .inl e))
    exact .iteFst .refl h

end Sys2Proof.Machine
end

