-- ==== Sys2Proof/Laws/EvolvesOps.lean ====
section
/-! SUPPORT. What the shared operations, the fabric and the queue engine may change: one lemma per function, with the mask of the components (compBit). -/

set_option Elab.async false

namespace Sys2Proof.Machine

open Sys2Proof Sys2Proof.Safety

theorem State.setQueue_evolves : ∀ s x1 x2, Evolves 1024 s (State.setQueue s x1 x2) := by
  intro s x1 x2
  unfold State.setQueue
  refine .queues ?_ rfl
  exact .refl

theorem State.modWork_evolves : ∀ s x1 x2, Evolves 1024 s (State.modWork s x1 x2) := by
  intro s x1 x2
  unfold State.modWork
  dsimp only
  split
  · exact .refl
  · exact (State.setQueue_evolves ..).mono rfl

theorem State.setPart_evolves : ∀ s x1 x2, Evolves 512 s (State.setPart s x1 x2) := by
  intro s x1 x2
  unfold State.setPart
  refine .parts ?_ rfl
  exact .refl

theorem State.modPart_evolves : ∀ s x1 x2, Evolves 512 s (State.modPart s x1 x2) := by
  intro s x1 x2
  unfold State.modPart
  exact (State.setPart_evolves ..).mono rfl

theorem State.dropColl_evolves : ∀ s x1 x2, Evolves 512 s (State.dropColl s x1 x2) := by
  intro s x1 x2
  unfold State.dropColl
  exact (State.modPart_evolves ..).mono rfl

theorem State.setWaypost_evolves : ∀ s x1 x2, Evolves 8192 s (State.setWaypost s x1 x2) := by
  intro s x1 x2
  unfold State.setWaypost
  refine .wayposts ?_ rfl
  exact .refl

theorem State.modQueues_evolves : ∀ s x1 x2, Evolves 1024 s (State.modQueues s x1 x2) := by
  intro s x1 x2
  unfold State.modQueues
  refine .queues ?_ rfl
  exact .refl

theorem State.waypostWrite_evolves : ∀ s x1 x2, Evolves 9216 s (State.waypostWrite s x1 x2) := by
  intro s x1 x2
  unfold State.waypostWrite
  refine (State.modQueues_evolves ..).app ?_ rfl
  exact (State.setWaypost_evolves ..).mono rfl

theorem State.finish_evolves : ∀ s x1 x2 x3, Evolves 9216 s (State.finish s x1 x2 x3) := by
  intro s x1 x2 x3
  unfold State.finish
  dsimp only
  split
  · exact .refl
  · refine .ite ?_ ?_
    · exact .refl
    · refine .ite ?_ ?_
      · refine (State.waypostWrite_evolves ..).app ?_ rfl
        exact (State.setQueue_evolves ..).mono rfl
      · exact (State.setQueue_evolves ..).mono rfl

theorem State.countPort_evolves : ∀ s x1 x2 x3, Evolves 65536 s (State.countPort s x1 x2 x3) := by
  intro s x1 x2 x3
  unfold State.countPort
  exact (State.count_evolves ..).mono rfl

theorem State.dropRoute_evolves : ∀ s x1, Evolves 65536 s (State.dropRoute s x1) := by
  intro s x1
  unfold State.dropRoute
  exact (State.countPort_evolves ..).mono rfl

theorem State.deliverPacket_evolves : ∀ s x1 x2, Evolves 512 s (State.deliverPacket s x1 x2) := by
  intro s x1 x2
  unfold State.deliverPacket
  refine .ite ?_ ?_
  · exact (State.modPart_evolves ..).mono rfl
  · exact .refl

theorem State.setPort_evolves : ∀ s x1 x2, Evolves 34359738368 s (State.setPort s x1 x2) := by
  intro s x1 x2
  unfold State.setPort
  refine .ports ?_ rfl
  exact .refl

theorem State.emit_evolves : ∀ s x1, Evolves 2 s (State.emit s x1) := by
  intro s x1
  unfold State.emit
  refine .out ?_ rfl
  exact .refl

theorem State.sendFlit_evolves : ∀ s x1 x2, Evolves 34359738370 s (State.sendFlit s x1 x2) := by
  intro s x1 x2
  unfold State.sendFlit
  dsimp only
  split
  · exact .refl
  · refine (State.emit_evolves ..).app ?_ rfl
    exact (State.setPort_evolves ..).mono rfl

theorem State.pumpLoop_evolves : ∀ s x1 x2, Evolves 34359738370 s (State.pumpLoop s x1 x2) := by
  intro s n k
  induction k generalizing s with
  | zero => exact .refl
  | succ k ih =>
    unfold State.pumpLoop
    refine .ite .refl ?_
    split
    · exact .refl
    · exact .trans ((State.sendFlit_evolves ..).mono rfl) (ih _)

theorem State.pumpPort_evolves : ∀ s x1, Evolves 34359738370 s (State.pumpPort s x1) := by
  intro s x1
  unfold State.pumpPort
  exact (State.pumpLoop_evolves ..).mono rfl

theorem State.sendOn_evolves : ∀ s x1 x2 x3 x4 x5, Evolves 34359738370 s (State.sendOn s x1 x2 x3 x4 x5) := by
  intro s x1 x2 x3 x4 x5
  unfold State.sendOn
  dsimp only
  refine (State.pumpPort_evolves ..).app ?_ rfl
  exact (State.setPort_evolves ..).mono rfl

theorem State.dropDomain_evolves : ∀ s x1, Evolves 65536 s (State.dropDomain s x1) := by
  intro s x1
  unfold State.dropDomain
  exact (State.countPort_evolves ..).mono rfl

theorem State.sendPacket_evolves : ∀ s x1 x2 x3, Evolves 34359804418 s (State.sendPacket s x1 x2 x3).1 := by
  intro s x1 x2 x3
  unfold State.sendPacket
  refine .iteFst ?_ ?_
  · dsimp only
    exact (State.dropDomain_evolves ..).mono rfl
  · split
    · dsimp only
      exact (State.sendOn_evolves ..).mono rfl
    · dsimp only
      exact (State.deliverPacket_evolves ..).mono rfl
    · dsimp only
      exact (State.dropRoute_evolves ..).mono rfl
    · dsimp only
      exact (State.dropRoute_evolves ..).mono rfl

theorem State.sendAbort_evolves : ∀ s x1 x2 x3, Evolves 34359804418 s (State.sendAbort s x1 x2 x3) := by
  intro s x1 x2 x3
  unfold State.sendAbort
  dsimp only
  refine .foldl ?_ fun v a => ?_
  · exact .refl
  · exact (State.sendPacket_evolves ..).mono rfl

theorem State.countCorr_evolves : ∀ s x1, Evolves 65536 s (State.countCorr s x1) := by
  intro s x1
  unfold State.countCorr
  exact (State.count_evolves ..).mono rfl

theorem State.poisonBlock_evolves : ∀ s x1, Evolves 8388608 s (State.poisonBlock s x1) := by
  intro s x1
  unfold State.poisonBlock
  refine .poison ?_ rfl
  exact .refl

theorem State.countUncorr_evolves : ∀ s x1, Evolves 65536 s (State.countUncorr s x1) := by
  intro s x1
  unfold State.countUncorr
  refine .ite ?_ ?_
  · exact (State.count_evolves ..).mono rfl
  · exact (State.count_evolves ..).mono rfl

theorem State.modifyBlock_evolves : ∀ s x1, Evolves 8454144 s (State.modifyBlock s x1) := by
  intro s x1
  unfold State.modifyBlock
  refine .ite ?_ ?_
  · refine (State.countUncorr_evolves ..).app ?_ rfl
    exact (State.poisonBlock_evolves ..).mono rfl
  · refine .ite ?_ ?_
    · exact (State.countCorr_evolves ..).mono rfl
    · exact .refl

theorem State.eqPut_evolves : ∀ s x1 x2 x3, Evolves 514 s (State.eqPut s x1 x2 x3) := by
  intro s x1 x2 x3
  unfold State.eqPut
  dsimp only
  refine (State.emit_evolves ..).app ?_ rfl
  refine (State.emit_evolves ..).app ?_ rfl
  exact (State.setPart_evolves ..).mono rfl

theorem State.eqFlush_evolves : ∀ s x1, Evolves 514 s (State.eqFlush s x1) := by
  intro s x1
  unfold State.eqFlush
  dsimp only
  refine .ite ?_ ?_
  · exact .refl
  · refine (State.modPart_evolves ..).app ?_ rfl
    exact (State.eqPut_evolves ..).mono rfl

theorem State.eqEvent_evolves : ∀ s x1 x2 x3, Evolves 66050 s (State.eqEvent s x1 x2 x3) := by
  intro s x1 x2 x3
  unfold State.eqEvent
  dsimp only
  refine .ite ?_ ?_
  · refine (State.eqPut_evolves ..).app ?_ rfl
    exact (State.eqFlush_evolves ..).mono rfl
  · refine (State.count_evolves ..).app ?_ rfl
    refine (State.modPart_evolves ..).app ?_ rfl
    exact (State.eqFlush_evolves ..).mono rfl

theorem State.pushRecord_evolves : ∀ s x1, Evolves 549755813888 s (State.pushRecord s x1) := by
  intro s x1
  unfold State.pushRecord
  refine .ite ?_ ?_
  · refine .mgmt ?_ rfl
    exact .refl
  · refine .mgmt ?_ rfl
    exact .refl

theorem State.raiseM_evolves : ∀ s x1 x2 x3 x4, Evolves 549755879938 s (State.raiseM s x1 x2 x3 x4) := by
  intro s x1 x2 x3 x4
  unfold State.raiseM
  dsimp only
  refine (State.pushRecord_evolves ..).app ?_ rfl
  exact (State.eqEvent_evolves ..).mono rfl

theorem State.raise_evolves : ∀ s x1 x2 x3, Evolves 549755879938 s (State.raise s x1 x2 x3) := by
  intro s x1 x2 x3
  unfold State.raise
  exact (State.raiseM_evolves ..).mono rfl

theorem State.openMem_evolves : ∀ s x1 x2, Evolves 29425668 s (State.openMem s x1 x2) := by
  intro s x1 x2
  unfold State.openMem
  dsimp only
  refine .free ?_ rfl
  exact (State.writeMem_evolves ..).mono rfl

theorem State.openColl_evolves : ∀ s x1, Evolves 29425668 s (State.openColl s x1) := by
  intro s x1
  unfold State.openColl
  refine .foldl ?_ fun v a => ?_
  · exact .refl
  · exact (State.openMem_evolves ..).mono rfl

theorem State.countReads_evolves : ∀ s x1, Evolves 65536 s (State.countReads s x1) := by
  intro s x1
  unfold State.countReads
  refine .ite ?_ ?_
  · exact .refl
  · refine .foldl ?_ fun v a => ?_
    · exact .refl
    · dsimp only
      split
      · refine .ite ?_ ?_
        · exact .refl
        · refine .foldl ?_ fun v a => ?_
          · exact .refl
          · exact (State.countCorr_evolves ..).mono rfl
      · exact .refl

theorem State.countBad_evolves : ∀ s x1 x2, Evolves 65536 s (State.countBad s x1 x2) := by
  intro s x1 x2
  unfold State.countBad
  refine .ite ?_ ?_
  · dsimp only
    split
    · exact (State.countUncorr_evolves ..).mono rfl
    · exact .refl
  · exact .refl

theorem State.twinSend_evolves : ∀ s x1 x2 x3 x4, Evolves 34359803906 s (State.twinSend s x1 x2 x3 x4) := by
  intro s x1 x2 x3 x4
  unfold State.twinSend
  refine .ite ?_ ?_
  · exact .refl
  · refine .ite ?_ ?_
    · exact (State.dropDomain_evolves ..).mono rfl
    · refine .foldl ?_ fun v a => ?_
      · exact .refl
      · exact (State.sendOn_evolves ..).mono rfl

theorem State.imageSend_evolves : ∀ s x1 x2, Evolves 34359803906 s (State.imageSend s x1 x2) := by
  intro s x1 x2
  unfold State.imageSend
  exact (State.twinSend_evolves ..).mono rfl

theorem State.pairingSend_evolves : ∀ s x1 x2, Evolves 34359803906 s (State.pairingSend s x1 x2) := by
  intro s x1 x2
  unfold State.pairingSend
  exact (State.twinSend_evolves ..).mono rfl

theorem execSignalPresent_ends : ∀ x0 s, Ends 34359738368 s (execSignalPresent x0 s) := by
  intro x0 s
  unfold execSignalPresent
  refine .onPort ?_
  refine .ite ?_ ?_
  · refine .next ?_
    exact .refl
  · dsimp only
    refine .next ?_
    exact (State.setPort_evolves ..).mono rfl

theorem State.mgmtRecord_evolves : ∀ s x1 x2, Evolves 549755813892 s (State.mgmtRecord s x1 x2) := by
  intro s x1 x2
  unfold State.mgmtRecord
  dsimp only
  refine .free ?_ rfl
  exact (State.pushRecord_evolves ..).mono rfl

theorem State.endMirrors_evolves : ∀ s, Evolves 137438953984 s (State.endMirrors s) := by
  intro s
  unfold State.endMirrors
  dsimp only
  split
  · refine (State.modPart_evolves ..).app ?_ rfl
    refine .twin ?_ rfl
    exact .refl
  · refine .twin ?_ rfl
    exact .refl

theorem State.seekTwin_evolves : ∀ s, Evolves 171798757382 s (State.seekTwin s) := by
  intro s
  unfold State.seekTwin
  dsimp only
  split
  · exact .refl
  · refine .ite ?_ ?_
    · exact .refl
    · refine (State.pairingSend_evolves ..).app ?_ rfl
      refine .put ?_ rfl
      exact .refl

theorem State.setRing_evolves : ∀ s x1 x2, Evolves 4096 s (State.setRing s x1 x2) := by
  intro s x1 x2
  unfold State.setRing
  refine .rings ?_ rfl
  exact .refl

theorem State.failHead_evolves : ∀ s x1 x2 x3 x4 x5, Evolves 9216 s (State.failHead s x1 x2 x3 x4 x5) := by
  intro s x1 x2 x3 x4 x5
  unfold State.failHead
  refine (State.finish_evolves ..).app ?_ rfl
  exact (State.setQueue_evolves ..).mono rfl

theorem State.settle_evolves : ∀ s x1, Evolves 9216 s (State.settle s x1) := by
  intro s x1
  unfold State.settle
  dsimp only
  split
  · split
    · exact (State.failHead_evolves ..).mono rfl
    · split
      · exact (State.failHead_evolves ..).mono rfl
      · refine .ite ?_ ?_
        · exact (State.failHead_evolves ..).mono rfl
        · exact (State.setQueue_evolves ..).mono rfl
  · exact .refl

theorem State.twinLost_evolves : ∀ s x1, Evolves 687194833410 s (State.twinLost s x1) := by
  intro s x1
  unfold State.twinLost
  refine .ite ?_ ?_
  · exact .refl
  · dsimp only
    split
    · refine (State.raise_evolves ..).app ?_ rfl
      refine .twin ?_ rfl
      exact (State.endMirrors_evolves ..).mono rfl
    · refine .twin ?_ rfl
      exact (State.endMirrors_evolves ..).mono rfl

theorem State.portEvent_evolves : ∀ s x1 x2, Evolves 549755879938 s (State.portEvent s x1 x2) := by
  intro s x1 x2
  unfold State.portEvent
  split
  · exact (State.raise_evolves ..).mono rfl
  · exact .refl

theorem State.portDown_evolves : ∀ s x1 x2, Evolves 721554571778 s (State.portDown s x1 x2) := by
  intro s x1 x2
  unfold State.portDown
  dsimp only
  refine .ite ?_ ?_
  · refine (State.setPort_evolves ..).app ?_ rfl
    refine .ite ?_ ?_
    · refine (State.twinLost_evolves ..).app ?_ rfl
      refine (State.portEvent_evolves ..).app ?_ rfl
      exact (State.setPort_evolves ..).mono rfl
    · refine (State.portEvent_evolves ..).app ?_ rfl
      exact (State.setPort_evolves ..).mono rfl
  · refine .ite ?_ ?_
    · refine (State.twinLost_evolves ..).app ?_ rfl
      refine (State.portEvent_evolves ..).app ?_ rfl
      exact (State.setPort_evolves ..).mono rfl
    · refine (State.portEvent_evolves ..).app ?_ rfl
      exact (State.setPort_evolves ..).mono rfl

theorem State.setGrad_evolves : ∀ s x1 x2, Evolves 4294967296 s (State.setGrad s x1 x2) := by
  intro s x1 x2
  unfold State.setGrad
  refine .grads ?_ rfl
  exact .refl

theorem State.setReg_evolves : ∀ s x1 x2 x3 x4 x5, Evolves 16384 s (State.setReg s x1 x2 x3 x4 x5) := by
  intro s x1 x2 x3 x4 x5
  unfold State.setReg
  refine .regs ?_ rfl
  exact .refl

theorem State.setRegf_evolves : ∀ s x1 x2 x3 x4 x5 x6 x7, Evolves 16384 s (State.setRegf s x1 x2 x3 x4 x5 x6 x7) := by
  intro s x1 x2 x3 x4 x5 x6 x7
  unfold State.setRegf
  exact (State.setReg_evolves ..).mono rfl

theorem State.setTile_evolves : ∀ s x1 x2, Evolves 67108864 s (State.setTile s x1 x2) := by
  intro s x1 x2
  unfold State.setTile
  refine .tiles ?_ rfl
  exact .refl

theorem State.modTile_evolves : ∀ s x1 x2, Evolves 67108864 s (State.modTile s x1 x2) := by
  intro s x1 x2
  unfold State.modTile
  exact (State.setTile_evolves ..).mono rfl

theorem State.setGate_evolves : ∀ s x1 x2, Evolves 536870912 s (State.setGate s x1 x2) := by
  intro s x1 x2
  unfold State.setGate
  refine .gates ?_ rfl
  exact .refl

theorem State.askToll_evolves : ∀ s x1 x2 x3, Evolves 536870912 s (State.askToll s x1 x2 x3) := by
  intro s x1 x2 x3
  unfold State.askToll
  dsimp only
  exact (State.setGate_evolves ..).mono rfl

theorem State.setDeferList_evolves : ∀ s x1 x2, Evolves 29426176 s (State.setDeferList s x1 x2) := by
  intro s x1 x2
  unfold State.setDeferList
  refine (State.modPart_evolves ..).app ?_ rfl
  exact (State.writeMem_evolves ..).mono rfl

theorem State.setRoad_evolves : ∀ s x1 x2, Evolves 1073741824 s (State.setRoad s x1 x2) := by
  intro s x1 x2
  unfold State.setRoad
  refine .roads ?_ rfl
  exact .refl

theorem State.askWake_evolves : ∀ s x1 x2, Evolves 603979776 s (State.askWake s x1 x2) := by
  intro s x1 x2
  unfold State.askWake
  dsimp only
  refine .ite ?_ ?_
  · exact .refl
  · refine (State.modTile_evolves ..).app ?_ rfl
    exact (State.setGate_evolves ..).mono rfl

theorem State.setDigit_evolves : ∀ s x1 x2 x3 x4, Evolves 29425664 s (State.setDigit s x1 x2 x3 x4) := by
  intro s x1 x2 x3 x4
  unfold State.setDigit
  dsimp only
  exact (State.writeMem_evolves ..).mono rfl

theorem State.setRunDigits_evolves : ∀ s x1 x2 x3 x4, Evolves 29425664 s (State.setRunDigits s x1 x2 x3 x4) := by
  intro s x1 x2 x3 x4
  unfold State.setRunDigits
  refine .foldl ?_ fun v a => ?_
  · exact .refl
  · exact (State.setDigit_evolves ..).mono rfl

theorem State.writeAt_evolves : ∀ s x1 x2 x3, Evolves 62980098 s (State.writeAt s x1 x2 x3) := by
  intro s fn pl bs
  unfold State.writeAt
  split
  · exact (State.writeMem_evolves ..).mono rfl
  · exact .slab .refl rfl fun h => memWrite_wf bs _ h
  · exact (State.emit_evolves ..).mono rfl

theorem State.writeAll_evolves : ∀ s x1 x2 x3, Evolves 62980098 s (State.writeAll s x1 x2 x3) := by
  intro s x1 x2 x3
  unfold State.writeAll
  refine .foldl ?_ fun v a => ?_
  · exact .refl
  · exact (State.writeAt_evolves ..).mono rfl

theorem State.setStack_evolves : ∀ s x1 x2, Evolves 8589934592 s (State.setStack s x1 x2) := by
  intro s x1 x2
  unfold State.setStack
  refine .hbm ?_ rfl
  exact .refl

theorem State.useFree_evolves : ∀ s, Evolves 4 s (State.useFree s) := by
  intro s
  unfold State.useFree
  refine .free ?_ rfl
  exact .refl

theorem State.announce_evolves : ∀ s x1 x2, Evolves 2 s (State.announce s x1 x2) := by
  intro s x1 x2
  unfold State.announce
  refine .ite ?_ ?_
  · exact (State.emit_evolves ..).mono rfl
  · exact .refl

theorem State.heartbeatSend_evolves : ∀ s x1, Evolves 34359803906 s (State.heartbeatSend s x1) := by
  intro s x1
  unfold State.heartbeatSend
  exact (State.twinSend_evolves ..).mono rfl

theorem State.setEntry_evolves : ∀ s x1 x2 x3, Evolves 29425664 s (State.setEntry s x1 x2 x3) := by
  intro s x1 x2 x3
  unfold State.setEntry
  exact (State.writeMem_evolves ..).mono rfl

theorem State.raiseAll_evolves : ∀ s x1 x2 x3, Evolves 549755879938 s (State.raiseAll s x1 x2 x3) := by
  intro s x1 x2 x3
  unfold State.raiseAll
  dsimp only
  refine .foldl ?_ fun v a => ?_
  · exact .refl
  · exact (State.raise_evolves ..).mono rfl

theorem State.settleAll_evolves : ∀ s x1, Evolves 9216 s (State.settleAll s x1) := by
  intro s x1
  unfold State.settleAll
  refine .foldl ?_ fun v a => ?_
  · exact .refl
  · exact (State.settle_evolves ..).mono rfl

theorem State.returnAbort_evolves : ∀ s x1 x2, Evolves 34359804422 s (State.returnAbort s x1 x2) := by
  intro s x1 x2
  unfold State.returnAbort
  refine .ite ?_ ?_
  · dsimp only
    refine (State.sendPacket_evolves ..).app ?_ rfl
    refine (State.useFree_evolves ..).app ?_ rfl
    exact (State.useFree_evolves ..).mono rfl
  · exact .refl

theorem State.routePacket_evolves : ∀ s x1 x2 x3 x4, Evolves 34359804422 s (State.routePacket s x1 x2 x3 x4) := by
  intro s x1 x2 x3 x4
  unfold State.routePacket
  refine .ite ?_ ?_
  · exact (State.dropDomain_evolves ..).mono rfl
  · split
    · exact (State.dropRoute_evolves ..).mono rfl
    · refine .ite ?_ ?_
      · refine .ite ?_ ?_
        · exact (State.dropRoute_evolves ..).mono rfl
        · exact .refl
      · split
        · exact (State.deliverPacket_evolves ..).mono rfl
        · exact (State.dropRoute_evolves ..).mono rfl
        · refine (State.returnAbort_evolves ..).app ?_ rfl
          exact (State.dropRoute_evolves ..).mono rfl
        · exact (State.sendOn_evolves ..).mono rfl

theorem execPacketReceive_ends : ∀ x0 s, Ends 34359804422 s (execPacketReceive x0 s) := by
  intro x0 s
  unfold execPacketReceive
  refine .onPort ?_
  dsimp only
  split
  · refine .next ?_
    exact .refl
  · split
    · refine .next ?_
      refine (State.dropRoute_evolves ..).app ?_ rfl
      exact (State.setPort_evolves ..).mono rfl
    · refine .ite ?_ ?_
      · refine .next ?_
        refine (State.routePacket_evolves ..).app ?_ rfl
        exact (State.setPort_evolves ..).mono rfl
      · refine .next ?_
        refine (State.dropRoute_evolves ..).app ?_ rfl
        exact (State.setPort_evolves ..).mono rfl

theorem execLinkSignalLoss_ends : ∀ x0 s, Ends 721554571778 s (execLinkSignalLoss x0 s) := by
  intro x0 s
  unfold execLinkSignalLoss
  refine .onPort ?_
  dsimp only
  refine .ite ?_ ?_
  · refine .next ?_
    exact (State.setPort_evolves ..).mono rfl
  · refine .next ?_
    exact (State.portDown_evolves ..).mono rfl

theorem execTrainTimeout_ends : ∀ x0 s, Ends 721554571778 s (execTrainTimeout x0 s) := by
  intro x0 s
  unfold execTrainTimeout
  refine .onPort ?_
  dsimp only
  refine .ite ?_ ?_
  · refine .next ?_
    exact (State.portDown_evolves ..).mono rfl
  · refine .next ?_
    exact .refl

theorem State.trained_evolves : ∀ s x1 x2 x3, Evolves 34359738368 s (State.trained s x1 x2 x3) := by
  intro s x1 x2 x3
  unfold State.trained
  dsimp only
  exact (State.setPort_evolves ..).mono rfl

theorem State.resend_evolves : ∀ s x1, Evolves 2 s (State.resend s x1) := by
  intro s x1
  unfold State.resend
  dsimp only
  refine .ite ?_ ?_
  · refine .foldl ?_ fun v a => ?_
    · exact .refl
    · exact (State.emit_evolves ..).mono rfl
  · exact .refl

theorem execTrainComplete_ends : ∀ x0 x1 s, Ends 721554571782 s (execTrainComplete x0 x1 s) := by
  intro x0 x1 s
  unfold execTrainComplete
  refine .onPort ?_
  dsimp only
  refine .ite ?_ ?_
  · refine .next ?_
    exact .refl
  · refine .ite ?_ ?_
    · refine .next ?_
      refine .ite ?_ ?_
      · refine (State.seekTwin_evolves ..).app ?_ rfl
        refine (State.pumpPort_evolves ..).app ?_ rfl
        refine (State.resend_evolves ..).app ?_ rfl
        exact (State.trained_evolves ..).mono rfl
      · refine (State.pumpPort_evolves ..).app ?_ rfl
        refine (State.resend_evolves ..).app ?_ rfl
        exact (State.trained_evolves ..).mono rfl
    · refine .ite ?_ ?_
      · refine .next ?_
        refine .ite ?_ ?_
        · refine (State.seekTwin_evolves ..).app ?_ rfl
          refine (State.pumpPort_evolves ..).app ?_ rfl
          refine (State.resend_evolves ..).app ?_ rfl
          refine (State.portEvent_evolves ..).app ?_ rfl
          exact (State.trained_evolves ..).mono rfl
        · refine (State.pumpPort_evolves ..).app ?_ rfl
          refine (State.resend_evolves ..).app ?_ rfl
          refine (State.portEvent_evolves ..).app ?_ rfl
          exact (State.trained_evolves ..).mono rfl
      · refine .next ?_
        exact .refl

theorem State.portRetrain_evolves : ∀ s x1, Evolves 34359803904 s (State.portRetrain s x1) := by
  intro s x1
  unfold State.portRetrain
  dsimp only
  refine (State.countPort_evolves ..).app ?_ rfl
  exact (State.setPort_evolves ..).mono rfl

theorem State.replayPort_evolves : ∀ s x1, Evolves 34359803906 s (State.replayPort s x1) := by
  intro s x1
  unfold State.replayPort
  dsimp only
  refine .ite ?_ ?_
  · exact .refl
  · refine .ite ?_ ?_
    · exact (State.portRetrain_evolves ..).mono rfl
    · refine (State.resend_evolves ..).app ?_ rfl
      refine (State.countPort_evolves ..).app ?_ rfl
      exact (State.setPort_evolves ..).mono rfl

theorem execReplayTimeout_ends : ∀ x0 s, Ends 34359803906 s (execReplayTimeout x0 s) := by
  intro x0 s
  unfold execReplayTimeout
  refine .onPort ?_
  refine .next ?_
  exact (State.replayPort_evolves ..).mono rfl

theorem execReplayRequest_ends : ∀ x0 x1 s, Ends 34359803906 s (execReplayRequest x0 x1 s) := by
  intro x0 x1 s
  unfold execReplayRequest
  refine .onPort ?_
  refine .ite ?_ ?_
  · refine .next ?_
    exact .refl
  · refine .next ?_
    refine (State.pumpPort_evolves ..).app ?_ rfl
    refine (State.replayPort_evolves ..).app ?_ rfl
    exact (State.setPort_evolves ..).mono rfl

theorem State.askReplay_evolves : ∀ s x1, Evolves 34359738370 s (State.askReplay s x1) := by
  intro s x1
  unfold State.askReplay
  dsimp only
  refine .ite ?_ ?_
  · exact .refl
  · refine (State.emit_evolves ..).app ?_ rfl
    exact (State.setPort_evolves ..).mono rfl

theorem State.goodFlit_evolves : ∀ s x1 x2, Evolves 721554571778 s (State.goodFlit s x1 x2) := by
  intro s x1 x2
  unfold State.goodFlit
  dsimp only
  refine .ite ?_ ?_
  · exact .refl
  · refine .ite ?_ ?_
    · refine .ite ?_ ?_
      · refine (State.setPort_evolves ..).app ?_ rfl
        refine .ite ?_ ?_
        · refine (State.twinLost_evolves ..).app ?_ rfl
          exact (State.setPort_evolves ..).mono rfl
        · exact (State.setPort_evolves ..).mono rfl
      · refine (State.askReplay_evolves ..).app ?_ rfl
        refine .ite ?_ ?_
        · refine (State.twinLost_evolves ..).app ?_ rfl
          exact (State.setPort_evolves ..).mono rfl
        · exact (State.setPort_evolves ..).mono rfl
    · refine .ite ?_ ?_
      · refine (State.replayPort_evolves ..).app ?_ rfl
        refine .ite ?_ ?_
        · refine (State.twinLost_evolves ..).app ?_ rfl
          exact (State.setPort_evolves ..).mono rfl
        · exact (State.setPort_evolves ..).mono rfl
      · refine .ite ?_ ?_
        · refine (State.twinLost_evolves ..).app ?_ rfl
          exact (State.setPort_evolves ..).mono rfl
        · exact (State.setPort_evolves ..).mono rfl

theorem execLinkFlitReceive_ends : ∀ x0 x1 x2 s, Ends 721554571778 s (execLinkFlitReceive x0 x1 x2 s) := by
  intro x0 x1 x2 s
  unfold execLinkFlitReceive
  refine .onPort ?_
  refine .ite ?_ ?_
  · refine .next ?_
    exact .refl
  · split
    · refine .next ?_
      refine (State.askReplay_evolves ..).app ?_ rfl
      exact (State.count_evolves ..).mono rfl
    · refine .ite ?_ ?_
      · refine .next ?_
        refine (State.pumpPort_evolves ..).app ?_ rfl
        exact (State.goodFlit_evolves ..).mono rfl
      · refine .next ?_
        exact (State.askReplay_evolves ..).mono rfl

theorem State.modTiles_evolves : ∀ s x1 x2, Evolves 201326592 s (State.modTiles s x1 x2) := by
  intro s x1 x2
  unfold State.modTiles
  refine .put ?_ rfl
  exact .refl

theorem State.flushLost_evolves : ∀ s, Evolves 549755813892 s (State.flushLost s) := by
  intro s
  unfold State.flushLost
  refine .ite ?_ ?_
  · exact .refl
  · dsimp only
    refine .mgmt ?_ rfl
    exact (State.mgmtRecord_evolves ..).mono rfl

theorem State.powerDown_evolves : ∀ s, Evolves 824361877056 s (State.powerDown s) := by
  intro s
  unfold State.powerDown
  exact .put (.slab (x := []) (.mem (x := s.mem.filter _) .refl rfl fun h => filter_wf _ h) rfl fun _ => rfl) rfl

theorem State.abandonMilestones_evolves : ∀ s x1, Evolves 9216 s (State.abandonMilestones s x1) := by
  intro s x1
  unfold State.abandonMilestones
  refine .foldl ?_ fun v a => ?_
  · exact .refl
  · refine .ite ?_ ?_
    · exact (State.finish_evolves ..).mono rfl
    · exact .refl

theorem State.abandonColls_evolves : ∀ s x1 x2, Evolves 34389173766 s (State.abandonColls s x1 x2) := by
  intro s x1 x2
  unfold State.abandonColls
  refine .foldl ?_ fun v a => ?_
  · exact .refl
  · refine (State.finish_evolves ..).app ?_ rfl
    refine (State.dropColl_evolves ..).app ?_ rfl
    refine (State.openColl_evolves ..).app ?_ rfl
    exact (State.sendAbort_evolves ..).mono rfl

theorem State.applyStaged_evolves : ∀ s x1 x2, Evolves 835584 s (State.applyStaged s x1 x2) := by
  intro s x1 x2
  unfold State.applyStaged
  dsimp only
  refine .put ?_ rfl
  exact .refl

theorem State.abandon_evolves : ∀ s x1 x2, Evolves 34390009350 s (State.abandon s x1 x2) := by
  intro s x1 x2
  unfold State.abandon
  dsimp only
  refine (State.abandonColls_evolves ..).app ?_ rfl
  refine (State.abandonMilestones_evolves ..).app ?_ rfl
  refine (State.modQueues_evolves ..).app ?_ rfl
  refine (State.applyStaged_evolves ..).app ?_ rfl
  exact (State.modPart_evolves ..).mono rfl

theorem State.abandonFree_evolves : ∀ s x1, Evolves 584145823238 s (State.abandonFree s x1) := by
  intro s x1
  unfold State.abandonFree
  dsimp only
  refine (State.useFree_evolves ..).app ?_ rfl
  refine (State.useFree_evolves ..).app ?_ rfl
  refine (State.abandon_evolves ..).app ?_ rfl
  exact (State.raise_evolves ..).mono rfl

theorem State.dropStaged_evolves : ∀ s x1, Evolves 557056 s (State.dropStaged s x1) := by
  intro s x1
  unfold State.dropStaged
  refine .put ?_ rfl
  exact .refl

theorem execInputFault_ends : ∀ x0 x1 s, Ends 824361877092 s (execInputFault x0 x1 s) := by
  intro x0 x1 s
  unfold execInputFault
  refine .ite ?_ ?_
  · refine .next ?_
    exact .refl
  · dsimp only
    refine .next ?_
    refine .input ?_ rfl
    refine .ite ?_ ?_
    · refine (State.powerDown_evolves ..).app ?_ rfl
      exact (State.mgmtRecord_evolves ..).mono rfl
    · exact (State.mgmtRecord_evolves ..).mono rfl

theorem execClockFault_ends : ∀ x0 x1 x2 x3 s, Ends 824361877060 s (execClockFault x0 x1 x2 x3 s) := by
  intro x0 x1 x2 x3 s
  unfold execClockFault
  refine .onDie ?_
  dsimp only
  refine .ite ?_ ?_
  · refine .next ?_
    exact .refl
  · refine .next ?_
    refine .mgmt ?_ rfl
    refine .ite ?_ ?_
    · refine .mgmt ?_ rfl
      refine (State.powerDown_evolves ..).app ?_ rfl
      exact (State.mgmtRecord_evolves ..).mono rfl
    · exact (State.mgmtRecord_evolves ..).mono rfl

theorem State.setDie_evolves : ∀ s x1 x2 x3, Evolves 2147483648 s (State.setDie s x1 x2 x3) := by
  intro s x1 x2 x3
  unfold State.setDie
  refine .dies ?_ rfl
  exact .refl

theorem State.throttleEvent_evolves : ∀ s x1 x2 x3, Evolves 549755879938 s (State.throttleEvent s x1 x2 x3) := by
  intro s x1 x2 x3
  unfold State.throttleEvent
  exact (State.raiseAll_evolves ..).mono rfl

theorem State.dieSample_evolves : ∀ s x1 x2 x3, Evolves 551903363586 s (State.dieSample s x1 x2 x3) := by
  intro s x1 x2 x3
  unfold State.dieSample
  dsimp only
  refine .ite ?_ ?_
  · refine (State.throttleEvent_evolves ..).app ?_ rfl
    exact (State.setDie_evolves ..).mono rfl
  · refine .ite ?_ ?_
    · refine (State.throttleEvent_evolves ..).app ?_ rfl
      exact (State.setDie_evolves ..).mono rfl
    · refine .ite ?_ ?_
      · refine (State.throttleEvent_evolves ..).app ?_ rfl
        exact (State.setDie_evolves ..).mono rfl
      · exact (State.setDie_evolves ..).mono rfl

theorem State.tripRecord_evolves : ∀ s x1 x2 x3 x4, Evolves 549755813892 s (State.tripRecord s x1 x2 x3 x4) := by
  intro s x1 x2 x3 x4
  unfold State.tripRecord
  exact (State.mgmtRecord_evolves ..).mono rfl

theorem State.trip_evolves : ∀ s x1 x2 x3 x4, Evolves 824361877060 s (State.trip s x1 x2 x3 x4) := by
  intro s x1 x2 x3 x4
  unfold State.trip
  dsimp only
  refine .mgmt ?_ rfl
  refine (State.powerDown_evolves ..).app ?_ rfl
  exact (State.tripRecord_evolves ..).mono rfl

theorem State.tripAfterClock_evolves : ∀ s x1 x2 x3 x4, Evolves 549755813892 s (State.tripAfterClock s x1 x2 x3 x4) := by
  intro s x1 x2 x3 x4
  unfold State.tripAfterClock
  dsimp only
  split
  · exact .refl
  · refine .ite ?_ ?_
    · refine .mgmt ?_ rfl
      exact (State.tripRecord_evolves ..).mono rfl
    · exact .refl

theorem execDieTempSample_ends : ∀ x0 x1 x2 s, Ends 824361877062 s (execDieTempSample x0 x1 x2 s) := by
  intro x0 x1 x2 s
  unfold execDieTempSample
  refine .onDie ?_
  dsimp only
  split
  · refine .next ?_
    exact .refl
  · refine .ite ?_ ?_
    · refine .next ?_
      exact (State.tripAfterClock_evolves ..).mono rfl
    · refine .ite ?_ ?_
      · refine .next ?_
        exact (State.trip_evolves ..).mono rfl
      · refine .next ?_
        exact (State.dieSample_evolves ..).mono rfl

theorem State.emptyBuckets_evolves : ∀ s, Evolves 536870912 s (State.emptyBuckets s) := by
  intro s
  unfold State.emptyBuckets
  refine .gates ?_ rfl
  exact .refl

theorem execPowerBrakeRelease_ends : ∀ s, Ends 550292750978 s (execPowerBrakeRelease s) := by
  intro s
  unfold execPowerBrakeRelease
  refine .ite ?_ ?_
  · refine .next ?_
    refine (State.raiseAll_evolves ..).app ?_ rfl
    dsimp only
    refine .brake ?_ rfl
    exact (State.emptyBuckets_evolves ..).mono rfl
  · refine .next ?_
    exact .refl

theorem execPowerBrakeAssert_ends : ∀ s, Ends 550292750978 s (execPowerBrakeAssert s) := by
  intro s
  unfold execPowerBrakeAssert
  refine .ite ?_ ?_
  · refine .next ?_
    exact .refl
  · refine .next ?_
    refine (State.raiseAll_evolves ..).app ?_ rfl
    dsimp only
    refine .brake ?_ rfl
    exact (State.emptyBuckets_evolves ..).mono rfl

theorem execRailMeasure_ends : ∀ x0 x1 x2 s, Ends 10737418756 s (execRailMeasure x0 x1 x2 s) := by
  intro x0 x1 x2 s
  unfold execRailMeasure
  refine .onQuad ?_
  dsimp only
  refine .ite ?_ ?_
  · refine .next ?_
    exact .refl
  · refine .next ?_
    refine (State.modPart_evolves ..).app ?_ rfl
    refine .foldl ?_ fun v a => ?_
    · refine .foldl ?_ fun v a => ?_
      · refine .foldl ?_ fun v a => ?_
        · refine .ite ?_ ?_
          · exact (State.useFree_evolves ..).mono rfl
          · exact .refl
        · exact (State.setDie_evolves ..).mono rfl
      · exact (State.setDie_evolves ..).mono rfl
    · exact (State.setStack_evolves ..).mono rfl

theorem execDebtCheck_ends : ∀ x0 x1 s, Ends 536936448 s (execDebtCheck x0 x1 s) := by
  intro x0 x1 s
  unfold execDebtCheck
  refine .onDie ?_
  dsimp only
  refine .next ?_
  refine .ite ?_ ?_
  · exact (State.setGate_evolves ..).mono rfl
  · refine (State.count_evolves ..).app ?_ rfl
    exact (State.setGate_evolves ..).mono rfl

theorem execTollAdmit_ends : ∀ x0 s, Ends 604045312 s (execTollAdmit x0 s) := by
  intro x0 s
  unfold execTollAdmit
  refine .onDie ?_
  dsimp only
  split
  · refine .next ?_
    refine (State.modTile_evolves ..).app ?_ rfl
    exact (State.setGate_evolves ..).mono rfl
  · refine .next ?_
    refine (State.count_evolves ..).app ?_ rfl
    exact (State.setGate_evolves ..).mono rfl

theorem execWakeAdmit_ends : ∀ x0 s, Ends 604045312 s (execWakeAdmit x0 s) := by
  intro x0 s
  unfold execWakeAdmit
  refine .onDie ?_
  dsimp only
  split
  · refine .next ?_
    exact (State.setGate_evolves ..).mono rfl
  · refine .ite ?_ ?_
    · refine .next ?_
      refine (State.modTile_evolves ..).app ?_ rfl
      exact (State.setGate_evolves ..).mono rfl
    · refine .next ?_
      refine (State.count_evolves ..).app ?_ rfl
      exact (State.setGate_evolves ..).mono rfl

theorem State.asBegan_evolves : ∀ s x1, Evolves 278528 s (State.asBegan s x1) := by
  intro s x1
  unfold State.asBegan
  split
  · refine .ite ?_ ?_
    · refine .put ?_ rfl
      exact .refl
    · exact .refl
  · exact .refl

theorem State.clearSide_evolves : ∀ s x1, Evolves 4294967296 s (State.clearSide s x1) := by
  intro s x1
  unfold State.clearSide
  refine .foldl ?_ fun v a => ?_
  · exact .refl
  · exact (State.setGrad_evolves ..).mono rfl

theorem State.clearStash_evolves : ∀ s x1, Evolves 4324327936 s (State.clearStash s x1) := by
  intro s x1
  unfold State.clearStash
  dsimp only
  refine (State.modPart_evolves ..).app ?_ rfl
  refine (State.clearSide_evolves ..).app ?_ rfl
  refine .ite ?_ ?_
  · exact (State.zeroMem_evolves ..).mono rfl
  · exact .refl

theorem State.fail_evolves : ∀ s x1 x2 x3, Evolves 74752 s (State.fail s x1 x2 x3) := by
  intro s x1 x2 x3
  unfold State.fail
  refine (State.finish_evolves ..).app ?_ rfl
  exact (State.countBad_evolves ..).mono rfl

theorem State.freeSlot_evolves : ∀ s x1 x2, Evolves 29426176 s (State.freeSlot s x1 x2) := by
  intro s x1 x2
  unfold State.freeSlot
  dsimp only
  refine .ite ?_ ?_
  · refine (State.modPart_evolves ..).app ?_ rfl
    exact (State.setEntry_evolves ..).mono rfl
  · exact .refl

theorem State.noteSlot_evolves : ∀ s x1 x2 x3 x4 x5, Evolves 512 s (State.noteSlot s x1 x2 x3 x4 x5) := by
  intro s x1 x2 x3 x4 x5
  unfold State.noteSlot
  exact (State.modPart_evolves ..).mono rfl

theorem State.dropSlot_evolves : ∀ s x1 x2 x3 x4, Evolves 549785240066 s (State.dropSlot s x1 x2 x3 x4) := by
  intro s x1 x2 x3 x4
  unfold State.dropSlot
  dsimp only
  refine .ite ?_ ?_
  · refine (State.modPart_evolves ..).app ?_ rfl
    refine (State.count_evolves ..).app ?_ rfl
    exact (State.setEntry_evolves ..).mono rfl
  · refine (State.raise_evolves ..).app ?_ rfl
    refine (State.modPart_evolves ..).app ?_ rfl
    refine (State.count_evolves ..).app ?_ rfl
    exact (State.setEntry_evolves ..).mono rfl

theorem State.allocSlot_evolves {s t : State} {p slot len phase st : Nat} {ckpt : Bool} {a : Option Nat}
    (h : s.allocSlot p slot len phase ckpt = .placed t st a) : Evolves 549785240066 s t := by
  unfold State.allocSlot at h
  repeat' first | split at h | (dsimp only at h; split at h)
  all_goals first | contradiction | skip
  all_goals injection h with e; subst e
  all_goals first
    | exact (State.dropSlot_evolves ..).mono rfl
    | exact (State.modPart_evolves ..).app ((State.setEntry_evolves ..).mono rfl) rfl
    | exact (State.count_evolves ..).app ((State.modPart_evolves ..).app ((State.setEntry_evolves ..).mono rfl) rfl) rfl

theorem execHoldRelease_ends : ∀ x0 s, Ends 9728 s (execHoldRelease x0 s) := by
  intro x0 s
  unfold execHoldRelease
  unfold onRunning
  refine .onQueue ?_
  dsimp only
  split
  · refine .next ?_
    exact .refl
  · refine .next ?_
    refine (State.finish_evolves ..).app ?_ rfl
    exact (State.modPart_evolves ..).mono rfl

theorem execCopy_ends : ∀ x0 x1 x2 s, Ends 62989314 s (execCopy x0 x1 x2 s) := by
  intro x0 x1 x2 s
  unfold execCopy
  unfold onRunning
  refine .onQueue ?_
  dsimp only
  split
  · refine .next ?_
    exact .refl
  · refine .next ?_
    split
    · exact (State.finish_evolves ..).mono rfl
    · split
      · unfold State.access
        dsimp only
        split
        · exact (State.fail_evolves ..).mono rfl
        · split
          · refine (State.finish_evolves ..).app ?_ rfl
            exact (State.countReads_evolves ..).mono rfl
          · refine .ite ?_ ?_
            · refine (State.finish_evolves ..).app ?_ rfl
              exact (State.countReads_evolves ..).mono rfl
            · refine (State.finish_evolves ..).app ?_ rfl
              refine (State.writeAt_evolves ..).app ?_ rfl
              exact (State.countReads_evolves ..).mono rfl
      · exact (State.finish_evolves ..).mono rfl

theorem execWaypostSet_ends : ∀ x0 x1 s, Ends 62989314 s (execWaypostSet x0 x1 s) := by
  intro x0 x1 s
  unfold execWaypostSet
  unfold onRunning
  refine .onQueue ?_
  dsimp only
  split
  · refine .next ?_
    exact .refl
  · refine .next ?_
    split
    · exact (State.finish_evolves ..).mono rfl
    · split
      · refine (State.finish_evolves ..).app ?_ rfl
        exact (State.waypostWrite_evolves ..).mono rfl
      · split
        · exact (State.finish_evolves ..).mono rfl
        · split
          · refine (State.finish_evolves ..).app ?_ rfl
            exact (State.waypostWrite_evolves ..).mono rfl
          · refine (State.finish_evolves ..).app ?_ rfl
            refine (State.writeAt_evolves ..).app ?_ rfl
            exact (State.waypostWrite_evolves ..).mono rfl

theorem execNop_ends : ∀ x0 s, Ends 9216 s (execNop x0 s) := by
  intro x0 s
  unfold execNop
  unfold onRunning
  refine .onQueue ?_
  dsimp only
  split
  · refine .next ?_
    exact .refl
  · refine .next ?_
    exact (State.finish_evolves ..).mono rfl

theorem State.eqRefused_evolves : ∀ s x1, Evolves 514 s (State.eqRefused s x1) := by
  intro s x1
  unfold State.eqRefused
  refine .ite ?_ ?_
  · refine (State.emit_evolves ..).app ?_ rfl
    exact (State.modPart_evolves ..).mono rfl
  · exact .refl

theorem execEqOverflow_ends : ∀ x0 s, Ends 514 s (execEqOverflow x0 s) := by
  intro x0 s
  unfold execEqOverflow
  refine .onQuad ?_
  refine .next ?_
  refine .ite ?_ ?_
  · exact (State.eqFlush_evolves ..).mono rfl
  · exact (State.eqRefused_evolves ..).mono rfl

theorem State.writeCompletion_evolves : ∀ s x1 x2 x3 x4 x5, Evolves 4098 s (State.writeCompletion s x1 x2 x3 x4 x5) := by
  intro s x1 x2 x3 x4 x5
  unfold State.writeCompletion
  dsimp only
  refine .ite ?_ ?_
  · refine (State.emit_evolves ..).app ?_ rfl
    refine (State.emit_evolves ..).app ?_ rfl
    exact (State.setRing_evolves ..).mono rfl
  · refine (State.emit_evolves ..).app ?_ rfl
    exact (State.setRing_evolves ..).mono rfl

theorem State.queueError_evolves : ∀ s x1 x2 x3 x4, Evolves 549755879938 s (State.queueError s x1 x2 x3 x4) := by
  intro s x1 x2 x3 x4
  unfold State.queueError
  exact (State.raise_evolves ..).mono rfl

theorem State.stopQueue_evolves : ∀ s x1 x2, Evolves 549755880962 s (State.stopQueue s x1 x2) := by
  intro s x1 x2
  unfold State.stopQueue
  refine .ite ?_ ?_
  · exact .refl
  · refine (State.queueError_evolves ..).app ?_ rfl
    exact (State.setQueue_evolves ..).mono rfl

theorem State.abandonBy_evolves : ∀ s x1 x2 x3 x4, Evolves 584145823238 s (State.abandonBy s x1 x2 x3 x4) := by
  intro s x1 x2 x3 x4
  unfold State.abandonBy
  dsimp only
  refine (State.abandon_evolves ..).app ?_ rfl
  exact (State.raise_evolves ..).mono rfl

theorem State.retireDesc_evolves : ∀ s x1 x2 x3 x4, Evolves 584145823238 s (State.retireDesc s x1 x2 x3 x4) := by
  intro s x1 x2 x3 x4
  unfold State.retireDesc
  dsimp only
  refine .ite ?_ ?_
  · refine (State.settleAll_evolves ..).app ?_ rfl
    refine (State.abandonBy_evolves ..).app ?_ rfl
    exact (State.setQueue_evolves ..).mono rfl
  · refine (State.settleAll_evolves ..).app ?_ rfl
    exact (State.setQueue_evolves ..).mono rfl

theorem execCompletionPost_ends : ∀ x0 x1 s, Ends 584145827334 s (execCompletionPost x0 x1 s) := by
  intro x0 x1 s
  unfold execCompletionPost
  refine .onQueue ?_
  dsimp only
  split
  · refine .next ?_
    exact .refl
  · split
    · refine .next ?_
      exact .refl
    · refine .ite ?_ ?_
      · refine .next ?_
        exact (State.retireDesc_evolves ..).mono rfl
      · refine .ite ?_ ?_
        · refine .next ?_
          exact .refl
        · refine .ite ?_ ?_
          · refine .next ?_
            refine (State.retireDesc_evolves ..).app ?_ rfl
            exact (State.stopQueue_evolves ..).mono rfl
          · refine .ite ?_ ?_
            · refine .next ?_
              exact .refl
            · refine .ite ?_ ?_
              · refine .next ?_
                refine (State.retireDesc_evolves ..).app ?_ rfl
                refine (State.queueError_evolves ..).app ?_ rfl
                exact (State.setRing_evolves ..).mono rfl
              · refine .next ?_
                refine (State.retireDesc_evolves ..).app ?_ rfl
                exact (State.writeCompletion_evolves ..).mono rfl

theorem execBudgetHandover_ends : ∀ x0 s, Ends 512 s (execBudgetHandover x0 s) := by
  intro x0 s
  unfold execBudgetHandover
  refine .onQuad ?_
  split
  · refine .next ?_
    exact (State.modPart_evolves ..).mono rfl
  · refine .next ?_
    exact .refl

theorem State.countAccess_evolves : ∀ s x1, Evolves 65536 s (State.countAccess s x1) := by
  intro s x1
  unfold State.countAccess
  split
  · exact (State.countBad_evolves ..).mono rfl
  · exact (State.countReads_evolves ..).mono rfl

theorem State.countArgs_evolves : ∀ s x1 x2, Evolves 65536 s (State.countArgs s x1 x2) := by
  intro s x1 x2
  unfold State.countArgs
  dsimp only
  split
  · exact (State.countAccess_evolves ..).mono rfl
  · exact .refl

theorem State.enterBackward_evolves : ∀ s x1, Evolves 201326592 s (State.enterBackward s x1) := by
  intro s x1
  unfold State.enterBackward
  refine .foldl ?_ fun v a => ?_
  · exact .refl
  · exact (State.modTiles_evolves ..).mono rfl

theorem State.beginDesc_evolves : ∀ s x1 x2 x3 x4 x5, Evolves 4525665792 s (State.beginDesc s x1 x2 x3 x4 x5) := by
  intro s x1 x2 x3 x4 x5
  unfold State.beginDesc
  dsimp only
  split
  · refine (State.setQueue_evolves ..).app ?_ rfl
    refine .turns ?_ rfl
    refine .ite ?_ ?_
    · refine (State.enterBackward_evolves ..).app ?_ rfl
      refine (State.modPart_evolves ..).app ?_ rfl
      refine .ite ?_ ?_
      · exact (State.clearStash_evolves ..).mono rfl
      · exact .refl
    · refine (State.modPart_evolves ..).app ?_ rfl
      refine .ite ?_ ?_
      · exact (State.clearStash_evolves ..).mono rfl
      · exact .refl
  · refine (State.finish_evolves ..).app ?_ rfl
    refine (State.setQueue_evolves ..).app ?_ rfl
    refine .turns ?_ rfl
    refine .ite ?_ ?_
    · refine (State.enterBackward_evolves ..).app ?_ rfl
      refine (State.modPart_evolves ..).app ?_ rfl
      refine .ite ?_ ?_
      · exact (State.clearStash_evolves ..).mono rfl
      · exact .refl
    · refine (State.modPart_evolves ..).app ?_ rfl
      refine .ite ?_ ?_
      · exact (State.clearStash_evolves ..).mono rfl
      · exact .refl

theorem execDescriptorBegin_ends : ∀ x0 x1 s, Ends 554281545218 s (execDescriptorBegin x0 x1 s) := by
  intro x0 x1 s
  unfold execDescriptorBegin
  refine .onQueue ?_
  dsimp only
  refine .ite ?_ ?_
  · refine .next ?_
    exact .refl
  · split
    · refine .ite ?_ ?_
      · refine .next ?_
        exact (State.settle_evolves ..).mono rfl
      · refine .ite ?_ ?_
        · refine .next ?_
          refine (State.stopQueue_evolves ..).app ?_ rfl
          exact (State.settle_evolves ..).mono rfl
        · refine .ite ?_ ?_
          · refine .next ?_
            exact (State.settle_evolves ..).mono rfl
          · refine .next ?_
            refine (State.settleAll_evolves ..).app ?_ rfl
            refine (State.beginDesc_evolves ..).app ?_ rfl
            refine (State.countArgs_evolves ..).app ?_ rfl
            exact (State.settle_evolves ..).mono rfl
    · refine .next ?_
      exact (State.settle_evolves ..).mono rfl

theorem State.fetchFailed_evolves : ∀ s x1 x2, Evolves 584145823238 s (State.fetchFailed s x1 x2) := by
  intro s x1 x2
  unfold State.fetchFailed
  dsimp only
  refine .ite ?_ ?_
  · refine (State.settleAll_evolves ..).app ?_ rfl
    refine (State.abandonFree_evolves ..).app ?_ rfl
    exact (State.stopQueue_evolves ..).mono rfl
  · exact (State.stopQueue_evolves ..).mono rfl

theorem execDescriptorFetch_ends : ∀ x0 x1 s, Ends 584145823238 s (execDescriptorFetch x0 x1 s) := by
  intro x0 x1 s
  unfold execDescriptorFetch
  refine .onQueue ?_
  dsimp only
  refine .ite ?_ ?_
  · refine .next ?_
    exact .refl
  · split
    · refine .ite ?_ ?_
      · refine .next ?_
        refine (State.settle_evolves ..).app ?_ rfl
        exact (State.setQueue_evolves ..).mono rfl
      · refine .next ?_
        exact (State.fetchFailed_evolves ..).mono rfl
    · refine .next ?_
      exact (State.fetchFailed_evolves ..).mono rfl
    · refine .next ?_
      exact (State.fetchFailed_evolves ..).mono rfl

theorem State.ringDoorbell_evolves : ∀ s x1 x2 x3, Evolves 549755885058 s (State.ringDoorbell s x1 x2 x3) := by
  intro s x1 x2 x3
  unfold State.ringDoorbell
  dsimp only
  refine .ite ?_ ?_
  · exact (State.stopQueue_evolves ..).mono rfl
  · refine .ite ?_ ?_
    · refine (State.setRing_evolves ..).app ?_ rfl
      refine .ite ?_ ?_
      · exact (State.setQueue_evolves ..).mono rfl
      · exact .refl
    · refine .ite ?_ ?_
      · refine (State.modPart_evolves ..).app ?_ rfl
        refine .ite ?_ ?_
        · exact (State.setQueue_evolves ..).mono rfl
        · exact .refl
      · refine .ite ?_ ?_
        · exact (State.setQueue_evolves ..).mono rfl
        · exact .refl

theorem execDoorbell_ends : ∀ x0 x1 x2 x3 s, Ends 549755885058 s (execDoorbell x0 x1 x2 x3 s) := by
  intro x0 x1 x2 x3 s
  unfold execDoorbell
  refine .onFunction ?_
  dsimp only
  refine .ite ?_ ?_
  · refine .next ?_
    exact .refl
  · refine .ite ?_ ?_
    · refine .next ?_
      exact (State.count_evolves ..).mono rfl
    · refine .ite ?_ ?_
      · refine .next ?_
        exact (State.count_evolves ..).mono rfl
      · refine .next ?_
        exact (State.ringDoorbell_evolves ..).mono rfl

theorem State.renewViews_evolves : ∀ s, Evolves 10737418752 s (State.renewViews s) := by
  intro s
  unfold State.renewViews
  refine .put ?_ rfl
  exact .refl

theorem State.tick_evolves : ∀ s, Evolves 11274289688 s (State.tick s) := by
  intro s
  unfold State.tick
  dsimp only
  refine .ite ?_ ?_
  · refine .ite ?_ ?_
    · refine .stbyNs ?_ rfl
      exact .refl
    · exact .refl
  · refine .ite ?_ ?_
    · refine (State.renewViews_evolves ..).app ?_ rfl
      refine .put ?_ rfl
      refine .ite ?_ ?_
      · refine .stbyNs ?_ rfl
        exact .refl
      · exact .refl
    · refine .put ?_ rfl
      refine .ite ?_ ?_
      · refine .stbyNs ?_ rfl
        exact .refl
      · exact .refl

theorem State.setCount_evolves : ∀ s x1 x2 x3 x4 x5 x6, Evolves 65536 s (State.setCount s x1 x2 x3 x4 x5 x6) := by
  intro s x1 x2 x3 x4 x5 x6
  unfold State.setCount
  dsimp only
  refine .counters ?_ rfl
  exact .refl

end Sys2Proof.Machine
end

