-- ==== Sys2Proof/Laws/EvolvesTiles.lean ====
section
/-! SUPPORT. What maps, tiles and the forward pass may change: one lemma per function, with the mask of the components (compBit). -/

set_option Elab.async false

namespace Sys2Proof.Machine

open Sys2Proof Sys2Proof.Safety

theorem State.sendFrom_evolves : ∀ s x1 x2 x3 x4 x5 x6, Evolves 1073741824 s (State.sendFrom s x1 x2 x3 x4 x5 x6) := by
  intro s x1 x2 x3 x4 x5 x6
  unfold State.sendFrom
  refine .ite ?_ ?_
  · exact .refl
  · exact (State.setRoad_evolves ..).mono rfl

theorem State.divertSlots_evolves : ∀ s x1, Evolves 1140850688 s (State.divertSlots s x1) := by
  intro s x1
  unfold State.divertSlots
  refine .foldl ?_ fun v a => ?_
  · exact (State.modTile_evolves ..).mono rfl
  · split
    · exact (State.sendFrom_evolves ..).mono rfl
    · exact .refl

theorem State.setRetire_evolves : ∀ s x1 x2 x3 x4, Evolves 268435456 s (State.setRetire s x1 x2 x3 x4) := by
  intro s x1 x2 x3 x4
  unfold State.setRetire
  refine .retire ?_ rfl
  exact .refl

theorem State.reserveLow_evolves : ∀ s x1, Evolves 549755813892 s (State.reserveLow s x1) := by
  intro s x1
  unfold State.reserveLow
  refine .ite ?_ ?_
  · exact (State.mgmtRecord_evolves ..).mono rfl
  · exact .refl

theorem State.engageReserve_evolves : ∀ s x1 x2, Evolves 550628229124 s (State.engageReserve s x1 x2) := by
  intro s x1 x2
  unfold State.engageReserve
  dsimp only
  refine (State.askWake_evolves ..).app ?_ rfl
  refine (State.modTile_evolves ..).app ?_ rfl
  refine (State.reserveLow_evolves ..).app ?_ rfl
  exact (State.setRetire_evolves ..).mono rfl

theorem State.logFault_evolves : ∀ s x1, Evolves 549755813888 s (State.logFault s x1) := by
  intro s x1
  unfold State.logFault
  refine .mgmt ?_ rfl
  exact .refl

theorem State.reportRetired_evolves : ∀ s x1 x2 x3 x4 x5 x6 x7 x8 x9, Evolves 549755879938 s (State.reportRetired s x1 x2 x3 x4 x5 x6 x7 x8 x9) := by
  intro s x1 x2 x3 x4 x5 x6 x7 x8 x9
  unfold State.reportRetired
  dsimp only
  refine (State.logFault_evolves ..).app ?_ rfl
  exact (State.raiseM_evolves ..).mono rfl

theorem State.replaceTile_evolves : ∀ s x1 x2 x3 x4 x5 x6, Evolves 550628295174 s (State.replaceTile s x1 x2 x3 x4 x5 x6) := by
  intro s x1 x2 x3 x4 x5 x6
  unfold State.replaceTile
  dsimp only
  split
  · refine .ite ?_ ?_
    · exact .refl
    · exact (State.reportRetired_evolves ..).mono rfl
  · split
    · refine .ite ?_ ?_
      · refine (State.engageReserve_evolves ..).app ?_ rfl
        exact (State.modTile_evolves ..).mono rfl
      · refine (State.reportRetired_evolves ..).app ?_ rfl
        refine (State.engageReserve_evolves ..).app ?_ rfl
        exact (State.modTile_evolves ..).mono rfl
    · refine (State.raiseM_evolves ..).app ?_ rfl
      refine .ite ?_ ?_
      · exact (State.modTile_evolves ..).mono rfl
      · refine (State.reportRetired_evolves ..).app ?_ rfl
        exact (State.modTile_evolves ..).mono rfl

theorem State.retireReserve_evolves : ∀ s x1, Evolves 550024249348 s (State.retireReserve s x1) := by
  intro s x1
  unfold State.retireReserve
  dsimp only
  refine .ite ?_ ?_
  · refine (State.reserveLow_evolves ..).app ?_ rfl
    exact (State.setRetire_evolves ..).mono rfl
  · exact (State.setRetire_evolves ..).mono rfl

theorem State.dropRequests_evolves : ∀ s x1, Evolves 536870912 s (State.dropRequests s x1) := by
  intro s x1
  unfold State.dropRequests
  refine .gates ?_ rfl
  exact .refl

theorem State.retireTile_evolves : ∀ s x1 x2, Evolves 551702036998 s (State.retireTile s x1 x2) := by
  intro s x1 x2
  unfold State.retireTile
  dsimp only
  split
  · refine (State.reportRetired_evolves ..).app ?_ rfl
    refine .ite ?_ ?_
    · refine (State.retireReserve_evolves ..).app ?_ rfl
      refine (State.dropRequests_evolves ..).app ?_ rfl
      exact (State.setTile_evolves ..).mono rfl
    · refine (State.dropRequests_evolves ..).app ?_ rfl
      exact (State.setTile_evolves ..).mono rfl
  · refine (State.replaceTile_evolves ..).app ?_ rfl
    refine (State.divertSlots_evolves ..).app ?_ rfl
    refine (State.modTile_evolves ..).app ?_ rfl
    refine .ite ?_ ?_
    · refine (State.retireReserve_evolves ..).app ?_ rfl
      refine (State.dropRequests_evolves ..).app ?_ rfl
      exact (State.setTile_evolves ..).mono rfl
    · refine (State.dropRequests_evolves ..).app ?_ rfl
      exact (State.setTile_evolves ..).mono rfl

theorem State.sendDown_evolves : ∀ s x1 x2 x3 x4 x5, Evolves 1073741824 s (State.sendDown s x1 x2 x3 x4 x5) := by
  intro s x1 x2 x3 x4 x5
  unfold State.sendDown
  dsimp only
  refine .ite ?_ ?_
  · exact .refl
  · exact (State.setRoad_evolves ..).mono rfl

theorem State.sendPartial_evolves : ∀ s x1 x2 x3 x4, Evolves 1140850688 s (State.sendPartial s x1 x2 x3 x4) := by
  intro s x1 x2 x3 x4
  unfold State.sendPartial
  dsimp only
  refine .ite ?_ ?_
  · exact (State.modTile_evolves ..).mono rfl
  · refine .ite ?_ ?_
    · exact (State.sendDown_evolves ..).mono rfl
    · exact (State.sendFrom_evolves ..).mono rfl

theorem State.forwardOne_evolves {s t : State} {pl : Nat} (h : s.forwardOne pl = some t) : Evolves 1140850688 s t := by
  unfold State.forwardOne at h
  dsimp only at h
  obtain ⟨a, _, h⟩ := List.exists_of_findSome?_eq_some h
  split at h
  · split at h
    · injection h with e; subst e; exact (State.setTile_evolves ..).mono rfl
    · contradiction
  · split at h
    · split at h
      · obtain ⟨x, _, e⟩ := Option.map_eq_some_iff.1 h
        subst e; exact (State.setTile_evolves ..).mono rfl
      · contradiction
    · split at h
      · split at h
        · contradiction
        · injection h with e; subst e
          exact (State.sendPartial_evolves ..).app ((State.setTile_evolves ..).mono rfl) rfl
      · contradiction

theorem State.forwardAll_evolves : ∀ x0 x1 s, Evolves 1140850688 s (State.forwardAll x0 x1 s) := by
  intro k pl s
  induction k generalizing s with
  | zero => exact .refl
  | succ k ih =>
    unfold State.forwardAll
    split
    · exact .refl
    · next e => exact .trans ((State.forwardOne_evolves e).mono rfl) (ih _)

theorem State.sendResult_evolves : ∀ s x1 x2 x3 x4 x5 x6, Evolves 1073741824 s (State.sendResult s x1 x2 x3 x4 x5 x6) := by
  intro s x1 x2 x3 x4 x5 x6
  unfold State.sendResult
  dsimp only
  refine .ite ?_ ?_
  · exact (State.setRoad_evolves ..).mono rfl
  · exact (State.setRoad_evolves ..).mono rfl

theorem State.countEdge_evolves : ∀ s x1 x2 x3 x4, Evolves 65536 s (State.countEdge s x1 x2 x3 x4) := by
  intro s x1 x2 x3 x4
  unfold State.countEdge
  dsimp only
  split
  · exact .refl
  · refine (State.count_evolves ..).app ?_ rfl
    exact (State.count_evolves ..).mono rfl

theorem State.sendPiece_evolves : ∀ s x1 x2 x3 x4 x5 x6 x7, Evolves 1073741824 s (State.sendPiece s x1 x2 x3 x4 x5 x6 x7) := by
  intro s x1 x2 x3 x4 x5 x6 x7
  unfold State.sendPiece
  dsimp only
  refine .ite ?_ ?_
  · refine .ite ?_ ?_
    · refine .ite ?_ ?_
      · exact (State.sendDown_evolves ..).mono rfl
      · exact (State.sendFrom_evolves ..).mono rfl
    · refine .ite ?_ ?_
      · refine (State.setRoad_evolves ..).app ?_ rfl
        refine .ite ?_ ?_
        · exact (State.sendDown_evolves ..).mono rfl
        · exact (State.sendFrom_evolves ..).mono rfl
      · refine (State.setRoad_evolves ..).app ?_ rfl
        refine .ite ?_ ?_
        · exact (State.sendDown_evolves ..).mono rfl
        · exact (State.sendFrom_evolves ..).mono rfl
  · refine .ite ?_ ?_
    · refine (State.setRoad_evolves ..).app ?_ rfl
      refine .ite ?_ ?_
      · refine .ite ?_ ?_
        · exact (State.sendDown_evolves ..).mono rfl
        · exact (State.sendFrom_evolves ..).mono rfl
      · refine .ite ?_ ?_
        · refine (State.setRoad_evolves ..).app ?_ rfl
          refine .ite ?_ ?_
          · exact (State.sendDown_evolves ..).mono rfl
          · exact (State.sendFrom_evolves ..).mono rfl
        · refine (State.setRoad_evolves ..).app ?_ rfl
          refine .ite ?_ ?_
          · exact (State.sendDown_evolves ..).mono rfl
          · exact (State.sendFrom_evolves ..).mono rfl
    · refine (State.setRoad_evolves ..).app ?_ rfl
      refine .ite ?_ ?_
      · refine .ite ?_ ?_
        · exact (State.sendDown_evolves ..).mono rfl
        · exact (State.sendFrom_evolves ..).mono rfl
      · refine .ite ?_ ?_
        · refine (State.setRoad_evolves ..).app ?_ rfl
          refine .ite ?_ ?_
          · exact (State.sendDown_evolves ..).mono rfl
          · exact (State.sendFrom_evolves ..).mono rfl
        · refine (State.setRoad_evolves ..).app ?_ rfl
          refine .ite ?_ ?_
          · exact (State.sendDown_evolves ..).mono rfl
          · exact (State.sendFrom_evolves ..).mono rfl

theorem State.sendPieces_evolves : ∀ s x1 x2 x3 x4 x5 x6 x7 x8 x9, Evolves 1073807360 s (State.sendPieces s x1 x2 x3 x4 x5 x6 x7 x8 x9) := by
  intro s x1 x2 x3 x4 x5 x6 x7 x8 x9
  unfold State.sendPieces
  dsimp only
  refine .foldl ?_ fun v a => ?_
  · exact .refl
  · split
    · exact .refl
    · refine (State.sendPiece_evolves ..).app ?_ rfl
      exact (State.countEdge_evolves ..).mono rfl

theorem State.preactCopy_evolves : ∀ s x1 x2 x3 x4, Evolves 29425664 s (State.preactCopy s x1 x2 x3 x4) := by
  intro s x1 x2 x3 x4
  unfold State.preactCopy
  dsimp only
  split
  · exact .refl
  · refine .ite ?_ ?_
    · split
      · exact .refl
      · refine (State.countEdge_evolves ..).app ?_ rfl
        exact (State.writeMem_evolves ..).mono rfl
    · exact .refl

theorem State.closeProduct_evolves : ∀ s x1 x2 x3 x4 x5 x6, Evolves 1170276352 s (State.closeProduct s x1 x2 x3 x4 x5 x6) := by
  intro s x1 x2 x3 x4 x5 x6
  unfold State.closeProduct
  dsimp only
  refine .ite ?_ ?_
  · refine (State.setTile_evolves ..).app ?_ rfl
    exact (State.preactCopy_evolves ..).mono rfl
  · refine .ite ?_ ?_
    · split
      · refine (State.setTile_evolves ..).app ?_ rfl
        exact (State.preactCopy_evolves ..).mono rfl
      · refine (State.sendPieces_evolves ..).app ?_ rfl
        refine (State.setTile_evolves ..).app ?_ rfl
        exact (State.preactCopy_evolves ..).mono rfl
    · refine (State.sendResult_evolves ..).app ?_ rfl
      refine (State.setTile_evolves ..).app ?_ rfl
      exact (State.preactCopy_evolves ..).mono rfl

theorem State.closeAll_evolves : ∀ x0 x1 s, Evolves 1170276352 s (State.closeAll x0 x1 s) := by
  intro k pl s
  induction k generalizing s with
  | zero => exact .refl
  | succ k ih =>
    unfold State.closeAll
    split
    · exact .refl
    · exact .trans ((State.closeProduct_evolves ..).mono rfl) (ih _)

theorem State.advance_evolves : ∀ s x1, Evolves 1170276352 s (State.advance s x1) := by
  intro s x1
  unfold State.advance
  dsimp only
  refine (State.closeAll_evolves ..).app ?_ rfl
  exact (State.forwardAll_evolves ..).mono rfl

theorem State.takeVector_evolves : ∀ s x1 x2, Evolves 603979776 s (State.takeVector s x1 x2) := by
  intro s x1 x2
  unfold State.takeVector
  dsimp only
  split
  · refine (State.askWake_evolves ..).app ?_ rfl
    exact (State.modTile_evolves ..).mono rfl
  · refine (State.askWake_evolves ..).app ?_ rfl
    exact (State.modTile_evolves ..).mono rfl
  · exact (State.modTile_evolves ..).mono rfl

theorem State.keepSums_evolves : ∀ s x1 x2 x3 x4, Evolves 4294967296 s (State.keepSums s x1 x2 x3 x4) := by
  intro s x1 x2 x3 x4
  unfold State.keepSums
  dsimp only
  exact (State.setGrad_evolves ..).mono rfl

theorem State.deliver_evolves : ∀ s x1 x2 x3, Evolves 1170276352 s (State.deliver s x1 x2 x3) := by
  intro s x1 x2 x3
  unfold State.deliver
  refine (State.advance_evolves ..).app ?_ rfl
  exact (State.modTile_evolves ..).mono rfl

theorem State.runBypass_evolves : ∀ s x1 x2 x3 x4, Evolves 5465244672 s (State.runBypass s x1 x2 x3 x4) := by
  intro s x1 x2 x3 x4
  unfold State.runBypass
  refine (State.deliver_evolves ..).app ?_ rfl
  refine (State.modTile_evolves ..).app ?_ rfl
  refine (State.modWork_evolves ..).app ?_ rfl
  exact (State.keepSums_evolves ..).mono rfl

theorem State.assemble_evolves : ∀ x0 x1 s, Evolves 6002115584 s (State.assemble x0 x1 s) := by
  intro k pl s
  induction k generalizing s with
  | zero => exact .refl
  | succ k ih =>
    unfold State.assemble
    split
    · exact .refl
    · dsimp only
      refine .ite ?_ (.ite .refl ?_)
      · exact .trans ((State.runBypass_evolves ..).app ((State.modTile_evolves ..).mono rfl) rfl) (ih _)
      · exact .trans ((State.takeVector_evolves ..).app ((State.modTile_evolves ..).mono rfl) rfl) (ih _)

theorem State.takePiece_evolves : ∀ s x1 x2, Evolves 6002115584 s (State.takePiece s x1 x2) := by
  intro s x1 x2
  unfold State.takePiece
  dsimp only
  refine (State.assemble_evolves ..).app ?_ rfl
  exact (State.modTile_evolves ..).mono rfl

theorem State.settleTile_evolves : ∀ s x1, Evolves 551702036998 s (State.settleTile s x1) := by
  intro s x1
  unfold State.settleTile
  dsimp only
  refine .ite ?_ ?_
  · refine .ite ?_ ?_
    · refine (State.retireTile_evolves ..).app ?_ rfl
      exact (State.setTile_evolves ..).mono rfl
    · exact (State.setTile_evolves ..).mono rfl
  · exact .refl

theorem State.collectNorms_evolves : ∀ s x1, Evolves 4362076160 s (State.collectNorms s x1) := by
  intro s x1
  unfold State.collectNorms
  refine .foldl ?_ fun v a => ?_
  · exact .refl
  · dsimp only
    split
    · exact .refl
    · refine (State.modTile_evolves ..).app ?_ rfl
      exact (State.setGrad_evolves ..).mono rfl

theorem State.endProducts_evolves : ∀ s x1 x2, Evolves 555997013510 s (State.endProducts s x1 x2) := by
  intro s x1 x2
  unfold State.endProducts
  dsimp only
  split
  · exact .refl
  · refine (State.finish_evolves ..).app ?_ rfl
    refine .foldl ?_ fun v a => ?_
    · refine .put ?_ rfl
      refine .ite ?_ ?_
      · exact (State.collectNorms_evolves ..).mono rfl
      · exact .refl
    · exact (State.settleTile_evolves ..).mono rfl

theorem State.finishProducts_evolves : ∀ s x1, Evolves 555997013510 s (State.finishProducts s x1) := by
  intro s x1
  unfold State.finishProducts
  split
  · exact .refl
  · refine .ite ?_ ?_
    · exact (State.endProducts_evolves ..).mono rfl
    · exact .refl

theorem State.countRow_evolves : ∀ s x1 x2, Evolves 65536 s (State.countRow s x1 x2) := by
  intro s x1 x2
  unfold State.countRow
  refine .ite ?_ ?_
  · refine .foldl ?_ fun v a => ?_
    · exact .refl
    · dsimp only
      split
      · exact .refl
      · refine .ite ?_ ?_
        · exact (State.countEdge_evolves ..).mono rfl
        · split
          · exact .refl
          · refine (State.count_evolves ..).app ?_ rfl
            exact (State.count_evolves ..).mono rfl
  · refine .foldl ?_ fun v a => ?_
    · exact .refl
    · dsimp only
      split
      · exact .refl
      · exact (State.countEdge_evolves ..).mono rfl

theorem State.writeRow_evolves : ∀ s x1 x2 x3 x4 x5, Evolves 556059928070 s (State.writeRow s x1 x2 x3 x4 x5) := by
  intro s x1 x2 x3 x4 x5
  unfold State.writeRow
  dsimp only
  split
  · split
    · exact (State.endProducts_evolves ..).mono rfl
    · refine (State.finishProducts_evolves ..).app ?_ rfl
      refine (State.modWork_evolves ..).app ?_ rfl
      refine (State.countRow_evolves ..).app ?_ rfl
      exact (State.writeAll_evolves ..).mono rfl
  · exact (State.finish_evolves ..).mono rfl

theorem State.putOutputs_evolves : ∀ s x1 x2 x3, Evolves 556059928070 s (State.putOutputs s x1 x2 x3) := by
  intro s x1 x2 x3
  unfold State.putOutputs
  dsimp only
  split
  · exact .refl
  · refine .ite ?_ ?_
    · refine (State.writeRow_evolves ..).app ?_ rfl
      exact (State.modWork_evolves ..).mono rfl
    · exact (State.modWork_evolves ..).mono rfl

theorem State.goOn_evolves : ∀ s x1 x2, Evolves 1073741824 s (State.goOn s x1 x2) := by
  intro s x1 x2
  unfold State.goOn
  dsimp only
  split
  · exact .refl
  · refine .foldl ?_ fun v a => ?_
    · exact .refl
    · refine .ite ?_ ?_
      · exact (State.sendDown_evolves ..).mono rfl
      · exact .refl

theorem State.arrive_evolves : ∀ s x1 x2 x3, Evolves 556059928070 s (State.arrive s x1 x2 x3) := by
  intro s x1 x2 x3
  unfold State.arrive
  dsimp only
  refine .ite ?_ ?_
  · exact (State.goOn_evolves ..).mono rfl
  · split
    · exact .refl
    · split
      · exact (State.putOutputs_evolves ..).mono rfl
      · split
        · exact .refl
        · refine .ite ?_ ?_
          · exact (State.sendFrom_evolves ..).mono rfl
          · refine .ite ?_ ?_
            · exact (State.sendDown_evolves ..).mono rfl
            · refine .ite ?_ ?_
              · exact (State.sendFrom_evolves ..).mono rfl
              · split
                · refine .ite ?_ ?_
                  · exact (State.runBypass_evolves ..).mono rfl
                  · exact (State.takeVector_evolves ..).mono rfl
                · refine .ite ?_ ?_
                  · exact (State.takePiece_evolves ..).mono rfl
                  · exact (State.modTile_evolves ..).mono rfl
                · refine .ite ?_ ?_
                  · refine (State.advance_evolves ..).app ?_ rfl
                    exact (State.modTile_evolves ..).mono rfl
                  · exact (State.modTile_evolves ..).mono rfl
                · exact .refl

theorem State.takeDue_evolves : ∀ s x1, Evolves 556059928070 s (State.takeDue s x1) := by
  intro s x1
  unfold State.takeDue
  dsimp only
  refine .ite ?_ ?_
  · exact .refl
  · refine .foldl ?_ fun v a => ?_
    · exact (State.setRoad_evolves ..).mono rfl
    · exact (State.arrive_evolves ..).mono rfl

theorem State.rollRoads_evolves : ∀ s, Evolves 1073741824 s (State.rollRoads s) := by
  intro s
  unfold State.rollRoads
  refine .foldl ?_ fun v a => ?_
  · exact .refl
  · dsimp only
    refine .ite ?_ ?_
    · exact .refl
    · exact (State.setRoad_evolves ..).mono rfl

theorem State.runRoads_evolves : ∀ x0 s, Evolves 556059928070 s (State.runRoads x0 s) := by
  intro k s
  induction k generalizing s with
  | zero => exact .refl
  | succ k ih =>
    unfold State.runRoads
    dsimp only
    refine .ite ((State.rollRoads_evolves ..).mono rfl) (.trans ?_ (ih _))
    exact .foldl ((State.rollRoads_evolves ..).mono rfl) fun v a => (State.takeDue_evolves ..).mono rfl

theorem State.settleRoads_evolves : ∀ s, Evolves 556059928070 s (State.settleRoads s) := by
  intro s
  unfold State.settleRoads
  exact (State.runRoads_evolves ..).mono rfl

theorem execTileWakeDone_ends : ∀ x0 s, Ends 556059928070 s (execTileWakeDone x0 s) := by
  intro x0 s
  unfold execTileWakeDone
  refine .onTile ?_
  dsimp only
  refine .ite ?_ ?_
  · refine .next ?_
    refine (State.settleRoads_evolves ..).app ?_ rfl
    exact (State.setTile_evolves ..).mono rfl
  · refine .next ?_
    exact .refl

theorem execIdleTimeout_ends : ∀ x0 s, Ends 67108864 s (execIdleTimeout x0 s) := by
  intro x0 s
  unfold execIdleTimeout
  refine .onTile ?_
  dsimp only
  refine .ite ?_ ?_
  · refine .next ?_
    exact (State.modTile_evolves ..).mono rfl
  · refine .next ?_
    exact .refl

theorem execInputPieceArrival_ends : ∀ x0 s, Ends 556059928070 s (execInputPieceArrival x0 s) := by
  intro x0 s
  unfold execInputPieceArrival
  refine .onTile ?_
  dsimp only
  split
  · refine .next ?_
    exact .refl
  · split
    · refine .next ?_
      exact .refl
    · refine .next ?_
      refine (State.settleRoads_evolves ..).app ?_ rfl
      refine .ite ?_ ?_
      · refine (State.takePiece_evolves ..).app ?_ rfl
        exact (State.modTile_evolves ..).mono rfl
      · exact (State.modTile_evolves ..).mono rfl

theorem execResidualArrival_ends : ∀ x0 x1 x2 s, Ends 556059928070 s (execResidualArrival x0 x1 x2 s) := by
  intro x0 x1 x2 s
  unfold execResidualArrival
  refine .onTile ?_
  split
  · refine .next ?_
    exact .refl
  · refine .next ?_
    refine (State.settleRoads_evolves ..).app ?_ rfl
    refine (State.advance_evolves ..).app ?_ rfl
    exact (State.modTile_evolves ..).mono rfl

theorem execPartialPacket_ends : ∀ x0 s, Ends 556059928070 s (execPartialPacket x0 s) := by
  intro x0 s
  unfold execPartialPacket
  refine .onTile ?_
  dsimp only
  split
  · refine .next ?_
    exact .refl
  · split
    · refine .next ?_
      exact .refl
    · refine .next ?_
      refine (State.settleRoads_evolves ..).app ?_ rfl
      refine (State.advance_evolves ..).app ?_ rfl
      exact (State.modTile_evolves ..).mono rfl

theorem State.flag_evolves : ∀ s x1 x2 x3 x4, Evolves 549822988802 s (State.flag s x1 x2 x3 x4) := by
  intro s x1 x2 x3 x4
  unfold State.flag
  dsimp only
  refine .ite ?_ ?_
  · exact .refl
  · refine (State.raiseM_evolves ..).app ?_ rfl
    refine (State.modTile_evolves ..).app ?_ rfl
    exact (State.count_evolves ..).mono rfl

theorem State.edgeStages_evolves : ∀ s x1 x2 x3 x4 x5, Evolves 549822989826 s (State.edgeStages s x1 x2 x3 x4 x5).1 := by
  intro s x1 x2 x3 x4 x5
  unfold State.edgeStages
  dsimp only
  refine .foldl ?_ fun v a => ?_
  · refine (State.modTile_evolves ..).app ?_ rfl
    refine (State.modWork_evolves ..).app ?_ rfl
    refine (State.count_evolves ..).app ?_ rfl
    refine (State.count_evolves ..).app ?_ rfl
    refine (State.count_evolves ..).app ?_ rfl
    refine (State.count_evolves ..).app ?_ rfl
    exact (State.count_evolves ..).mono rfl
  · exact (State.flag_evolves ..).mono rfl

theorem execEdgePipeline_ends : ∀ x0 s, Ends 556059928070 s (execEdgePipeline x0 s) := by
  intro x0 s
  unfold execEdgePipeline
  refine .onTile ?_
  dsimp only
  split
  · refine .next ?_
    exact .refl
  · refine .ite ?_ ?_
    · refine .next ?_
      exact .refl
    · split
      · refine .next ?_
        refine (State.settleRoads_evolves ..).app ?_ rfl
        refine (State.deliver_evolves ..).app ?_ rfl
        refine (State.settleTile_evolves ..).app ?_ rfl
        refine (State.modTile_evolves ..).app ?_ rfl
        exact (State.edgeStages_evolves ..).mono rfl
      · refine .next ?_
        refine (State.settleRoads_evolves ..).app ?_ rfl
        refine (State.settleTile_evolves ..).app ?_ rfl
        exact (State.modTile_evolves ..).mono rfl

theorem State.askSegment_evolves : ∀ s x1 x2 x3 x4, Evolves 536870912 s (State.askSegment s x1 x2 x3 x4) := by
  intro s x1 x2 x3 x4
  unfold State.askSegment
  split
  · exact .refl
  · exact (State.askToll_evolves ..).mono rfl

theorem execSegmentSample_ends : ∀ x0 x1 s, Ends 603979776 s (execSegmentSample x0 x1 s) := by
  intro x0 x1 s
  unfold execSegmentSample
  refine .onTile ?_
  dsimp only
  split
  · refine .next ?_
    exact .refl
  · split
    · refine .ite ?_ ?_
      · refine .next ?_
        exact .refl
      · refine .next ?_
        refine (State.askSegment_evolves ..).app ?_ rfl
        exact (State.modTile_evolves ..).mono rfl
    · refine .next ?_
      refine (State.dropRequests_evolves ..).app ?_ rfl
      exact (State.modTile_evolves ..).mono rfl

theorem State.countLatch_evolves : ∀ s x1 x2 x3, Evolves 65536 s (State.countLatch s x1 x2 x3) := by
  intro s x1 x2 x3
  unfold State.countLatch
  dsimp only
  refine .ite ?_ ?_
  · exact (State.count_evolves ..).mono rfl
  · refine (State.count_evolves ..).app ?_ rfl
    refine (State.count_evolves ..).app ?_ rfl
    exact (State.count_evolves ..).mono rfl

theorem State.latch_evolves : ∀ s x1 x2 x3 x4, Evolves 604323840 s (State.latch s x1 x2 x3 x4) := by
  intro s x1 x2 x3 x4
  unfold State.latch
  dsimp only
  refine (State.askSegment_evolves ..).app ?_ rfl
  refine (State.modTile_evolves ..).app ?_ rfl
  exact (State.countLatch_evolves ..).mono rfl

theorem State.popSlot_evolves : ∀ s x1, Evolves 67108864 s (State.popSlot s x1) := by
  intro s x1
  unfold State.popSlot
  exact (State.modTile_evolves ..).mono rfl

theorem execVectorLatch_ends : ∀ x0 s, Ends 556060206598 s (execVectorLatch x0 s) := by
  intro x0 s
  unfold execVectorLatch
  refine .onTile ?_
  dsimp only
  split
  · refine .next ?_
    exact .refl
  · split
    · refine .next ?_
      exact .refl
    · split
      · refine .next ?_
        refine (State.settleTile_evolves ..).app ?_ rfl
        refine (State.settleRoads_evolves ..).app ?_ rfl
        refine (State.assemble_evolves ..).app ?_ rfl
        exact (State.popSlot_evolves ..).mono rfl
      · refine .ite ?_ ?_
        · refine .next ?_
          refine (State.settleTile_evolves ..).app ?_ rfl
          refine (State.settleRoads_evolves ..).app ?_ rfl
          refine (State.assemble_evolves ..).app ?_ rfl
          refine (State.latch_evolves ..).app ?_ rfl
          exact (State.popSlot_evolves ..).mono rfl
        · refine .next ?_
          exact .refl

theorem State.reassignReserves_evolves : ∀ s x1, Evolves 550628229124 s (State.reassignReserves s x1) := by
  intro s x1
  unfold State.reassignReserves
  refine .foldl ?_ fun v a => ?_
  · exact .refl
  · split
    · exact (State.engageReserve_evolves ..).mono rfl
    · exact .refl

theorem State.sendRow_evolves : ∀ s x1 x2 x3, Evolves 1073741824 s (State.sendRow s x1 x2 x3) := by
  intro s x1 x2 x3
  unfold State.sendRow
  refine .foldl ?_ fun v a => ?_
  · exact .refl
  · dsimp only
    refine .foldl ?_ fun v a => ?_
    · exact .refl
    · exact (State.sendDown_evolves ..).mono rfl

theorem State.launch_evolves : ∀ s x1 x2 x3 x4 x5 x6 x7 x8 x9 x10, Evolves 556059928070 s (State.launch s x1 x2 x3 x4 x5 x6 x7 x8 x9 x10) := by
  intro s x1 x2 x3 x4 x5 x6 x7 x8 x9 x10
  unfold State.launch
  dsimp only
  refine (State.settleRoads_evolves ..).app ?_ rfl
  refine (State.finishProducts_evolves ..).app ?_ rfl
  refine .foldl ?_ fun v a => ?_
  · refine (State.modWork_evolves ..).app ?_ rfl
    split
    · exact (State.writeMem_evolves ..).mono rfl
    · exact .refl
  · exact (State.sendRow_evolves ..).mono rfl

theorem State.productSlots_evolves {s t : State} {p phase slot len pre n st : Nat} {ckpt : Bool} {a b : Option Nat}
    (h : s.productSlots p phase slot len ckpt pre n = .inr (t, st, a, b)) : Evolves 549785240066 s t := by
  unfold State.productSlots at h
  dsimp only at h
  split at h
  · exact nomatch h
  · next u st' a' e =>
    have hu : Evolves 549785240066 s u := by
      split at e
      · injection e with e; injection e with e; subst e; exact .refl
      · split at e
        · exact nomatch e
        · next k => injection e with e; injection e with e; subst e; exact (State.allocSlot_evolves k).mono rfl
    split at h
    · injection h with h; injection h with h; subst h; exact hu
    · split at h
      · exact nomatch h
      · next k => injection h with h; injection h with h; subst h; exact (State.allocSlot_evolves k).app hu rfl

theorem State.startDispatch_evolves : ∀ s x1 x2, Evolves 556059928070 s (State.startDispatch s x1 x2) := by
  intro s x1 x2
  unfold State.startDispatch
  dsimp only
  split
  · refine (State.finish_evolves ..).app ?_ rfl
    exact (State.countBad_evolves ..).mono rfl
  · split
    · exact (State.finish_evolves ..).mono rfl
    · split
      · exact (State.finish_evolves ..).mono rfl
      · unfold State.access
        dsimp only
        split
        · exact (State.fail_evolves ..).mono rfl
        · split
          · refine (State.fail_evolves ..).app ?_ rfl
            exact (State.countReads_evolves ..).mono rfl
          · unfold State.slotsWritable
            unfold State.access
            dsimp only
            split
            · refine (State.fail_evolves ..).app ?_ rfl
              exact (State.countReads_evolves ..).mono rfl
            · refine (State.launch_evolves ..).app ?_ rfl
              refine (State.productSlots_evolves (by assumption)).app ?_ rfl
              exact (State.countReads_evolves ..).mono rfl

theorem execDispatch_ends : ∀ x0 s, Ends 556059928070 s (execDispatch x0 s) := by
  intro x0 s
  unfold execDispatch
  unfold onRunning
  refine .onQueue ?_
  dsimp only
  split
  · refine .next ?_
    exact .refl
  · refine .next ?_
    refine .ite ?_ ?_
    · exact .refl
    · exact (State.startDispatch_evolves ..).mono rfl

theorem State.startForward_evolves : ∀ s x1 x2, Evolves 556059928070 s (State.startForward s x1 x2) := by
  intro s x1 x2
  unfold State.startForward
  dsimp only
  split
  · refine .ite ?_ ?_
    · exact (State.finish_evolves ..).mono rfl
    · exact (State.finish_evolves ..).mono rfl
  · split
    · exact (State.finish_evolves ..).mono rfl
    · unfold State.access
      dsimp only
      split
      · exact (State.fail_evolves ..).mono rfl
      · split
        · refine (State.fail_evolves ..).app ?_ rfl
          exact (State.countReads_evolves ..).mono rfl
        · unfold State.slotsWritable
          unfold State.access
          dsimp only
          split
          · refine (State.fail_evolves ..).app ?_ rfl
            exact (State.countReads_evolves ..).mono rfl
          · refine (State.launch_evolves ..).app ?_ rfl
            refine .ite ?_ ?_
            · refine (State.noteSlot_evolves ..).app ?_ rfl
              refine (State.productSlots_evolves (by assumption)).app ?_ rfl
              exact (State.countReads_evolves ..).mono rfl
            · refine (State.productSlots_evolves (by assumption)).app ?_ rfl
              exact (State.countReads_evolves ..).mono rfl

theorem execForward_ends : ∀ x0 s, Ends 556059928070 s (execForward x0 s) := by
  intro x0 s
  unfold execForward
  unfold onRunning
  refine .onQueue ?_
  dsimp only
  split
  · refine .next ?_
    exact .refl
  · refine .next ?_
    refine .ite ?_ ?_
    · exact .refl
    · exact (State.startForward_evolves ..).mono rfl

theorem State.clearIdle_evolves : ∀ s x1 x2, Evolves 4194304 s (State.clearIdle s x1 x2) := by
  intro s a w
  unfold State.clearIdle
  exact .mem .refl rfl fun h => foldl_memSet_wf h _ _ _

theorem State.powerUp_evolves : ∀ s x1, Evolves 603979776 s (State.powerUp s x1) := by
  intro s x1
  unfold State.powerUp
  refine (State.askWake_evolves ..).app ?_ rfl
  exact (State.modTile_evolves ..).mono rfl

theorem State.dropDeferred_evolves : ∀ s x1 x2, Evolves 29426176 s (State.dropDeferred s x1 x2) := by
  intro s x1 x2
  unfold State.dropDeferred
  dsimp only
  refine .ite ?_ ?_
  · exact .refl
  · exact (State.setDeferList_evolves ..).mono rfl

theorem State.place_evolves : ∀ s x1 x2, Evolves 550657655302 s (State.place s x1 x2) := by
  intro s x1 x2
  unfold State.place
  dsimp only
  split
  · split
    · refine (State.powerUp_evolves ..).app ?_ rfl
      refine (State.dropRequests_evolves ..).app ?_ rfl
      refine (State.modTile_evolves ..).app ?_ rfl
      exact (State.dropDeferred_evolves ..).mono rfl
    · refine .ite ?_ ?_
      · refine (State.dropRequests_evolves ..).app ?_ rfl
        refine (State.modTile_evolves ..).app ?_ rfl
        exact (State.dropDeferred_evolves ..).mono rfl
      · refine (State.engageReserve_evolves ..).app ?_ rfl
        refine (State.dropRequests_evolves ..).app ?_ rfl
        refine (State.modTile_evolves ..).app ?_ rfl
        exact (State.dropDeferred_evolves ..).mono rfl
    · refine (State.replaceTile_evolves ..).app ?_ rfl
      refine (State.dropRequests_evolves ..).app ?_ rfl
      refine (State.modTile_evolves ..).app ?_ rfl
      exact (State.dropDeferred_evolves ..).mono rfl
  · refine (State.powerUp_evolves ..).app ?_ rfl
    refine (State.dropRequests_evolves ..).app ?_ rfl
    refine (State.modTile_evolves ..).app ?_ rfl
    exact (State.dropDeferred_evolves ..).mono rfl

theorem State.releaseReserve_evolves : ∀ s x1, Evolves 872415232 s (State.releaseReserve s x1) := by
  intro s x1
  unfold State.releaseReserve
  split
  · exact .refl
  · refine (State.dropRequests_evolves ..).app ?_ rfl
    refine (State.modTile_evolves ..).app ?_ rfl
    exact (State.setRetire_evolves ..).mono rfl

theorem State.unplace_evolves : ∀ s x1 x2, Evolves 901841408 s (State.unplace s x1 x2) := by
  intro s x1 x2
  unfold State.unplace
  refine (State.dropDeferred_evolves ..).app ?_ rfl
  refine (State.dropRequests_evolves ..).app ?_ rfl
  refine (State.modTile_evolves ..).app ?_ rfl
  exact (State.releaseReserve_evolves ..).mono rfl

theorem State.moveMem_evolves : ∀ s x1, Evolves 29360128 s (State.moveMem s x1) := by
  intro s ms
  unfold State.moveMem
  exact .put (.mem (x := Machine.moveMem s.mem _) .refl rfl fun h => moveMem_wf h _) rfl

theorem State.applyMap_evolves : ∀ s x1 x2, Evolves 550657655302 s (State.applyMap s x1 x2) := by
  intro s p new
  unfold State.applyMap
  refine .foldl (.foldl (.foldl ((State.modPart_evolves ..).app (.foldl ?_ fun v a => ?_) rfl) fun v a => ?_) fun v a => ?_) fun v a => ?_
  · exact (State.moveMem_evolves ..).mono rfl
  · exact (State.unplace_evolves ..).mono rfl
  · exact (State.place_evolves ..).mono rfl
  · exact .ite .refl ((State.clearIdle_evolves ..).mono rfl)
  · exact (State.modTile_evolves ..).mono rfl

theorem execMapLoad_ends : ∀ x0 x1 s, Ends 550657664518 s (execMapLoad x0 x1 s) := by
  intro x0 x1 s
  unfold execMapLoad
  unfold onRunning
  refine .onQueue ?_
  dsimp only
  split
  · refine .next ?_
    exact .refl
  · refine .next ?_
    refine .ite ?_ ?_
    · exact .refl
    · split
      · exact (State.finish_evolves ..).mono rfl
      · unfold State.fetch
        unfold State.access
        dsimp only
        split
        · exact (State.fail_evolves ..).mono rfl
        · split
          · refine (State.finish_evolves ..).app ?_ rfl
            exact (State.countReads_evolves ..).mono rfl
          · split
            · refine (State.finish_evolves ..).app ?_ rfl
              refine (State.countBad_evolves ..).app ?_ rfl
              exact (State.countReads_evolves ..).mono rfl
            · split
              · refine (State.fail_evolves ..).app ?_ rfl
                refine (State.countReads_evolves ..).app ?_ rfl
                exact (State.countReads_evolves ..).mono rfl
              · refine (State.finish_evolves ..).app ?_ rfl
                refine (State.applyMap_evolves ..).app ?_ rfl
                refine (State.countReads_evolves ..).app ?_ rfl
                refine (State.countReads_evolves ..).app ?_ rfl
                exact (State.countReads_evolves ..).mono rfl

end Sys2Proof.Machine
end

