-- ==== Sys2Proof/Laws/EvolvesProgram.lean ====
section
/-! SUPPORT. What programming, probing, refresh and repair may change: one lemma per function, with the mask of the components (compBit). -/

set_option Elab.async false

namespace Sys2Proof.Machine

open Sys2Proof Sys2Proof.Safety

theorem State.wmPush_evolves : ∀ s x1, Evolves 274877972480 s (State.wmPush s x1) := by
  intro s x1
  unfold State.wmPush
  refine .ite ?_ ?_
  · exact (State.count_evolves ..).mono rfl
  · refine .wm ?_ rfl
    exact .refl

theorem State.wmAdvance_evolves : ∀ s, Evolves 274877906944 s (State.wmAdvance s) := by
  intro s
  unfold State.wmAdvance
  dsimp only
  refine .ite ?_ ?_
  · refine .wm ?_ rfl
    exact .refl
  · refine .ite ?_ ?_
    · refine .wm ?_ rfl
      exact .refl
    · refine .wm ?_ rfl
      exact .refl

theorem execWaymarkStep_ends : ∀ x0 s, Ends 274877972484 s (execWaymarkStep x0 s) := by
  intro x0 s
  unfold execWaymarkStep
  refine .ite ?_ ?_
  · refine .next ?_
    exact .refl
  · dsimp only
    refine .next ?_
    refine (State.wmAdvance_evolves ..).app ?_ rfl
    refine .foldl ?_ fun v a => ?_
    · refine .free ?_ rfl
      exact .refl
    · exact (State.wmPush_evolves ..).mono rfl

theorem State.wmTrigger_evolves : ∀ s x1, Evolves 274877972480 s (State.wmTrigger s x1) := by
  intro s x1
  unfold State.wmTrigger
  refine .ite ?_ ?_
  · exact .refl
  · refine .ite ?_ ?_
    · exact (State.count_evolves ..).mono rfl
    · refine .wm ?_ rfl
      exact .refl

theorem execTrigInEdge_ends : ∀ x0 s, Ends 274877972480 s (execTrigInEdge x0 s) := by
  intro x0 s
  unfold execTrigInEdge
  dsimp only
  refine .next ?_
  refine .wm ?_ rfl
  refine .ite ?_ ?_
  · exact (State.wmTrigger_evolves ..).mono rfl
  · exact .refl

theorem State.wmControl_evolves : ∀ s x1, Evolves 274877972480 s (State.wmControl s x1) := by
  intro s x1
  unfold State.wmControl
  dsimp only
  refine .ite ?_ ?_
  · refine .wm ?_ rfl
    refine .ite ?_ ?_
    · refine .wm ?_ rfl
      exact .refl
    · exact .refl
  · refine .ite ?_ ?_
    · refine (State.wmTrigger_evolves ..).app ?_ rfl
      refine .ite ?_ ?_
      · refine .wm ?_ rfl
        exact .refl
      · exact .refl
    · refine .ite ?_ ?_
      · refine .wm ?_ rfl
        exact .refl
      · exact .refl

theorem State.takeWork_evolves : ∀ s x1 x2 x3 x4 x5, Evolves 67108864 s (State.takeWork s x1 x2 x3 x4 x5) := by
  intro s x1 x2 x3 x4 x5
  unfold State.takeWork
  dsimp only
  exact (State.setTile_evolves ..).mono rfl

theorem State.openStage_evolves : ∀ s x1 x2 x3 x4, Evolves 67108864 s (State.openStage s x1 x2 x3 x4) := by
  intro s x1 x2 x3 x4
  unfold State.openStage
  dsimp only
  exact (State.setTile_evolves ..).mono rfl

theorem State.askBatch_evolves : ∀ s x1 x2, Evolves 603979776 s (State.askBatch s x1 x2) := by
  intro s x1 x2
  unfold State.askBatch
  refine (State.askToll_evolves ..).app ?_ rfl
  exact (State.modTile_evolves ..).mono rfl

theorem State.overrun_evolves : ∀ s x1 x2 x3 x4, Evolves 549755879938 s (State.overrun s x1 x2 x3 x4) := by
  intro s x1 x2 x3 x4
  unfold State.overrun
  dsimp only
  refine .ite ?_ ?_
  · exact .refl
  · refine .ite ?_ ?_
    · exact (State.count_evolves ..).mono rfl
    · refine (State.raise_evolves ..).app ?_ rfl
      refine (State.modPart_evolves ..).app ?_ rfl
      exact (State.count_evolves ..).mono rfl

theorem State.deferOrder_evolves {s u : State} {p t change : Nat} {o : Nat × Nat}
    (h : s.deferOrder p t o change = some u) : Evolves 29427200 s u := by
  unfold State.deferOrder at h
  dsimp only at h
  repeat' split at h
  all_goals first
    | contradiction
    | (injection h with e; subst e
       exact (State.modWork_evolves ..).app ((State.setDeferList_evolves ..).mono rfl) rfl)

theorem State.applied_evolves : ∀ s x1, Evolves 1024 s (State.applied s x1) := by
  intro s x1
  unfold State.applied
  refine .ite ?_ ?_
  · exact .refl
  · exact (State.modWork_evolves ..).mono rfl

theorem State.takeOrder_evolves : ∀ s x1 x2 x3 x4 x5 x6, Evolves 549852349954 s (State.takeOrder s x1 x2 x3 x4 x5 x6) := by
  intro s x1 x2 x3 x4 x5 x6
  unfold State.takeOrder
  dsimp only
  split
  · exact .refl
  · refine .ite ?_ ?_
    · exact (State.applied_evolves ..).mono rfl
    · split
      · refine (State.deferOrder_evolves (by assumption)).app ?_ rfl
        exact .refl
      · refine (State.modTile_evolves ..).app ?_ rfl
        exact (State.overrun_evolves ..).mono rfl

theorem State.failProgram_evolves : ∀ s x1 x2 x3, Evolves 96544256 s (State.failProgram s x1 x2 x3) := by
  intro s x1 x2 x3
  unfold State.failProgram
  dsimp only
  refine (State.finish_evolves ..).app ?_ rfl
  refine .ite ?_ ?_
  · refine .tiles ?_ rfl
    exact .refl
  · refine (State.modPart_evolves ..).app ?_ rfl
    refine (State.setDeferList_evolves ..).app ?_ rfl
    refine .tiles ?_ rfl
    exact .refl

theorem State.takeOrders_evolves : ∀ s x1 x2 x3 x4 x5 x6, Evolves 549852358146 s (State.takeOrders s x1 x2 x3 x4 x5 x6) := by
  intro s x1 x2 x3 x4 x5 x6
  unfold State.takeOrders
  dsimp only
  split
  · exact .refl
  · split
    · exact (State.failProgram_evolves ..).mono rfl
    · refine (State.modTile_evolves ..).app ?_ rfl
      refine .ite ?_ ?_
      · refine (State.modTile_evolves ..).app ?_ rfl
        refine .foldl ?_ fun v a => ?_
        · exact (State.modTile_evolves ..).mono rfl
        · exact (State.takeOrder_evolves ..).mono rfl
      · refine .foldl ?_ fun v a => ?_
        · exact (State.modTile_evolves ..).mono rfl
        · exact (State.takeOrder_evolves ..).mono rfl

theorem State.restTile_evolves : ∀ s x1, Evolves 67108864 s (State.restTile s x1) := by
  intro s x1
  unfold State.restTile
  exact (State.modTile_evolves ..).mono rfl

theorem State.markKnown_evolves : ∀ s x1 x2 x3, Evolves 67108864 s (State.markKnown s x1 x2 x3) := by
  intro s x1 x2 x3
  unfold State.markKnown
  exact (State.modTile_evolves ..).mono rfl

theorem State.narrowOrder_evolves : ∀ s x1 x2 x3 x4, Evolves 96535552 s (State.narrowOrder s x1 x2 x3 x4) := by
  intro s x1 x2 x3 x4
  unfold State.narrowOrder
  dsimp only
  split
  · exact .refl
  · split
    · refine (State.applied_evolves ..).app ?_ rfl
      refine (State.markKnown_evolves ..).app ?_ rfl
      exact (State.setRunDigits_evolves ..).mono rfl
    · refine (State.modTile_evolves ..).app ?_ rfl
      refine (State.applied_evolves ..).app ?_ rfl
      refine (State.markKnown_evolves ..).app ?_ rfl
      exact (State.setRunDigits_evolves ..).mono rfl

theorem State.narrowAll_evolves : ∀ s x1, Evolves 96535552 s (State.narrowAll s x1) := by
  intro s x1
  unfold State.narrowAll
  split
  · exact (State.modTile_evolves ..).mono rfl
  · refine (State.modTile_evolves ..).app ?_ rfl
    refine .foldl ?_ fun v a => ?_
    · exact .refl
    · exact (State.narrowOrder_evolves ..).mono rfl

theorem State.prepare_evolves : ∀ x0 x1 s, Evolves 551731406342 s (State.prepare x0 x1 s) := by
  intro k t s
  induction k generalizing s with
  | zero => exact .refl
  | succ k ih =>
    unfold State.prepare
    split
    · exact (State.modTile_evolves ..).mono rfl
    · refine .ite ((State.narrowAll_evolves ..).app ((State.retireTile_evolves ..).mono rfl) rfl) ?_
      split
      · exact (State.restTile_evolves ..).mono rfl
      · refine .ite (.trans ((State.takeOrders_evolves ..).mono rfl) (ih _)) ?_
        exact (State.askBatch_evolves ..).app ((State.openStage_evolves ..).app ((State.takeOrders_evolves ..).mono rfl) rfl) rfl
      · refine .ite (.trans ((State.takeWork_evolves ..).mono rfl) (ih _)) ?_
        exact (State.askBatch_evolves ..).app ((State.openStage_evolves ..).app ((State.takeWork_evolves ..).mono rfl) rfl) rfl

theorem State.scanCut_evolves : ∀ s x1, Evolves 67108864 s (State.scanCut s x1) := by
  intro s x1
  unfold State.scanCut
  refine .foldl ?_ fun v a => ?_
  · exact .refl
  · exact (State.modTile_evolves ..).mono rfl

theorem State.writeMeasured_evolves : ∀ s x1 x2 x3 x4 x5 x6, Evolves 29425664 s (State.writeMeasured s x1 x2 x3 x4 x5 x6) := by
  intro s x1 x2 x3 x4 x5 x6
  unfold State.writeMeasured
  refine .ite ?_ ?_
  · exact (State.writeMem_evolves ..).mono rfl
  · exact .refl

theorem State.readBackLayer_evolves : ∀ s x1 x2, Evolves 29426176 s (State.readBackLayer s x1 x2) := by
  intro s x1 x2
  unfold State.readBackLayer
  dsimp only
  refine (State.modPart_evolves ..).app ?_ rfl
  refine .foldl ?_ fun v a => ?_
  · exact .refl
  · refine .ite ?_ ?_
    · exact .refl
    · refine .foldl ?_ fun v a => ?_
      · exact .refl
      · refine .foldl ?_ fun v a => ?_
        · exact .refl
        · exact (State.writeMeasured_evolves ..).mono rfl

theorem State.finishProgram_evolves : ∀ s x1 x2, Evolves 96544256 s (State.finishProgram s x1 x2) := by
  intro s x1 x2
  unfold State.finishProgram
  dsimp only
  refine (State.finish_evolves ..).app ?_ rfl
  refine .ite ?_ ?_
  · refine (State.modPart_evolves ..).app ?_ rfl
    refine .ite ?_ ?_
    · refine (State.scanCut_evolves ..).app ?_ rfl
      refine .foldl ?_ fun v a => ?_
      · exact .refl
      · exact (State.readBackLayer_evolves ..).mono rfl
    · refine .foldl ?_ fun v a => ?_
      · exact .refl
      · exact (State.readBackLayer_evolves ..).mono rfl
  · refine .ite ?_ ?_
    · refine (State.scanCut_evolves ..).app ?_ rfl
      refine .foldl ?_ fun v a => ?_
      · exact .refl
      · exact (State.readBackLayer_evolves ..).mono rfl
    · refine .foldl ?_ fun v a => ?_
      · exact .refl
      · exact (State.readBackLayer_evolves ..).mono rfl

theorem State.finishPrograms_evolves : ∀ s x1, Evolves 96544256 s (State.finishPrograms s x1) := by
  intro s x1
  unfold State.finishPrograms
  refine .foldl ?_ fun v a => ?_
  · exact .refl
  · split
    · refine .ite ?_ ?_
      · exact (State.finishProgram_evolves ..).mono rfl
      · exact .refl
    · exact .refl

theorem State.retireNow_evolves : ∀ s x1 x2 x3 x4, Evolves 551731406342 s (State.retireNow s x1 x2 x3 x4) := by
  intro s x1 x2 x3 x4
  unfold State.retireNow
  refine (State.finishPrograms_evolves ..).app ?_ rfl
  refine (State.narrowAll_evolves ..).app ?_ rfl
  exact (State.retireTile_evolves ..).mono rfl

theorem State.requestRetire_evolves : ∀ s x1, Evolves 556059928070 s (State.requestRetire s x1) := by
  intro s x1
  unfold State.requestRetire
  refine .ite ?_ ?_
  · exact .refl
  · dsimp only
    split
    · refine (State.settleRoads_evolves ..).app ?_ rfl
      split
      · refine (State.retireNow_evolves ..).app ?_ rfl
        exact (State.modTile_evolves ..).mono rfl
      · refine (State.retireTile_evolves ..).app ?_ rfl
        exact (State.modTile_evolves ..).mono rfl
    · refine (State.settleRoads_evolves ..).app ?_ rfl
      split
      · refine (State.retireNow_evolves ..).app ?_ rfl
        exact (State.modTile_evolves ..).mono rfl
      · refine (State.retireTile_evolves ..).app ?_ rfl
        exact (State.modTile_evolves ..).mono rfl
    · refine (State.settleRoads_evolves ..).app ?_ rfl
      split
      · refine (State.retireNow_evolves ..).app ?_ rfl
        exact (State.modTile_evolves ..).mono rfl
      · refine (State.retireTile_evolves ..).app ?_ rfl
        exact (State.modTile_evolves ..).mono rfl
    · exact (State.modTile_evolves ..).mono rfl
    · refine (State.settleRoads_evolves ..).app ?_ rfl
      refine (State.modTile_evolves ..).app ?_ rfl
      exact (State.modTile_evolves ..).mono rfl
    · refine .ite ?_ ?_
      · split
        · refine (State.settleRoads_evolves ..).app ?_ rfl
          refine (State.finishPrograms_evolves ..).app ?_ rfl
          refine (State.prepare_evolves ..).app ?_ rfl
          refine (State.modTile_evolves ..).app ?_ rfl
          exact (State.modTile_evolves ..).mono rfl
        · refine (State.modTile_evolves ..).app ?_ rfl
          exact (State.modTile_evolves ..).mono rfl
      · refine (State.settleRoads_evolves ..).app ?_ rfl
        refine (State.modTile_evolves ..).app ?_ rfl
        exact (State.modTile_evolves ..).mono rfl
    · refine .ite ?_ ?_
      · split
        · refine (State.settleRoads_evolves ..).app ?_ rfl
          refine (State.finishPrograms_evolves ..).app ?_ rfl
          refine (State.prepare_evolves ..).app ?_ rfl
          refine (State.modTile_evolves ..).app ?_ rfl
          exact (State.modTile_evolves ..).mono rfl
        · refine (State.modTile_evolves ..).app ?_ rfl
          exact (State.modTile_evolves ..).mono rfl
      · refine (State.settleRoads_evolves ..).app ?_ rfl
        refine (State.modTile_evolves ..).app ?_ rfl
        exact (State.modTile_evolves ..).mono rfl

theorem State.requestProbe_evolves : ∀ s x1, Evolves 556059928070 s (State.requestProbe s x1) := by
  intro s x1
  unfold State.requestProbe
  refine .ite ?_ ?_
  · exact .refl
  · refine (State.settleRoads_evolves ..).app ?_ rfl
    exact (State.modTile_evolves ..).mono rfl

theorem State.requestRefresh_evolves : ∀ s x1, Evolves 67108864 s (State.requestRefresh s x1) := by
  intro s x1
  unfold State.requestRefresh
  refine .ite ?_ ?_
  · exact .refl
  · exact (State.modTile_evolves ..).mono rfl

theorem State.allWritten_evolves : ∀ s x1, Evolves 67108864 s (State.allWritten s x1) := by
  intro s x1
  unfold State.allWritten
  exact (State.modTile_evolves ..).mono rfl

theorem State.startOrders_evolves : ∀ s x1, Evolves 551731406342 s (State.startOrders s x1) := by
  intro s x1
  unfold State.startOrders
  dsimp only
  split
  · exact .refl
  · refine .ite ?_ ?_
    · exact (State.narrowAll_evolves ..).mono rfl
    · split
      · refine .ite ?_ ?_
        · exact .refl
        · exact (State.askWake_evolves ..).mono rfl
      · refine .ite ?_ ?_
        · exact .refl
        · exact (State.askWake_evolves ..).mono rfl
      · refine .ite ?_ ?_
        · exact .refl
        · refine (State.prepare_evolves ..).app ?_ rfl
          exact (State.modTile_evolves ..).mono rfl
      · refine .ite ?_ ?_
        · exact (State.prepare_evolves ..).mono rfl
        · exact .refl
      · exact .refl

theorem State.toIdle_evolves : ∀ s x1, Evolves 551731406342 s (State.toIdle s x1) := by
  intro s x1
  unfold State.toIdle
  dsimp only
  split
  · refine .ite ?_ ?_
    · refine (State.retireTile_evolves ..).app ?_ rfl
      exact (State.modTile_evolves ..).mono rfl
    · exact (State.modTile_evolves ..).mono rfl
  · refine .ite ?_ ?_
    · refine (State.finishPrograms_evolves ..).app ?_ rfl
      refine (State.narrowAll_evolves ..).app ?_ rfl
      refine (State.retireTile_evolves ..).app ?_ rfl
      exact (State.modTile_evolves ..).mono rfl
    · refine .ite ?_ ?_
      · exact (State.modTile_evolves ..).mono rfl
      · refine (State.finishPrograms_evolves ..).app ?_ rfl
        refine (State.startOrders_evolves ..).app ?_ rfl
        exact (State.modTile_evolves ..).mono rfl

theorem execReserveProgrammed_ends : ∀ x0 s, Ends 556059928070 s (execReserveProgrammed x0 s) := by
  intro x0 s
  unfold execReserveProgrammed
  refine .onTile ?_
  dsimp only
  refine .ite ?_ ?_
  · refine .next ?_
    refine (State.settleRoads_evolves ..).app ?_ rfl
    refine (State.toIdle_evolves ..).app ?_ rfl
    refine (State.allWritten_evolves ..).app ?_ rfl
    refine (State.setTile_evolves ..).app ?_ rfl
    exact (State.setRetire_evolves ..).mono rfl
  · refine .next ?_
    exact .refl

theorem State.endProbe_evolves : ∀ s x1, Evolves 551731406342 s (State.endProbe s x1) := by
  intro s x1
  unfold State.endProbe
  dsimp only
  split
  · exact .refl
  · refine .ite ?_ ?_
    · refine (State.prepare_evolves ..).app ?_ rfl
      refine (State.modTile_evolves ..).app ?_ rfl
      refine (State.modTile_evolves ..).app ?_ rfl
      refine .ite ?_ ?_
      · exact .refl
      · refine (State.logFault_evolves ..).app ?_ rfl
        exact (State.raiseM_evolves ..).mono rfl
    · refine (State.toIdle_evolves ..).app ?_ rfl
      refine (State.modTile_evolves ..).app ?_ rfl
      refine .ite ?_ ?_
      · exact .refl
      · refine (State.logFault_evolves ..).app ?_ rfl
        exact (State.raiseM_evolves ..).mono rfl

theorem execRepairDone_ends : ∀ x0 s, Ends 556059928070 s (execRepairDone x0 s) := by
  intro x0 s
  unfold execRepairDone
  refine .onTile ?_
  refine .ite ?_ ?_
  · refine .next ?_
    refine (State.settleRoads_evolves ..).app ?_ rfl
    exact (State.endProbe_evolves ..).mono rfl
  · refine .next ?_
    exact .refl

theorem State.repairScan_evolves : ∀ s x1 x2 x3 x4 x5 x6 x7, Evolves 551731406342 s (State.repairScan s x1 x2 x3 x4 x5 x6 x7) := by
  intro s x1 x2 x3 x4 x5 x6 x7
  unfold State.repairScan
  dsimp only
  split
  · refine (State.retireNow_evolves ..).app ?_ rfl
    exact (State.setTile_evolves ..).mono rfl
  · refine .ite ?_ ?_
    · refine (State.endProbe_evolves ..).app ?_ rfl
      exact (State.setTile_evolves ..).mono rfl
    · refine (State.prepare_evolves ..).app ?_ rfl
      exact (State.setTile_evolves ..).mono rfl

theorem execProbeScanDone_ends : ∀ x0 x1 x2 s, Ends 556059928070 s (execProbeScanDone x0 x1 x2 s) := by
  intro x0 x1 x2 s
  unfold execProbeScanDone
  refine .onTile ?_
  dsimp only
  split
  · refine .next ?_
    exact .refl
  · refine .ite ?_ ?_
    · refine .next ?_
      exact .refl
    · refine .ite ?_ ?_
      · refine .next ?_
        refine (State.settleRoads_evolves ..).app ?_ rfl
        refine (State.retireNow_evolves ..).app ?_ rfl
        exact (State.setTile_evolves ..).mono rfl
      · refine .ite ?_ ?_
        · refine .next ?_
          refine (State.settleRoads_evolves ..).app ?_ rfl
          refine (State.retireNow_evolves ..).app ?_ rfl
          exact (State.setTile_evolves ..).mono rfl
        · refine .next ?_
          refine (State.settleRoads_evolves ..).app ?_ rfl
          refine (State.repairScan_evolves ..).app ?_ rfl
          exact (State.setTile_evolves ..).mono rfl

theorem State.startScan_evolves : ∀ s x1 x2, Evolves 603979776 s (State.startScan s x1 x2) := by
  intro s x1 x2
  unfold State.startScan
  dsimp only
  refine (State.askToll_evolves ..).app ?_ rfl
  exact (State.setTile_evolves ..).mono rfl

theorem execProbeStart_ends : ∀ x0 s, Ends 556059928070 s (execProbeStart x0 s) := by
  intro x0 s
  unfold execProbeStart
  refine .onDie ?_
  refine .ite ?_ ?_
  · refine .next ?_
    exact .refl
  · dsimp only
    split
    · refine .next ?_
      exact .refl
    · refine .ite ?_ ?_
      · refine .next ?_
        exact (State.askWake_evolves ..).mono rfl
      · refine .next ?_
        refine (State.settleRoads_evolves ..).app ?_ rfl
        refine (State.startScan_evolves ..).app ?_ rfl
        refine (State.modTile_evolves ..).app ?_ rfl
        exact (State.modTile_evolves ..).mono rfl

theorem State.writeProbes_evolves : ∀ s x1, Evolves 274877906948 s (State.writeProbes s x1) := by
  intro s x1
  unfold State.writeProbes
  dsimp only
  refine .put ?_ rfl
  exact .refl

theorem State.refreshProbes_evolves : ∀ s x1, Evolves 274877906948 s (State.refreshProbes s x1) := by
  intro s x1
  unfold State.refreshProbes
  refine .ite ?_ ?_
  · exact (State.writeProbes_evolves ..).mono rfl
  · exact .refl

theorem execRefreshComplete_ends : ∀ x0 s, Ends 830937835014 s (execRefreshComplete x0 s) := by
  intro x0 s
  unfold execRefreshComplete
  refine .onTile ?_
  dsimp only
  refine .ite ?_ ?_
  · refine .next ?_
    refine (State.refreshProbes_evolves ..).app ?_ rfl
    refine (State.settleRoads_evolves ..).app ?_ rfl
    refine (State.toIdle_evolves ..).app ?_ rfl
    refine (State.allWritten_evolves ..).app ?_ rfl
    exact (State.setTile_evolves ..).mono rfl
  · refine .next ?_
    exact .refl

theorem State.beginRefresh_evolves : ∀ s x1, Evolves 551731406342 s (State.beginRefresh s x1) := by
  intro s x1
  unfold State.beginRefresh
  dsimp only
  refine .ite ?_ ?_
  · refine (State.startScan_evolves ..).app ?_ rfl
    exact (State.modTile_evolves ..).mono rfl
  · refine (State.prepare_evolves ..).app ?_ rfl
    refine (State.modTile_evolves ..).app ?_ rfl
    exact (State.modTile_evolves ..).mono rfl

theorem execRefreshStart_ends : ∀ x0 s, Ends 551731406342 s (execRefreshStart x0 s) := by
  intro x0 s
  unfold execRefreshStart
  refine .onDie ?_
  split
  · refine .next ?_
    exact .refl
  · refine .ite ?_ ?_
    · refine .next ?_
      exact (State.askWake_evolves ..).mono rfl
    · refine .next ?_
      exact (State.beginRefresh_evolves ..).mono rfl

theorem State.wmMilestone_evolves : ∀ s x1, Evolves 274877972480 s (State.wmMilestone s x1) := by
  intro s x1
  unfold State.wmMilestone
  refine .ite ?_ ?_
  · exact (State.wmTrigger_evolves ..).mono rfl
  · exact .refl

theorem State.weightDone_evolves : ∀ s x1 x2 x3 x4 x5, Evolves 96535552 s (State.weightDone s x1 x2 x3 x4 x5) := by
  intro s x1 x2 x3 x4 x5
  unfold State.weightDone
  dsimp only
  split
  · split
    · refine (State.applied_evolves ..).app ?_ rfl
      refine (State.modTile_evolves ..).app ?_ rfl
      refine (State.markKnown_evolves ..).app ?_ rfl
      refine (State.modTile_evolves ..).app ?_ rfl
      refine .ite ?_ ?_
      · exact .refl
      · refine (State.writeMeasured_evolves ..).app ?_ rfl
        exact (State.setRunDigits_evolves ..).mono rfl
    · refine (State.modTile_evolves ..).app ?_ rfl
      refine (State.markKnown_evolves ..).app ?_ rfl
      refine (State.modTile_evolves ..).app ?_ rfl
      refine .ite ?_ ?_
      · exact .refl
      · refine (State.writeMeasured_evolves ..).app ?_ rfl
        exact (State.setRunDigits_evolves ..).mono rfl
  · exact .refl

theorem State.nextBatch_evolves : ∀ s x1 x2 x3 x4, Evolves 551731406342 s (State.nextBatch s x1 x2 x3 x4) := by
  intro s x1 x2 x3 x4
  unfold State.nextBatch
  dsimp only
  refine .ite ?_ ?_
  · refine (State.prepare_evolves ..).app ?_ rfl
    refine (State.modTile_evolves ..).app ?_ rfl
    refine .foldl ?_ fun v a => ?_
    · exact .refl
    · exact (State.weightDone_evolves ..).mono rfl
  · refine (State.askBatch_evolves ..).app ?_ rfl
    refine (State.openStage_evolves ..).app ?_ rfl
    refine (State.modTile_evolves ..).app ?_ rfl
    refine .foldl ?_ fun v a => ?_
    · exact .refl
    · exact (State.weightDone_evolves ..).mono rfl

theorem State.moveProgramRow_evolves : ∀ s x1 x2 x3 x4, Evolves 67108864 s (State.moveProgramRow s x1 x2 x3 x4) := by
  intro s x1 x2 x3 x4
  unfold State.moveProgramRow
  dsimp only
  refine (State.modTile_evolves ..).app ?_ rfl
  exact (State.setTile_evolves ..).mono rfl

theorem State.batchView_evolves : ∀ s x1, Evolves 278528 s (State.batchView s x1) := by
  intro s x1
  unfold State.batchView
  split
  · exact (State.asBegan_evolves ..).mono rfl
  · exact .refl

theorem State.settleToll_evolves : ∀ s x1 x2 x3, Evolves 536870912 s (State.settleToll s x1 x2 x3) := by
  intro s x1 x2 x3
  unfold State.settleToll
  dsimp only
  exact (State.setGate_evolves ..).mono rfl

theorem State.setRaise_evolves : ∀ s x1 x2, Evolves 67108864 s (State.setRaise s x1 x2) := by
  intro s x1 x2
  unfold State.setRaise
  dsimp only
  exact (State.modTile_evolves ..).mono rfl

theorem State.runBatch_evolves : ∀ s x1 x2 x3 x4 x5, Evolves 551731684870 s (State.runBatch s x1 x2 x3 x4 x5) := by
  intro s x1 x2 x3 x4 x5
  unfold State.runBatch
  dsimp only
  split
  · split
    · refine (State.prepare_evolves ..).app ?_ rfl
      refine (State.moveProgramRow_evolves ..).app ?_ rfl
      refine (State.setRaise_evolves ..).app ?_ rfl
      refine (State.setTile_evolves ..).app ?_ rfl
      exact (State.settleToll_evolves ..).mono rfl
    · refine (State.narrowAll_evolves ..).app ?_ rfl
      refine (State.retireTile_evolves ..).app ?_ rfl
      refine (State.setRaise_evolves ..).app ?_ rfl
      refine (State.setTile_evolves ..).app ?_ rfl
      exact (State.settleToll_evolves ..).mono rfl
  · split
    · refine (State.prepare_evolves ..).app ?_ rfl
      refine (State.moveProgramRow_evolves ..).app ?_ rfl
      refine (State.setRaise_evolves ..).app ?_ rfl
      refine (State.setTile_evolves ..).app ?_ rfl
      exact (State.settleToll_evolves ..).mono rfl
    · refine (State.nextBatch_evolves ..).app ?_ rfl
      refine (State.setRaise_evolves ..).app ?_ rfl
      refine (State.setTile_evolves ..).app ?_ rfl
      exact (State.settleToll_evolves ..).mono rfl

theorem execProgramBatch_ends : ∀ x0 x1 s, Ends 556060206598 s (execProgramBatch x0 x1 s) := by
  intro x0 x1 s
  unfold execProgramBatch
  refine .onTile ?_
  dsimp only
  split
  · refine .next ?_
    exact .refl
  · refine .ite ?_ ?_
    · refine .next ?_
      refine (State.settleRoads_evolves ..).app ?_ rfl
      refine (State.finishPrograms_evolves ..).app ?_ rfl
      exact (State.narrowAll_evolves ..).mono rfl
    · refine .ite ?_ ?_
      · refine .next ?_
        refine (State.settleRoads_evolves ..).app ?_ rfl
        refine (State.finishPrograms_evolves ..).app ?_ rfl
        exact (State.runBatch_evolves ..).mono rfl
      · refine .ite ?_ ?_
        · refine .next ?_
          exact .refl
        · split
          · refine .ite ?_ ?_
            · refine .next ?_
              refine (State.askBatch_evolves ..).app ?_ rfl
              exact (State.openStage_evolves ..).mono rfl
            · refine .next ?_
              refine (State.settleRoads_evolves ..).app ?_ rfl
              refine (State.finishPrograms_evolves ..).app ?_ rfl
              exact (State.prepare_evolves ..).mono rfl
          · refine .ite ?_ ?_
            · refine .next ?_
              refine (State.askBatch_evolves ..).app ?_ rfl
              exact (State.openStage_evolves ..).mono rfl
            · refine .next ?_
              refine (State.settleRoads_evolves ..).app ?_ rfl
              refine (State.finishPrograms_evolves ..).app ?_ rfl
              exact (State.prepare_evolves ..).mono rfl
          · refine .ite ?_ ?_
            · refine .next ?_
              refine (State.settleRoads_evolves ..).app ?_ rfl
              exact (State.finishPrograms_evolves ..).mono rfl
            · refine .next ?_
              refine (State.settleRoads_evolves ..).app ?_ rfl
              refine (State.finishPrograms_evolves ..).app ?_ rfl
              refine (State.prepare_evolves ..).app ?_ rfl
              exact (State.modTile_evolves ..).mono rfl
          · refine .next ?_
            exact .refl

theorem State.giveOrders_evolves : ∀ s x1 x2 x3 x4, Evolves 551731406342 s (State.giveOrders s x1 x2 x3 x4) := by
  intro s x1 x2 x3 x4
  unfold State.giveOrders
  dsimp only
  refine .foldl ?_ fun v a => ?_
  · refine .foldl ?_ fun v a => ?_
    · refine .foldl ?_ fun v a => ?_
      · refine (State.modPart_evolves ..).app ?_ rfl
        refine .ite ?_ ?_
        · exact .refl
        · exact (State.setDeferList_evolves ..).mono rfl
      · exact (State.modTile_evolves ..).mono rfl
    · exact (State.modTile_evolves ..).mono rfl
  · exact (State.startOrders_evolves ..).mono rfl

theorem State.refuseOrder_evolves : ∀ s x1 x2 x3 x4, Evolves 549755880962 s (State.refuseOrder s x1 x2 x3 x4) := by
  intro s x1 x2 x3 x4
  unfold State.refuseOrder
  dsimp only
  refine .ite ?_ ?_
  · refine (State.raise_evolves ..).app ?_ rfl
    refine (State.modPart_evolves ..).app ?_ rfl
    exact (State.modWork_evolves ..).mono rfl
  · exact (State.modWork_evolves ..).mono rfl

theorem State.startProgram_evolves : ∀ s x1 x2, Evolves 551731406342 s (State.startProgram s x1 x2) := by
  intro s x1 x2
  unfold State.startProgram
  dsimp only
  split
  · exact (State.finish_evolves ..).mono rfl
  · split
    · exact (State.fail_evolves ..).mono rfl
    · refine .ite ?_ ?_
      · exact (State.finish_evolves ..).mono rfl
      · split
        · exact (State.fail_evolves ..).mono rfl
        · refine (State.finishPrograms_evolves ..).app ?_ rfl
          refine (State.giveOrders_evolves ..).app ?_ rfl
          refine (State.modWork_evolves ..).app ?_ rfl
          refine .foldl ?_ fun v a => ?_
          · refine (State.modWork_evolves ..).app ?_ rfl
            refine (State.countReads_evolves ..).app ?_ rfl
            exact (State.modPart_evolves ..).mono rfl
          · split
            · exact (State.refuseOrder_evolves ..).mono rfl
            · exact .refl

theorem execProgram_ends : ∀ x0 s, Ends 551731406342 s (execProgram x0 s) := by
  intro x0 s
  unfold execProgram
  unfold onRunning
  refine .onQueue ?_
  dsimp only
  split
  · refine .next ?_
    exact .refl
  · refine .next ?_
    refine .ite ?_ ?_
    · exact (State.finishPrograms_evolves ..).mono rfl
    · exact (State.startProgram_evolves ..).mono rfl

end Sys2Proof.Machine
end

