-- ==== Sys2Proof/Laws/EvolvesEngines.lean ====
section
/-! SUPPORT. What the matrix, row and vector engines and the update may change: one lemma per function, with the mask of the components (compBit). -/

set_option Elab.async false

namespace Sys2Proof.Machine

open Sys2Proof Sys2Proof.Safety

theorem Pass2.s_evolves : ∀ s, Evolves 0 s.s (Pass2.s s) := by
  intro s
  unfold Pass2.s
  exact .refl

theorem State.logOrders_evolves : ∀ s x1 x2, Evolves 549785240066 s (State.logOrders s x1 x2) := by
  intro s x1 x2
  unfold State.logOrders
  dsimp only
  refine .ite ?_ ?_
  · refine (State.modPart_evolves ..).app ?_ rfl
    exact (State.writeMem_evolves ..).mono rfl
  · refine .ite ?_ ?_
    · refine (State.raise_evolves ..).app ?_ rfl
      refine (State.count_evolves ..).app ?_ rfl
      refine (State.modPart_evolves ..).app ?_ rfl
      refine (State.modPart_evolves ..).app ?_ rfl
      exact (State.writeMem_evolves ..).mono rfl
    · refine (State.count_evolves ..).app ?_ rfl
      refine (State.modPart_evolves ..).app ?_ rfl
      refine (State.modPart_evolves ..).app ?_ rfl
      exact (State.writeMem_evolves ..).mono rfl

theorem State.writeBlock_evolves : ∀ s x1 x2 x3, Evolves 29425664 s (State.writeBlock s x1 x2 x3) := by
  intro s x1 x2 x3
  unfold State.writeBlock
  dsimp only
  refine (State.writeMem_evolves ..).app ?_ rfl
  refine .ite ?_ ?_
  · refine (State.writeMem_evolves ..).app ?_ rfl
    exact (State.writeMem_evolves ..).mono rfl
  · exact (State.writeMem_evolves ..).mono rfl

theorem State.commitBlock_evolves {s t : State} {p i n : Nat} {ls : List Layer} {g : List Byte} {b : Blk} {init : Bool}
    (h : s.commitBlock p ls g i b init = .inr (t, n)) : Evolves 549785240070 s t := by
  unfold State.commitBlock at h
  dsimp only at h
  split at h
  · injection h with h; injection h with h; subst h
    have k : Evolves 549785240070 s (if init = true then s else s.writeMem (gWork g + 128 * (gFirst g + i)) (bytes32 (b.master.map r32))) :=
      .ite .refl ((State.writeMem_evolves ..).mono rfl)
    exact .ite k ((State.writeBlock_evolves ..).app k rfl)
  · split at h
    · exact nomatch h
    · injection h with h; injection h with h; subst h
      exact .free ((State.writeBlock_evolves ..).app ((State.logOrders_evolves ..).mono rfl) rfl) rfl

theorem Pass2.init_evolves : ∀ x0 x1 x2 s x4, Evolves 549785240070 s.s (Pass2.init x0 x1 x2 s x4).s := by
  intro x0 x1 x2 s x4
  unfold Pass2.init
  split
  · exact .refl
  · dsimp only
    split
    · dsimp only
      exact (State.countBad_evolves ..).mono rfl
    · split
      · dsimp only
        exact (State.countReads_evolves ..).mono rfl
      · dsimp only
        refine (State.commitBlock_evolves (by assumption)).app ?_ rfl
        exact (State.countReads_evolves ..).mono rfl

theorem execUpdateInit_ends : ∀ x0 s, Ends 549785249286 s (execUpdateInit x0 s) := by
  intro x0 s
  unfold execUpdateInit
  unfold onRunning
  refine .onQueue ?_
  dsimp only
  split
  · refine .next ?_
    exact .refl
  · refine .next ?_
    split
    · exact (State.finish_evolves ..).mono rfl
    · refine .ite ?_ ?_
      · exact (State.finish_evolves ..).mono rfl
      · split
        · refine (State.finish_evolves ..).app ?_ rfl
          refine (State.modPart_evolves ..).app ?_ rfl
          refine .foldlBy Pass2.s ?_ fun v a => ?_
          · dsimp only
            exact (State.modPart_evolves ..).mono rfl
          · exact (Pass2.init_evolves ..).mono rfl
        · refine (State.finish_evolves ..).app ?_ rfl
          refine (State.modPart_evolves ..).app ?_ rfl
          refine .foldlBy Pass2.s ?_ fun v a => ?_
          · dsimp only
            exact (State.modPart_evolves ..).mono rfl
          · exact (Pass2.init_evolves ..).mono rfl

theorem State.commitUpdate_evolves {s t : State} {c : ApplyCtx} {ls : List Layer} {i n : Nat} {b : Blk} {v : NewVals}
    (h : s.commitUpdate c ls i b v = .inr (t, n)) : Evolves 549785240070 s t := by
  unfold State.commitUpdate at h
  dsimp only at h
  split at h
  · exact (State.commitBlock_evolves h).mono rfl
  · split at h
    · exact nomatch h
    · injection h with h; injection h with h; subst h
      exact .free ((State.writeBlock_evolves ..).app ((State.logOrders_evolves ..).mono rfl) rfl) rfl

theorem Pass2.block_evolves : ∀ x0 x1 s x3, Evolves 549785240070 s.s (Pass2.block x0 x1 s x3).s := by
  intro x0 x1 s x3
  unfold Pass2.block
  dsimp only
  split
  · dsimp only
    refine (State.count_evolves ..).app ?_ rfl
    refine (State.writeMem_evolves ..).app ?_ rfl
    exact (State.writeMem_evolves ..).mono rfl
  · split
    · dsimp only
      exact .refl
    · dsimp only
      refine (State.commitUpdate_evolves (by assumption)).app ?_ rfl
      exact (State.count_evolves ..).mono rfl

theorem Pass2.next_evolves : ∀ x0 x1 s x3, Evolves 549785240070 s.s (Pass2.next x0 x1 s x3).s := by
  intro x0 x1 s x3
  unfold Pass2.next
  split
  · exact .refl
  · dsimp only
    split
    · dsimp only
      exact (State.countBad_evolves ..).mono rfl
    · split
      · dsimp only
        exact (State.countReads_evolves ..).mono rfl
      · split
        · dsimp only
          exact (State.countReads_evolves ..).mono rfl
        · refine (Pass2.block_evolves ..).app ?_ rfl
          dsimp only
          exact (State.countReads_evolves ..).mono rfl

theorem State.nonfinEvent_evolves : ∀ s x1 x2, Evolves 549755879938 s (State.nonfinEvent s x1 x2) := by
  intro s x1 x2
  unfold State.nonfinEvent
  refine .ite ?_ ?_
  · exact .refl
  · refine (State.raise_evolves ..).app ?_ rfl
    exact (State.modPart_evolves ..).mono rfl

theorem Pass2.close_evolves : ∀ x0 x1 s, Evolves 549755889154 s.s (Pass2.close x0 x1 s) := by
  intro x0 x1 s
  unfold Pass2.close
  dsimp only
  split
  · refine (State.finish_evolves ..).app ?_ rfl
    refine (State.nonfinEvent_evolves ..).app ?_ rfl
    exact (State.modWork_evolves ..).mono rfl
  · refine .ite ?_ ?_
    · exact (State.modWork_evolves ..).mono rfl
    · refine (State.finish_evolves ..).app ?_ rfl
      refine (State.nonfinEvent_evolves ..).app ?_ rfl
      refine (State.modPart_evolves ..).app ?_ rfl
      exact (State.modWork_evolves ..).mono rfl

theorem execPass2BlockResume_ends : ∀ x0 s, Ends 549785249286 s (execPass2BlockResume x0 s) := by
  intro x0 s
  unfold execPass2BlockResume
  unfold onRunning
  refine .onQueue ?_
  dsimp only
  split
  · refine .next ?_
    exact .refl
  · refine .next ?_
    split
    · exact .refl
    · refine (Pass2.close_evolves ..).app ?_ rfl
      refine (Pass2.next_evolves ..).app ?_ rfl
      dsimp only
      exact (State.modPart_evolves ..).mono rfl

theorem State.startApply_evolves : ∀ s x1 x2, Evolves 549785249286 s (State.startApply s x1 x2) := by
  intro s x1 x2
  unfold State.startApply
  dsimp only
  refine (Pass2.close_evolves ..).app ?_ rfl
  refine .foldlBy Pass2.s ?_ fun v a => ?_
  · dsimp only
    exact .refl
  · exact (Pass2.next_evolves ..).mono rfl

theorem State.applyStep_evolves : ∀ s x1 x2 x3, Evolves 549785249286 s (State.applyStep s x1 x2 x3) := by
  intro s x1 x2 x3
  unfold State.applyStep
  dsimp only
  refine .ite ?_ ?_
  · refine (State.finish_evolves ..).app ?_ rfl
    exact (State.count_evolves ..).mono rfl
  · refine .ite ?_ ?_
    · exact (State.startApply_evolves ..).mono rfl
    · refine .ite ?_ ?_
      · refine (State.startApply_evolves ..).app ?_ rfl
        refine (State.raise_evolves ..).app ?_ rfl
        refine (State.modWork_evolves ..).app ?_ rfl
        exact (State.count_evolves ..).mono rfl
      · refine (State.finish_evolves ..).app ?_ rfl
        exact (State.count_evolves ..).mono rfl

theorem execUpdateApply_ends : ∀ x0 s, Ends 549785249286 s (execUpdateApply x0 s) := by
  intro x0 s
  unfold execUpdateApply
  unfold onRunning
  refine .onQueue ?_
  dsimp only
  split
  · refine .next ?_
    exact .refl
  · refine .next ?_
    refine .ite ?_ ?_
    · exact .refl
    · split
      · exact (State.finish_evolves ..).mono rfl
      · refine .ite ?_ ?_
        · exact (State.finish_evolves ..).mono rfl
        · refine .ite ?_ ?_
          · exact (State.finish_evolves ..).mono rfl
          · refine .ite ?_ ?_
            · exact (State.finish_evolves ..).mono rfl
            · refine .ite ?_ ?_
              · exact .refl
              · exact (State.applyStep_evolves ..).mono rfl

theorem State.normPartials_evolves : ∀ s x1 x2 x3, Evolves 62989314 s (State.normPartials s x1 x2 x3) := by
  intro s x1 x2 x3
  unfold State.normPartials
  dsimp only
  split
  · exact (State.finish_evolves ..).mono rfl
  · unfold State.access
    dsimp only
    split
    · exact (State.fail_evolves ..).mono rfl
    · refine (State.finish_evolves ..).app ?_ rfl
      refine (State.writeAt_evolves ..).app ?_ rfl
      exact (State.countReads_evolves ..).mono rfl

theorem State.normFinal_evolves : ∀ s x1 x2, Evolves 74752 s (State.normFinal s x1 x2) := by
  intro s x1 x2
  unfold State.normFinal
  dsimp only
  split
  · exact (State.finish_evolves ..).mono rfl
  · unfold State.access
    dsimp only
    split
    · exact (State.fail_evolves ..).mono rfl
    · refine (State.finish_evolves ..).app ?_ rfl
      exact (State.countReads_evolves ..).mono rfl

theorem execUpdateNorm_ends : ∀ x0 s, Ends 62989314 s (execUpdateNorm x0 s) := by
  intro x0 s
  unfold execUpdateNorm
  unfold onRunning
  refine .onQueue ?_
  dsimp only
  split
  · refine .next ?_
    exact .refl
  · refine .next ?_
    refine .ite ?_ ?_
    · exact (State.normFinal_evolves ..).mono rfl
    · refine .ite ?_ ?_
      · refine .ite ?_ ?_
        · exact (State.finish_evolves ..).mono rfl
        · exact (State.normPartials_evolves ..).mono rfl
      · split
        · exact (State.finish_evolves ..).mono rfl
        · exact (State.normPartials_evolves ..).mono rfl

theorem State.customBundle_evolves : ∀ s x1 x2 x3 x4, Evolves 62980102 s (State.customBundle s x1 x2 x3 x4) := by
  intro s x1 x2 x3 x4
  unfold State.customBundle
  dsimp only
  refine .free ?_ rfl
  refine .foldl ?_ fun v a => ?_
  · exact .refl
  · exact (State.writeAll_evolves ..).mono rfl

theorem execVprog_ends : ∀ x0 s, Ends 62989318 s (execVprog x0 s) := by
  intro x0 s
  unfold execVprog
  unfold onRunning
  refine .onQueue ?_
  dsimp only
  split
  · refine .next ?_
    exact .refl
  · refine .next ?_
    split
    · exact (State.finish_evolves ..).mono rfl
    · unfold State.access
      dsimp only
      split
      · exact (State.fail_evolves ..).mono rfl
      · refine (State.finish_evolves ..).app ?_ rfl
        refine .foldl ?_ fun v a => ?_
        · exact (State.countReads_evolves ..).mono rfl
        · exact (State.customBundle_evolves ..).mono rfl

theorem State.writeRows_evolves : ∀ s x1 x2 x3 x4, Evolves 62980098 s (State.writeRows s x1 x2 x3 x4) := by
  intro s x1 x2 x3 x4
  unfold State.writeRows
  refine .foldl ?_ fun v a => ?_
  · exact .refl
  · exact (State.writeAll_evolves ..).mono rfl

theorem State.releaseSlot_evolves : ∀ s x1 x2 x3 x4, Evolves 29426176 s (State.releaseSlot s x1 x2 x3 x4) := by
  intro s x1 x2 x3 x4
  unfold State.releaseSlot
  refine .ite ?_ ?_
  · exact .refl
  · refine .ite ?_ ?_
    · exact (State.modPart_evolves ..).mono rfl
    · exact (State.freeSlot_evolves ..).mono rfl

theorem State.runDeriv_evolves : ∀ s x1 x2 x3 x4 x5 x6, Evolves 62989826 s (State.runDeriv s x1 x2 x3 x4 x5 x6) := by
  intro s x1 x2 x3 x4 x5 x6
  unfold State.runDeriv
  dsimp only
  unfold State.access
  dsimp only
  split
  · exact (State.fail_evolves ..).mono rfl
  · refine (State.releaseSlot_evolves ..).app ?_ rfl
    refine (State.finish_evolves ..).app ?_ rfl
    refine (State.writeRows_evolves ..).app ?_ rfl
    exact (State.countReads_evolves ..).mono rfl

theorem execDeriv_ends : ∀ x0 s, Ends 62989826 s (execDeriv x0 s) := by
  intro x0 s
  unfold execDeriv
  unfold onRunning
  refine .onQueue ?_
  dsimp only
  split
  · refine .next ?_
    exact .refl
  · refine .next ?_
    split
    · exact (State.finish_evolves ..).mono rfl
    · refine .ite ?_ ?_
      · exact (State.finish_evolves ..).mono rfl
      · split
        · refine (State.finish_evolves ..).app ?_ rfl
          exact (State.countBad_evolves ..).mono rfl
        · exact (State.runDeriv_evolves ..).mono rfl

theorem State.countMatrix_evolves : ∀ s x1 x2 x3 x4, Evolves 65536 s (State.countMatrix s x1 x2 x3 x4) := by
  intro s x1 x2 x3 x4
  unfold State.countMatrix
  refine (State.count_evolves ..).app ?_ rfl
  refine (State.count_evolves ..).app ?_ rfl
  exact (State.count_evolves ..).mono rfl

theorem State.storeRows_evolves : ∀ s x1 x2 x3 x4 x5, Evolves 62980098 s (State.storeRows s x1 x2 x3 x4 x5) := by
  intro s x1 x2 x3 x4 x5
  unfold State.storeRows
  dsimp only
  refine .foldl ?_ fun v a => ?_
  · exact .refl
  · refine (State.count_evolves ..).app ?_ rfl
    refine (State.count_evolves ..).app ?_ rfl
    exact (State.writeAll_evolves ..).mono rfl

theorem State.keepTotals_evolves : ∀ s x1 x2 x3 x4 x5 x6, Evolves 4294967296 s (State.keepTotals s x1 x2 x3 x4 x5 x6) := by
  intro s x1 x2 x3 x4 x5 x6
  unfold State.keepTotals
  exact (State.setGrad_evolves ..).mono rfl

theorem State.runWgrad_evolves : ∀ s x1 x2 x3 x4 x5 x6 x7, Evolves 4357957122 s (State.runWgrad s x1 x2 x3 x4 x5 x6 x7) := by
  intro s x1 x2 x3 x4 x5 x6 x7
  unfold State.runWgrad
  dsimp only
  refine (State.releaseSlot_evolves ..).app ?_ rfl
  refine (State.finish_evolves ..).app ?_ rfl
  refine .ite ?_ ?_
  · refine (State.setGrad_evolves ..).app ?_ rfl
    refine .ite ?_ ?_
    · refine (State.storeRows_evolves ..).app ?_ rfl
      refine (State.countMatrix_evolves ..).app ?_ rfl
      exact (State.keepTotals_evolves ..).mono rfl
    · refine (State.writeAt_evolves ..).app ?_ rfl
      refine (State.storeRows_evolves ..).app ?_ rfl
      refine (State.countMatrix_evolves ..).app ?_ rfl
      exact (State.keepTotals_evolves ..).mono rfl
  · refine .ite ?_ ?_
    · refine (State.storeRows_evolves ..).app ?_ rfl
      refine (State.countMatrix_evolves ..).app ?_ rfl
      exact (State.keepTotals_evolves ..).mono rfl
    · refine (State.writeAt_evolves ..).app ?_ rfl
      refine (State.storeRows_evolves ..).app ?_ rfl
      refine (State.countMatrix_evolves ..).app ?_ rfl
      exact (State.keepTotals_evolves ..).mono rfl

theorem execWgrad_ends : ∀ x0 x1 s, Ends 4357957122 s (execWgrad x0 x1 s) := by
  intro x0 x1 s
  unfold execWgrad
  unfold onRunning
  refine .onQueue ?_
  dsimp only
  split
  · refine .next ?_
    exact .refl
  · refine .next ?_
    split
    · exact (State.finish_evolves ..).mono rfl
    · split
      · exact (State.finish_evolves ..).mono rfl
      · split
        · exact (State.fail_evolves ..).mono rfl
        · refine .ite ?_ ?_
          · exact (State.finish_evolves ..).mono rfl
          · split
            · exact (State.finish_evolves ..).mono rfl
            · unfold State.access
              dsimp only
              split
              · exact (State.fail_evolves ..).mono rfl
              · refine .ite ?_ ?_
                · refine (State.finish_evolves ..).app ?_ rfl
                  exact (State.countReads_evolves ..).mono rfl
                · refine (State.runWgrad_evolves ..).app ?_ rfl
                  exact (State.countReads_evolves ..).mono rfl

theorem State.runIngrad_evolves : ∀ s x1 x2 x3 x4, Evolves 4357956610 s (State.runIngrad s x1 x2 x3 x4) := by
  intro s x1 x2 x3 x4
  unfold State.runIngrad
  dsimp only
  refine (State.finish_evolves ..).app ?_ rfl
  refine (State.storeRows_evolves ..).app ?_ rfl
  refine (State.countMatrix_evolves ..).app ?_ rfl
  exact (State.keepTotals_evolves ..).mono rfl

theorem execIngrad_ends : ∀ x0 x1 s, Ends 4357956610 s (execIngrad x0 x1 s) := by
  intro x0 x1 s
  unfold execIngrad
  unfold onRunning
  refine .onQueue ?_
  dsimp only
  split
  · refine .next ?_
    exact .refl
  · refine .next ?_
    split
    · exact (State.finish_evolves ..).mono rfl
    · split
      · exact (State.finish_evolves ..).mono rfl
      · split
        · exact (State.finish_evolves ..).mono rfl
        · unfold State.access
          dsimp only
          split
          · exact (State.fail_evolves ..).mono rfl
          · refine .ite ?_ ?_
            · refine (State.finish_evolves ..).app ?_ rfl
              exact (State.countReads_evolves ..).mono rfl
            · refine (State.runIngrad_evolves ..).app ?_ rfl
              exact (State.countReads_evolves ..).mono rfl

theorem State.putRecords_evolves : ∀ s x1 x2 x3 x4, Evolves 4324392960 s (State.putRecords s x1 x2 x3 x4) := by
  intro s x1 x2 x3 x4
  unfold State.putRecords
  dsimp only
  refine .ite ?_ ?_
  · exact .refl
  · refine .ite ?_ ?_
    · exact (State.setGrad_evolves ..).mono rfl
    · split
      · exact .refl
      · refine .ite ?_ ?_
        · refine (State.setGrad_evolves ..).app ?_ rfl
          refine (State.writeMem_evolves ..).app ?_ rfl
          exact (State.count_evolves ..).mono rfl
        · refine (State.writeMem_evolves ..).app ?_ rfl
          exact (State.count_evolves ..).mono rfl

theorem State.runRow_evolves : ∀ s x1 x2 x3 x4, Evolves 4357956610 s (State.runRow s x1 x2 x3 x4) := by
  intro s x1 x2 x3 x4
  unfold State.runRow
  dsimp only
  refine (State.finish_evolves ..).app ?_ rfl
  refine (State.count_evolves ..).app ?_ rfl
  refine (State.putRecords_evolves ..).app ?_ rfl
  split
  · refine .ite ?_ ?_
    · refine (State.writeRows_evolves ..).app ?_ rfl
      exact (State.writeRows_evolves ..).mono rfl
    · refine (State.writeRows_evolves ..).app ?_ rfl
      exact (State.writeRows_evolves ..).mono rfl
  · exact (State.writeRows_evolves ..).mono rfl

theorem State.rowSlot_evolves {s t : State} {p phase st : Nat} {r : RowArgs} {a : Option Nat}
    (h : s.rowSlot p phase r = .placed t st a) : Evolves 549785240066 s t := by
  unfold State.rowSlot at h
  split at h
  · injection h with e; subst e; exact .refl
  · dsimp only at h
    split at h
    · next k =>
      injection h with e; subst e
      exact (State.noteSlot_evolves ..).app ((State.allocSlot_evolves k).mono rfl) rfl
    · next k => exact absurd h (k _ _ _)

theorem State.addColumns_evolves : ∀ s x1 x2 x3, Evolves 62980098 s (State.addColumns s x1 x2 x3) := by
  intro s x1 x2 x3
  unfold State.addColumns
  refine .ite ?_ ?_
  · exact .refl
  · dsimp only
    exact (State.writeAt_evolves ..).mono rfl

theorem State.runRowBack_evolves : ∀ s x1 x2 x3 x4 x5 x6 x7, Evolves 62989826 s (State.runRowBack s x1 x2 x3 x4 x5 x6 x7) := by
  intro s x1 x2 x3 x4 x5 x6 x7
  unfold State.runRowBack
  dsimp only
  refine .ite ?_ ?_
  · refine (State.releaseSlot_evolves ..).app ?_ rfl
    refine (State.finish_evolves ..).app ?_ rfl
    refine (State.addColumns_evolves ..).app ?_ rfl
    refine (State.addColumns_evolves ..).app ?_ rfl
    exact (State.writeRows_evolves ..).mono rfl
  · refine .ite ?_ ?_
    · refine (State.releaseSlot_evolves ..).app ?_ rfl
      refine (State.finish_evolves ..).app ?_ rfl
      exact (State.writeRows_evolves ..).mono rfl
    · refine (State.releaseSlot_evolves ..).app ?_ rfl
      refine (State.finish_evolves ..).app ?_ rfl
      exact (State.writeRows_evolves ..).mono rfl

theorem State.startRowBack_evolves : ∀ s x1 x2 x3 x4, Evolves 62989826 s (State.startRowBack s x1 x2 x3 x4) := by
  intro s x1 x2 x3 x4
  unfold State.startRowBack
  dsimp only
  refine .ite ?_ ?_
  · unfold State.access
    dsimp only
    split
    · exact (State.fail_evolves ..).mono rfl
    · refine (State.runRowBack_evolves ..).app ?_ rfl
      exact (State.countReads_evolves ..).mono rfl
  · split
    · exact (State.fail_evolves ..).mono rfl
    · split
      · exact (State.finish_evolves ..).mono rfl
      · unfold State.access
        dsimp only
        split
        · exact (State.fail_evolves ..).mono rfl
        · refine (State.runRowBack_evolves ..).app ?_ rfl
          exact (State.countReads_evolves ..).mono rfl

theorem execRow_ends : ∀ x0 s, Ends 554113771010 s (execRow x0 s) := by
  intro x0 s
  unfold execRow
  unfold onRunning
  refine .onQueue ?_
  dsimp only
  split
  · refine .next ?_
    exact .refl
  · refine .next ?_
    refine .ite ?_ ?_
    · exact (State.finish_evolves ..).mono rfl
    · split
      · exact (State.finish_evolves ..).mono rfl
      · refine .ite ?_ ?_
        · exact (State.startRowBack_evolves ..).mono rfl
        · unfold State.access
          dsimp only
          split
          · exact (State.fail_evolves ..).mono rfl
          · split
            · refine (State.fail_evolves ..).app ?_ rfl
              exact (State.countReads_evolves ..).mono rfl
            · unfold State.slotsWritable
              unfold State.access
              dsimp only
              split
              · refine (State.fail_evolves ..).app ?_ rfl
                exact (State.countReads_evolves ..).mono rfl
              · refine (State.runRow_evolves ..).app ?_ rfl
                refine (State.rowSlot_evolves (by assumption)).app ?_ rfl
                exact (State.countReads_evolves ..).mono rfl

theorem State.runMatmul_evolves : ∀ s x1 x2 x3, Evolves 4357956610 s (State.runMatmul s x1 x2 x3) := by
  intro s x1 x2 x3
  unfold State.runMatmul
  dsimp only
  refine (State.finish_evolves ..).app ?_ rfl
  refine .ite ?_ ?_
  · refine (State.storeRows_evolves ..).app ?_ rfl
    refine (State.storeRows_evolves ..).app ?_ rfl
    refine (State.countMatrix_evolves ..).app ?_ rfl
    exact (State.keepTotals_evolves ..).mono rfl
  · refine (State.storeRows_evolves ..).app ?_ rfl
    refine (State.countMatrix_evolves ..).app ?_ rfl
    exact (State.keepTotals_evolves ..).mono rfl

theorem execMatmul_ends : ∀ x0 x1 s, Ends 4357956610 s (execMatmul x0 x1 s) := by
  intro x0 x1 s
  unfold execMatmul
  unfold onRunning
  refine .onQueue ?_
  dsimp only
  split
  · refine .next ?_
    exact .refl
  · refine .next ?_
    split
    · exact (State.finish_evolves ..).mono rfl
    · unfold State.access
      dsimp only
      split
      · exact (State.fail_evolves ..).mono rfl
      · refine .ite ?_ ?_
        · refine (State.finish_evolves ..).app ?_ rfl
          exact (State.countReads_evolves ..).mono rfl
        · refine (State.runMatmul_evolves ..).app ?_ rfl
          exact (State.countReads_evolves ..).mono rfl

theorem execVprogLoad_ends : ∀ x0 x1 s, Ends 75264 s (execVprogLoad x0 x1 s) := by
  intro x0 x1 s
  unfold execVprogLoad
  unfold onRunning
  refine .onQueue ?_
  dsimp only
  split
  · refine .next ?_
    exact .refl
  · refine .next ?_
    refine .ite ?_ ?_
    · exact (State.finish_evolves ..).mono rfl
    · split
      · exact (State.finish_evolves ..).mono rfl
      · unfold State.fetch
        unfold State.access
        dsimp only
        split
        · exact (State.fail_evolves ..).mono rfl
        · split
          · refine (State.finish_evolves ..).app ?_ rfl
            exact (State.countReads_evolves ..).mono rfl
          · refine .ite ?_ ?_
            · refine (State.finish_evolves ..).app ?_ rfl
              exact (State.countReads_evolves ..).mono rfl
            · refine .ite ?_ ?_
              · refine (State.finish_evolves ..).app ?_ rfl
                exact (State.countReads_evolves ..).mono rfl
              · refine (State.finish_evolves ..).app ?_ rfl
                refine (State.modPart_evolves ..).app ?_ rfl
                exact (State.countReads_evolves ..).mono rfl

theorem execGroupLoad_ends : ∀ x0 x1 s, Ends 75264 s (execGroupLoad x0 x1 s) := by
  intro x0 x1 s
  unfold execGroupLoad
  unfold onRunning
  refine .onQueue ?_
  dsimp only
  split
  · refine .next ?_
    exact .refl
  · refine .next ?_
    refine .ite ?_ ?_
    · exact (State.finish_evolves ..).mono rfl
    · split
      · exact (State.finish_evolves ..).mono rfl
      · unfold State.fetch
        unfold State.access
        dsimp only
        split
        · exact (State.fail_evolves ..).mono rfl
        · split
          · refine (State.finish_evolves ..).app ?_ rfl
            exact (State.countReads_evolves ..).mono rfl
          · split
            · refine (State.finish_evolves ..).app ?_ rfl
              exact (State.countReads_evolves ..).mono rfl
            · refine (State.finish_evolves ..).app ?_ rfl
              refine (State.modPart_evolves ..).app ?_ rfl
              exact (State.countReads_evolves ..).mono rfl

end Sys2Proof.Machine
end

