-- ==== Sys2Proof/Laws/EvolvesSteps.lean ====
section
/-! SUPPORT. What snapshots, converters, milestones, collectives and memory may change: one lemma per function, with the mask of the components (compBit). -/

set_option Elab.async false

namespace Sys2Proof.Machine

open Sys2Proof Sys2Proof.Safety

theorem State.noteGathered_evolves : ∀ s x1 x2, Evolves 512 s (State.noteGathered s x1 x2) := by
  intro s x1 x2
  unfold State.noteGathered
  refine .ite ?_ ?_
  · exact (State.modPart_evolves ..).mono rfl
  · exact .refl

theorem State.putColl_evolves : ∀ s x1 x2, Evolves 512 s (State.putColl s x1 x2) := by
  intro s x1 x2
  unfold State.putColl
  exact (State.modPart_evolves ..).mono rfl

theorem State.collRaise_evolves : ∀ s x1 x2 x3, Evolves 34359804418 s (State.collRaise s x1 x2 x3) := by
  intro s x1 x2 x3
  unfold State.collRaise
  refine (State.sendAbort_evolves ..).app ?_ rfl
  exact (State.putColl_evolves ..).mono rfl

theorem State.placeOrders_evolves : ∀ s x1 x2 x3, Evolves 29425664 s (State.placeOrders s x1 x2 x3).1 := by
  intro s x1 x2 x3
  unfold State.placeOrders
  dsimp only
  exact (State.writeMem_evolves ..).mono rfl

theorem State.openInbox_evolves : ∀ s x1, Evolves 29425664 s (State.openInbox s x1).1 := by
  intro s x1
  unfold State.openInbox
  dsimp only
  refine .foldlBy Prod.fst ?_ fun v a => ?_
  · dsimp only
    refine (State.writeMem_evolves ..).app ?_ rfl
    refine (State.writeMem_evolves ..).app ?_ rfl
    exact (State.writeMem_evolves ..).mono rfl
  · split
    · exact (State.placeOrders_evolves ..).mono rfl
    · exact .refl

theorem State.sendData_evolves : ∀ s x1 x2 x3 x4 x5, Evolves 34359804418 s (State.sendData s x1 x2 x3 x4 x5).1 := by
  intro s x1 x2 x3 x4 x5
  unfold State.sendData
  refine .foldlBy Prod.fst ?_ fun v a => ?_
  · dsimp only
    exact .refl
  · dsimp only
    exact (State.sendPacket_evolves ..).mono rfl

theorem State.sendStages_evolves : ∀ s x1 x2 x3 x4, Evolves 34359804418 s (State.sendStages s x1 x2 x3 x4).1 := by
  intro s p c gather k
  induction k generalizing s c with
  | zero => exact .refl
  | succ k ih =>
    unfold State.sendStages
    dsimp only
    refine .iteFst .refl (.iteFst ((State.sendData_evolves ..).mono rfl) ?_)
    exact .trans ((State.sendData_evolves ..).mono rfl) (ih _ _)

theorem State.passOn_evolves : ∀ s x1 x2, Evolves 34359804418 s (State.passOn s x1 x2).1 := by
  intro s x1 x2
  unfold State.passOn
  refine .iteFst ?_ ?_
  · dsimp only
    exact (State.sendData_evolves ..).mono rfl
  · dsimp only
    exact .refl

theorem State.collGo_evolves : ∀ s x1 x2, Evolves 34389164546 s (State.collGo s x1 x2).1 := by
  intro s x1 x2
  unfold State.collGo
  dsimp only
  split
  · dsimp only
    exact (State.passOn_evolves ..).mono rfl
  · dsimp only
    exact (State.sendStages_evolves ..).mono rfl
  · refine .iteFst ?_ ?_
    · dsimp only
      exact .refl
    · refine .iteFst ?_ ?_
      · dsimp only
        exact .refl
      · dsimp only
        refine (State.sendStages_evolves ..).app ?_ rfl
        refine .iteFst ?_ ?_
        · dsimp only
          exact .refl
        · exact (State.openInbox_evolves ..).mono rfl
  · refine .iteFst ?_ ?_
    · dsimp only
      exact (State.sendStages_evolves ..).mono rfl
    · refine .iteFst ?_ ?_
      · dsimp only
        refine (State.sendStages_evolves ..).app ?_ rfl
        exact (State.sendStages_evolves ..).mono rfl
      · dsimp only
        exact (State.sendStages_evolves ..).mono rfl

theorem State.collStep_evolves : ∀ s x1 x2, Evolves 34389173762 s (State.collStep s x1 x2) := by
  intro s x1 x2
  unfold State.collStep
  dsimp only
  split
  · refine (State.collRaise_evolves ..).app ?_ rfl
    refine (State.putColl_evolves ..).app ?_ rfl
    exact (State.collGo_evolves ..).mono rfl
  · refine .ite ?_ ?_
    · refine (State.finish_evolves ..).app ?_ rfl
      refine (State.noteGathered_evolves ..).app ?_ rfl
      refine (State.dropColl_evolves ..).app ?_ rfl
      refine (State.putColl_evolves ..).app ?_ rfl
      exact (State.collGo_evolves ..).mono rfl
    · refine (State.putColl_evolves ..).app ?_ rfl
      exact (State.collGo_evolves ..).mono rfl

theorem State.readyFor_evolves : ∀ s x1 x2 x3, Evolves 34389173762 s (State.readyFor s x1 x2 x3) := by
  intro s x1 x2 x3
  unfold State.readyFor
  refine .ite ?_ ?_
  · exact .refl
  · dsimp only
    split
    · exact (State.collRaise_evolves ..).mono rfl
    · refine .ite ?_ ?_
      · refine (State.collStep_evolves ..).app ?_ rfl
        exact (State.putColl_evolves ..).mono rfl
      · exact (State.putColl_evolves ..).mono rfl

theorem State.readyIn_evolves : ∀ s x1 x2, Evolves 34389173762 s (State.readyIn s x1 x2) := by
  intro s x1 x2
  unfold State.readyIn
  dsimp only
  split
  · exact (State.readyFor_evolves ..).mono rfl
  · refine .ite ?_ ?_
    · exact .refl
    · exact (State.modPart_evolves ..).mono rfl

theorem State.sendReady_evolves : ∀ s x1 x2 x3, Evolves 34359804418 s (State.sendReady s x1 x2 x3).1 := by
  intro s x1 x2 x3
  unfold State.sendReady
  dsimp only
  exact (State.sendPacket_evolves ..).mono rfl

theorem State.sendReadys_evolves : ∀ s x1 x2 x3, Evolves 34359804418 s (State.sendReadys s x1 x2 x3).1 := by
  intro s x1 x2 x3
  unfold State.sendReadys
  refine .foldlBy Prod.fst ?_ fun v a => ?_
  · dsimp only
    exact .refl
  · dsimp only
    exact (State.sendReady_evolves ..).mono rfl

theorem State.stage_evolves : ∀ s x1 x2 x3, Evolves 29425664 s (State.stage s x1 x2 x3) := by
  intro s x1 x2 x3
  unfold State.stage
  refine .ite ?_ ?_
  · exact (State.writeMem_evolves ..).mono rfl
  · exact .refl

theorem State.writeWire_evolves : ∀ s x1 x2 x3 x4 x5, Evolves 29425664 s (State.writeWire s x1 x2 x3 x4 x5) := by
  intro s x1 x2 x3 x4 x5
  unfold State.writeWire
  dsimp only
  refine .ite ?_ ?_
  · refine (State.writeMem_evolves ..).app ?_ rfl
    exact (State.writeMem_evolves ..).mono rfl
  · exact (State.writeMem_evolves ..).mono rfl

theorem State.ownPart_evolves : ∀ s x1, Evolves 29425664 s (State.ownPart s x1).1 := by
  intro s x1
  unfold State.ownPart
  dsimp only
  split
  · dsimp only
    refine .foldl ?_ fun v a => ?_
    · exact .refl
    · exact (State.writeWire_evolves ..).mono rfl
  · refine .iteFst ?_ ?_
    · dsimp only
      refine .foldl ?_ fun v a => ?_
      · exact .refl
      · exact (State.writeWire_evolves ..).mono rfl
    · dsimp only
      exact .refl
  · dsimp only
    exact .refl
  · dsimp only
    refine .foldl ?_ fun v a => ?_
    · exact .refl
    · exact (State.stage_evolves ..).mono rfl

theorem State.runColl_evolves : ∀ s x1 x2, Evolves 34389173766 s (State.runColl s x1 x2) := by
  intro s x1 x2
  unfold State.runColl
  dsimp only
  split
  · refine .ite ?_ ?_
    · refine (State.collStep_evolves ..).app ?_ rfl
      refine .foldl ?_ fun v a => ?_
      · refine .ite ?_ ?_
        · refine (State.collRaise_evolves ..).app ?_ rfl
          refine (State.modPart_evolves ..).app ?_ rfl
          refine (State.sendReadys_evolves ..).app ?_ rfl
          refine (State.modPart_evolves ..).app ?_ rfl
          refine (State.ownPart_evolves ..).app ?_ rfl
          refine .ite ?_ ?_
          · refine .free ?_ rfl
            exact .refl
          · exact .refl
        · refine (State.modPart_evolves ..).app ?_ rfl
          refine (State.sendReadys_evolves ..).app ?_ rfl
          refine (State.modPart_evolves ..).app ?_ rfl
          refine (State.ownPart_evolves ..).app ?_ rfl
          refine .ite ?_ ?_
          · refine .free ?_ rfl
            exact .refl
          · exact .refl
      · exact (State.readyIn_evolves ..).mono rfl
    · refine .foldl ?_ fun v a => ?_
      · refine .ite ?_ ?_
        · refine (State.collRaise_evolves ..).app ?_ rfl
          refine (State.modPart_evolves ..).app ?_ rfl
          refine (State.sendReadys_evolves ..).app ?_ rfl
          refine (State.modPart_evolves ..).app ?_ rfl
          refine (State.ownPart_evolves ..).app ?_ rfl
          refine .ite ?_ ?_
          · refine .free ?_ rfl
            exact .refl
          · exact .refl
        · refine (State.modPart_evolves ..).app ?_ rfl
          refine (State.sendReadys_evolves ..).app ?_ rfl
          refine (State.modPart_evolves ..).app ?_ rfl
          refine (State.ownPart_evolves ..).app ?_ rfl
          refine .ite ?_ ?_
          · refine .free ?_ rfl
            exact .refl
          · exact .refl
      · exact (State.readyIn_evolves ..).mono rfl
  · refine .foldl ?_ fun v a => ?_
    · refine .ite ?_ ?_
      · refine (State.collRaise_evolves ..).app ?_ rfl
        refine (State.modPart_evolves ..).app ?_ rfl
        refine (State.sendReadys_evolves ..).app ?_ rfl
        refine (State.modPart_evolves ..).app ?_ rfl
        refine (State.ownPart_evolves ..).app ?_ rfl
        refine .ite ?_ ?_
        · refine .free ?_ rfl
          exact .refl
        · exact .refl
      · refine (State.modPart_evolves ..).app ?_ rfl
        refine (State.sendReadys_evolves ..).app ?_ rfl
        refine (State.modPart_evolves ..).app ?_ rfl
        refine (State.ownPart_evolves ..).app ?_ rfl
        refine .ite ?_ ?_
        · refine .free ?_ rfl
          exact .refl
        · exact .refl
    · exact (State.readyIn_evolves ..).mono rfl

theorem State.collAborted_evolves : ∀ s x1 x2 x3 x4, Evolves 549785249286 s (State.collAborted s x1 x2 x3 x4) := by
  intro s x1 x2 x3 x4
  unfold State.collAborted
  dsimp only
  refine (State.finish_evolves ..).app ?_ rfl
  refine (State.raise_evolves ..).app ?_ rfl
  refine (State.count_evolves ..).app ?_ rfl
  refine (State.dropColl_evolves ..).app ?_ rfl
  exact (State.openColl_evolves ..).mono rfl

theorem State.enterColl_evolves : ∀ s x1 x2 x3, Evolves 584144987654 s (State.enterColl s x1 x2 x3) := by
  intro s x1 x2 x3
  unfold State.enterColl
  dsimp only
  split
  · refine (State.collAborted_evolves ..).app ?_ rfl
    refine (State.modPart_evolves ..).app ?_ rfl
    exact (State.modPart_evolves ..).mono rfl
  · refine (State.runColl_evolves ..).app ?_ rfl
    refine (State.modPart_evolves ..).app ?_ rfl
    exact (State.modPart_evolves ..).mono rfl

theorem State.refuseColl_evolves : ∀ s x1 x2 x3 x4 x5, Evolves 34359813634 s (State.refuseColl s x1 x2 x3 x4 x5) := by
  intro s x1 x2 x3 x4 x5
  unfold State.refuseColl
  refine (State.finish_evolves ..).app ?_ rfl
  exact (State.sendAbort_evolves ..).mono rfl

theorem State.beginColl_evolves : ∀ s x1 x2 x3, Evolves 584144987654 s (State.beginColl s x1 x2 x3) := by
  intro s x1 x2 x3
  unfold State.beginColl
  dsimp only
  split
  · exact (State.finish_evolves ..).mono rfl
  · refine .ite ?_ ?_
    · exact (State.finish_evolves ..).mono rfl
    · refine .ite ?_ ?_
      · exact (State.finish_evolves ..).mono rfl
      · split
        · refine (State.refuseColl_evolves ..).app ?_ rfl
          exact (State.countBad_evolves ..).mono rfl
        · split
          · refine (State.refuseColl_evolves ..).app ?_ rfl
            exact (State.countReads_evolves ..).mono rfl
          · split
            · refine (State.refuseColl_evolves ..).app ?_ rfl
              refine (State.countBad_evolves ..).app ?_ rfl
              exact (State.countReads_evolves ..).mono rfl
            · refine (State.enterColl_evolves ..).app ?_ rfl
              refine (State.countReads_evolves ..).app ?_ rfl
              exact (State.countReads_evolves ..).mono rfl

theorem State.driveColl_evolves : ∀ s x1, Evolves 34389173762 s (State.driveColl s x1) := by
  intro s x1
  unfold State.driveColl
  dsimp only
  split
  · exact (State.collStep_evolves ..).mono rfl
  · exact .refl

theorem execHdmDecoderCommit_ends : ∀ x0 x1 s, Ends 512 s (execHdmDecoderCommit x0 x1 s) := by
  intro x0 x1 s
  unfold execHdmDecoderCommit
  refine .onFunction ?_
  refine .ite ?_ ?_
  · refine .next ?_
    exact .refl
  · refine .next ?_
    exact (State.modPart_evolves ..).mono rfl

theorem State.beginMirror_evolves : ∀ s x1 x2, Evolves 721554571778 s (State.beginMirror s x1 x2) := by
  intro s x1 x2
  unfold State.beginMirror
  dsimp only
  refine .ite ?_ ?_
  · refine (State.raise_evolves ..).app ?_ rfl
    exact (State.modPart_evolves ..).mono rfl
  · refine .ite ?_ ?_
    · refine (State.raise_evolves ..).app ?_ rfl
      exact (State.modPart_evolves ..).mono rfl
    · refine .twin ?_ rfl
      refine (State.imageSend_evolves ..).app ?_ rfl
      exact (State.modPart_evolves ..).mono rfl

theorem State.nextMirror_evolves : ∀ s x1 x2, Evolves 721554571778 s (State.nextMirror s x1 x2) := by
  intro s p l
  induction l generalizing s with
  | nil => exact .twin .refl rfl
  | cons ms l ih =>
    unfold State.nextMirror
    dsimp only
    refine .ite (.twin ((State.beginMirror_evolves ..).mono rfl) rfl) ?_
    exact .trans ((State.beginMirror_evolves ..).mono rfl) (ih _)

theorem execFarLinkTrained_ends : ∀ x0 s, Ends 17179869184 s (execFarLinkTrained x0 s) := by
  intro x0 s
  unfold execFarLinkTrained
  refine .onFarPort ?_
  dsimp only
  refine .ite ?_ ?_
  · refine .next ?_
    exact .refl
  · refine .next ?_
    refine .farPorts ?_ rfl
    exact .refl

theorem State.fpControl_evolves : ∀ s x1 x2, Evolves 4294983680 s (State.fpControl s x1 x2) := by
  intro s x1 x2
  unfold State.fpControl
  dsimp only
  refine .ite ?_ ?_
  · exact (State.setRegf_evolves ..).mono rfl
  · refine .ite ?_ ?_
    · refine (State.setGrad_evolves ..).app ?_ rfl
      exact (State.setRegf_evolves ..).mono rfl
    · refine (State.setGrad_evolves ..).app ?_ rfl
      exact (State.setRegf_evolves ..).mono rfl

theorem execSpillCopyDone_ends : ∀ x0 x1 x2 s, Ends 29426176 s (execSpillCopyDone x0 x1 x2 s) := by
  intro x0 x1 x2 s
  unfold execSpillCopyDone
  refine .onQuad ?_
  dsimp only
  split
  · refine .next ?_
    exact .refl
  · refine .ite ?_ ?_
    · refine .next ?_
      refine (State.modPart_evolves ..).app ?_ rfl
      refine (State.setEntry_evolves ..).app ?_ rfl
      refine (State.writeMem_evolves ..).app ?_ rfl
      exact (State.modPart_evolves ..).mono rfl
    · refine .next ?_
      refine (State.setEntry_evolves ..).app ?_ rfl
      exact (State.modPart_evolves ..).mono rfl

theorem execFarLinkDown_ends : ∀ x0 s, Ends 566935749122 s (execFarLinkDown x0 s) := by
  intro x0 s
  unfold execFarLinkDown
  refine .onFarPort ?_
  dsimp only
  refine .ite ?_ ?_
  · refine .next ?_
    exact .refl
  · refine .next ?_
    refine .foldl ?_ fun v a => ?_
    · refine .farPorts ?_ rfl
      exact .refl
    · exact (State.raise_evolves ..).mono rfl

theorem State.failDesc_evolves : ∀ s x1 x2, Evolves 590386112006 s (State.failDesc s x1 x2) := by
  intro s x1 x2
  unfold State.failDesc
  dsimp only
  split
  · exact .refl
  · refine .ite ?_ ?_
    · exact (State.failProgram_evolves ..).mono rfl
    · refine .ite ?_ ?_
      · exact (State.endProducts_evolves ..).mono rfl
      · split
        · refine (State.finish_evolves ..).app ?_ rfl
          refine (State.dropColl_evolves ..).app ?_ rfl
          refine (State.openColl_evolves ..).app ?_ rfl
          exact (State.sendAbort_evolves ..).mono rfl
        · refine (State.finish_evolves ..).app ?_ rfl
          exact (State.modPart_evolves ..).mono rfl

theorem execFarTimeout_ends : ∀ x0 x1 s, Ends 590386112006 s (execFarTimeout x0 x1 s) := by
  intro x0 x1 s
  unfold execFarTimeout
  refine .onFarPort ?_
  refine .onQueue ?_
  split
  · refine .ite ?_ ?_
    · refine .next ?_
      refine (State.failDesc_evolves ..).app ?_ rfl
      exact (State.count_evolves ..).mono rfl
    · refine .next ?_
      exact .refl
  · refine .next ?_
    exact .refl

theorem State.stackEvent_evolves : ∀ s x1 x2 x3, Evolves 549755879938 s (State.stackEvent s x1 x2 x3) := by
  intro s x1 x2 x3
  unfold State.stackEvent
  exact (State.raiseAll_evolves ..).mono rfl

theorem State.countLanes_evolves : ∀ s x1 x2 x3, Evolves 558345814530 s (State.countLanes s x1 x2 x3) := by
  intro s x1 x2 x3
  unfold State.countLanes
  refine .foldl ?_ fun v a => ?_
  · exact .refl
  · dsimp only
    refine .ite ?_ ?_
    · refine (State.stackEvent_evolves ..).app ?_ rfl
      exact (State.setStack_evolves ..).mono rfl
    · exact (State.setStack_evolves ..).mono rfl

theorem State.patrolCorrect_evolves : ∀ s x1 x2 x3, Evolves 558362591746 s (State.patrolCorrect s x1 x2 x3) := by
  intro s x1 x2 x3
  unfold State.patrolCorrect
  dsimp only
  refine .ite ?_ ?_
  · refine .mgmt ?_ rfl
    refine (State.stackEvent_evolves ..).app ?_ rfl
    refine (State.countLanes_evolves ..).app ?_ rfl
    refine (State.count_evolves ..).app ?_ rfl
    refine (State.setStack_evolves ..).app ?_ rfl
    refine .raw ?_ rfl
    exact .refl
  · refine (State.countLanes_evolves ..).app ?_ rfl
    refine (State.count_evolves ..).app ?_ rfl
    refine (State.setStack_evolves ..).app ?_ rfl
    refine .raw ?_ rfl
    exact .refl

theorem execPatrolRead_ends : ∀ x0 x1 x2 x3 s, Ends 558370980354 s (execPatrolRead x0 x1 x2 x3 s) := by
  intro x0 x1 x2 x3 s
  unfold execPatrolRead
  refine .onStack ?_
  dsimp only
  refine .ite ?_ ?_
  · refine .next ?_
    exact .refl
  · refine .ite ?_ ?_
    · refine .next ?_
      refine (State.stackEvent_evolves ..).app ?_ rfl
      refine (State.countUncorr_evolves ..).app ?_ rfl
      refine (State.poisonBlock_evolves ..).app ?_ rfl
      exact (State.setStack_evolves ..).mono rfl
    · refine .ite ?_ ?_
      · refine .next ?_
        refine (State.patrolCorrect_evolves ..).app ?_ rfl
        exact (State.setStack_evolves ..).mono rfl
      · refine .next ?_
        exact (State.setStack_evolves ..).mono rfl

theorem State.loseStack_evolves : ∀ s x1, Evolves 29360128 s (State.loseStack s x1) := by
  intro s m
  unfold State.loseStack
  exact .put (.mem (x := s.mem.filter _) .refl rfl fun h => filter_wf _ h) rfl

theorem execStackReturn_ends : ∀ x0 x1 s, Ends 558375174662 s (execStackReturn x0 x1 s) := by
  intro x0 x1 s
  unfold execStackReturn
  refine .onStack ?_
  dsimp only
  refine .ite ?_ ?_
  · refine .next ?_
    exact .refl
  · refine .ite ?_ ?_
    · refine .next ?_
      refine (State.mgmtRecord_evolves ..).app ?_ rfl
      refine .mgmt ?_ rfl
      exact (State.setStack_evolves ..).mono rfl
    · refine .next ?_
      refine (State.stackEvent_evolves ..).app ?_ rfl
      refine (State.stackEvent_evolves ..).app ?_ rfl
      refine (State.setStack_evolves ..).app ?_ rfl
      exact (State.loseStack_evolves ..).mono rfl

theorem State.loseMirrors_evolves : ∀ s x1, Evolves 687194833410 s (State.loseMirrors s x1) := by
  intro s x1
  unfold State.loseMirrors
  dsimp only
  split
  · refine .ite ?_ ?_
    · refine (State.raise_evolves ..).app ?_ rfl
      refine .twin ?_ rfl
      exact .refl
    · exact .refl
  · exact .refl

theorem State.failRunning_evolves : ∀ s x1 x2, Evolves 590386112006 s (State.failRunning s x1 x2) := by
  intro s x1 x2
  unfold State.failRunning
  refine .foldl ?_ fun v a => ?_
  · exact .refl
  · split
    · refine .ite ?_ ?_
      · exact (State.failDesc_evolves ..).mono rfl
      · exact .refl
    · exact .refl

theorem State.collOffline_evolves : ∀ s x1 x2, Evolves 34359804418 s (State.collOffline s x1 x2) := by
  intro s x1 x2
  unfold State.collOffline
  refine .foldl ?_ fun v a => ?_
  · exact .refl
  · exact (State.collRaise_evolves ..).mono rfl

theorem State.stackOffline_evolves : ∀ s x1, Evolves 736415000070 s (State.stackOffline s x1) := by
  intro s x1
  unfold State.stackOffline
  dsimp only
  refine (State.stackEvent_evolves ..).app ?_ rfl
  refine (State.loseMirrors_evolves ..).app ?_ rfl
  refine (State.loseStack_evolves ..).app ?_ rfl
  split
  · refine (State.settleAll_evolves ..).app ?_ rfl
    refine (State.collOffline_evolves ..).app ?_ rfl
    refine (State.failRunning_evolves ..).app ?_ rfl
    exact (State.setStack_evolves ..).mono rfl
  · exact (State.setStack_evolves ..).mono rfl

theorem execStackTempSample_ends : ∀ x0 x1 s, Ends 736415000070 s (execStackTempSample x0 x1 s) := by
  intro x0 x1 s
  unfold execStackTempSample
  refine .onStack ?_
  dsimp only
  refine .ite ?_ ?_
  · refine .next ?_
    exact .refl
  · refine .ite ?_ ?_
    · refine .next ?_
      exact (State.setStack_evolves ..).mono rfl
    · refine .ite ?_ ?_
      · refine .next ?_
        exact (State.setStack_evolves ..).mono rfl
      · refine .next ?_
        refine .ite ?_ ?_
        · refine (State.stackOffline_evolves ..).app ?_ rfl
          refine (State.stackEvent_evolves ..).app ?_ rfl
          exact (State.setStack_evolves ..).mono rfl
        · refine (State.stackEvent_evolves ..).app ?_ rfl
          exact (State.setStack_evolves ..).mono rfl

theorem execCollWatchdogExpiry_ends : ∀ x0 x1 x2 s, Ends 34359804418 s (execCollWatchdogExpiry x0 x1 x2 s) := by
  intro x0 x1 x2 s
  unfold execCollWatchdogExpiry
  refine .onQuad ?_
  split
  · refine .next ?_
    exact .refl
  · refine .next ?_
    exact (State.collRaise_evolves ..).mono rfl

theorem execCollSettleExpiry_ends : ∀ x0 x1 x2 s, Ends 549785249286 s (execCollSettleExpiry x0 x1 x2 s) := by
  intro x0 x1 x2 s
  unfold execCollSettleExpiry
  refine .onQuad ?_
  split
  · refine .next ?_
    exact .refl
  · split
    · refine .next ?_
      exact (State.collAborted_evolves ..).mono rfl
    · refine .next ?_
      exact .refl

theorem execAbortReceive_ends : ∀ x0 x1 s, Ends 66048 s (execAbortReceive x0 x1 s) := by
  intro x0 x1 s
  unfold execAbortReceive
  refine .onQuad ?_
  dsimp only
  refine .ite ?_ ?_
  · refine .next ?_
    exact .refl
  · refine .ite ?_ ?_
    · refine .next ?_
      exact (State.dropDomain_evolves ..).mono rfl
    · split
      · refine .next ?_
        exact (State.putColl_evolves ..).mono rfl
      · refine .ite ?_ ?_
        · refine .next ?_
          exact .refl
        · refine .next ?_
          exact (State.modPart_evolves ..).mono rfl

theorem State.copyBlocks_evolves : ∀ s x1 x2 x3 x4, Evolves 29425664 s (State.copyBlocks s x1 x2 x3 x4).1 := by
  intro s x1 x2 x3 x4
  unfold State.copyBlocks
  dsimp only
  refine .foldl ?_ fun v a => ?_
  · exact .refl
  · exact (State.writeWire_evolves ..).mono rfl

theorem State.finalBlock_evolves : ∀ s x1 x2 x3, Evolves 29425664 s (State.finalBlock s x1 x2 x3) := by
  intro s x1 x2 x3
  unfold State.finalBlock
  dsimp only
  refine .ite ?_ ?_
  · exact (State.writeWire_evolves ..).mono rfl
  · exact (State.writeWire_evolves ..).mono rfl

theorem State.addBlocks_evolves : ∀ s x1 x2 x3, Evolves 29425664 s (State.addBlocks s x1 x2 x3).1 := by
  intro s c first l
  induction l generalizing s c first with
  | nil => exact .refl
  | cons w t ih =>
    unfold State.addBlocks
    split
    · exact ih _ _ _
    · dsimp only
      refine .trans (.ite ?_ ?_) (ih _ _ _)
      · exact (State.finalBlock_evolves ..).app ((State.stage_evolves ..).mono rfl) rfl
      · exact (State.stage_evolves ..).mono rfl

theorem State.collData_evolves : ∀ s x1 x2 x3, Evolves 29425664 s (State.collData s x1 x2 x3).1 := by
  intro s x1 x2 x3
  unfold State.collData
  dsimp only
  split
  · exact (State.addBlocks_evolves ..).mono rfl
  · refine .iteFst ?_ ?_
    · exact (State.addBlocks_evolves ..).mono rfl
    · exact (State.copyBlocks_evolves ..).mono rfl
  · exact (State.copyBlocks_evolves ..).mono rfl
  · dsimp only
    exact (State.copyBlocks_evolves ..).mono rfl
  · refine .iteFst ?_ ?_
    · exact (State.placeOrders_evolves ..).mono rfl
    · dsimp only
      exact .refl

theorem execCollDataReceive_ends : ∀ x0 s, Ends 34389173762 s (execCollDataReceive x0 s) := by
  intro x0 s
  unfold execCollDataReceive
  refine .onQuad ?_
  dsimp only
  split
  · refine .next ?_
    exact .refl
  · split
    · refine .next ?_
      exact (State.modPart_evolves ..).mono rfl
    · split
      · refine .next ?_
        exact (State.modPart_evolves ..).mono rfl
      · refine .ite ?_ ?_
        · refine .next ?_
          exact (State.modPart_evolves ..).mono rfl
        · refine .next ?_
          refine (State.collStep_evolves ..).app ?_ rfl
          refine (State.putColl_evolves ..).app ?_ rfl
          refine (State.collData_evolves ..).app ?_ rfl
          exact (State.modPart_evolves ..).mono rfl

theorem execReadyResend_ends : ∀ x0 x1 x2 s, Ends 34359804418 s (execReadyResend x0 x1 x2 s) := by
  intro x0 x1 x2 s
  unfold execReadyResend
  refine .onQuad ?_
  dsimp only
  split
  · refine .next ?_
    exact .refl
  · refine .ite ?_ ?_
    · refine .next ?_
      exact .refl
    · refine .next ?_
      refine .ite ?_ ?_
      · refine (State.collRaise_evolves ..).app ?_ rfl
        exact (State.sendReadys_evolves ..).mono rfl
      · exact (State.sendReadys_evolves ..).mono rfl

theorem execReadyReceive_ends : ∀ x0 x1 s, Ends 34389173762 s (execReadyReceive x0 x1 s) := by
  intro x0 x1 s
  unfold execReadyReceive
  refine .onQuad ?_
  refine .ite ?_ ?_
  · refine .next ?_
    exact .refl
  · refine .ite ?_ ?_
    · refine .next ?_
      exact (State.dropDomain_evolves ..).mono rfl
    · refine .next ?_
      exact (State.readyIn_evolves ..).mono rfl

theorem execHostWindowWrite_ends : ∀ x0 x1 x2 s, Ends 29425664 s (execHostWindowWrite x0 x1 x2 s) := by
  intro x0 x1 x2 s
  unfold execHostWindowWrite
  refine .onFunction ?_
  refine .ite ?_ ?_
  · refine .next ?_
    exact .refl
  · split
    · refine .next ?_
      exact .refl
    · refine .next ?_
      exact (State.writeMem_evolves ..).mono rfl

theorem State.poisonLine_evolves : ∀ s, Evolves 6 s (State.poisonLine s) := by
  intro s
  unfold State.poisonLine
  dsimp only
  refine .free ?_ rfl
  exact (State.emit_evolves ..).mono rfl

theorem execHostWindowRead_ends : ∀ x0 x1 s, Ends 65542 s (execHostWindowRead x0 x1 s) := by
  intro x0 x1 s
  unfold execHostWindowRead
  refine .onFunction ?_
  dsimp only
  refine .ite ?_ ?_
  · refine .next ?_
    exact (State.poisonLine_evolves ..).mono rfl
  · refine .ite ?_ ?_
    · refine .next ?_
      exact .refl
    · split
      · refine .next ?_
        exact .refl
      · refine .ite ?_ ?_
        · refine .next ?_
          exact (State.poisonLine_evolves ..).mono rfl
        · refine .ite ?_ ?_
          · refine .next ?_
            refine (State.poisonLine_evolves ..).app ?_ rfl
            exact (State.countUncorr_evolves ..).mono rfl
          · refine .next ?_
            refine (State.emit_evolves ..).app ?_ rfl
            exact (State.countReads_evolves ..).mono rfl

theorem State.fpData_evolves : ∀ s x1 x2, Evolves 16384 s (State.fpData s x1 x2) := by
  intro s x1 x2
  unfold State.fpData
  refine (State.setReg_evolves ..).app ?_ rfl
  exact (State.setReg_evolves ..).mono rfl

theorem State.rawWrite_evolves : ∀ s x1 x2, Evolves 16777216 s (State.rawWrite s x1 x2) := by
  intro s x1 x2
  unfold State.rawWrite
  refine .raw ?_ rfl
  exact .refl

theorem State.fpAccess_evolves : ∀ s x1 x2, Evolves 4324409348 s (State.fpAccess s x1 x2) := by
  intro s x1 x2
  unfold State.fpAccess
  dsimp only
  refine .ite ?_ ?_
  · refine (State.setGrad_evolves ..).app ?_ rfl
    refine .ite ?_ ?_
    · exact .refl
    · refine (State.fpData_evolves ..).app ?_ rfl
      exact (State.useFree_evolves ..).mono rfl
  refine .ite ?_ ?_
  · refine .ite ?_ ?_
    · refine (State.setGrad_evolves ..).app ?_ rfl
      exact (State.rawWrite_evolves ..).mono rfl
    · refine .ite ?_ ?_
      · refine (State.setGrad_evolves ..).app ?_ rfl
        exact (State.fpData_evolves ..).mono rfl
      · refine (State.setGrad_evolves ..).app ?_ rfl
        refine (State.fpData_evolves ..).app ?_ rfl
        exact (State.useFree_evolves ..).mono rfl
  · refine .ite ?_ ?_
    · refine .ite ?_ ?_
      · refine (State.setGrad_evolves ..).app ?_ rfl
        refine (State.writeMem_evolves ..).app ?_ rfl
        refine .ite ?_ ?_
        · exact .refl
        · exact (State.poisonBlock_evolves ..).mono rfl
      · refine (State.setGrad_evolves ..).app ?_ rfl
        refine (State.writeMem_evolves ..).app ?_ rfl
        refine .ite ?_ ?_
        · exact .refl
        · exact (State.countCorr_evolves ..).mono rfl
    · refine .ite ?_ ?_
      · refine (State.setGrad_evolves ..).app ?_ rfl
        refine (State.countUncorr_evolves ..).app ?_ rfl
        refine (State.fpData_evolves ..).app ?_ rfl
        exact (State.useFree_evolves ..).mono rfl
      · refine (State.setGrad_evolves ..).app ?_ rfl
        refine .ite ?_ ?_
        · refine (State.countCorr_evolves ..).app ?_ rfl
          exact (State.fpData_evolves ..).mono rfl
        · exact (State.fpData_evolves ..).mono rfl

theorem execFootpathComplete_ends : ∀ x0 x1 s, Ends 4324409348 s (execFootpathComplete x0 x1 s) := by
  intro x0 x1 s
  unfold execFootpathComplete
  refine .onDie ?_
  refine .ite ?_ ?_
  · refine .next ?_
    exact (State.fpAccess_evolves ..).mono rfl
  · refine .next ?_
    exact .refl

theorem State.setMilestone_evolves : ∀ s x1 x2, Evolves 4324327936 s (State.setMilestone s x1 x2) := by
  intro s x1 x2
  unfold State.setMilestone
  refine (State.modPart_evolves ..).app ?_ rfl
  exact (State.clearStash_evolves ..).mono rfl

theorem State.restoreGroup_evolves : ∀ s x1 x2 x3 x4, Evolves 29426176 s (State.restoreGroup s x1 x2 x3 x4) := by
  intro s x1 x2 x3 x4
  unfold State.restoreGroup
  dsimp only
  refine (State.modPart_evolves ..).app ?_ rfl
  refine .foldl ?_ fun v a => ?_
  · exact .refl
  · refine (State.writeMem_evolves ..).app ?_ rfl
    exact (State.writeMem_evolves ..).mono rfl

theorem execRestore_ends : ∀ x0 x1 s, Ends 4324402688 s (execRestore x0 x1 s) := by
  intro x0 x1 s
  unfold execRestore
  unfold onRunning
  refine .onQueue ?_
  dsimp only
  split
  · refine .next ?_
    exact .refl
  · refine .next ?_
    refine .ite ?_ ?_
    · exact (State.finish_evolves ..).mono rfl
    · refine .ite ?_ ?_
      · exact .refl
      · split
        · exact (State.finish_evolves ..).mono rfl
        · unfold State.fetch
          unfold State.access
          dsimp only
          split
          · exact (State.fail_evolves ..).mono rfl
          · split
            · refine (State.finish_evolves ..).app ?_ rfl
              exact (State.countReads_evolves ..).mono rfl
            · split
              · refine (State.finish_evolves ..).app ?_ rfl
                exact (State.countReads_evolves ..).mono rfl
              · split
                · refine (State.fail_evolves ..).app ?_ rfl
                  exact (State.countReads_evolves ..).mono rfl
                · refine (State.finish_evolves ..).app ?_ rfl
                  refine .ite ?_ ?_
                  · refine (State.setMilestone_evolves ..).app ?_ rfl
                    refine .foldl ?_ fun v a => ?_
                    · refine (State.countReads_evolves ..).app ?_ rfl
                      exact (State.countReads_evolves ..).mono rfl
                    · exact (State.restoreGroup_evolves ..).mono rfl
                  · refine .foldl ?_ fun v a => ?_
                    · refine (State.countReads_evolves ..).app ?_ rfl
                      exact (State.countReads_evolves ..).mono rfl
                    · exact (State.restoreGroup_evolves ..).mono rfl

theorem State.takeSnapshot_evolves : ∀ s x1 x2 x3 x4, Evolves 62989314 s (State.takeSnapshot s x1 x2 x3 x4) := by
  intro s x1 x2 x3 x4
  unfold State.takeSnapshot
  dsimp only
  refine .ite ?_ ?_
  · exact (State.finish_evolves ..).mono rfl
  · split
    · exact (State.finish_evolves ..).mono rfl
    · unfold State.access
      dsimp only
      split
      · exact (State.fail_evolves ..).mono rfl
      · refine .ite ?_ ?_
        · refine (State.finish_evolves ..).app ?_ rfl
          exact (State.countReads_evolves ..).mono rfl
        · refine (State.finish_evolves ..).app ?_ rfl
          refine (State.writeAt_evolves ..).app ?_ rfl
          exact (State.countReads_evolves ..).mono rfl

theorem State.readSnapshot_evolves : ∀ s x1 x2 x3, Evolves 62989826 s (State.readSnapshot s x1 x2 x3) := by
  intro s x1 x2 x3
  unfold State.readSnapshot
  dsimp only
  refine .ite ?_ ?_
  · exact .refl
  · split
    · exact .refl
    · refine (State.takeSnapshot_evolves ..).app ?_ rfl
      exact (State.modPart_evolves ..).mono rfl

theorem execSnapshotDeferredStart_ends : ∀ x0 x1 s, Ends 62989826 s (execSnapshotDeferredStart x0 x1 s) := by
  intro x0 x1 s
  unfold execSnapshotDeferredStart
  unfold onRunning
  refine .onQueue ?_
  dsimp only
  split
  · refine .next ?_
    exact .refl
  · refine .next ?_
    refine .ite ?_ ?_
    · exact (State.readSnapshot_evolves ..).mono rfl
    · exact .refl

theorem execSnapshot_ends : ∀ x0 x1 s, Ends 62989826 s (execSnapshot x0 x1 s) := by
  intro x0 x1 s
  unfold execSnapshot
  unfold onRunning
  refine .onQueue ?_
  dsimp only
  split
  · refine .next ?_
    exact .refl
  · refine .next ?_
    refine .ite ?_ ?_
    · exact .refl
    · exact (State.readSnapshot_evolves ..).mono rfl

theorem State.snapshotReaders_evolves : ∀ s x1 x2, Evolves 512 s (State.snapshotReaders s x1 x2) := by
  intro s x1 x2
  unfold State.snapshotReaders
  dsimp only
  exact (State.modPart_evolves ..).mono rfl

theorem State.dueMirror_evolves : ∀ s x1 x2, Evolves 721554571778 s (State.dueMirror s x1 x2) := by
  intro s x1 x2
  unfold State.dueMirror
  dsimp only
  refine .ite ?_ ?_
  · exact .refl
  · refine .ite ?_ ?_
    · refine .twin ?_ rfl
      exact (State.modPart_evolves ..).mono rfl
    · refine (State.beginMirror_evolves ..).app ?_ rfl
      exact (State.modPart_evolves ..).mono rfl

theorem State.renewCounters_evolves : ∀ s x1, Evolves 65536 s (State.renewCounters s x1) := by
  intro s x1
  unfold State.renewCounters
  refine .counters ?_ rfl
  exact .refl

theorem State.closeDie_evolves : ∀ s x1 x2, Evolves 201326592 s (State.closeDie s x1 x2) := by
  intro s x1 x2
  unfold State.closeDie
  dsimp only
  exact (State.modTiles_evolves ..).mono rfl

theorem State.watchLayer_evolves : ∀ s x1 x2 x3 x4 x5, Evolves 549755879938 s (State.watchLayer s x1 x2 x3 x4 x5) := by
  intro s x1 x2 x3 x4 x5
  unfold State.watchLayer
  dsimp only
  refine .ite ?_ ?_
  · refine (State.modPart_evolves ..).app ?_ rfl
    refine (State.raise_evolves ..).app ?_ rfl
    exact (State.modPart_evolves ..).mono rfl
  · exact (State.modPart_evolves ..).mono rfl

theorem State.normWatch_evolves : ∀ s x1, Evolves 554050847234 s (State.normWatch s x1) := by
  intro s x1
  unfold State.normWatch
  dsimp only
  refine .foldl ?_ fun v a => ?_
  · refine .foldl ?_ fun v a => ?_
    · refine .foldl ?_ fun v a => ?_
      · exact .refl
      · exact (State.setGrad_evolves ..).mono rfl
    · exact (State.watchLayer_evolves ..).mono rfl
  · exact (State.watchLayer_evolves ..).mono rfl

theorem State.closeMilestone_evolves : ∀ s x1, Evolves 1001764274694 s (State.closeMilestone s x1) := by
  intro s x1
  unfold State.closeMilestone
  dsimp only
  refine (State.wmMilestone_evolves ..).app ?_ rfl
  refine (State.dueMirror_evolves ..).app ?_ rfl
  refine (State.snapshotReaders_evolves ..).app ?_ rfl
  refine (State.modPart_evolves ..).app ?_ rfl
  refine (State.clearStash_evolves ..).app ?_ rfl
  refine (State.renewCounters_evolves ..).app ?_ rfl
  refine (State.applyStaged_evolves ..).app ?_ rfl
  refine .foldl ?_ fun v a => ?_
  · refine .foldl ?_ fun v a => ?_
    · refine .ite ?_ ?_
      · refine (State.modPart_evolves ..).app ?_ rfl
        refine (State.normWatch_evolves ..).app ?_ rfl
        exact (State.modPart_evolves ..).mono rfl
      · refine (State.normWatch_evolves ..).app ?_ rfl
        exact (State.modPart_evolves ..).mono rfl
    · exact (State.closeDie_evolves ..).mono rfl
  · exact (State.reassignReserves_evolves ..).mono rfl

theorem execMilestoneClosure_ends : ∀ x0 s, Ends 1001764283910 s (execMilestoneClosure x0 s) := by
  intro x0 s
  unfold execMilestoneClosure
  refine .onQuad ?_
  dsimp only
  split
  · refine .next ?_
    exact .refl
  · refine .next ?_
    refine (State.settleAll_evolves ..).app ?_ rfl
    refine (State.finish_evolves ..).app ?_ rfl
    exact (State.closeMilestone_evolves ..).mono rfl

theorem execMilestone_ends : ∀ x0 s, Ends 1024 s (execMilestone x0 s) := by
  intro x0 s
  unfold execMilestone
  unfold onRunning
  refine .onQueue ?_
  dsimp only
  split
  · refine .next ?_
    exact .refl
  · refine .next ?_
    exact (State.modWork_evolves ..).mono rfl

theorem execOrderGather_ends : ∀ x0 s, Ends 584144987654 s (execOrderGather x0 s) := by
  intro x0 s
  unfold execOrderGather
  unfold collBegins
  unfold onRunning
  refine .onQueue ?_
  dsimp only
  split
  · refine .next ?_
    exact .refl
  · refine .next ?_
    refine .ite ?_ ?_
    · exact (State.driveColl_evolves ..).mono rfl
    · refine (State.beginColl_evolves ..).app ?_ rfl
      exact (State.modWork_evolves ..).mono rfl

theorem execBroadcast_ends : ∀ x0 s, Ends 584144987654 s (execBroadcast x0 s) := by
  intro x0 s
  unfold execBroadcast
  unfold collBegins
  unfold onRunning
  refine .onQueue ?_
  dsimp only
  split
  · refine .next ?_
    exact .refl
  · refine .next ?_
    refine .ite ?_ ?_
    · exact (State.driveColl_evolves ..).mono rfl
    · refine (State.beginColl_evolves ..).app ?_ rfl
      exact (State.modWork_evolves ..).mono rfl

theorem execAllReduce_ends : ∀ x0 s, Ends 584144987654 s (execAllReduce x0 s) := by
  intro x0 s
  unfold execAllReduce
  unfold collBegins
  unfold onRunning
  refine .onQueue ?_
  dsimp only
  split
  · refine .next ?_
    exact .refl
  · refine .next ?_
    refine .ite ?_ ?_
    · exact (State.driveColl_evolves ..).mono rfl
    · refine (State.beginColl_evolves ..).app ?_ rfl
      exact (State.modWork_evolves ..).mono rfl

theorem execAllGather_ends : ∀ x0 s, Ends 584144987654 s (execAllGather x0 s) := by
  intro x0 s
  unfold execAllGather
  unfold collBegins
  unfold onRunning
  refine .onQueue ?_
  dsimp only
  split
  · refine .next ?_
    exact .refl
  · refine .next ?_
    refine .ite ?_ ?_
    · exact (State.driveColl_evolves ..).mono rfl
    · refine (State.beginColl_evolves ..).app ?_ rfl
      exact (State.modWork_evolves ..).mono rfl

theorem execReduceScatter_ends : ∀ x0 s, Ends 584144987654 s (execReduceScatter x0 s) := by
  intro x0 s
  unfold execReduceScatter
  unfold collBegins
  unfold onRunning
  refine .onQueue ?_
  dsimp only
  split
  · refine .next ?_
    exact .refl
  · refine .next ?_
    refine .ite ?_ ?_
    · exact (State.driveColl_evolves ..).mono rfl
    · refine (State.beginColl_evolves ..).app ?_ rfl
      exact (State.modWork_evolves ..).mono rfl

theorem execCollGroup_ends : ∀ x0 x1 s, Ends 75264 s (execCollGroup x0 x1 s) := by
  intro x0 x1 s
  unfold execCollGroup
  unfold onRunning
  refine .onQueue ?_
  dsimp only
  split
  · refine .next ?_
    exact .refl
  · refine .next ?_
    split
    · exact (State.finish_evolves ..).mono rfl
    · unfold State.fetch
      unfold State.access
      dsimp only
      split
      · exact (State.fail_evolves ..).mono rfl
      · split
        · refine (State.finish_evolves ..).app ?_ rfl
          exact (State.countReads_evolves ..).mono rfl
        · refine .ite ?_ ?_
          · refine (State.finish_evolves ..).app ?_ rfl
            exact (State.countReads_evolves ..).mono rfl
          · refine .ite ?_ ?_
            · refine (State.finish_evolves ..).app ?_ rfl
              exact (State.countReads_evolves ..).mono rfl
            · split
              · refine (State.fail_evolves ..).app ?_ rfl
                exact (State.countReads_evolves ..).mono rfl
              · split
                · refine (State.finish_evolves ..).app ?_ rfl
                  refine (State.countReads_evolves ..).app ?_ rfl
                  exact (State.countReads_evolves ..).mono rfl
                · split
                  · refine (State.finish_evolves ..).app ?_ rfl
                    refine (State.countReads_evolves ..).app ?_ rfl
                    exact (State.countReads_evolves ..).mono rfl
                  · refine .ite ?_ ?_
                    · refine (State.finish_evolves ..).app ?_ rfl
                      refine (State.countReads_evolves ..).app ?_ rfl
                      exact (State.countReads_evolves ..).mono rfl
                    · refine (State.finish_evolves ..).app ?_ rfl
                      refine (State.modPart_evolves ..).app ?_ rfl
                      refine (State.countReads_evolves ..).app ?_ rfl
                      exact (State.countReads_evolves ..).mono rfl

end Sys2Proof.Machine
end

