-- ==== Sys2Proof/Laws/EvolvesControl.lean ====
section
/-! SUPPORT. What pairing, registers, partitions, security, start-up and management may change: one lemma per function, with the mask of the components (compBit). -/

set_option Elab.async false

namespace Sys2Proof.Machine

open Sys2Proof Sys2Proof.Safety

theorem execIdeKeyManagement_ends : ∀ x0 x1 x2 x3 x4 s, Ends 514 s (execIdeKeyManagement x0 x1 x2 x3 x4 s) := by
  intro x0 x1 x2 x3 x4 s
  unfold execIdeKeyManagement
  unfold spdm
  refine .onFunction ?_
  refine .ite ?_ ?_
  · refine .next ?_
    exact .refl
  · refine .ite ?_ ?_
    · refine .next ?_
      refine (State.emit_evolves ..).app ?_ rfl
      exact (State.modPart_evolves ..).mono rfl
    · refine .next ?_
      exact (State.emit_evolves ..).mono rfl

theorem State.sendReturn_evolves : ∀ s, Evolves 171798757378 s (State.sendReturn s) := by
  intro s
  unfold State.sendReturn
  dsimp only
  split
  · refine .twin ?_ rfl
    exact .refl
  · refine (State.imageSend_evolves ..).app ?_ rfl
    refine .twin ?_ rfl
    exact .refl

theorem execReturnRequestReceive_ends : ∀ s, Ends 171798757378 s (execReturnRequestReceive s) := by
  intro s
  unfold execReturnRequestReceive
  unfold State.twinMessage
  refine .ite ?_ ?_
  · refine .next ?_
    exact (State.dropDomain_evolves ..).mono rfl
  · refine .ite ?_ ?_
    · refine .next ?_
      exact .refl
    · refine .ite ?_ ?_
      · refine .next ?_
        refine .twin ?_ rfl
        exact .refl
      · refine .next ?_
        exact (State.sendReturn_evolves ..).mono rfl

theorem execReturnConfirmed_ends : ∀ s, Ends 687194833410 s (execReturnConfirmed s) := by
  intro s
  unfold execReturnConfirmed
  unfold State.twinMessage
  refine .ite ?_ ?_
  · refine .next ?_
    exact (State.dropDomain_evolves ..).mono rfl
  · dsimp only
    refine .ite ?_ ?_
    · refine .next ?_
      refine .twin ?_ rfl
      exact .refl
    · refine .next ?_
      unfold State.onTwin
      dsimp only
      split
      · refine (State.raise_evolves ..).app ?_ rfl
        refine .twin ?_ rfl
        exact .refl
      · refine .twin ?_ rfl
        exact .refl

theorem State.sendPull_evolves : ∀ s, Evolves 171798757378 s (State.sendPull s) := by
  intro s
  unfold State.sendPull
  refine (State.pairingSend_evolves ..).app ?_ rfl
  refine .twin ?_ rfl
  exact .refl

theorem execMirrorSendComplete_ends : ∀ s, Ends 721554571778 s (execMirrorSendComplete s) := by
  intro s
  unfold execMirrorSendComplete
  refine .ite ?_ ?_
  · refine .next ?_
    exact .refl
  · refine .next ?_
    unfold State.onTwin
    dsimp only
    split
    · refine (State.nextMirror_evolves ..).app ?_ rfl
      refine .ite ?_ ?_
      · refine (State.sendReturn_evolves ..).app ?_ rfl
        refine .ite ?_ ?_
        · refine (State.sendPull_evolves ..).app ?_ rfl
          refine (State.modPart_evolves ..).app ?_ rfl
          refine .twin ?_ rfl
          exact .refl
        · refine (State.modPart_evolves ..).app ?_ rfl
          refine .twin ?_ rfl
          exact .refl
      · refine .ite ?_ ?_
        · refine (State.sendPull_evolves ..).app ?_ rfl
          refine (State.modPart_evolves ..).app ?_ rfl
          refine .twin ?_ rfl
          exact .refl
        · refine (State.modPart_evolves ..).app ?_ rfl
          refine .twin ?_ rfl
          exact .refl
    · exact .refl

theorem execRangeZeroingComplete_ends : ∀ x0 s, Ends 549785174016 s (execRangeZeroingComplete x0 s) := by
  intro x0 s
  unfold execRangeZeroingComplete
  dsimp only
  split
  · refine .next ?_
    exact .refl
  · refine .ite ?_ ?_
    · refine .next ?_
      exact .refl
    · refine .next ?_
      refine .mgmt ?_ rfl
      exact (State.zeroMem_evolves ..).mono rfl

theorem State.fieldHeld_evolves : ∀ s x1 x2 x3 x4 x5, Evolves 549755879942 s (State.fieldHeld s x1 x2 x3 x4 x5) := by
  intro s x1 x2 x3 x4 x5
  unfold State.fieldHeld
  dsimp only
  split
  · exact (State.raise_evolves ..).mono rfl
  · exact (State.mgmtRecord_evolves ..).mono rfl

theorem State.pullTwin_evolves : ∀ s, Evolves 171798757378 s (State.pullTwin s) := by
  intro s
  unfold State.pullTwin
  refine .ite ?_ ?_
  · exact .refl
  · refine .ite ?_ ?_
    · refine .twin ?_ rfl
      exact .refl
    · exact (State.sendPull_evolves ..).mono rfl

theorem State.unpairTwin_evolves : ∀ s, Evolves 137438953984 s (State.unpairTwin s) := by
  intro s
  unfold State.unpairTwin
  dsimp only
  refine .twin ?_ rfl
  exact (State.endMirrors_evolves ..).mono rfl

theorem State.switchQueue_evolves : ∀ s x1 x2, Evolves 9216 s (State.switchQueue s x1 x2) := by
  intro s x1 x2
  unfold State.switchQueue
  dsimp only
  refine .ite ?_ ?_
  · exact (State.setQueue_evolves ..).mono rfl
  · refine (State.settle_evolves ..).app ?_ rfl
    exact (State.setQueue_evolves ..).mono rfl

theorem State.switchPort_evolves : ∀ s x1 x2, Evolves 721554571778 s (State.switchPort s x1 x2) := by
  intro s x1 x2
  unfold State.switchPort
  dsimp only
  refine .ite ?_ ?_
  · refine .ite ?_ ?_
    · exact (State.setPort_evolves ..).mono rfl
    · exact .refl
  · refine .ite ?_ ?_
    · exact .refl
    · exact (State.portDown_evolves ..).mono rfl

theorem State.regAction_evolves : ∀ s x1 x2 x3 x4 x5 x6 x7, Evolves 1002736547334 s (State.regAction s x1 x2 x3 x4 x5 x6 x7) := by
  intro s x1 x2 x3 x4 x5 x6 x7
  unfold State.regAction
  dsimp only
  refine .ite ?_ ?_
  · refine .ite ?_ ?_
    · refine .ite ?_ ?_
      · exact (State.requestRefresh_evolves ..).mono rfl
      · exact .refl
    · refine .ite ?_ ?_
      · refine .ite ?_ ?_
        · refine (State.requestRetire_evolves ..).app ?_ rfl
          refine .ite ?_ ?_
          · exact (State.requestProbe_evolves ..).mono rfl
          · exact .refl
        · refine .ite ?_ ?_
          · exact (State.requestProbe_evolves ..).mono rfl
          · exact .refl
      · exact .refl
  · refine .ite ?_ ?_
    · refine .ite ?_ ?_
      · exact (State.fpControl_evolves ..).mono rfl
      · exact .refl
    · split
      · split
        · refine .ite ?_ ?_
          · exact .refl
          · exact (State.switchPort_evolves ..).mono rfl
        · exact .refl
      · refine .ite ?_ ?_
        · exact .refl
        · exact (State.switchQueue_evolves ..).mono rfl
      · refine .ite ?_ ?_
        · exact (State.setRing_evolves ..).mono rfl
        · exact .refl
      · refine .ite ?_ ?_
        · exact (State.modPart_evolves ..).mono rfl
        · exact .refl
      · refine .ite ?_ ?_
        · refine (State.pullTwin_evolves ..).app ?_ rfl
          refine .ite ?_ ?_
          · refine (State.seekTwin_evolves ..).app ?_ rfl
            refine .ite ?_ ?_
            · exact .refl
            · exact (State.announce_evolves ..).mono rfl
          · refine .ite ?_ ?_
            · exact (State.unpairTwin_evolves ..).mono rfl
            · exact .refl
        · refine .ite ?_ ?_
          · refine (State.seekTwin_evolves ..).app ?_ rfl
            refine .ite ?_ ?_
            · exact .refl
            · exact (State.announce_evolves ..).mono rfl
          · refine .ite ?_ ?_
            · exact (State.unpairTwin_evolves ..).mono rfl
            · exact .refl
      · exact (State.wmControl_evolves ..).mono rfl
      · exact .refl

theorem State.calWrite_evolves : ∀ s x1 x2 x3 x4, Evolves 1835008 s (State.calWrite s x1 x2 x3 x4) := by
  intro s x1 x2 x3 x4
  unfold State.calWrite
  dsimp only
  split
  · exact .refl
  · refine .ite ?_ ?_
    · exact .refl
    · refine .ite ?_ ?_
      · refine .put ?_ rfl
        exact .refl
      · refine .put ?_ rfl
        exact .refl

theorem State.clearField_evolves : ∀ s x1 x2 x3 x4 x5 x6, Evolves 8590000128 s (State.clearField s x1 x2 x3 x4 x5 x6) := by
  intro s x1 x2 x3 x4 x5 x6
  unfold State.clearField
  refine .ite ?_ ?_
  · exact (State.setStack_evolves ..).mono rfl
  · dsimp only
    split
    · exact .refl
    · refine .counters ?_ rfl
      exact .refl

theorem State.setRoute_evolves : ∀ s x1 x2 x3, Evolves 68719476736 s (State.setRoute s x1 x2 x3) := by
  intro s x1 x2 x3
  unfold State.setRoute
  refine .routes ?_ rfl
  exact .refl

theorem State.regWrite_evolves : ∀ s x1 x2 x3 x4 x5, Evolves 1080047826438 s (State.regWrite s x1 x2 x3 x4 x5) := by
  intro s x1 x2 x3 x4 x5
  unfold State.regWrite
  dsimp only
  split
  · exact .refl
  · refine .ite ?_ ?_
    · exact .refl
    · refine .ite ?_ ?_
      · refine (State.fieldHeld_evolves ..).app ?_ rfl
        refine (State.regAction_evolves ..).app ?_ rfl
        refine .ite ?_ ?_
        · refine (State.calWrite_evolves ..).app ?_ rfl
          refine .foldl ?_ fun v a => ?_
          · refine .ite ?_ ?_
            · refine .ite ?_ ?_
              · refine .ite ?_ ?_
                · exact .refl
                · exact (State.setRoute_evolves ..).mono rfl
              · refine .foldl ?_ fun v a => ?_
                · exact .refl
                · exact (State.setRegf_evolves ..).mono rfl
            · refine .ite ?_ ?_
              · refine .foldl ?_ fun v a => ?_
                · refine .ite ?_ ?_
                  · refine .ite ?_ ?_
                    · exact .refl
                    · exact (State.setRoute_evolves ..).mono rfl
                  · refine .foldl ?_ fun v a => ?_
                    · exact .refl
                    · exact (State.setRegf_evolves ..).mono rfl
                · exact (State.setRegf_evolves ..).mono rfl
              · refine .staged ?_ rfl
                refine .ite ?_ ?_
                · refine .ite ?_ ?_
                  · exact .refl
                  · exact (State.setRoute_evolves ..).mono rfl
                · refine .foldl ?_ fun v a => ?_
                  · exact .refl
                  · exact (State.setRegf_evolves ..).mono rfl
          · exact (State.clearField_evolves ..).mono rfl
        · refine .foldl ?_ fun v a => ?_
          · refine .ite ?_ ?_
            · refine .ite ?_ ?_
              · refine .ite ?_ ?_
                · exact .refl
                · exact (State.setRoute_evolves ..).mono rfl
              · refine .foldl ?_ fun v a => ?_
                · exact .refl
                · exact (State.setRegf_evolves ..).mono rfl
            · refine .ite ?_ ?_
              · refine .foldl ?_ fun v a => ?_
                · refine .ite ?_ ?_
                  · refine .ite ?_ ?_
                    · exact .refl
                    · exact (State.setRoute_evolves ..).mono rfl
                  · refine .foldl ?_ fun v a => ?_
                    · exact .refl
                    · exact (State.setRegf_evolves ..).mono rfl
                · exact (State.setRegf_evolves ..).mono rfl
              · refine .staged ?_ rfl
                refine .ite ?_ ?_
                · refine .ite ?_ ?_
                  · exact .refl
                  · exact (State.setRoute_evolves ..).mono rfl
                · refine .foldl ?_ fun v a => ?_
                  · exact .refl
                  · exact (State.setRegf_evolves ..).mono rfl
          · exact (State.clearField_evolves ..).mono rfl
      · refine (State.regAction_evolves ..).app ?_ rfl
        refine .ite ?_ ?_
        · refine (State.calWrite_evolves ..).app ?_ rfl
          refine .foldl ?_ fun v a => ?_
          · refine .ite ?_ ?_
            · refine .ite ?_ ?_
              · refine .ite ?_ ?_
                · exact .refl
                · exact (State.setRoute_evolves ..).mono rfl
              · refine .foldl ?_ fun v a => ?_
                · exact .refl
                · exact (State.setRegf_evolves ..).mono rfl
            · refine .ite ?_ ?_
              · refine .foldl ?_ fun v a => ?_
                · refine .ite ?_ ?_
                  · refine .ite ?_ ?_
                    · exact .refl
                    · exact (State.setRoute_evolves ..).mono rfl
                  · refine .foldl ?_ fun v a => ?_
                    · exact .refl
                    · exact (State.setRegf_evolves ..).mono rfl
                · exact (State.setRegf_evolves ..).mono rfl
              · refine .staged ?_ rfl
                refine .ite ?_ ?_
                · refine .ite ?_ ?_
                  · exact .refl
                  · exact (State.setRoute_evolves ..).mono rfl
                · refine .foldl ?_ fun v a => ?_
                  · exact .refl
                  · exact (State.setRegf_evolves ..).mono rfl
          · exact (State.clearField_evolves ..).mono rfl
        · refine .foldl ?_ fun v a => ?_
          · refine .ite ?_ ?_
            · refine .ite ?_ ?_
              · refine .ite ?_ ?_
                · exact .refl
                · exact (State.setRoute_evolves ..).mono rfl
              · refine .foldl ?_ fun v a => ?_
                · exact .refl
                · exact (State.setRegf_evolves ..).mono rfl
            · refine .ite ?_ ?_
              · refine .foldl ?_ fun v a => ?_
                · refine .ite ?_ ?_
                  · refine .ite ?_ ?_
                    · exact .refl
                    · exact (State.setRoute_evolves ..).mono rfl
                  · refine .foldl ?_ fun v a => ?_
                    · exact .refl
                    · exact (State.setRegf_evolves ..).mono rfl
                · exact (State.setRegf_evolves ..).mono rfl
              · refine .staged ?_ rfl
                refine .ite ?_ ?_
                · refine .ite ?_ ?_
                  · exact .refl
                  · exact (State.setRoute_evolves ..).mono rfl
                · refine .foldl ?_ fun v a => ?_
                  · exact .refl
                  · exact (State.setRegf_evolves ..).mono rfl
          · exact (State.clearField_evolves ..).mono rfl

theorem execFlush_ends : ∀ x0 x1 s, Ends 1080047826438 s (execFlush x0 x1 s) := by
  intro x0 x1 s
  unfold execFlush
  unfold writeVia
  refine .onVia ?_
  refine .ite ?_ ?_
  · refine .next ?_
    exact (State.regWrite_evolves ..).mono rfl
  · refine .next ?_
    exact .refl

theorem execAbort_ends : ∀ x0 x1 s, Ends 1080047826438 s (execAbort x0 x1 s) := by
  intro x0 x1 s
  unfold execAbort
  unfold writeVia
  refine .onVia ?_
  refine .ite ?_ ?_
  · refine .next ?_
    exact (State.regWrite_evolves ..).mono rfl
  · refine .next ?_
    exact .refl

theorem execSwTrig_ends : ∀ x0 x1 s, Ends 1080047826438 s (execSwTrig x0 x1 s) := by
  intro x0 x1 s
  unfold execSwTrig
  unfold writeVia
  refine .onVia ?_
  refine .ite ?_ ?_
  · refine .next ?_
    exact (State.regWrite_evolves ..).mono rfl
  · refine .next ?_
    exact .refl

theorem State.imageTaken_evolves : ∀ s x1 x2 x3 x4 x5, Evolves 721583931910 s (State.imageTaken s x1 x2 x3 x4 x5) := by
  intro s x1 x2 x3 x4 x5
  unfold State.imageTaken
  dsimp only
  split
  · refine (State.raise_evolves ..).app ?_ rfl
    refine .twin ?_ rfl
    refine (State.writeMem_evolves ..).app ?_ rfl
    refine .ite ?_ ?_
    · exact (State.useFree_evolves ..).mono rfl
    · exact .refl
  · refine .ite ?_ ?_
    · refine (State.pairingSend_evolves ..).app ?_ rfl
      refine (State.raise_evolves ..).app ?_ rfl
      refine .twin ?_ rfl
      refine (State.writeMem_evolves ..).app ?_ rfl
      refine .ite ?_ ?_
      · exact (State.useFree_evolves ..).mono rfl
      · exact .refl
    · refine .twin ?_ rfl
      refine (State.writeMem_evolves ..).app ?_ rfl
      refine .ite ?_ ?_
      · exact (State.useFree_evolves ..).mono rfl
      · exact .refl

theorem execMirrorReceived_ends : ∀ x0 x1 x2 s, Ends 721583931910 s (execMirrorReceived x0 x1 x2 s) := by
  intro x0 x1 x2 s
  unfold execMirrorReceived
  unfold State.twinMessage
  refine .ite ?_ ?_
  · refine .next ?_
    exact (State.dropDomain_evolves ..).mono rfl
  · dsimp only
    refine .ite ?_ ?_
    · refine .next ?_
      exact .refl
    · refine .next ?_
      unfold State.onTwin
      dsimp only
      split
      · exact (State.imageTaken_evolves ..).mono rfl
      · exact .refl

theorem execDetachEnd_ends : ∀ s, Ends 137438953474 s (execDetachEnd s) := by
  intro s
  unfold execDetachEnd
  refine .ite ?_ ?_
  · refine .next ?_
    exact .refl
  · refine .next ?_
    refine (State.announce_evolves ..).app ?_ rfl
    refine .twin ?_ rfl
    exact .refl

theorem execTwinHeartbeatMiss_ends : ∀ s, Ends 687194833410 s (execTwinHeartbeatMiss s) := by
  intro s
  unfold execTwinHeartbeatMiss
  refine .next ?_
  exact (State.twinLost_evolves ..).mono rfl

theorem execHeartbeatReceive_ends : ∀ x0 s, Ends 687194833410 s (execHeartbeatReceive x0 s) := by
  intro x0 s
  unfold execHeartbeatReceive
  unfold State.twinMessage
  refine .ite ?_ ?_
  · refine .next ?_
    exact (State.dropDomain_evolves ..).mono rfl
  · refine .ite ?_ ?_
    · refine .next ?_
      exact .refl
    · dsimp only
      refine .next ?_
      refine .ite ?_ ?_
      · refine (State.twinLost_evolves ..).app ?_ rfl
        refine .twin ?_ rfl
        exact .refl
      · refine .twin ?_ rfl
        exact .refl

theorem execHeartbeatSend_ends : ∀ s, Ends 171798757378 s (execHeartbeatSend s) := by
  intro s
  unfold execHeartbeatSend
  dsimp only
  refine .ite ?_ ?_
  · refine .next ?_
    exact .refl
  · refine .next ?_
    refine (State.heartbeatSend_evolves ..).app ?_ rfl
    refine .twin ?_ rfl
    exact .refl

theorem State.pairFail_evolves : ∀ s x1, Evolves 721554571778 s (State.pairFail s x1) := by
  intro s x1
  unfold State.pairFail
  unfold State.onTwin
  dsimp only
  split
  · refine (State.pairingSend_evolves ..).app ?_ rfl
    refine (State.raise_evolves ..).app ?_ rfl
    refine .twin ?_ rfl
    exact .refl
  · exact .refl

theorem execPairingTimeout_ends : ∀ s, Ends 721554571778 s (execPairingTimeout s) := by
  intro s
  unfold execPairingTimeout
  refine .ite ?_ ?_
  · refine .next ?_
    exact (State.pairFail_evolves ..).mono rfl
  · refine .next ?_
    exact .refl

theorem State.pairDone_evolves : ∀ s x1, Evolves 721554571778 s (State.pairDone s x1) := by
  intro s x1
  unfold State.pairDone
  dsimp only
  refine .ite ?_ ?_
  · refine (State.sendReturn_evolves ..).app ?_ rfl
    refine (State.raise_evolves ..).app ?_ rfl
    refine .twin ?_ rfl
    exact .refl
  · refine (State.raise_evolves ..).app ?_ rfl
    refine .twin ?_ rfl
    exact .refl

theorem execConfirm_ends : ∀ x0 s, Ends 721554571782 s (execConfirm x0 s) := by
  intro x0 s
  unfold execConfirm
  unfold State.twinMessage
  refine .ite ?_ ?_
  · refine .next ?_
    exact (State.dropDomain_evolves ..).mono rfl
  · dsimp only
    refine .ite ?_ ?_
    · refine .next ?_
      exact .refl
    · refine .ite ?_ ?_
      · refine .next ?_
        refine (State.pairFail_evolves ..).app ?_ rfl
        exact (State.useFree_evolves ..).mono rfl
      · refine .ite ?_ ?_
        · refine .next ?_
          exact .refl
        · refine .next ?_
          unfold State.onTwin
          split
          · exact (State.pairDone_evolves ..).mono rfl
          · exact .refl

theorem State.pairStep_evolves : ∀ s x1 x2 x3, Evolves 171798757378 s (State.pairStep s x1 x2 x3) := by
  intro s x1 x2 x3
  unfold State.pairStep
  refine (State.pairingSend_evolves ..).app ?_ rfl
  refine .twin ?_ rfl
  exact .refl

theorem execIdent_ends : ∀ x0 s, Ends 721554571778 s (execIdent x0 s) := by
  intro x0 s
  unfold execIdent
  unfold State.twinMessage
  refine .ite ?_ ?_
  · refine .next ?_
    exact (State.dropDomain_evolves ..).mono rfl
  · dsimp only
    refine .ite ?_ ?_
    · refine .next ?_
      exact .refl
    · refine .ite ?_ ?_
      · refine .next ?_
        exact (State.pairFail_evolves ..).mono rfl
      · refine .ite ?_ ?_
        · refine .next ?_
          exact (State.pairFail_evolves ..).mono rfl
        · refine .next ?_
          exact (State.pairStep_evolves ..).mono rfl

theorem execChain_ends : ∀ x0 x1 s, Ends 721554571778 s (execChain x0 x1 s) := by
  intro x0 x1 s
  unfold execChain
  unfold State.twinMessage
  refine .ite ?_ ?_
  · refine .next ?_
    exact (State.dropDomain_evolves ..).mono rfl
  · dsimp only
    refine .ite ?_ ?_
    · refine .next ?_
      exact .refl
    · refine .ite ?_ ?_
      · refine .next ?_
        exact (State.pairFail_evolves ..).mono rfl
      · refine .next ?_
        refine (State.pairStep_evolves ..).app ?_ rfl
        refine .twin ?_ rfl
        exact .refl

theorem execHello_ends : ∀ x0 s, Ends 721554571778 s (execHello x0 s) := by
  intro x0 s
  unfold execHello
  unfold State.twinMessage
  refine .ite ?_ ?_
  · refine .next ?_
    exact (State.dropDomain_evolves ..).mono rfl
  · dsimp only
    refine .ite ?_ ?_
    · refine .next ?_
      exact .refl
    · refine .ite ?_ ?_
      · refine .next ?_
        exact (State.pairFail_evolves ..).mono rfl
      · refine .ite ?_ ?_
        · refine .next ?_
          exact (State.pairFail_evolves ..).mono rfl
        · refine .next ?_
          refine (State.pairStep_evolves ..).app ?_ rfl
          refine .twin ?_ rfl
          exact .refl

theorem execTwinPull_ends : ∀ x0 x1 s, Ends 1080047826438 s (execTwinPull x0 x1 s) := by
  intro x0 x1 s
  unfold execTwinPull
  unfold writeVia
  refine .onVia ?_
  refine .ite ?_ ?_
  · refine .next ?_
    exact (State.regWrite_evolves ..).mono rfl
  · refine .next ?_
    exact .refl

theorem execTwinDetach_ends : ∀ x0 x1 s, Ends 1080047826438 s (execTwinDetach x0 x1 s) := by
  intro x0 x1 s
  unfold execTwinDetach
  unfold writeVia
  refine .onVia ?_
  refine .ite ?_ ?_
  · refine .next ?_
    exact (State.regWrite_evolves ..).mono rfl
  · refine .next ?_
    exact .refl

theorem execTwinEnable_ends : ∀ x0 x1 s, Ends 1080047826438 s (execTwinEnable x0 x1 s) := by
  intro x0 x1 s
  unfold execTwinEnable
  unfold writeVia
  refine .onVia ?_
  refine .ite ?_ ?_
  · refine .next ?_
    exact (State.regWrite_evolves ..).mono rfl
  · refine .next ?_
    exact .refl

theorem execEndSession_ends : ∀ x0 s, Ends 514 s (execEndSession x0 s) := by
  intro x0 s
  unfold execEndSession
  unfold spdm
  refine .onFunction ?_
  refine .ite ?_ ?_
  · refine .next ?_
    exact .refl
  · refine .ite ?_ ?_
    · refine .next ?_
      refine (State.emit_evolves ..).app ?_ rfl
      exact (State.modPart_evolves ..).mono rfl
    · refine .next ?_
      exact (State.emit_evolves ..).mono rfl

theorem execFinish_ends : ∀ x0 x1 s, Ends 514 s (execFinish x0 x1 s) := by
  intro x0 x1 s
  unfold execFinish
  unfold spdm
  refine .onFunction ?_
  refine .ite ?_ ?_
  · refine .next ?_
    exact .refl
  · refine .ite ?_ ?_
    · refine .next ?_
      refine (State.emit_evolves ..).app ?_ rfl
      exact (State.modPart_evolves ..).mono rfl
    · refine .next ?_
      exact (State.emit_evolves ..).mono rfl

theorem execKeyExchange_ends : ∀ x0 x1 s, Ends 514 s (execKeyExchange x0 x1 s) := by
  intro x0 x1 s
  unfold execKeyExchange
  unfold spdm
  refine .onFunction ?_
  refine .ite ?_ ?_
  · refine .next ?_
    exact .refl
  · refine .ite ?_ ?_
    · refine .next ?_
      refine (State.emit_evolves ..).app ?_ rfl
      exact (State.modPart_evolves ..).mono rfl
    · refine .next ?_
      exact (State.emit_evolves ..).mono rfl

theorem execGetMeasurements_ends : ∀ x0 x1 x2 s, Ends 514 s (execGetMeasurements x0 x1 x2 s) := by
  intro x0 x1 x2 s
  unfold execGetMeasurements
  unfold spdm
  refine .onFunction ?_
  refine .ite ?_ ?_
  · refine .next ?_
    exact .refl
  · refine .ite ?_ ?_
    · refine .next ?_
      refine (State.emit_evolves ..).app ?_ rfl
      exact (State.modPart_evolves ..).mono rfl
    · refine .next ?_
      exact (State.emit_evolves ..).mono rfl

theorem execChallenge_ends : ∀ x0 x1 s, Ends 514 s (execChallenge x0 x1 s) := by
  intro x0 x1 s
  unfold execChallenge
  unfold spdm
  refine .onFunction ?_
  refine .ite ?_ ?_
  · refine .next ?_
    exact .refl
  · refine .ite ?_ ?_
    · refine .next ?_
      refine (State.emit_evolves ..).app ?_ rfl
      exact (State.modPart_evolves ..).mono rfl
    · refine .next ?_
      exact (State.emit_evolves ..).mono rfl

theorem execGetCertificate_ends : ∀ x0 x1 x2 x3 s, Ends 514 s (execGetCertificate x0 x1 x2 x3 s) := by
  intro x0 x1 x2 x3 s
  unfold execGetCertificate
  unfold spdm
  refine .onFunction ?_
  refine .ite ?_ ?_
  · refine .next ?_
    exact .refl
  · refine .ite ?_ ?_
    · refine .next ?_
      refine (State.emit_evolves ..).app ?_ rfl
      exact (State.modPart_evolves ..).mono rfl
    · refine .next ?_
      exact (State.emit_evolves ..).mono rfl

theorem execGetDigests_ends : ∀ x0 s, Ends 514 s (execGetDigests x0 s) := by
  intro x0 s
  unfold execGetDigests
  unfold spdm
  refine .onFunction ?_
  refine .ite ?_ ?_
  · refine .next ?_
    exact .refl
  · refine .ite ?_ ?_
    · refine .next ?_
      refine (State.emit_evolves ..).app ?_ rfl
      exact (State.modPart_evolves ..).mono rfl
    · refine .next ?_
      exact (State.emit_evolves ..).mono rfl

theorem execNegotiateAlgorithms_ends : ∀ x0 s, Ends 514 s (execNegotiateAlgorithms x0 s) := by
  intro x0 s
  unfold execNegotiateAlgorithms
  unfold spdm
  refine .onFunction ?_
  refine .ite ?_ ?_
  · refine .next ?_
    exact .refl
  · refine .ite ?_ ?_
    · refine .next ?_
      refine (State.emit_evolves ..).app ?_ rfl
      exact (State.modPart_evolves ..).mono rfl
    · refine .next ?_
      exact (State.emit_evolves ..).mono rfl

theorem execGetCapabilities_ends : ∀ x0 s, Ends 514 s (execGetCapabilities x0 s) := by
  intro x0 s
  unfold execGetCapabilities
  unfold spdm
  refine .onFunction ?_
  refine .ite ?_ ?_
  · refine .next ?_
    exact .refl
  · refine .ite ?_ ?_
    · refine .next ?_
      refine (State.emit_evolves ..).app ?_ rfl
      exact (State.modPart_evolves ..).mono rfl
    · refine .next ?_
      exact (State.emit_evolves ..).mono rfl

theorem execGetVersion_ends : ∀ x0 s, Ends 514 s (execGetVersion x0 s) := by
  intro x0 s
  unfold execGetVersion
  unfold spdm
  refine .onFunction ?_
  refine .ite ?_ ?_
  · refine .next ?_
    exact .refl
  · refine .ite ?_ ?_
    · refine .next ?_
      refine (State.emit_evolves ..).app ?_ rfl
      exact (State.modPart_evolves ..).mono rfl
    · refine .next ?_
      exact (State.emit_evolves ..).mono rfl

theorem execBootCfg_ends : ∀ x0 x1 x2 s, Ends 549755813890 s (execBootCfg x0 x1 x2 s) := by
  intro x0 x1 x2 s
  unfold execBootCfg
  unfold mailbox
  refine .onController ?_
  refine .ite ?_ ?_
  · refine .next ?_
    exact .refl
  · refine .ite ?_ ?_
    · refine .next ?_
      exact (State.emit_evolves ..).mono rfl
    · dsimp only
      split
      · refine .next ?_
        exact (State.emit_evolves ..).mono rfl
      · refine .next ?_
        refine (State.emit_evolves ..).app ?_ rfl
        refine .mgmt ?_ rfl
        refine .iteFst ?_ ?_
        · dsimp only
          exact .refl
        · dsimp only
          refine .mgmt ?_ rfl
          exact .refl

theorem execCertRead_ends : ∀ x0 x1 x2 x3 s, Ends 549755813890 s (execCertRead x0 x1 x2 x3 s) := by
  intro x0 x1 x2 x3 s
  unfold execCertRead
  unfold mailbox
  refine .onController ?_
  refine .ite ?_ ?_
  · refine .next ?_
    exact .refl
  · refine .ite ?_ ?_
    · refine .next ?_
      exact (State.emit_evolves ..).mono rfl
    · dsimp only
      split
      · refine .next ?_
        exact (State.emit_evolves ..).mono rfl
      · refine .next ?_
        refine (State.emit_evolves ..).app ?_ rfl
        refine .mgmt ?_ rfl
        refine .iteFst ?_ ?_
        · dsimp only
          exact .refl
        · refine .iteFst ?_ ?_
          · dsimp only
            exact .refl
          · dsimp only
            exact .refl

theorem execMarkClear_ends : ∀ x0 x1 x2 s, Ends 549957140482 s (execMarkClear x0 x1 x2 s) := by
  intro x0 x1 x2 s
  unfold execMarkClear
  unfold mailbox
  refine .onController ?_
  refine .ite ?_ ?_
  · refine .next ?_
    exact .refl
  · refine .ite ?_ ?_
    · refine .next ?_
      exact (State.emit_evolves ..).mono rfl
    · dsimp only
      split
      · refine .next ?_
        exact (State.emit_evolves ..).mono rfl
      · refine .next ?_
        refine (State.emit_evolves ..).app ?_ rfl
        refine .mgmt ?_ rfl
        refine .iteFst ?_ ?_
        · dsimp only
          exact .refl
        · refine .iteFst ?_ ?_
          · dsimp only
            refine .foldl ?_ fun v a => ?_
            · exact .refl
            · exact (State.modTiles_evolves ..).mono rfl
          · refine .iteFst ?_ ?_
            · dsimp only
              exact .refl
            · dsimp only
              exact (State.modTile_evolves ..).mono rfl

theorem execArrayReport_ends : ∀ x0 x1 x2 s, Ends 549755813890 s (execArrayReport x0 x1 x2 s) := by
  intro x0 x1 x2 s
  unfold execArrayReport
  unfold mailbox
  refine .onController ?_
  refine .ite ?_ ?_
  · refine .next ?_
    exact .refl
  · refine .ite ?_ ?_
    · refine .next ?_
      exact (State.emit_evolves ..).mono rfl
    · dsimp only
      split
      · refine .next ?_
        exact (State.emit_evolves ..).mono rfl
      · refine .next ?_
        refine (State.emit_evolves ..).app ?_ rfl
        refine .mgmt ?_ rfl
        refine .iteFst ?_ ?_
        · dsimp only
          exact .refl
        · refine .iteFst ?_ ?_
          · dsimp only
            exact .refl
          · dsimp only
            exact .refl

theorem execRecordRead_ends : ∀ x0 x1 x2 s, Ends 549755813894 s (execRecordRead x0 x1 x2 s) := by
  intro x0 x1 x2 s
  unfold execRecordRead
  unfold mailbox
  refine .onController ?_
  refine .ite ?_ ?_
  · refine .next ?_
    exact .refl
  · refine .ite ?_ ?_
    · refine .next ?_
      exact (State.emit_evolves ..).mono rfl
    · dsimp only
      split
      · refine .next ?_
        exact (State.emit_evolves ..).mono rfl
      · refine .next ?_
        refine (State.emit_evolves ..).app ?_ rfl
        refine .mgmt ?_ rfl
        refine .iteFst ?_ ?_
        · dsimp only
          exact .refl
        · dsimp only
          refine (State.flushLost_evolves ..).app ?_ rfl
          refine .mgmt ?_ rfl
          exact .refl

theorem execTelemetry_ends : ∀ x0 x1 x2 s, Ends 549755813890 s (execTelemetry x0 x1 x2 s) := by
  intro x0 x1 x2 s
  unfold execTelemetry
  unfold mailbox
  refine .onController ?_
  refine .ite ?_ ?_
  · refine .next ?_
    exact .refl
  · refine .ite ?_ ?_
    · refine .next ?_
      exact (State.emit_evolves ..).mono rfl
    · dsimp only
      split
      · refine .next ?_
        exact (State.emit_evolves ..).mono rfl
      · refine .next ?_
        refine (State.emit_evolves ..).app ?_ rfl
        refine .mgmt ?_ rfl
        refine .iteFst ?_ ?_
        · dsimp only
          exact .refl
        · refine .iteFst ?_ ?_
          · dsimp only
            exact .refl
          · dsimp only
            refine .mgmt ?_ rfl
            exact .refl

theorem execReport_ends : ∀ x0 x1 x2 x3 s, Ends 549755813890 s (execReport x0 x1 x2 x3 s) := by
  intro x0 x1 x2 x3 s
  unfold execReport
  unfold mailbox
  refine .onController ?_
  refine .ite ?_ ?_
  · refine .next ?_
    exact .refl
  · refine .ite ?_ ?_
    · refine .next ?_
      exact (State.emit_evolves ..).mono rfl
    · dsimp only
      split
      · refine .next ?_
        exact (State.emit_evolves ..).mono rfl
      · refine .next ?_
        refine (State.emit_evolves ..).app ?_ rfl
        refine .mgmt ?_ rfl
        refine .iteFst ?_ ?_
        · dsimp only
          exact .refl
        · refine .iteFst ?_ ?_
          · dsimp only
            exact .refl
          · split
            · dsimp only
              exact .refl
            · dsimp only
              exact .refl

theorem execArbRaise_ends : ∀ x0 x1 x2 s, Ends 1649267441666 s (execArbRaise x0 x1 x2 s) := by
  intro c seq v s
  unfold execArbRaise
  refine .mailbox ?_ rfl rfl
  split
  · next h =>
    simp only [Bool.and_eq_true, decide_eq_true_eq] at h
    exact .sec .refl rfl h.2 fun _ h => h
  · exact .refl

theorem execKeyRecord_ends : ∀ x0 x1 x2 x3 x4 x5 x6 s, Ends 1649267441666 s (execKeyRecord x0 x1 x2 x3 x4 x5 x6 s) := by
  intro c seq alg slot act digest record s
  unfold execKeyRecord
  refine .mailbox (.iteFst .refl (.iteFst .refl ?_)) rfl rfl
  split
  · split
    · next h => exact .setSlot _ _ _ _ rfl (by rw [h]; decide)
    · exact .refl
  · split
    · next h =>
      simp only [Bool.and_eq_true, decide_eq_true_eq] at h
      exact .setSlot _ _ _ _ rfl (by rw [h.1]; decide)
    · exact .refl

theorem execFwCommit_ends : ∀ x0 x1 x2 s, Ends 1649267441666 s (execFwCommit x0 x1 x2 s) := by
  intro c seq b s
  unfold execFwCommit
  exact .mailbox (.iteFst .refl (.iteFst (.sec .refl rfl (Nat.le_refl _) fun _ h => h) .refl)) rfl rfl

theorem execFwWrite_ends : ∀ x0 x1 x2 x3 x4 s, Ends 1649267441666 s (execFwWrite x0 x1 x2 x3 x4 s) := by
  intro c seq b off bytes s
  unfold execFwWrite
  exact .mailbox (.iteFst .refl (.iteFst .refl (.setBank _ _ rfl))) rfl rfl

theorem State.writeRecord_evolves : ∀ s, Evolves 549755813888 s (State.writeRecord s) := by
  intro s
  unfold State.writeRecord
  dsimp only
  refine .ite ?_ ?_
  · exact .refl
  · refine .ite ?_ ?_
    · refine .mgmt ?_ rfl
      exact .refl
    · refine .mgmt ?_ rfl
      exact .refl

theorem execReset_ends : ∀ x0 x1 x2 s, Ends 824361877058 s (execReset x0 x1 x2 s) := by
  intro x0 x1 x2 s
  unfold execReset
  unfold mailbox
  refine .onController ?_
  refine .ite ?_ ?_
  · refine .next ?_
    exact .refl
  · refine .ite ?_ ?_
    · refine .next ?_
      exact (State.emit_evolves ..).mono rfl
    · dsimp only
      split
      · refine .next ?_
        exact (State.emit_evolves ..).mono rfl
      · refine .next ?_
        refine (State.emit_evolves ..).app ?_ rfl
        refine .mgmt ?_ rfl
        refine .iteFst ?_ ?_
        · dsimp only
          exact .refl
        · refine .iteFst ?_ ?_
          · dsimp only
            exact .refl
          · refine .iteFst ?_ ?_
            · dsimp only
              exact .refl
            · refine .iteFst ?_ ?_
              · dsimp only
                exact .refl
              · dsimp only
                refine .mgmt ?_ rfl
                refine (State.powerDown_evolves ..).app ?_ rfl
                exact (State.writeRecord_evolves ..).mono rfl

theorem State.releaseFar_evolves : ∀ s x1, Evolves 549755813888 s (State.releaseFar s x1) := by
  intro s x1
  unfold State.releaseFar
  dsimp only
  refine .mgmt ?_ rfl
  exact .refl

theorem execFarAssign_ends : ∀ x0 x1 x2 x3 x4 s, Ends 549755814402 s (execFarAssign x0 x1 x2 x3 x4 s) := by
  intro x0 x1 x2 x3 x4 s
  unfold execFarAssign
  unfold mailbox
  refine .onController ?_
  refine .ite ?_ ?_
  · refine .next ?_
    exact .refl
  · refine .ite ?_ ?_
    · refine .next ?_
      exact (State.emit_evolves ..).mono rfl
    · dsimp only
      split
      · refine .next ?_
        exact (State.emit_evolves ..).mono rfl
      · refine .next ?_
        refine (State.emit_evolves ..).app ?_ rfl
        refine .mgmt ?_ rfl
        refine .iteFst ?_ ?_
        · dsimp only
          exact .refl
        · refine .iteFst ?_ ?_
          · dsimp only
            exact .refl
          · refine .iteFst ?_ ?_
            · dsimp only
              exact .refl
            · unfold State.onPart
              refine .iteFst ?_ ?_
              · dsimp only
                exact .refl
              · refine .iteFst ?_ ?_
                · dsimp only
                  exact .refl
                · dsimp only
                  split
                  · dsimp only
                    exact .refl
                  · refine .iteFst ?_ ?_
                    · dsimp only
                      refine (State.modPart_evolves ..).app ?_ rfl
                      refine .mgmt ?_ rfl
                      exact (State.releaseFar_evolves ..).mono rfl
                    · dsimp only
                      exact .refl

theorem State.beginLong_evolves : ∀ s x1, Evolves 549755813888 s (State.beginLong s x1) := by
  intro s x1
  unfold State.beginLong
  refine .mgmt ?_ rfl
  exact .refl

theorem State.mgmtDone_evolves : ∀ s x1 x2, Evolves 549755813892 s (State.mgmtDone s x1 x2) := by
  intro s x1 x2
  unfold State.mgmtDone
  exact (State.mgmtRecord_evolves ..).mono rfl

theorem State.bootDone_evolves : ∀ s, Evolves 549755813892 s (State.bootDone s) := by
  intro s
  unfold State.bootDone
  dsimp only
  refine .foldl ?_ fun v a => ?_
  · refine .mgmt ?_ rfl
    refine (State.mgmtRecord_evolves ..).app ?_ rfl
    refine .mgmt ?_ rfl
    exact .refl
  · exact (State.mgmtDone_evolves ..).mono rfl

theorem State.createParts_evolves : ∀ s x1, Evolves 549755814656 s (State.createParts s x1) := by
  intro s x1
  unfold State.createParts
  dsimp only
  refine .foldl ?_ fun v a => ?_
  · refine .put ?_ rfl
    refine .foldl ?_ fun v a => ?_
    · exact .refl
    · exact (State.releaseFar_evolves ..).mono rfl
  · split
    · exact .refl
    · refine .ite ?_ ?_
      · exact .refl
      · exact (State.setPart_evolves ..).mono rfl

theorem State.vacate_evolves : ∀ s x1, Evolves 549755814400 s (State.vacate s x1) := by
  intro s x1
  unfold State.vacate
  refine .foldl ?_ fun v a => ?_
  · exact .refl
  · refine .ite ?_ ?_
    · refine (State.setPart_evolves ..).app ?_ rfl
      exact (State.releaseFar_evolves ..).mono rfl
    · exact .refl

theorem State.endLong_evolves : ∀ s x1, Evolves 549755814660 s (State.endLong s x1) := by
  intro s x1
  unfold State.endLong
  dsimp only
  refine .ite ?_ ?_
  · refine (State.mgmtDone_evolves ..).app ?_ rfl
    refine (State.vacate_evolves ..).app ?_ rfl
    refine .mgmt ?_ rfl
    exact .refl
  · refine .ite ?_ ?_
    · refine (State.mgmtDone_evolves ..).app ?_ rfl
      refine (State.createParts_evolves ..).app ?_ rfl
      refine .mgmt ?_ rfl
      exact .refl
    · refine (State.bootDone_evolves ..).app ?_ rfl
      refine (State.vacate_evolves ..).app ?_ rfl
      refine .mgmt ?_ rfl
      exact .refl

theorem State.announcePorts_evolves : ∀ s x1 x2, Evolves 2 s (State.announcePorts s x1 x2) := by
  intro s x1 x2
  unfold State.announcePorts
  dsimp only
  refine .ite ?_ ?_
  · refine (State.announce_evolves ..).app ?_ rfl
    refine .foldl ?_ fun v a => ?_
    · exact .refl
    · refine (State.announce_evolves ..).app ?_ rfl
      exact (State.announce_evolves ..).mono rfl
  · refine .foldl ?_ fun v a => ?_
    · exact .refl
    · refine (State.announce_evolves ..).app ?_ rfl
      exact (State.announce_evolves ..).mono rfl

theorem State.haltPrograms_evolves : ∀ s x1, Evolves 96544256 s (State.haltPrograms s x1) := by
  intro s x1
  unfold State.haltPrograms
  refine .foldl ?_ fun v a => ?_
  · exact .refl
  · refine .ite ?_ ?_
    · exact (State.failProgram_evolves ..).mono rfl
    · exact .refl

theorem State.haltTiles_evolves : ∀ s x1, Evolves 551702036998 s (State.haltTiles s x1) := by
  intro s x1
  unfold State.haltTiles
  dsimp only
  refine .foldl ?_ fun v a => ?_
  · refine .put ?_ rfl
    exact .refl
  · exact (State.settleTile_evolves ..).mono rfl

theorem State.haltWork_evolves : ∀ s x1, Evolves 586091144710 s (State.haltWork s x1) := by
  intro s x1
  unfold State.haltWork
  dsimp only
  refine (State.modPart_evolves ..).app ?_ rfl
  refine (State.modQueues_evolves ..).app ?_ rfl
  refine (State.haltTiles_evolves ..).app ?_ rfl
  refine (State.abandonColls_evolves ..).app ?_ rfl
  exact (State.haltPrograms_evolves ..).mono rfl

theorem State.leaveService_evolves : ∀ s x1 x2 x3, Evolves 723530933766 s (State.leaveService s x1 x2 x3) := by
  intro s x1 x2 x3
  unfold State.leaveService
  dsimp only
  refine (State.announcePorts_evolves ..).app ?_ rfl
  refine (State.modPart_evolves ..).app ?_ rfl
  refine .ite ?_ ?_
  · refine (State.unpairTwin_evolves ..).app ?_ rfl
    refine (State.raise_evolves ..).app ?_ rfl
    refine .ite ?_ ?_
    · refine (State.abandonFree_evolves ..).app ?_ rfl
      exact (State.haltWork_evolves ..).mono rfl
    · exact (State.haltWork_evolves ..).mono rfl
  · refine (State.raise_evolves ..).app ?_ rfl
    refine .ite ?_ ?_
    · refine (State.abandonFree_evolves ..).app ?_ rfl
      exact (State.haltWork_evolves ..).mono rfl
    · exact (State.haltWork_evolves ..).mono rfl

theorem State.takeOut_evolves : ∀ s x1 x2 x3, Evolves 723530933766 s (State.takeOut s x1 x2 x3) := by
  intro s x1 x2 x3
  unfold State.takeOut
  refine .ite ?_ ?_
  · exact (State.leaveService_evolves ..).mono rfl
  · exact (State.modPart_evolves ..).mono rfl

theorem execLayout_ends : ∀ x0 x1 x2 s, Ends 723530934022 s (execLayout x0 x1 x2 s) := by
  intro x0 x1 x2 s
  unfold execLayout
  unfold mailbox
  refine .onController ?_
  refine .ite ?_ ?_
  · refine .next ?_
    exact .refl
  · refine .ite ?_ ?_
    · refine .next ?_
      exact (State.emit_evolves ..).mono rfl
    · dsimp only
      split
      · refine .next ?_
        exact (State.emit_evolves ..).mono rfl
      · refine .next ?_
        refine (State.emit_evolves ..).app ?_ rfl
        refine .mgmt ?_ rfl
        refine .iteFst ?_ ?_
        · dsimp only
          exact .refl
        · refine .iteFst ?_ ?_
          · dsimp only
            exact .refl
          · refine .iteFst ?_ ?_
            · dsimp only
              exact .refl
            · refine .iteFst ?_ ?_
              · dsimp only
                exact .refl
              · dsimp only
                refine .ite ?_ ?_
                · refine (State.endLong_evolves ..).app ?_ rfl
                  refine (State.beginLong_evolves ..).app ?_ rfl
                  refine .mgmt ?_ rfl
                  refine .foldl ?_ fun v a => ?_
                  · exact .refl
                  · exact (State.takeOut_evolves ..).mono rfl
                · refine (State.beginLong_evolves ..).app ?_ rfl
                  refine .mgmt ?_ rfl
                  refine .foldl ?_ fun v a => ?_
                  · exact .refl
                  · exact (State.takeOut_evolves ..).mono rfl

theorem State.enterService_evolves : ∀ s x1, Evolves 171798757894 s (State.enterService s x1) := by
  intro s x1
  unfold State.enterService
  dsimp only
  refine .ite ?_ ?_
  · refine (State.seekTwin_evolves ..).app ?_ rfl
    refine .foldl ?_ fun v a => ?_
    · refine (State.announcePorts_evolves ..).app ?_ rfl
      exact (State.modPart_evolves ..).mono rfl
    · refine (State.pumpPort_evolves ..).app ?_ rfl
      exact (State.pumpPort_evolves ..).mono rfl
  · refine .foldl ?_ fun v a => ?_
    · refine (State.announcePorts_evolves ..).app ?_ rfl
      exact (State.modPart_evolves ..).mono rfl
    · refine (State.pumpPort_evolves ..).app ?_ rfl
      exact (State.pumpPort_evolves ..).mono rfl

theorem execResume_ends : ∀ x0 x1 x2 s, Ends 721554571782 s (execResume x0 x1 x2 s) := by
  intro x0 x1 x2 s
  unfold execResume
  unfold mailbox
  refine .onController ?_
  refine .ite ?_ ?_
  · refine .next ?_
    exact .refl
  · refine .ite ?_ ?_
    · refine .next ?_
      exact (State.emit_evolves ..).mono rfl
    · dsimp only
      split
      · refine .next ?_
        exact (State.emit_evolves ..).mono rfl
      · refine .next ?_
        refine (State.emit_evolves ..).app ?_ rfl
        refine .mgmt ?_ rfl
        refine .iteFst ?_ ?_
        · dsimp only
          exact .refl
        · unfold State.onPart
          refine .iteFst ?_ ?_
          · dsimp only
            exact .refl
          · refine .iteFst ?_ ?_
            · dsimp only
              exact .refl
            · dsimp only
              split
              · dsimp only
                exact .refl
              · refine .iteFst ?_ ?_
                · dsimp only
                  exact (State.enterService_evolves ..).mono rfl
                · dsimp only
                  exact .refl

theorem execStop_ends : ∀ x0 x1 x2 s, Ends 723530933766 s (execStop x0 x1 x2 s) := by
  intro x0 x1 x2 s
  unfold execStop
  unfold mailbox
  refine .onController ?_
  refine .ite ?_ ?_
  · refine .next ?_
    exact .refl
  · refine .ite ?_ ?_
    · refine .next ?_
      exact (State.emit_evolves ..).mono rfl
    · dsimp only
      split
      · refine .next ?_
        exact (State.emit_evolves ..).mono rfl
      · refine .next ?_
        refine (State.emit_evolves ..).app ?_ rfl
        refine .mgmt ?_ rfl
        refine .iteFst ?_ ?_
        · dsimp only
          exact .refl
        · unfold State.onPart
          refine .iteFst ?_ ?_
          · dsimp only
            exact .refl
          · refine .iteFst ?_ ?_
            · dsimp only
              exact .refl
            · dsimp only
              split
              · dsimp only
                exact .refl
              · refine .iteFst ?_ ?_
                · dsimp only
                  exact (State.leaveService_evolves ..).mono rfl
                · dsimp only
                  exact .refl

theorem execAssign_ends : ∀ x0 x1 x2 s, Ends 721554571782 s (execAssign x0 x1 x2 s) := by
  intro x0 x1 x2 s
  unfold execAssign
  unfold mailbox
  refine .onController ?_
  refine .ite ?_ ?_
  · refine .next ?_
    exact .refl
  · refine .ite ?_ ?_
    · refine .next ?_
      exact (State.emit_evolves ..).mono rfl
    · dsimp only
      split
      · refine .next ?_
        exact (State.emit_evolves ..).mono rfl
      · refine .next ?_
        refine (State.emit_evolves ..).app ?_ rfl
        refine .mgmt ?_ rfl
        refine .iteFst ?_ ?_
        · dsimp only
          exact .refl
        · unfold State.onPart
          refine .iteFst ?_ ?_
          · dsimp only
            exact .refl
          · refine .iteFst ?_ ?_
            · dsimp only
              exact .refl
            · dsimp only
              split
              · dsimp only
                exact .refl
              · refine .iteFst ?_ ?_
                · dsimp only
                  exact (State.enterService_evolves ..).mono rfl
                · dsimp only
                  exact .refl

theorem State.markRetired_evolves : ∀ s x1 x2, Evolves 550024315398 s (State.markRetired s x1 x2) := by
  intro s x1 x2
  unfold State.markRetired
  dsimp only
  split
  · refine (State.reportRetired_evolves ..).app ?_ rfl
    refine .ite ?_ ?_
    · exact (State.retireReserve_evolves ..).mono rfl
    · exact .refl
  · refine .ite ?_ ?_
    · exact (State.retireReserve_evolves ..).mono rfl
    · exact .refl

theorem State.scrubDie_evolves : ∀ s x1 x2 x3, Evolves 550225641990 s (State.scrubDie s x1 x2 x3) := by
  intro s x1 x2 x3
  unfold State.scrubDie
  dsimp only
  refine .foldl ?_ fun v a => ?_
  · refine (State.modTiles_evolves ..).app ?_ rfl
    refine .foldl ?_ fun v a => ?_
    · exact .refl
    · exact (State.setTile_evolves ..).mono rfl
  · exact (State.markRetired_evolves ..).mono rfl

theorem State.scrubQuad_evolves : ∀ s x1 x2 x3, Evolves 2832527523334 s (State.scrubQuad s x1 x2 x3) := by
  intro s stuck refs q
  have h : Evolves 2832527523334 s
      ((((s.scrubDie stuck refs (2 * q)).scrubDie stuck refs (2 * q + 1)).zeroMem (q * quadBytes) quadBytes).dropStaged [q]) := by
    refine (State.dropStaged_evolves ..).app ?_ rfl
    refine (State.zeroMem_evolves ..).app ?_ rfl
    refine (State.scrubDie_evolves ..).app ?_ rfl
    exact (State.scrubDie_evolves ..).mono rfl
  unfold State.scrubQuad
  exact .put (.slab (x := List.filter _ _) h rfl fun h => filter_wf _ h) rfl

theorem State.freshGates_evolves : ∀ s x1, Evolves 536870912 s (State.freshGates s x1) := by
  intro s x1
  unfold State.freshGates
  refine .gates ?_ rfl
  exact .refl

theorem execScrubComplete_ends : ∀ x0 x1 s, Ends 2832527523590 s (execScrubComplete x0 x1 s) := by
  intro x0 x1 s
  unfold execScrubComplete
  dsimp only
  split
  · refine .next ?_
    exact .refl
  · refine .ite ?_ ?_
    · refine .next ?_
      exact .refl
    · refine .next ?_
      refine .ite ?_ ?_
      · refine (State.endLong_evolves ..).app ?_ rfl
        refine (State.freshGates_evolves ..).app ?_ rfl
        refine .mgmt ?_ rfl
        refine .foldl ?_ fun v a => ?_
        · exact .refl
        · exact (State.scrubQuad_evolves ..).mono rfl
      · refine .mgmt ?_ rfl
        refine .foldl ?_ fun v a => ?_
        · exact .refl
        · exact (State.scrubQuad_evolves ..).mono rfl

theorem execScrub_ends : ∀ x0 x1 x2 s, Ends 723530933766 s (execScrub x0 x1 x2 s) := by
  intro x0 x1 x2 s
  unfold execScrub
  unfold mailbox
  refine .onController ?_
  refine .ite ?_ ?_
  · refine .next ?_
    exact .refl
  · refine .ite ?_ ?_
    · refine .next ?_
      exact (State.emit_evolves ..).mono rfl
    · dsimp only
      split
      · refine .next ?_
        exact (State.emit_evolves ..).mono rfl
      · refine .next ?_
        refine (State.emit_evolves ..).app ?_ rfl
        refine .mgmt ?_ rfl
        refine .iteFst ?_ ?_
        · dsimp only
          exact .refl
        · unfold State.onPart
          refine .iteFst ?_ ?_
          · dsimp only
            exact .refl
          · refine .iteFst ?_ ?_
            · dsimp only
              exact .refl
            · dsimp only
              split
              · dsimp only
                exact .refl
              · refine .iteFst ?_ ?_
                · dsimp only
                  refine (State.beginLong_evolves ..).app ?_ rfl
                  exact (State.takeOut_evolves ..).mono rfl
                · dsimp only
                  exact .refl

theorem execRegisterPathWrite_ends : ∀ x0 x1 x2 x3 s, Ends 1080047826438 s (execRegisterPathWrite x0 x1 x2 x3 s) := by
  intro x0 x1 x2 x3 s
  unfold execRegisterPathWrite
  refine .onController ?_
  refine .ite ?_ ?_
  · refine .next ?_
    exact .refl
  · split
    · refine .next ?_
      refine (State.emit_evolves ..).app ?_ rfl
      exact (State.regWrite_evolves ..).mono rfl
    · refine .next ?_
      exact (State.emit_evolves ..).mono rfl

theorem State.regRead_evolves : ∀ s x1 x2 x3 x4, Evolves 274878038020 s (State.regRead s x1 x2 x3 x4).2 := by
  intro s x1 x2 x3 x4
  unfold State.regRead
  dsimp only
  refine .iteSnd ?_ ?_
  · dsimp only
    refine .ite ?_ ?_
    · refine .wm ?_ rfl
      refine .ite ?_ ?_
      · exact .refl
      · refine .latches ?_ rfl
        exact .refl
    · refine .ite ?_ ?_
      · exact .refl
      · refine .latches ?_ rfl
        exact .refl
  · refine .iteSnd ?_ ?_
    · dsimp only
      exact .refl
    · refine .iteSnd ?_ ?_
      · dsimp only
        exact (State.useFree_evolves ..).mono rfl
      · dsimp only
        exact .refl

theorem execRegisterPathRead_ends : ∀ x0 x1 x2 s, Ends 274878038022 s (execRegisterPathRead x0 x1 x2 s) := by
  intro x0 x1 x2 s
  unfold execRegisterPathRead
  refine .onController ?_
  refine .ite ?_ ?_
  · refine .next ?_
    exact .refl
  · dsimp only
    split
    · refine .next ?_
      refine (State.emit_evolves ..).app ?_ rfl
      exact (State.regRead_evolves ..).mono rfl
    · refine .next ?_
      exact (State.emit_evolves ..).mono rfl

theorem execStandbyTempSample_ends : ∀ x0 s, Ends 549755813888 s (execStandbyTempSample x0 s) := by
  intro x0 s
  unfold execStandbyTempSample
  refine .next ?_
  refine .ite ?_ ?_
  · refine .mgmt ?_ rfl
    exact .refl
  · exact .refl

theorem execTelemetryRecord_ends : ∀ x0 s, Ends 549755813888 s (execTelemetryRecord x0 s) := by
  intro x0 s
  unfold execTelemetryRecord
  refine .ite ?_ ?_
  · refine .next ?_
    exact .refl
  · dsimp only
    refine .next ?_
    refine .mgmt ?_ rfl
    exact (State.pushRecord_evolves ..).mono rfl

theorem execMgmtFailover_ends : ∀ x0 s, Ends 549755813892 s (execMgmtFailover x0 s) := by
  intro x0 s
  unfold execMgmtFailover
  refine .ite ?_ ?_
  · refine .next ?_
    exact .refl
  · dsimp only
    refine .next ?_
    refine (State.mgmtRecord_evolves ..).app ?_ rfl
    refine .mgmt ?_ rfl
    exact .refl

theorem execStandbyCopy_ends : ∀ s, Ends 549755813888 s (execStandbyCopy s) := by
  intro s
  unfold execStandbyCopy
  refine .next ?_
  refine .ite ?_ ?_
  · refine .mgmt ?_ rfl
    exact .refl
  · exact .refl

theorem execMgmtRecordWrite_ends : ∀ s, Ends 549755813888 s (execMgmtRecordWrite s) := by
  intro s
  unfold execMgmtRecordWrite
  refine .next ?_
  refine .ite ?_ ?_
  · exact (State.writeRecord_evolves ..).mono rfl
  · exact .refl

theorem execRecoveryImage_ends : ∀ x0 x1 s, Ends 1649267441664 s (execRecoveryImage x0 x1 s) := by
  intro bank images s
  unfold execRecoveryImage
  refine .ite (.next .refl) ?_
  dsimp only
  refine .ite (.next ?_) (.next (.setBank bank images.flatten rfl))
  refine .mgmt (Evolves.sec (x := (s.sec.setBank bank images.flatten).runSet bank) .refl rfl ?_ fun i k => ?_) rfl
  · exact Nat.le_of_eq (by rw [runSet_arb, setBank_arb])
  · rw [runSet_slotState, setBank_slotState]; exact k

theorem State.cold_evolves : ∀ s x1, Evolves 1099239784048 s (State.cold s x1) := by
  intro s x1
  unfold State.cold
  dsimp only
  refine .put ?_ rfl
  exact (State.powerDown_evolves ..).mono rfl

theorem State.takeRecord_evolves : ∀ s x1, Evolves 1649738530816 s (State.takeRecord s x1) := by
  intro s r
  unfold State.takeRecord
  refine .put (.sec (x := { (r.tiles.foldl (fun u e => u.setTile e.1 (u.tile e.1)) s).sec with bootBank := r.select }) ?_ rfl
    (Nat.le_refl _) fun _ h => h) rfl
  exact .foldl .refl fun v a => (State.setTile_evolves ..).mono rfl

theorem State.loadRecord_evolves : ∀ s x1, Evolves 1649738530820 s (State.loadRecord s x1) := by
  intro s x1
  unfold State.loadRecord
  split
  · exact (State.takeRecord_evolves ..).mono rfl
  · refine (State.mgmtRecord_evolves ..).app ?_ rfl
    exact (State.takeRecord_evolves ..).mono rfl

theorem State.checkDie_evolves : ∀ s x1 x2, Evolves 201326592 s (State.checkDie s x1 x2) := by
  intro s x1 x2
  unfold State.checkDie
  dsimp only
  refine (State.modTiles_evolves ..).app ?_ rfl
  refine .foldl ?_ fun v a => ?_
  · exact .refl
  · exact (State.setTile_evolves ..).mono rfl

theorem State.trainFar_evolves : ∀ s x1 x2, Evolves 566935683076 s (State.trainFar s x1 x2) := by
  intro s x1 x2
  unfold State.trainFar
  refine .ite ?_ ?_
  · refine (State.mgmtRecord_evolves ..).app ?_ rfl
    refine .farPorts ?_ rfl
    exact .refl
  · refine .farPorts ?_ rfl
    exact .refl

theorem State.trainStack_evolves : ∀ s x1 x2 x3, Evolves 558345748484 s (State.trainStack s x1 x2 x3) := by
  intro s x1 x2 x3
  unfold State.trainStack
  dsimp only
  refine .ite ?_ ?_
  · refine (State.mgmtRecord_evolves ..).app ?_ rfl
    exact (State.setStack_evolves ..).mono rfl
  · exact (State.setStack_evolves ..).mono rfl

theorem State.bringUp_evolves : ∀ s x1, Evolves 576263815372 s (State.bringUp s x1) := by
  intro s x1
  unfold State.bringUp
  dsimp only
  refine .foldl ?_ fun v a => ?_
  · refine .mgmt ?_ rfl
    refine (State.trainFar_evolves ..).app ?_ rfl
    refine (State.trainFar_evolves ..).app ?_ rfl
    refine .foldl ?_ fun v a => ?_
    · refine .foldl ?_ fun v a => ?_
      · refine .put ?_ rfl
        exact .refl
      · exact (State.mgmtRecord_evolves ..).mono rfl
    · exact (State.trainStack_evolves ..).mono rfl
  · exact (State.checkDie_evolves ..).mono rfl

theorem State.handOver_evolves : ∀ s, Evolves 549755814660 s (State.handOver s) := by
  intro s
  unfold State.handOver
  dsimp only
  refine .ite ?_ ?_
  · refine (State.bootDone_evolves ..).app ?_ rfl
    refine .mgmt ?_ rfl
    refine .foldl ?_ fun v a => ?_
    · refine .foldl ?_ fun v a => ?_
      · refine .layout ?_ rfl
        exact .refl
      · exact (State.releaseFar_evolves ..).mono rfl
    · split
      · exact .refl
      · exact (State.setPart_evolves ..).mono rfl
  · refine (State.beginLong_evolves ..).app ?_ rfl
    refine .mgmt ?_ rfl
    refine .foldl ?_ fun v a => ?_
    · refine .foldl ?_ fun v a => ?_
      · refine .layout ?_ rfl
        exact .refl
      · exact (State.releaseFar_evolves ..).mono rfl
    · split
      · exact .refl
      · exact (State.setPart_evolves ..).mono rfl

theorem State.startUp_evolves : ∀ s x1, Evolves 1676045206476 s (State.startUp s x1) := by
  intro s x
  unfold State.startUp
  dsimp only
  split
  · exact (State.handOver_evolves ..).app ((State.bringUp_evolves ..).mono rfl) rfl
  · split
    · exact .mgmt .refl rfl
    · refine (State.handOver_evolves ..).app ((State.bringUp_evolves ..).app ?_ rfl) rfl
      exact (State.loadRecord_evolves ..).app (.runSet _ rfl) rfl
  · exact (State.handOver_evolves ..).app ((State.bringUp_evolves ..).app ((State.loadRecord_evolves ..).mono rfl) rfl) rfl

theorem execPowerOn_ends : ∀ x0 s, Ends 2199021158396 s (execPowerOn x0 s) := by
  intro x0 s
  unfold execPowerOn
  refine .ite ?_ ?_
  · refine .next ?_
    refine .ite ?_ ?_
    · refine (State.startUp_evolves ..).app ?_ rfl
      exact (State.cold_evolves ..).mono rfl
    · exact .refl
  · refine .ite ?_ ?_
    · refine .next ?_
      exact .refl
    · refine .next ?_
      exact (State.startUp_evolves ..).mono rfl

theorem State.abandonSilent_evolves : ∀ s x1, Evolves 34390009350 s (State.abandonSilent s x1) := by
  intro s x1
  unfold State.abandonSilent
  refine .ite ?_ ?_
  · exact (State.abandon_evolves ..).mono rfl
  · exact .refl

theorem State.clearQueues_evolves : ∀ s x1, Evolves 97792 s (State.clearQueues s x1) := by
  intro s x1
  unfold State.clearQueues
  dsimp only
  refine (State.modPart_evolves ..).app ?_ rfl
  refine .put ?_ rfl
  exact .refl

theorem State.resetFunction_evolves : ∀ s x1, Evolves 586091986438 s (State.resetFunction s x1) := by
  intro s x1
  unfold State.resetFunction
  refine .ite ?_ ?_
  · refine (State.clearQueues_evolves ..).app ?_ rfl
    refine (State.abandonSilent_evolves ..).app ?_ rfl
    exact (State.haltWork_evolves ..).mono rfl
  · exact .refl

theorem execPerst_ends : ∀ s, Ends 586091986438 s (execPerst s) := by
  intro s
  unfold execPerst
  refine .next ?_
  refine .foldl ?_ fun v a => ?_
  · exact .refl
  · exact (State.resetFunction_evolves ..).mono rfl

theorem execFunctionLevelReset_ends : ∀ x0 s, Ends 586091986438 s (execFunctionLevelReset x0 s) := by
  intro x0 s
  unfold execFunctionLevelReset
  refine .onFunction ?_
  refine .next ?_
  exact (State.resetFunction_evolves ..).mono rfl

theorem execSnoop_ends : ∀ x0 s, Ends 2 s (execSnoop x0 s) := by
  intro x0 s
  unfold execSnoop
  refine .next ?_
  refine .ite ?_ ?_
  · exact (State.emit_evolves ..).mono rfl
  · exact .refl

theorem execConfigRequest_ends : ∀ x0 s, Ends 2 s (execConfigRequest x0 s) := by
  intro x0 s
  unfold execConfigRequest
  refine .onFunction ?_
  refine .next ?_
  exact (State.emit_evolves ..).mono rfl

theorem State.barWrite_evolves : ∀ s x1 x2 x3, Evolves 1080047826438 s (State.barWrite s x1 x2 x3) := by
  intro s x1 x2 x3
  unfold State.barWrite
  split
  · exact (State.regWrite_evolves ..).mono rfl
  · exact .refl

theorem execRegisterWrite_ends : ∀ x0 x1 x2 x3 s, Ends 1080047826438 s (execRegisterWrite x0 x1 x2 x3 s) := by
  intro x0 x1 x2 x3 s
  unfold execRegisterWrite
  refine .onFunction ?_
  refine .ite ?_ ?_
  · refine .next ?_
    exact .refl
  · refine .ite ?_ ?_
    · refine .next ?_
      exact (State.barWrite_evolves ..).mono rfl
    · refine .ite ?_ ?_
      · refine .next ?_
        refine (State.barWrite_evolves ..).app ?_ rfl
        exact (State.barWrite_evolves ..).mono rfl
      · refine .next ?_
        exact .refl

theorem execWmFifoRead_ends : ∀ x0 s, Ends 274878038022 s (execWmFifoRead x0 s) := by
  intro x0 s
  unfold execWmFifoRead
  refine .onVia ?_
  refine .ite ?_ ?_
  · refine .next ?_
    exact (State.emit_evolves ..).mono rfl
  · dsimp only
    refine .next ?_
    refine (State.emit_evolves ..).app ?_ rfl
    exact (State.regRead_evolves ..).mono rfl

theorem execLatchedPairRead_ends : ∀ x0 x1 x2 x3 s, Ends 274878038022 s (execLatchedPairRead x0 x1 x2 x3 s) := by
  intro x0 x1 x2 x3 s
  unfold execLatchedPairRead
  refine .onVia ?_
  refine .ite ?_ ?_
  · refine .next ?_
    exact (State.emit_evolves ..).mono rfl
  · refine .ite ?_ ?_
    · refine .next ?_
      exact (State.emit_evolves ..).mono rfl
    · dsimp only
      refine .next ?_
      refine (State.emit_evolves ..).app ?_ rfl
      exact (State.regRead_evolves ..).mono rfl

theorem execPortEnableWrite_ends : ∀ x0 x1 x2 s, Ends 1080047826438 s (execPortEnableWrite x0 x1 x2 s) := by
  intro x0 x1 x2 s
  unfold execPortEnableWrite
  unfold writeVia
  refine .onVia ?_
  refine .ite ?_ ?_
  · refine .next ?_
    exact (State.regWrite_evolves ..).mono rfl
  · refine .next ?_
    exact .refl

theorem execEventQueueEnable_ends : ∀ x0 x1 x2 s, Ends 1080047826438 s (execEventQueueEnable x0 x1 x2 s) := by
  intro x0 x1 x2 s
  unfold execEventQueueEnable
  unfold writeVia
  refine .onVia ?_
  refine .ite ?_ ?_
  · refine .next ?_
    exact (State.regWrite_evolves ..).mono rfl
  · refine .next ?_
    exact .refl

theorem execCompletionRingEnable_ends : ∀ x0 x1 x2 s, Ends 1080047826438 s (execCompletionRingEnable x0 x1 x2 s) := by
  intro x0 x1 x2 s
  unfold execCompletionRingEnable
  unfold writeVia
  refine .onVia ?_
  refine .ite ?_ ?_
  · refine .next ?_
    exact (State.regWrite_evolves ..).mono rfl
  · refine .next ?_
    exact .refl

theorem execQueueDisable_ends : ∀ x0 x1 x2 s, Ends 1080047826438 s (execQueueDisable x0 x1 x2 s) := by
  intro x0 x1 x2 s
  unfold execQueueDisable
  unfold writeVia
  refine .onVia ?_
  refine .ite ?_ ?_
  · refine .next ?_
    exact (State.regWrite_evolves ..).mono rfl
  · refine .next ?_
    exact .refl

theorem execQueueEnable_ends : ∀ x0 x1 x2 s, Ends 1080047826438 s (execQueueEnable x0 x1 x2 s) := by
  intro x0 x1 x2 s
  unfold execQueueEnable
  unfold writeVia
  refine .onVia ?_
  refine .ite ?_ ?_
  · refine .next ?_
    exact (State.regWrite_evolves ..).mono rfl
  · refine .next ?_
    exact .refl

theorem execFootpathGo_ends : ∀ x0 x1 x2 s, Ends 1080047826438 s (execFootpathGo x0 x1 x2 s) := by
  intro x0 x1 x2 s
  unfold execFootpathGo
  unfold writeVia
  refine .onVia ?_
  refine .ite ?_ ?_
  · refine .next ?_
    exact (State.regWrite_evolves ..).mono rfl
  · refine .next ?_
    exact .refl

theorem execRetireReq_ends : ∀ x0 x1 x2 s, Ends 1080047826438 s (execRetireReq x0 x1 x2 s) := by
  intro x0 x1 x2 s
  unfold execRetireReq
  unfold writeVia
  refine .onVia ?_
  refine .ite ?_ ?_
  · refine .next ?_
    exact (State.regWrite_evolves ..).mono rfl
  · refine .next ?_
    exact .refl

theorem execProbeReq_ends : ∀ x0 x1 x2 s, Ends 1080047826438 s (execProbeReq x0 x1 x2 s) := by
  intro x0 x1 x2 s
  unfold execProbeReq
  unfold writeVia
  refine .onVia ?_
  refine .ite ?_ ?_
  · refine .next ?_
    exact (State.regWrite_evolves ..).mono rfl
  · refine .next ?_
    exact .refl

theorem execRefreshReq_ends : ∀ x0 x1 x2 s, Ends 1080047826438 s (execRefreshReq x0 x1 x2 s) := by
  intro x0 x1 x2 s
  unfold execRefreshReq
  unfold writeVia
  refine .onVia ?_
  refine .ite ?_ ?_
  · refine .next ?_
    exact (State.regWrite_evolves ..).mono rfl
  · refine .next ?_
    exact .refl

end Sys2Proof.Machine
end

