-- ==== Sys2Proof/Laws/EvolvesStep.lean ====
section
/-! SUPPORT. What every command and the step may change: one lemma per function, with the mask of the components (compBit). -/

set_option Elab.async false

namespace Sys2Proof.Machine

open Sys2Proof Sys2Proof.Safety

theorem step_ends : ∀ s, s.pending = [] → Ends 11274289688 s (step s) := by
  intro s h
  unfold step
  rw [h]
  exact .next ((State.tick_evolves ..).mono rfl)



/-- Every command evolves the state: the queue stays as it is, memory keeps its form, the fuses last. -/
theorem exec_ends (c : Instr) (s : State) : Ends 4398046511102 s (exec c s) := by
  cases c with
  | doorbell fn slot width v => exact Ends.mono (execDoorbell_ends ..) rfl
  | descriptorFetch q r => exact Ends.mono (execDescriptorFetch_ends ..) rfl
  | descriptorBegin q r => exact Ends.mono (execDescriptorBegin_ends ..) rfl
  | budgetHandover p => exact Ends.mono (execBudgetHandover_ends ..) rfl
  | completionPost q ok => exact Ends.mono (execCompletionPost_ends ..) rfl
  | eqOverflow e => exact Ends.mono (execEqOverflow_ends ..) rfl
  | nop q => exact Ends.mono (execNop_ends ..) rfl
  | waypostSet q ok => exact Ends.mono (execWaypostSet_ends ..) rfl
  | copy q r ok => exact Ends.mono (execCopy_ends ..) rfl
  | holdRelease q => exact Ends.mono (execHoldRelease_ends ..) rfl
  | mapLoad q r => exact Ends.mono (execMapLoad_ends ..) rfl
  | groupLoad q r => exact Ends.mono (execGroupLoad_ends ..) rfl
  | vprogLoad q r => exact Ends.mono (execVprogLoad_ends ..) rfl
  | collGroup q r => exact Ends.mono (execCollGroup_ends ..) rfl
  | forward q => exact Ends.mono (execForward_ends ..) rfl
  | dispatch q => exact Ends.mono (execDispatch_ends ..) rfl
  | matmul q slabErr => exact Ends.mono (execMatmul_ends ..) rfl
  | row q => exact Ends.mono (execRow_ends ..) rfl
  | ingrad q slabErr => exact Ends.mono (execIngrad_ends ..) rfl
  | wgrad q slabErr => exact Ends.mono (execWgrad_ends ..) rfl
  | deriv q => exact Ends.mono (execDeriv_ends ..) rfl
  | vprog q => exact Ends.mono (execVprog_ends ..) rfl
  | reduceScatter q => exact Ends.mono (execReduceScatter_ends ..) rfl
  | allGather q => exact Ends.mono (execAllGather_ends ..) rfl
  | allReduce q => exact Ends.mono (execAllReduce_ends ..) rfl
  | broadcast q => exact Ends.mono (execBroadcast_ends ..) rfl
  | orderGather q => exact Ends.mono (execOrderGather_ends ..) rfl
  | updateNorm q => exact Ends.mono (execUpdateNorm_ends ..) rfl
  | updateApply q => exact Ends.mono (execUpdateApply_ends ..) rfl
  | pass2BlockResume q => exact Ends.mono (execPass2BlockResume_ends ..) rfl
  | updateInit q => exact Ends.mono (execUpdateInit_ends ..) rfl
  | program q => exact Ends.mono (execProgram_ends ..) rfl
  | programBatch tile readings => exact Ends.mono (execProgramBatch_ends ..) rfl
  | milestone q => exact Ends.mono (execMilestone_ends ..) rfl
  | milestoneClosure p => exact Ends.mono (execMilestoneClosure_ends ..) rfl
  | snapshot q ok => exact Ends.mono (execSnapshot_ends ..) rfl
  | snapshotDeferredStart q ok => exact Ends.mono (execSnapshotDeferredStart_ends ..) rfl
  | restore q r => exact Ends.mono (execRestore_ends ..) rfl
  | vectorLatch tile => exact Ends.mono (execVectorLatch_ends ..) rfl
  | segmentSample tile dev => exact Ends.mono (execSegmentSample_ends ..) rfl
  | edgePipeline tile => exact Ends.mono (execEdgePipeline_ends ..) rfl
  | partialPacket tile => exact Ends.mono (execPartialPacket_ends ..) rfl
  | residualArrival tile seq values => exact Ends.mono (execResidualArrival_ends ..) rfl
  | inputPieceArrival tile => exact Ends.mono (execInputPieceArrival_ends ..) rfl
  | idleTimeout tile => exact Ends.mono (execIdleTimeout_ends ..) rfl
  | wakeAdmit die => exact Ends.mono (execWakeAdmit_ends ..) rfl
  | tileWakeDone tile => exact Ends.mono (execTileWakeDone_ends ..) rfl
  | tollAdmit die => exact Ends.mono (execTollAdmit_ends ..) rfl
  | debtCheck die drawn => exact Ends.mono (execDebtCheck_ends ..) rfl
  | railMeasure p gradientMw memoryMw => exact Ends.mono (execRailMeasure_ends ..) rfl
  | refreshStart die => exact Ends.mono (execRefreshStart_ends ..) rfl
  | refreshComplete tile => exact Ends.mono (execRefreshComplete_ends ..) rfl
  | probeStart die => exact Ends.mono (execProbeStart_ends ..) rfl
  | probeScanDone tile meas reads => exact Ends.mono (execProbeScanDone_ends ..) rfl
  | repairDone tile => exact Ends.mono (execRepairDone_ends ..) rfl
  | reserveProgrammed tile => exact Ends.mono (execReserveProgrammed_ends ..) rfl
  | refreshReq via die w => exact Ends.mono (execRefreshReq_ends ..) rfl
  | probeReq via die w => exact Ends.mono (execProbeReq_ends ..) rfl
  | retireReq via die w => exact Ends.mono (execRetireReq_ends ..) rfl
  | footpathGo via die w => exact Ends.mono (execFootpathGo_ends ..) rfl
  | footpathComplete die errs => exact Ends.mono (execFootpathComplete_ends ..) rfl
  | queueEnable via hub w => exact Ends.mono (execQueueEnable_ends ..) rfl
  | queueDisable via hub w => exact Ends.mono (execQueueDisable_ends ..) rfl
  | completionRingEnable via hub w => exact Ends.mono (execCompletionRingEnable_ends ..) rfl
  | eventQueueEnable via hub w => exact Ends.mono (execEventQueueEnable_ends ..) rfl
  | portEnableWrite via hub w => exact Ends.mono (execPortEnableWrite_ends ..) rfl
  | latchedPairRead via kind die off => exact Ends.mono (execLatchedPairRead_ends ..) rfl
  | wmFifoRead via => exact Ends.mono (execWmFifoRead_ends ..) rfl
  | registerWrite fn addr width v => exact Ends.mono (execRegisterWrite_ends ..) rfl
  | hostWindowRead fn off => exact Ends.mono (execHostWindowRead_ends ..) rfl
  | hostWindowWrite fn off line => exact Ends.mono (execHostWindowWrite_ends ..) rfl
  | configRequest fn => exact Ends.mono (execConfigRequest_ends ..) rfl
  | snoop addr => exact Ends.mono (execSnoop_ends addr s) rfl
  | functionLevelReset fn => exact Ends.mono (execFunctionLevelReset_ends ..) rfl
  | perst => exact Ends.mono (execPerst_ends ..) rfl
  | powerBrakeAssert => exact Ends.mono (execPowerBrakeAssert_ends ..) rfl
  | powerBrakeRelease => exact Ends.mono (execPowerBrakeRelease_ends ..) rfl
  | dieTempSample kind die sensors => exact Ends.mono (execDieTempSample_ends ..) rfl
  | clockFault kind die source ppm => exact Ends.mono (execClockFault_ends ..) rfl
  | inputFault above centivolts => exact Ends.mono (execInputFault_ends ..) rfl
  | powerOn x => exact Ends.mono (execPowerOn_ends ..) rfl
  | recoveryImage bank images => exact Ends.mono (execRecoveryImage_ends ..) rfl
  | mgmtRecordWrite => exact Ends.mono (execMgmtRecordWrite_ends ..) rfl
  | standbyCopy => exact Ends.mono (execStandbyCopy_ends ..) rfl
  | mgmtFailover reason => exact Ends.mono (execMgmtFailover_ends ..) rfl
  | telemetryRecord t => exact Ends.mono (execTelemetryRecord_ends ..) rfl
  | standbyTempSample temps => exact Ends.mono (execStandbyTempSample_ends ..) rfl
  | registerPathRead ctrl die off => exact Ends.mono (execRegisterPathRead_ends ..) rfl
  | registerPathWrite ctrl die off w => exact Ends.mono (execRegisterPathWrite_ends ..) rfl
  | scrub ctrl seq quads => exact Ends.mono (execScrub_ends ..) rfl
  | scrubComplete quads found => exact Ends.mono (execScrubComplete_ends ..) rfl
  | assign ctrl seq quads => exact Ends.mono (execAssign_ends ..) rfl
  | stop ctrl seq quads => exact Ends.mono (execStop_ends ..) rfl
  | resume ctrl seq quads => exact Ends.mono (execResume_ends ..) rfl
  | layout ctrl seq code => exact Ends.mono (execLayout_ends ..) rfl
  | farAssign ctrl seq quads base gib => exact Ends.mono (execFarAssign_ends ..) rfl
  | reset ctrl seq scope => exact Ends.mono (execReset_ends ..) rfl
  | fwWrite ctrl seq bank off bytes => exact Ends.mono (execFwWrite_ends ..) rfl
  | fwCommit ctrl seq bank => exact Ends.mono (execFwCommit_ends ..) rfl
  | keyRecord ctrl seq alg slot activate digest record => exact Ends.mono (execKeyRecord_ends ..) rfl
  | arbRaise ctrl seq value => exact Ends.mono (execArbRaise_ends ..) rfl
  | report ctrl seq quads nonce => exact Ends.mono (execReport_ends ..) rfl
  | telemetry ctrl seq period => exact Ends.mono (execTelemetry_ends ..) rfl
  | recordRead ctrl seq count => exact Ends.mono (execRecordRead_ends ..) rfl
  | arrayReport ctrl seq die => exact Ends.mono (execArrayReport_ends ..) rfl
  | markClear ctrl seq tile => exact Ends.mono (execMarkClear_ends ..) rfl
  | certRead ctrl seq alg off => exact Ends.mono (execCertRead_ends ..) rfl
  | bootCfg ctrl seq keep => exact Ends.mono (execBootCfg_ends ..) rfl
  | getVersion fn => exact Ends.mono (execGetVersion_ends ..) rfl
  | getCapabilities fn => exact Ends.mono (execGetCapabilities_ends ..) rfl
  | negotiateAlgorithms fn => exact Ends.mono (execNegotiateAlgorithms_ends ..) rfl
  | getDigests fn => exact Ends.mono (execGetDigests_ends ..) rfl
  | getCertificate fn slot off len => exact Ends.mono (execGetCertificate_ends ..) rfl
  | challenge fn nonce => exact Ends.mono (execChallenge_ends ..) rfl
  | getMeasurements fn block nonce => exact Ends.mono (execGetMeasurements_ends ..) rfl
  | keyExchange fn random => exact Ends.mono (execKeyExchange_ends ..) rfl
  | finish fn verified => exact Ends.mono (execFinish_ends ..) rfl
  | endSession fn => exact Ends.mono (execEndSession_ends ..) rfl
  | linkFlitReceive port flit uncorr => exact Ends.mono (execLinkFlitReceive_ends ..) rfl
  | replayRequest port ack => exact Ends.mono (execReplayRequest_ends ..) rfl
  | replayTimeout port => exact Ends.mono (execReplayTimeout_ends ..) rfl
  | trainComplete port t => exact Ends.mono (execTrainComplete_ends ..) rfl
  | trainTimeout port => exact Ends.mono (execTrainTimeout_ends ..) rfl
  | linkSignalLoss port => exact Ends.mono (execLinkSignalLoss_ends ..) rfl
  | packetReceive port => exact Ends.mono (execPacketReceive_ends ..) rfl
  | readyReceive p r => exact Ends.mono (execReadyReceive_ends ..) rfl
  | readyResend p group tag => exact Ends.mono (execReadyResend_ends ..) rfl
  | collDataReceive p => exact Ends.mono (execCollDataReceive_ends ..) rfl
  | abortReceive p a => exact Ends.mono (execAbortReceive_ends ..) rfl
  | collSettleExpiry p group tag => exact Ends.mono (execCollSettleExpiry_ends ..) rfl
  | collWatchdogExpiry p group tag => exact Ends.mono (execCollWatchdogExpiry_ends ..) rfl
  | stackTempSample m t => exact Ends.mono (execStackTempSample_ends ..) rfl
  | stackReturn m failedLanes => exact Ends.mono (execStackReturn_ends ..) rfl
  | patrolRead m rb errs laneErrs => exact Ends.mono (execPatrolRead_ends ..) rfl
  | farTimeout fm f => exact Ends.mono (execFarTimeout_ends ..) rfl
  | farLinkDown fm => exact Ends.mono (execFarLinkDown_ends ..) rfl
  | spillCopyDone p slot ok => exact Ends.mono (execSpillCopyDone_ends ..) rfl
  | twinEnable via w => exact Ends.mono (execTwinEnable_ends ..) rfl
  | twinDetach via w => exact Ends.mono (execTwinDetach_ends ..) rfl
  | twinPull via w => exact Ends.mono (execTwinPull_ends ..) rfl
  | hello m => exact Ends.mono (execHello_ends ..) rfl
  | chain edChain mldsaChain => exact Ends.mono (execChain_ends ..) rfl
  | ident record => exact Ends.mono (execIdent_ends ..) rfl
  | confirm accept => exact Ends.mono (execConfirm_ends ..) rfl
  | pairingTimeout => exact Ends.mono (execPairingTimeout_ends ..) rfl
  | heartbeatSend => exact Ends.mono (execHeartbeatSend_ends ..) rfl
  | heartbeatReceive h => exact Ends.mono (execHeartbeatReceive_ends ..) rfl
  | twinHeartbeatMiss => exact Ends.mono (execTwinHeartbeatMiss_ends ..) rfl
  | detachEnd => exact Ends.mono (execDetachEnd_ends ..) rfl
  | mirrorReceived toReturnSlot image whole => exact Ends.mono (execMirrorReceived_ends ..) rfl
  | swTrig via w => exact Ends.mono (execSwTrig_ends ..) rfl
  | abort via w => exact Ends.mono (execAbort_ends ..) rfl
  | flush via w => exact Ends.mono (execFlush_ends ..) rfl
  | trigInEdge rising => exact Ends.mono (execTrigInEdge_ends ..) rfl
  | waymarkStep uv => exact Ends.mono (execWaymarkStep_ends ..) rfl
  | signalPresent port => exact Ends.mono (execSignalPresent_ends ..) rfl
  | farLinkTrained fm => exact Ends.mono (execFarLinkTrained_ends ..) rfl
  | rangeZeroingComplete base => exact Ends.mono (execRangeZeroingComplete_ends ..) rfl
  | mirrorSendComplete => exact Ends.mono (execMirrorSendComplete_ends ..) rfl
  | returnConfirmed => exact Ends.mono (execReturnConfirmed_ends ..) rfl
  | returnRequestReceive => exact Ends.mono (execReturnRequestReceive_ends ..) rfl
  | hdmDecoderCommit fn committed => exact Ends.mono (execHdmDecoderCommit_ends ..) rfl
  | ideKeyManagement fn stream keySet activate key => exact Ends.mono (execIdeKeyManagement_ends ..) rfl

/-- One step on a waiting command. -/
theorem step_front {s t : State} {c : Instr} {rest : List Instr} (h : s.pending = c :: rest) (k : step s = .next t) :
    Evolves 4398046511102 { s with pending := rest } t := by
  unfold step at k
  rw [h] at k
  exact (exec_ends c _).run t k

/-- One step on an empty queue. -/
theorem step_idle {s t : State} (h : s.pending = []) (k : step s = .next t) : Evolves 4398046511102 s t :=
  ((step_ends s h).run t k).mono rfl

end Sys2Proof.Machine
end

