-- ==== Sys2Proof/Laws/State.lean ====
section
/-! SUPPORT. One lemma per component for each update of the state, and what a read gives after a write. -/

set_option Elab.async false

namespace Sys2Proof.Machine

open Sys2Proof

/-! ### setPart -/

@[simp] theorem State.setPart_pending (s : State) p x : (s.setPart p x).pending = s.pending := rfl
@[simp] theorem State.setPart_out (s : State) p x : (s.setPart p x).out = s.out := rfl
@[simp] theorem State.setPart_free (s : State) p x : (s.setPart p x).free = s.free := rfl
@[simp] theorem State.setPart_ltime (s : State) p x : (s.setPart p x).ltime = s.ltime := rfl
@[simp] theorem State.setPart_stbyNs (s : State) p x : (s.setPart p x).stbyNs = s.stbyNs := rfl
@[simp] theorem State.setPart_input (s : State) p x : (s.setPart p x).input = s.input := rfl
@[simp] theorem State.setPart_powered (s : State) p x : (s.setPart p x).powered = s.powered := rfl
@[simp] theorem State.setPart_brake (s : State) p x : (s.setPart p x).brake = s.brake := rfl
@[simp] theorem State.setPart_layout (s : State) p x : (s.setPart p x).layout = s.layout := rfl
@[simp] theorem State.setPart_queues (s : State) p x : (s.setPart p x).queues = s.queues := rfl
@[simp] theorem State.setPart_turns (s : State) p x : (s.setPart p x).turns = s.turns := rfl
@[simp] theorem State.setPart_rings (s : State) p x : (s.setPart p x).rings = s.rings := rfl
@[simp] theorem State.setPart_wayposts (s : State) p x : (s.setPart p x).wayposts = s.wayposts := rfl
@[simp] theorem State.setPart_regs (s : State) p x : (s.setPart p x).regs = s.regs := rfl
@[simp] theorem State.setPart_staged (s : State) p x : (s.setPart p x).staged = s.staged := rfl
@[simp] theorem State.setPart_counters (s : State) p x : (s.setPart p x).counters = s.counters := rfl
@[simp] theorem State.setPart_latches (s : State) p x : (s.setPart p x).latches = s.latches := rfl
@[simp] theorem State.setPart_calUser (s : State) p x : (s.setPart p x).calUser = s.calUser := rfl
@[simp] theorem State.setPart_calStaged (s : State) p x : (s.setPart p x).calStaged = s.calStaged := rfl
@[simp] theorem State.setPart_calClamped (s : State) p x : (s.setPart p x).calClamped = s.calClamped := rfl
@[simp] theorem State.setPart_calFactory (s : State) p x : (s.setPart p x).calFactory = s.calFactory := rfl
@[simp] theorem State.setPart_mem (s : State) p x : (s.setPart p x).mem = s.mem := rfl
@[simp] theorem State.setPart_poison (s : State) p x : (s.setPart p x).poison = s.poison := rfl
@[simp] theorem State.setPart_raw (s : State) p x : (s.setPart p x).raw = s.raw := rfl
@[simp] theorem State.setPart_slab (s : State) p x : (s.setPart p x).slab = s.slab := rfl
@[simp] theorem State.setPart_tiles (s : State) p x : (s.setPart p x).tiles = s.tiles := rfl
@[simp] theorem State.setPart_tileDef (s : State) p x : (s.setPart p x).tileDef = s.tileDef := rfl
@[simp] theorem State.setPart_retire (s : State) p x : (s.setPart p x).retire = s.retire := rfl
@[simp] theorem State.setPart_gates (s : State) p x : (s.setPart p x).gates = s.gates := rfl
@[simp] theorem State.setPart_roads (s : State) p x : (s.setPart p x).roads = s.roads := rfl
@[simp] theorem State.setPart_dies (s : State) p x : (s.setPart p x).dies = s.dies := rfl
@[simp] theorem State.setPart_grads (s : State) p x : (s.setPart p x).grads = s.grads := rfl
@[simp] theorem State.setPart_hbm (s : State) p x : (s.setPart p x).hbm = s.hbm := rfl
@[simp] theorem State.setPart_farPorts (s : State) p x : (s.setPart p x).farPorts = s.farPorts := rfl
@[simp] theorem State.setPart_ports (s : State) p x : (s.setPart p x).ports = s.ports := rfl
@[simp] theorem State.setPart_routes (s : State) p x : (s.setPart p x).routes = s.routes := rfl
@[simp] theorem State.setPart_twin (s : State) p x : (s.setPart p x).twin = s.twin := rfl
@[simp] theorem State.setPart_wm (s : State) p x : (s.setPart p x).wm = s.wm := rfl
@[simp] theorem State.setPart_mgmt (s : State) p x : (s.setPart p x).mgmt = s.mgmt := rfl
@[simp] theorem State.setPart_sec (s : State) p x : (s.setPart p x).sec = s.sec := rfl
@[simp] theorem State.setPart_scrubs (s : State) p x : (s.setPart p x).scrubs = s.scrubs := rfl

/-! ### setQueue -/

@[simp] theorem State.setQueue_pending (s : State) q x : (s.setQueue q x).pending = s.pending := rfl
@[simp] theorem State.setQueue_out (s : State) q x : (s.setQueue q x).out = s.out := rfl
@[simp] theorem State.setQueue_free (s : State) q x : (s.setQueue q x).free = s.free := rfl
@[simp] theorem State.setQueue_ltime (s : State) q x : (s.setQueue q x).ltime = s.ltime := rfl
@[simp] theorem State.setQueue_stbyNs (s : State) q x : (s.setQueue q x).stbyNs = s.stbyNs := rfl
@[simp] theorem State.setQueue_input (s : State) q x : (s.setQueue q x).input = s.input := rfl
@[simp] theorem State.setQueue_powered (s : State) q x : (s.setQueue q x).powered = s.powered := rfl
@[simp] theorem State.setQueue_brake (s : State) q x : (s.setQueue q x).brake = s.brake := rfl
@[simp] theorem State.setQueue_layout (s : State) q x : (s.setQueue q x).layout = s.layout := rfl
@[simp] theorem State.setQueue_parts (s : State) q x : (s.setQueue q x).parts = s.parts := rfl
@[simp] theorem State.setQueue_turns (s : State) q x : (s.setQueue q x).turns = s.turns := rfl
@[simp] theorem State.setQueue_rings (s : State) q x : (s.setQueue q x).rings = s.rings := rfl
@[simp] theorem State.setQueue_wayposts (s : State) q x : (s.setQueue q x).wayposts = s.wayposts := rfl
@[simp] theorem State.setQueue_regs (s : State) q x : (s.setQueue q x).regs = s.regs := rfl
@[simp] theorem State.setQueue_staged (s : State) q x : (s.setQueue q x).staged = s.staged := rfl
@[simp] theorem State.setQueue_counters (s : State) q x : (s.setQueue q x).counters = s.counters := rfl
@[simp] theorem State.setQueue_latches (s : State) q x : (s.setQueue q x).latches = s.latches := rfl
@[simp] theorem State.setQueue_calUser (s : State) q x : (s.setQueue q x).calUser = s.calUser := rfl
@[simp] theorem State.setQueue_calStaged (s : State) q x : (s.setQueue q x).calStaged = s.calStaged := rfl
@[simp] theorem State.setQueue_calClamped (s : State) q x : (s.setQueue q x).calClamped = s.calClamped := rfl
@[simp] theorem State.setQueue_calFactory (s : State) q x : (s.setQueue q x).calFactory = s.calFactory := rfl
@[simp] theorem State.setQueue_mem (s : State) q x : (s.setQueue q x).mem = s.mem := rfl
@[simp] theorem State.setQueue_poison (s : State) q x : (s.setQueue q x).poison = s.poison := rfl
@[simp] theorem State.setQueue_raw (s : State) q x : (s.setQueue q x).raw = s.raw := rfl
@[simp] theorem State.setQueue_slab (s : State) q x : (s.setQueue q x).slab = s.slab := rfl
@[simp] theorem State.setQueue_tiles (s : State) q x : (s.setQueue q x).tiles = s.tiles := rfl
@[simp] theorem State.setQueue_tileDef (s : State) q x : (s.setQueue q x).tileDef = s.tileDef := rfl
@[simp] theorem State.setQueue_retire (s : State) q x : (s.setQueue q x).retire = s.retire := rfl
@[simp] theorem State.setQueue_gates (s : State) q x : (s.setQueue q x).gates = s.gates := rfl
@[simp] theorem State.setQueue_roads (s : State) q x : (s.setQueue q x).roads = s.roads := rfl
@[simp] theorem State.setQueue_dies (s : State) q x : (s.setQueue q x).dies = s.dies := rfl
@[simp] theorem State.setQueue_grads (s : State) q x : (s.setQueue q x).grads = s.grads := rfl
@[simp] theorem State.setQueue_hbm (s : State) q x : (s.setQueue q x).hbm = s.hbm := rfl
@[simp] theorem State.setQueue_farPorts (s : State) q x : (s.setQueue q x).farPorts = s.farPorts := rfl
@[simp] theorem State.setQueue_ports (s : State) q x : (s.setQueue q x).ports = s.ports := rfl
@[simp] theorem State.setQueue_routes (s : State) q x : (s.setQueue q x).routes = s.routes := rfl
@[simp] theorem State.setQueue_twin (s : State) q x : (s.setQueue q x).twin = s.twin := rfl
@[simp] theorem State.setQueue_wm (s : State) q x : (s.setQueue q x).wm = s.wm := rfl
@[simp] theorem State.setQueue_mgmt (s : State) q x : (s.setQueue q x).mgmt = s.mgmt := rfl
@[simp] theorem State.setQueue_sec (s : State) q x : (s.setQueue q x).sec = s.sec := rfl
@[simp] theorem State.setQueue_scrubs (s : State) q x : (s.setQueue q x).scrubs = s.scrubs := rfl

/-! ### setRing -/

@[simp] theorem State.setRing_pending (s : State) r x : (s.setRing r x).pending = s.pending := rfl
@[simp] theorem State.setRing_out (s : State) r x : (s.setRing r x).out = s.out := rfl
@[simp] theorem State.setRing_free (s : State) r x : (s.setRing r x).free = s.free := rfl
@[simp] theorem State.setRing_ltime (s : State) r x : (s.setRing r x).ltime = s.ltime := rfl
@[simp] theorem State.setRing_stbyNs (s : State) r x : (s.setRing r x).stbyNs = s.stbyNs := rfl
@[simp] theorem State.setRing_input (s : State) r x : (s.setRing r x).input = s.input := rfl
@[simp] theorem State.setRing_powered (s : State) r x : (s.setRing r x).powered = s.powered := rfl
@[simp] theorem State.setRing_brake (s : State) r x : (s.setRing r x).brake = s.brake := rfl
@[simp] theorem State.setRing_layout (s : State) r x : (s.setRing r x).layout = s.layout := rfl
@[simp] theorem State.setRing_parts (s : State) r x : (s.setRing r x).parts = s.parts := rfl
@[simp] theorem State.setRing_queues (s : State) r x : (s.setRing r x).queues = s.queues := rfl
@[simp] theorem State.setRing_turns (s : State) r x : (s.setRing r x).turns = s.turns := rfl
@[simp] theorem State.setRing_wayposts (s : State) r x : (s.setRing r x).wayposts = s.wayposts := rfl
@[simp] theorem State.setRing_regs (s : State) r x : (s.setRing r x).regs = s.regs := rfl
@[simp] theorem State.setRing_staged (s : State) r x : (s.setRing r x).staged = s.staged := rfl
@[simp] theorem State.setRing_counters (s : State) r x : (s.setRing r x).counters = s.counters := rfl
@[simp] theorem State.setRing_latches (s : State) r x : (s.setRing r x).latches = s.latches := rfl
@[simp] theorem State.setRing_calUser (s : State) r x : (s.setRing r x).calUser = s.calUser := rfl
@[simp] theorem State.setRing_calStaged (s : State) r x : (s.setRing r x).calStaged = s.calStaged := rfl
@[simp] theorem State.setRing_calClamped (s : State) r x : (s.setRing r x).calClamped = s.calClamped := rfl
@[simp] theorem State.setRing_calFactory (s : State) r x : (s.setRing r x).calFactory = s.calFactory := rfl
@[simp] theorem State.setRing_mem (s : State) r x : (s.setRing r x).mem = s.mem := rfl
@[simp] theorem State.setRing_poison (s : State) r x : (s.setRing r x).poison = s.poison := rfl
@[simp] theorem State.setRing_raw (s : State) r x : (s.setRing r x).raw = s.raw := rfl
@[simp] theorem State.setRing_slab (s : State) r x : (s.setRing r x).slab = s.slab := rfl
@[simp] theorem State.setRing_tiles (s : State) r x : (s.setRing r x).tiles = s.tiles := rfl
@[simp] theorem State.setRing_tileDef (s : State) r x : (s.setRing r x).tileDef = s.tileDef := rfl
@[simp] theorem State.setRing_retire (s : State) r x : (s.setRing r x).retire = s.retire := rfl
@[simp] theorem State.setRing_gates (s : State) r x : (s.setRing r x).gates = s.gates := rfl
@[simp] theorem State.setRing_roads (s : State) r x : (s.setRing r x).roads = s.roads := rfl
@[simp] theorem State.setRing_dies (s : State) r x : (s.setRing r x).dies = s.dies := rfl
@[simp] theorem State.setRing_grads (s : State) r x : (s.setRing r x).grads = s.grads := rfl
@[simp] theorem State.setRing_hbm (s : State) r x : (s.setRing r x).hbm = s.hbm := rfl
@[simp] theorem State.setRing_farPorts (s : State) r x : (s.setRing r x).farPorts = s.farPorts := rfl
@[simp] theorem State.setRing_ports (s : State) r x : (s.setRing r x).ports = s.ports := rfl
@[simp] theorem State.setRing_routes (s : State) r x : (s.setRing r x).routes = s.routes := rfl
@[simp] theorem State.setRing_twin (s : State) r x : (s.setRing r x).twin = s.twin := rfl
@[simp] theorem State.setRing_wm (s : State) r x : (s.setRing r x).wm = s.wm := rfl
@[simp] theorem State.setRing_mgmt (s : State) r x : (s.setRing r x).mgmt = s.mgmt := rfl
@[simp] theorem State.setRing_sec (s : State) r x : (s.setRing r x).sec = s.sec := rfl
@[simp] theorem State.setRing_scrubs (s : State) r x : (s.setRing r x).scrubs = s.scrubs := rfl

/-! ### setDie -/

@[simp] theorem State.setDie_pending (s : State) k d x : (s.setDie k d x).pending = s.pending := rfl
@[simp] theorem State.setDie_out (s : State) k d x : (s.setDie k d x).out = s.out := rfl
@[simp] theorem State.setDie_free (s : State) k d x : (s.setDie k d x).free = s.free := rfl
@[simp] theorem State.setDie_ltime (s : State) k d x : (s.setDie k d x).ltime = s.ltime := rfl
@[simp] theorem State.setDie_stbyNs (s : State) k d x : (s.setDie k d x).stbyNs = s.stbyNs := rfl
@[simp] theorem State.setDie_input (s : State) k d x : (s.setDie k d x).input = s.input := rfl
@[simp] theorem State.setDie_powered (s : State) k d x : (s.setDie k d x).powered = s.powered := rfl
@[simp] theorem State.setDie_brake (s : State) k d x : (s.setDie k d x).brake = s.brake := rfl
@[simp] theorem State.setDie_layout (s : State) k d x : (s.setDie k d x).layout = s.layout := rfl
@[simp] theorem State.setDie_parts (s : State) k d x : (s.setDie k d x).parts = s.parts := rfl
@[simp] theorem State.setDie_queues (s : State) k d x : (s.setDie k d x).queues = s.queues := rfl
@[simp] theorem State.setDie_turns (s : State) k d x : (s.setDie k d x).turns = s.turns := rfl
@[simp] theorem State.setDie_rings (s : State) k d x : (s.setDie k d x).rings = s.rings := rfl
@[simp] theorem State.setDie_wayposts (s : State) k d x : (s.setDie k d x).wayposts = s.wayposts := rfl
@[simp] theorem State.setDie_regs (s : State) k d x : (s.setDie k d x).regs = s.regs := rfl
@[simp] theorem State.setDie_staged (s : State) k d x : (s.setDie k d x).staged = s.staged := rfl
@[simp] theorem State.setDie_counters (s : State) k d x : (s.setDie k d x).counters = s.counters := rfl
@[simp] theorem State.setDie_latches (s : State) k d x : (s.setDie k d x).latches = s.latches := rfl
@[simp] theorem State.setDie_calUser (s : State) k d x : (s.setDie k d x).calUser = s.calUser := rfl
@[simp] theorem State.setDie_calStaged (s : State) k d x : (s.setDie k d x).calStaged = s.calStaged := rfl
@[simp] theorem State.setDie_calClamped (s : State) k d x : (s.setDie k d x).calClamped = s.calClamped := rfl
@[simp] theorem State.setDie_calFactory (s : State) k d x : (s.setDie k d x).calFactory = s.calFactory := rfl
@[simp] theorem State.setDie_mem (s : State) k d x : (s.setDie k d x).mem = s.mem := rfl
@[simp] theorem State.setDie_poison (s : State) k d x : (s.setDie k d x).poison = s.poison := rfl
@[simp] theorem State.setDie_raw (s : State) k d x : (s.setDie k d x).raw = s.raw := rfl
@[simp] theorem State.setDie_slab (s : State) k d x : (s.setDie k d x).slab = s.slab := rfl
@[simp] theorem State.setDie_tiles (s : State) k d x : (s.setDie k d x).tiles = s.tiles := rfl
@[simp] theorem State.setDie_tileDef (s : State) k d x : (s.setDie k d x).tileDef = s.tileDef := rfl
@[simp] theorem State.setDie_retire (s : State) k d x : (s.setDie k d x).retire = s.retire := rfl
@[simp] theorem State.setDie_gates (s : State) k d x : (s.setDie k d x).gates = s.gates := rfl
@[simp] theorem State.setDie_roads (s : State) k d x : (s.setDie k d x).roads = s.roads := rfl
@[simp] theorem State.setDie_grads (s : State) k d x : (s.setDie k d x).grads = s.grads := rfl
@[simp] theorem State.setDie_hbm (s : State) k d x : (s.setDie k d x).hbm = s.hbm := rfl
@[simp] theorem State.setDie_farPorts (s : State) k d x : (s.setDie k d x).farPorts = s.farPorts := rfl
@[simp] theorem State.setDie_ports (s : State) k d x : (s.setDie k d x).ports = s.ports := rfl
@[simp] theorem State.setDie_routes (s : State) k d x : (s.setDie k d x).routes = s.routes := rfl
@[simp] theorem State.setDie_twin (s : State) k d x : (s.setDie k d x).twin = s.twin := rfl
@[simp] theorem State.setDie_wm (s : State) k d x : (s.setDie k d x).wm = s.wm := rfl
@[simp] theorem State.setDie_mgmt (s : State) k d x : (s.setDie k d x).mgmt = s.mgmt := rfl
@[simp] theorem State.setDie_sec (s : State) k d x : (s.setDie k d x).sec = s.sec := rfl
@[simp] theorem State.setDie_scrubs (s : State) k d x : (s.setDie k d x).scrubs = s.scrubs := rfl

/-! ### setGate -/

@[simp] theorem State.setGate_pending (s : State) d x : (s.setGate d x).pending = s.pending := rfl
@[simp] theorem State.setGate_out (s : State) d x : (s.setGate d x).out = s.out := rfl
@[simp] theorem State.setGate_free (s : State) d x : (s.setGate d x).free = s.free := rfl
@[simp] theorem State.setGate_ltime (s : State) d x : (s.setGate d x).ltime = s.ltime := rfl
@[simp] theorem State.setGate_stbyNs (s : State) d x : (s.setGate d x).stbyNs = s.stbyNs := rfl
@[simp] theorem State.setGate_input (s : State) d x : (s.setGate d x).input = s.input := rfl
@[simp] theorem State.setGate_powered (s : State) d x : (s.setGate d x).powered = s.powered := rfl
@[simp] theorem State.setGate_brake (s : State) d x : (s.setGate d x).brake = s.brake := rfl
@[simp] theorem State.setGate_layout (s : State) d x : (s.setGate d x).layout = s.layout := rfl
@[simp] theorem State.setGate_parts (s : State) d x : (s.setGate d x).parts = s.parts := rfl
@[simp] theorem State.setGate_queues (s : State) d x : (s.setGate d x).queues = s.queues := rfl
@[simp] theorem State.setGate_turns (s : State) d x : (s.setGate d x).turns = s.turns := rfl
@[simp] theorem State.setGate_rings (s : State) d x : (s.setGate d x).rings = s.rings := rfl
@[simp] theorem State.setGate_wayposts (s : State) d x : (s.setGate d x).wayposts = s.wayposts := rfl
@[simp] theorem State.setGate_regs (s : State) d x : (s.setGate d x).regs = s.regs := rfl
@[simp] theorem State.setGate_staged (s : State) d x : (s.setGate d x).staged = s.staged := rfl
@[simp] theorem State.setGate_counters (s : State) d x : (s.setGate d x).counters = s.counters := rfl
@[simp] theorem State.setGate_latches (s : State) d x : (s.setGate d x).latches = s.latches := rfl
@[simp] theorem State.setGate_calUser (s : State) d x : (s.setGate d x).calUser = s.calUser := rfl
@[simp] theorem State.setGate_calStaged (s : State) d x : (s.setGate d x).calStaged = s.calStaged := rfl
@[simp] theorem State.setGate_calClamped (s : State) d x : (s.setGate d x).calClamped = s.calClamped := rfl
@[simp] theorem State.setGate_calFactory (s : State) d x : (s.setGate d x).calFactory = s.calFactory := rfl
@[simp] theorem State.setGate_mem (s : State) d x : (s.setGate d x).mem = s.mem := rfl
@[simp] theorem State.setGate_poison (s : State) d x : (s.setGate d x).poison = s.poison := rfl
@[simp] theorem State.setGate_raw (s : State) d x : (s.setGate d x).raw = s.raw := rfl
@[simp] theorem State.setGate_slab (s : State) d x : (s.setGate d x).slab = s.slab := rfl
@[simp] theorem State.setGate_tiles (s : State) d x : (s.setGate d x).tiles = s.tiles := rfl
@[simp] theorem State.setGate_tileDef (s : State) d x : (s.setGate d x).tileDef = s.tileDef := rfl
@[simp] theorem State.setGate_retire (s : State) d x : (s.setGate d x).retire = s.retire := rfl
@[simp] theorem State.setGate_roads (s : State) d x : (s.setGate d x).roads = s.roads := rfl
@[simp] theorem State.setGate_dies (s : State) d x : (s.setGate d x).dies = s.dies := rfl
@[simp] theorem State.setGate_grads (s : State) d x : (s.setGate d x).grads = s.grads := rfl
@[simp] theorem State.setGate_hbm (s : State) d x : (s.setGate d x).hbm = s.hbm := rfl
@[simp] theorem State.setGate_farPorts (s : State) d x : (s.setGate d x).farPorts = s.farPorts := rfl
@[simp] theorem State.setGate_ports (s : State) d x : (s.setGate d x).ports = s.ports := rfl
@[simp] theorem State.setGate_routes (s : State) d x : (s.setGate d x).routes = s.routes := rfl
@[simp] theorem State.setGate_twin (s : State) d x : (s.setGate d x).twin = s.twin := rfl
@[simp] theorem State.setGate_wm (s : State) d x : (s.setGate d x).wm = s.wm := rfl
@[simp] theorem State.setGate_mgmt (s : State) d x : (s.setGate d x).mgmt = s.mgmt := rfl
@[simp] theorem State.setGate_sec (s : State) d x : (s.setGate d x).sec = s.sec := rfl
@[simp] theorem State.setGate_scrubs (s : State) d x : (s.setGate d x).scrubs = s.scrubs := rfl

/-! ### setGrad -/

@[simp] theorem State.setGrad_pending (s : State) d x : (s.setGrad d x).pending = s.pending := rfl
@[simp] theorem State.setGrad_out (s : State) d x : (s.setGrad d x).out = s.out := rfl
@[simp] theorem State.setGrad_free (s : State) d x : (s.setGrad d x).free = s.free := rfl
@[simp] theorem State.setGrad_ltime (s : State) d x : (s.setGrad d x).ltime = s.ltime := rfl
@[simp] theorem State.setGrad_stbyNs (s : State) d x : (s.setGrad d x).stbyNs = s.stbyNs := rfl
@[simp] theorem State.setGrad_input (s : State) d x : (s.setGrad d x).input = s.input := rfl
@[simp] theorem State.setGrad_powered (s : State) d x : (s.setGrad d x).powered = s.powered := rfl
@[simp] theorem State.setGrad_brake (s : State) d x : (s.setGrad d x).brake = s.brake := rfl
@[simp] theorem State.setGrad_layout (s : State) d x : (s.setGrad d x).layout = s.layout := rfl
@[simp] theorem State.setGrad_parts (s : State) d x : (s.setGrad d x).parts = s.parts := rfl
@[simp] theorem State.setGrad_queues (s : State) d x : (s.setGrad d x).queues = s.queues := rfl
@[simp] theorem State.setGrad_turns (s : State) d x : (s.setGrad d x).turns = s.turns := rfl
@[simp] theorem State.setGrad_rings (s : State) d x : (s.setGrad d x).rings = s.rings := rfl
@[simp] theorem State.setGrad_wayposts (s : State) d x : (s.setGrad d x).wayposts = s.wayposts := rfl
@[simp] theorem State.setGrad_regs (s : State) d x : (s.setGrad d x).regs = s.regs := rfl
@[simp] theorem State.setGrad_staged (s : State) d x : (s.setGrad d x).staged = s.staged := rfl
@[simp] theorem State.setGrad_counters (s : State) d x : (s.setGrad d x).counters = s.counters := rfl
@[simp] theorem State.setGrad_latches (s : State) d x : (s.setGrad d x).latches = s.latches := rfl
@[simp] theorem State.setGrad_calUser (s : State) d x : (s.setGrad d x).calUser = s.calUser := rfl
@[simp] theorem State.setGrad_calStaged (s : State) d x : (s.setGrad d x).calStaged = s.calStaged := rfl
@[simp] theorem State.setGrad_calClamped (s : State) d x : (s.setGrad d x).calClamped = s.calClamped := rfl
@[simp] theorem State.setGrad_calFactory (s : State) d x : (s.setGrad d x).calFactory = s.calFactory := rfl
@[simp] theorem State.setGrad_mem (s : State) d x : (s.setGrad d x).mem = s.mem := rfl
@[simp] theorem State.setGrad_poison (s : State) d x : (s.setGrad d x).poison = s.poison := rfl
@[simp] theorem State.setGrad_raw (s : State) d x : (s.setGrad d x).raw = s.raw := rfl
@[simp] theorem State.setGrad_slab (s : State) d x : (s.setGrad d x).slab = s.slab := rfl
@[simp] theorem State.setGrad_tiles (s : State) d x : (s.setGrad d x).tiles = s.tiles := rfl
@[simp] theorem State.setGrad_tileDef (s : State) d x : (s.setGrad d x).tileDef = s.tileDef := rfl
@[simp] theorem State.setGrad_retire (s : State) d x : (s.setGrad d x).retire = s.retire := rfl
@[simp] theorem State.setGrad_gates (s : State) d x : (s.setGrad d x).gates = s.gates := rfl
@[simp] theorem State.setGrad_roads (s : State) d x : (s.setGrad d x).roads = s.roads := rfl
@[simp] theorem State.setGrad_dies (s : State) d x : (s.setGrad d x).dies = s.dies := rfl
@[simp] theorem State.setGrad_hbm (s : State) d x : (s.setGrad d x).hbm = s.hbm := rfl
@[simp] theorem State.setGrad_farPorts (s : State) d x : (s.setGrad d x).farPorts = s.farPorts := rfl
@[simp] theorem State.setGrad_ports (s : State) d x : (s.setGrad d x).ports = s.ports := rfl
@[simp] theorem State.setGrad_routes (s : State) d x : (s.setGrad d x).routes = s.routes := rfl
@[simp] theorem State.setGrad_twin (s : State) d x : (s.setGrad d x).twin = s.twin := rfl
@[simp] theorem State.setGrad_wm (s : State) d x : (s.setGrad d x).wm = s.wm := rfl
@[simp] theorem State.setGrad_mgmt (s : State) d x : (s.setGrad d x).mgmt = s.mgmt := rfl
@[simp] theorem State.setGrad_sec (s : State) d x : (s.setGrad d x).sec = s.sec := rfl
@[simp] theorem State.setGrad_scrubs (s : State) d x : (s.setGrad d x).scrubs = s.scrubs := rfl

/-! ### setStack -/

@[simp] theorem State.setStack_pending (s : State) m x : (s.setStack m x).pending = s.pending := rfl
@[simp] theorem State.setStack_out (s : State) m x : (s.setStack m x).out = s.out := rfl
@[simp] theorem State.setStack_free (s : State) m x : (s.setStack m x).free = s.free := rfl
@[simp] theorem State.setStack_ltime (s : State) m x : (s.setStack m x).ltime = s.ltime := rfl
@[simp] theorem State.setStack_stbyNs (s : State) m x : (s.setStack m x).stbyNs = s.stbyNs := rfl
@[simp] theorem State.setStack_input (s : State) m x : (s.setStack m x).input = s.input := rfl
@[simp] theorem State.setStack_powered (s : State) m x : (s.setStack m x).powered = s.powered := rfl
@[simp] theorem State.setStack_brake (s : State) m x : (s.setStack m x).brake = s.brake := rfl
@[simp] theorem State.setStack_layout (s : State) m x : (s.setStack m x).layout = s.layout := rfl
@[simp] theorem State.setStack_parts (s : State) m x : (s.setStack m x).parts = s.parts := rfl
@[simp] theorem State.setStack_queues (s : State) m x : (s.setStack m x).queues = s.queues := rfl
@[simp] theorem State.setStack_turns (s : State) m x : (s.setStack m x).turns = s.turns := rfl
@[simp] theorem State.setStack_rings (s : State) m x : (s.setStack m x).rings = s.rings := rfl
@[simp] theorem State.setStack_wayposts (s : State) m x : (s.setStack m x).wayposts = s.wayposts := rfl
@[simp] theorem State.setStack_regs (s : State) m x : (s.setStack m x).regs = s.regs := rfl
@[simp] theorem State.setStack_staged (s : State) m x : (s.setStack m x).staged = s.staged := rfl
@[simp] theorem State.setStack_counters (s : State) m x : (s.setStack m x).counters = s.counters := rfl
@[simp] theorem State.setStack_latches (s : State) m x : (s.setStack m x).latches = s.latches := rfl
@[simp] theorem State.setStack_calUser (s : State) m x : (s.setStack m x).calUser = s.calUser := rfl
@[simp] theorem State.setStack_calStaged (s : State) m x : (s.setStack m x).calStaged = s.calStaged := rfl
@[simp] theorem State.setStack_calClamped (s : State) m x : (s.setStack m x).calClamped = s.calClamped := rfl
@[simp] theorem State.setStack_calFactory (s : State) m x : (s.setStack m x).calFactory = s.calFactory := rfl
@[simp] theorem State.setStack_mem (s : State) m x : (s.setStack m x).mem = s.mem := rfl
@[simp] theorem State.setStack_poison (s : State) m x : (s.setStack m x).poison = s.poison := rfl
@[simp] theorem State.setStack_raw (s : State) m x : (s.setStack m x).raw = s.raw := rfl
@[simp] theorem State.setStack_slab (s : State) m x : (s.setStack m x).slab = s.slab := rfl
@[simp] theorem State.setStack_tiles (s : State) m x : (s.setStack m x).tiles = s.tiles := rfl
@[simp] theorem State.setStack_tileDef (s : State) m x : (s.setStack m x).tileDef = s.tileDef := rfl
@[simp] theorem State.setStack_retire (s : State) m x : (s.setStack m x).retire = s.retire := rfl
@[simp] theorem State.setStack_gates (s : State) m x : (s.setStack m x).gates = s.gates := rfl
@[simp] theorem State.setStack_roads (s : State) m x : (s.setStack m x).roads = s.roads := rfl
@[simp] theorem State.setStack_dies (s : State) m x : (s.setStack m x).dies = s.dies := rfl
@[simp] theorem State.setStack_grads (s : State) m x : (s.setStack m x).grads = s.grads := rfl
@[simp] theorem State.setStack_farPorts (s : State) m x : (s.setStack m x).farPorts = s.farPorts := rfl
@[simp] theorem State.setStack_ports (s : State) m x : (s.setStack m x).ports = s.ports := rfl
@[simp] theorem State.setStack_routes (s : State) m x : (s.setStack m x).routes = s.routes := rfl
@[simp] theorem State.setStack_twin (s : State) m x : (s.setStack m x).twin = s.twin := rfl
@[simp] theorem State.setStack_wm (s : State) m x : (s.setStack m x).wm = s.wm := rfl
@[simp] theorem State.setStack_mgmt (s : State) m x : (s.setStack m x).mgmt = s.mgmt := rfl
@[simp] theorem State.setStack_sec (s : State) m x : (s.setStack m x).sec = s.sec := rfl
@[simp] theorem State.setStack_scrubs (s : State) m x : (s.setStack m x).scrubs = s.scrubs := rfl

/-! ### setPort -/

@[simp] theorem State.setPort_pending (s : State) n x : (s.setPort n x).pending = s.pending := rfl
@[simp] theorem State.setPort_out (s : State) n x : (s.setPort n x).out = s.out := rfl
@[simp] theorem State.setPort_free (s : State) n x : (s.setPort n x).free = s.free := rfl
@[simp] theorem State.setPort_ltime (s : State) n x : (s.setPort n x).ltime = s.ltime := rfl
@[simp] theorem State.setPort_stbyNs (s : State) n x : (s.setPort n x).stbyNs = s.stbyNs := rfl
@[simp] theorem State.setPort_input (s : State) n x : (s.setPort n x).input = s.input := rfl
@[simp] theorem State.setPort_powered (s : State) n x : (s.setPort n x).powered = s.powered := rfl
@[simp] theorem State.setPort_brake (s : State) n x : (s.setPort n x).brake = s.brake := rfl
@[simp] theorem State.setPort_layout (s : State) n x : (s.setPort n x).layout = s.layout := rfl
@[simp] theorem State.setPort_parts (s : State) n x : (s.setPort n x).parts = s.parts := rfl
@[simp] theorem State.setPort_queues (s : State) n x : (s.setPort n x).queues = s.queues := rfl
@[simp] theorem State.setPort_turns (s : State) n x : (s.setPort n x).turns = s.turns := rfl
@[simp] theorem State.setPort_rings (s : State) n x : (s.setPort n x).rings = s.rings := rfl
@[simp] theorem State.setPort_wayposts (s : State) n x : (s.setPort n x).wayposts = s.wayposts := rfl
@[simp] theorem State.setPort_regs (s : State) n x : (s.setPort n x).regs = s.regs := rfl
@[simp] theorem State.setPort_staged (s : State) n x : (s.setPort n x).staged = s.staged := rfl
@[simp] theorem State.setPort_counters (s : State) n x : (s.setPort n x).counters = s.counters := rfl
@[simp] theorem State.setPort_latches (s : State) n x : (s.setPort n x).latches = s.latches := rfl
@[simp] theorem State.setPort_calUser (s : State) n x : (s.setPort n x).calUser = s.calUser := rfl
@[simp] theorem State.setPort_calStaged (s : State) n x : (s.setPort n x).calStaged = s.calStaged := rfl
@[simp] theorem State.setPort_calClamped (s : State) n x : (s.setPort n x).calClamped = s.calClamped := rfl
@[simp] theorem State.setPort_calFactory (s : State) n x : (s.setPort n x).calFactory = s.calFactory := rfl
@[simp] theorem State.setPort_mem (s : State) n x : (s.setPort n x).mem = s.mem := rfl
@[simp] theorem State.setPort_poison (s : State) n x : (s.setPort n x).poison = s.poison := rfl
@[simp] theorem State.setPort_raw (s : State) n x : (s.setPort n x).raw = s.raw := rfl
@[simp] theorem State.setPort_slab (s : State) n x : (s.setPort n x).slab = s.slab := rfl
@[simp] theorem State.setPort_tiles (s : State) n x : (s.setPort n x).tiles = s.tiles := rfl
@[simp] theorem State.setPort_tileDef (s : State) n x : (s.setPort n x).tileDef = s.tileDef := rfl
@[simp] theorem State.setPort_retire (s : State) n x : (s.setPort n x).retire = s.retire := rfl
@[simp] theorem State.setPort_gates (s : State) n x : (s.setPort n x).gates = s.gates := rfl
@[simp] theorem State.setPort_roads (s : State) n x : (s.setPort n x).roads = s.roads := rfl
@[simp] theorem State.setPort_dies (s : State) n x : (s.setPort n x).dies = s.dies := rfl
@[simp] theorem State.setPort_grads (s : State) n x : (s.setPort n x).grads = s.grads := rfl
@[simp] theorem State.setPort_hbm (s : State) n x : (s.setPort n x).hbm = s.hbm := rfl
@[simp] theorem State.setPort_farPorts (s : State) n x : (s.setPort n x).farPorts = s.farPorts := rfl
@[simp] theorem State.setPort_routes (s : State) n x : (s.setPort n x).routes = s.routes := rfl
@[simp] theorem State.setPort_twin (s : State) n x : (s.setPort n x).twin = s.twin := rfl
@[simp] theorem State.setPort_wm (s : State) n x : (s.setPort n x).wm = s.wm := rfl
@[simp] theorem State.setPort_mgmt (s : State) n x : (s.setPort n x).mgmt = s.mgmt := rfl
@[simp] theorem State.setPort_sec (s : State) n x : (s.setPort n x).sec = s.sec := rfl
@[simp] theorem State.setPort_scrubs (s : State) n x : (s.setPort n x).scrubs = s.scrubs := rfl

/-! ### setWaypost -/

@[simp] theorem State.setWaypost_pending (s : State) w v : (s.setWaypost w v).pending = s.pending := rfl
@[simp] theorem State.setWaypost_out (s : State) w v : (s.setWaypost w v).out = s.out := rfl
@[simp] theorem State.setWaypost_free (s : State) w v : (s.setWaypost w v).free = s.free := rfl
@[simp] theorem State.setWaypost_ltime (s : State) w v : (s.setWaypost w v).ltime = s.ltime := rfl
@[simp] theorem State.setWaypost_stbyNs (s : State) w v : (s.setWaypost w v).stbyNs = s.stbyNs := rfl
@[simp] theorem State.setWaypost_input (s : State) w v : (s.setWaypost w v).input = s.input := rfl
@[simp] theorem State.setWaypost_powered (s : State) w v : (s.setWaypost w v).powered = s.powered := rfl
@[simp] theorem State.setWaypost_brake (s : State) w v : (s.setWaypost w v).brake = s.brake := rfl
@[simp] theorem State.setWaypost_layout (s : State) w v : (s.setWaypost w v).layout = s.layout := rfl
@[simp] theorem State.setWaypost_parts (s : State) w v : (s.setWaypost w v).parts = s.parts := rfl
@[simp] theorem State.setWaypost_queues (s : State) w v : (s.setWaypost w v).queues = s.queues := rfl
@[simp] theorem State.setWaypost_turns (s : State) w v : (s.setWaypost w v).turns = s.turns := rfl
@[simp] theorem State.setWaypost_rings (s : State) w v : (s.setWaypost w v).rings = s.rings := rfl
@[simp] theorem State.setWaypost_regs (s : State) w v : (s.setWaypost w v).regs = s.regs := rfl
@[simp] theorem State.setWaypost_staged (s : State) w v : (s.setWaypost w v).staged = s.staged := rfl
@[simp] theorem State.setWaypost_counters (s : State) w v : (s.setWaypost w v).counters = s.counters := rfl
@[simp] theorem State.setWaypost_latches (s : State) w v : (s.setWaypost w v).latches = s.latches := rfl
@[simp] theorem State.setWaypost_calUser (s : State) w v : (s.setWaypost w v).calUser = s.calUser := rfl
@[simp] theorem State.setWaypost_calStaged (s : State) w v : (s.setWaypost w v).calStaged = s.calStaged := rfl
@[simp] theorem State.setWaypost_calClamped (s : State) w v : (s.setWaypost w v).calClamped = s.calClamped := rfl
@[simp] theorem State.setWaypost_calFactory (s : State) w v : (s.setWaypost w v).calFactory = s.calFactory := rfl
@[simp] theorem State.setWaypost_mem (s : State) w v : (s.setWaypost w v).mem = s.mem := rfl
@[simp] theorem State.setWaypost_poison (s : State) w v : (s.setWaypost w v).poison = s.poison := rfl
@[simp] theorem State.setWaypost_raw (s : State) w v : (s.setWaypost w v).raw = s.raw := rfl
@[simp] theorem State.setWaypost_slab (s : State) w v : (s.setWaypost w v).slab = s.slab := rfl
@[simp] theorem State.setWaypost_tiles (s : State) w v : (s.setWaypost w v).tiles = s.tiles := rfl
@[simp] theorem State.setWaypost_tileDef (s : State) w v : (s.setWaypost w v).tileDef = s.tileDef := rfl
@[simp] theorem State.setWaypost_retire (s : State) w v : (s.setWaypost w v).retire = s.retire := rfl
@[simp] theorem State.setWaypost_gates (s : State) w v : (s.setWaypost w v).gates = s.gates := rfl
@[simp] theorem State.setWaypost_roads (s : State) w v : (s.setWaypost w v).roads = s.roads := rfl
@[simp] theorem State.setWaypost_dies (s : State) w v : (s.setWaypost w v).dies = s.dies := rfl
@[simp] theorem State.setWaypost_grads (s : State) w v : (s.setWaypost w v).grads = s.grads := rfl
@[simp] theorem State.setWaypost_hbm (s : State) w v : (s.setWaypost w v).hbm = s.hbm := rfl
@[simp] theorem State.setWaypost_farPorts (s : State) w v : (s.setWaypost w v).farPorts = s.farPorts := rfl
@[simp] theorem State.setWaypost_ports (s : State) w v : (s.setWaypost w v).ports = s.ports := rfl
@[simp] theorem State.setWaypost_routes (s : State) w v : (s.setWaypost w v).routes = s.routes := rfl
@[simp] theorem State.setWaypost_twin (s : State) w v : (s.setWaypost w v).twin = s.twin := rfl
@[simp] theorem State.setWaypost_wm (s : State) w v : (s.setWaypost w v).wm = s.wm := rfl
@[simp] theorem State.setWaypost_mgmt (s : State) w v : (s.setWaypost w v).mgmt = s.mgmt := rfl
@[simp] theorem State.setWaypost_sec (s : State) w v : (s.setWaypost w v).sec = s.sec := rfl
@[simp] theorem State.setWaypost_scrubs (s : State) w v : (s.setWaypost w v).scrubs = s.scrubs := rfl

/-! ### setTile -/

@[simp] theorem State.setTile_pending (s : State) t x : (s.setTile t x).pending = s.pending := rfl
@[simp] theorem State.setTile_out (s : State) t x : (s.setTile t x).out = s.out := rfl
@[simp] theorem State.setTile_free (s : State) t x : (s.setTile t x).free = s.free := rfl
@[simp] theorem State.setTile_ltime (s : State) t x : (s.setTile t x).ltime = s.ltime := rfl
@[simp] theorem State.setTile_stbyNs (s : State) t x : (s.setTile t x).stbyNs = s.stbyNs := rfl
@[simp] theorem State.setTile_input (s : State) t x : (s.setTile t x).input = s.input := rfl
@[simp] theorem State.setTile_powered (s : State) t x : (s.setTile t x).powered = s.powered := rfl
@[simp] theorem State.setTile_brake (s : State) t x : (s.setTile t x).brake = s.brake := rfl
@[simp] theorem State.setTile_layout (s : State) t x : (s.setTile t x).layout = s.layout := rfl
@[simp] theorem State.setTile_parts (s : State) t x : (s.setTile t x).parts = s.parts := rfl
@[simp] theorem State.setTile_queues (s : State) t x : (s.setTile t x).queues = s.queues := rfl
@[simp] theorem State.setTile_turns (s : State) t x : (s.setTile t x).turns = s.turns := rfl
@[simp] theorem State.setTile_rings (s : State) t x : (s.setTile t x).rings = s.rings := rfl
@[simp] theorem State.setTile_wayposts (s : State) t x : (s.setTile t x).wayposts = s.wayposts := rfl
@[simp] theorem State.setTile_regs (s : State) t x : (s.setTile t x).regs = s.regs := rfl
@[simp] theorem State.setTile_staged (s : State) t x : (s.setTile t x).staged = s.staged := rfl
@[simp] theorem State.setTile_counters (s : State) t x : (s.setTile t x).counters = s.counters := rfl
@[simp] theorem State.setTile_latches (s : State) t x : (s.setTile t x).latches = s.latches := rfl
@[simp] theorem State.setTile_calUser (s : State) t x : (s.setTile t x).calUser = s.calUser := rfl
@[simp] theorem State.setTile_calStaged (s : State) t x : (s.setTile t x).calStaged = s.calStaged := rfl
@[simp] theorem State.setTile_calClamped (s : State) t x : (s.setTile t x).calClamped = s.calClamped := rfl
@[simp] theorem State.setTile_calFactory (s : State) t x : (s.setTile t x).calFactory = s.calFactory := rfl
@[simp] theorem State.setTile_mem (s : State) t x : (s.setTile t x).mem = s.mem := rfl
@[simp] theorem State.setTile_poison (s : State) t x : (s.setTile t x).poison = s.poison := rfl
@[simp] theorem State.setTile_raw (s : State) t x : (s.setTile t x).raw = s.raw := rfl
@[simp] theorem State.setTile_slab (s : State) t x : (s.setTile t x).slab = s.slab := rfl
@[simp] theorem State.setTile_tileDef (s : State) t x : (s.setTile t x).tileDef = s.tileDef := rfl
@[simp] theorem State.setTile_retire (s : State) t x : (s.setTile t x).retire = s.retire := rfl
@[simp] theorem State.setTile_gates (s : State) t x : (s.setTile t x).gates = s.gates := rfl
@[simp] theorem State.setTile_roads (s : State) t x : (s.setTile t x).roads = s.roads := rfl
@[simp] theorem State.setTile_dies (s : State) t x : (s.setTile t x).dies = s.dies := rfl
@[simp] theorem State.setTile_grads (s : State) t x : (s.setTile t x).grads = s.grads := rfl
@[simp] theorem State.setTile_hbm (s : State) t x : (s.setTile t x).hbm = s.hbm := rfl
@[simp] theorem State.setTile_farPorts (s : State) t x : (s.setTile t x).farPorts = s.farPorts := rfl
@[simp] theorem State.setTile_ports (s : State) t x : (s.setTile t x).ports = s.ports := rfl
@[simp] theorem State.setTile_routes (s : State) t x : (s.setTile t x).routes = s.routes := rfl
@[simp] theorem State.setTile_twin (s : State) t x : (s.setTile t x).twin = s.twin := rfl
@[simp] theorem State.setTile_wm (s : State) t x : (s.setTile t x).wm = s.wm := rfl
@[simp] theorem State.setTile_mgmt (s : State) t x : (s.setTile t x).mgmt = s.mgmt := rfl
@[simp] theorem State.setTile_sec (s : State) t x : (s.setTile t x).sec = s.sec := rfl
@[simp] theorem State.setTile_scrubs (s : State) t x : (s.setTile t x).scrubs = s.scrubs := rfl

/-! ### setReg -/

@[simp] theorem State.setReg_pending (s : State) k d o j v : (s.setReg k d o j v).pending = s.pending := rfl
@[simp] theorem State.setReg_out (s : State) k d o j v : (s.setReg k d o j v).out = s.out := rfl
@[simp] theorem State.setReg_free (s : State) k d o j v : (s.setReg k d o j v).free = s.free := rfl
@[simp] theorem State.setReg_ltime (s : State) k d o j v : (s.setReg k d o j v).ltime = s.ltime := rfl
@[simp] theorem State.setReg_stbyNs (s : State) k d o j v : (s.setReg k d o j v).stbyNs = s.stbyNs := rfl
@[simp] theorem State.setReg_input (s : State) k d o j v : (s.setReg k d o j v).input = s.input := rfl
@[simp] theorem State.setReg_powered (s : State) k d o j v : (s.setReg k d o j v).powered = s.powered := rfl
@[simp] theorem State.setReg_brake (s : State) k d o j v : (s.setReg k d o j v).brake = s.brake := rfl
@[simp] theorem State.setReg_layout (s : State) k d o j v : (s.setReg k d o j v).layout = s.layout := rfl
@[simp] theorem State.setReg_parts (s : State) k d o j v : (s.setReg k d o j v).parts = s.parts := rfl
@[simp] theorem State.setReg_queues (s : State) k d o j v : (s.setReg k d o j v).queues = s.queues := rfl
@[simp] theorem State.setReg_turns (s : State) k d o j v : (s.setReg k d o j v).turns = s.turns := rfl
@[simp] theorem State.setReg_rings (s : State) k d o j v : (s.setReg k d o j v).rings = s.rings := rfl
@[simp] theorem State.setReg_wayposts (s : State) k d o j v : (s.setReg k d o j v).wayposts = s.wayposts := rfl
@[simp] theorem State.setReg_staged (s : State) k d o j v : (s.setReg k d o j v).staged = s.staged := rfl
@[simp] theorem State.setReg_counters (s : State) k d o j v : (s.setReg k d o j v).counters = s.counters := rfl
@[simp] theorem State.setReg_latches (s : State) k d o j v : (s.setReg k d o j v).latches = s.latches := rfl
@[simp] theorem State.setReg_calUser (s : State) k d o j v : (s.setReg k d o j v).calUser = s.calUser := rfl
@[simp] theorem State.setReg_calStaged (s : State) k d o j v : (s.setReg k d o j v).calStaged = s.calStaged := rfl
@[simp] theorem State.setReg_calClamped (s : State) k d o j v : (s.setReg k d o j v).calClamped = s.calClamped := rfl
@[simp] theorem State.setReg_calFactory (s : State) k d o j v : (s.setReg k d o j v).calFactory = s.calFactory := rfl
@[simp] theorem State.setReg_mem (s : State) k d o j v : (s.setReg k d o j v).mem = s.mem := rfl
@[simp] theorem State.setReg_poison (s : State) k d o j v : (s.setReg k d o j v).poison = s.poison := rfl
@[simp] theorem State.setReg_raw (s : State) k d o j v : (s.setReg k d o j v).raw = s.raw := rfl
@[simp] theorem State.setReg_slab (s : State) k d o j v : (s.setReg k d o j v).slab = s.slab := rfl
@[simp] theorem State.setReg_tiles (s : State) k d o j v : (s.setReg k d o j v).tiles = s.tiles := rfl
@[simp] theorem State.setReg_tileDef (s : State) k d o j v : (s.setReg k d o j v).tileDef = s.tileDef := rfl
@[simp] theorem State.setReg_retire (s : State) k d o j v : (s.setReg k d o j v).retire = s.retire := rfl
@[simp] theorem State.setReg_gates (s : State) k d o j v : (s.setReg k d o j v).gates = s.gates := rfl
@[simp] theorem State.setReg_roads (s : State) k d o j v : (s.setReg k d o j v).roads = s.roads := rfl
@[simp] theorem State.setReg_dies (s : State) k d o j v : (s.setReg k d o j v).dies = s.dies := rfl
@[simp] theorem State.setReg_grads (s : State) k d o j v : (s.setReg k d o j v).grads = s.grads := rfl
@[simp] theorem State.setReg_hbm (s : State) k d o j v : (s.setReg k d o j v).hbm = s.hbm := rfl
@[simp] theorem State.setReg_farPorts (s : State) k d o j v : (s.setReg k d o j v).farPorts = s.farPorts := rfl
@[simp] theorem State.setReg_ports (s : State) k d o j v : (s.setReg k d o j v).ports = s.ports := rfl
@[simp] theorem State.setReg_routes (s : State) k d o j v : (s.setReg k d o j v).routes = s.routes := rfl
@[simp] theorem State.setReg_twin (s : State) k d o j v : (s.setReg k d o j v).twin = s.twin := rfl
@[simp] theorem State.setReg_wm (s : State) k d o j v : (s.setReg k d o j v).wm = s.wm := rfl
@[simp] theorem State.setReg_mgmt (s : State) k d o j v : (s.setReg k d o j v).mgmt = s.mgmt := rfl
@[simp] theorem State.setReg_sec (s : State) k d o j v : (s.setReg k d o j v).sec = s.sec := rfl
@[simp] theorem State.setReg_scrubs (s : State) k d o j v : (s.setReg k d o j v).scrubs = s.scrubs := rfl

/-! ### emit -/

@[simp] theorem State.emit_pending (s : State) o : (s.emit o).pending = s.pending := rfl
@[simp] theorem State.emit_free (s : State) o : (s.emit o).free = s.free := rfl
@[simp] theorem State.emit_ltime (s : State) o : (s.emit o).ltime = s.ltime := rfl
@[simp] theorem State.emit_stbyNs (s : State) o : (s.emit o).stbyNs = s.stbyNs := rfl
@[simp] theorem State.emit_input (s : State) o : (s.emit o).input = s.input := rfl
@[simp] theorem State.emit_powered (s : State) o : (s.emit o).powered = s.powered := rfl
@[simp] theorem State.emit_brake (s : State) o : (s.emit o).brake = s.brake := rfl
@[simp] theorem State.emit_layout (s : State) o : (s.emit o).layout = s.layout := rfl
@[simp] theorem State.emit_parts (s : State) o : (s.emit o).parts = s.parts := rfl
@[simp] theorem State.emit_queues (s : State) o : (s.emit o).queues = s.queues := rfl
@[simp] theorem State.emit_turns (s : State) o : (s.emit o).turns = s.turns := rfl
@[simp] theorem State.emit_rings (s : State) o : (s.emit o).rings = s.rings := rfl
@[simp] theorem State.emit_wayposts (s : State) o : (s.emit o).wayposts = s.wayposts := rfl
@[simp] theorem State.emit_regs (s : State) o : (s.emit o).regs = s.regs := rfl
@[simp] theorem State.emit_staged (s : State) o : (s.emit o).staged = s.staged := rfl
@[simp] theorem State.emit_counters (s : State) o : (s.emit o).counters = s.counters := rfl
@[simp] theorem State.emit_latches (s : State) o : (s.emit o).latches = s.latches := rfl
@[simp] theorem State.emit_calUser (s : State) o : (s.emit o).calUser = s.calUser := rfl
@[simp] theorem State.emit_calStaged (s : State) o : (s.emit o).calStaged = s.calStaged := rfl
@[simp] theorem State.emit_calClamped (s : State) o : (s.emit o).calClamped = s.calClamped := rfl
@[simp] theorem State.emit_calFactory (s : State) o : (s.emit o).calFactory = s.calFactory := rfl
@[simp] theorem State.emit_mem (s : State) o : (s.emit o).mem = s.mem := rfl
@[simp] theorem State.emit_poison (s : State) o : (s.emit o).poison = s.poison := rfl
@[simp] theorem State.emit_raw (s : State) o : (s.emit o).raw = s.raw := rfl
@[simp] theorem State.emit_slab (s : State) o : (s.emit o).slab = s.slab := rfl
@[simp] theorem State.emit_tiles (s : State) o : (s.emit o).tiles = s.tiles := rfl
@[simp] theorem State.emit_tileDef (s : State) o : (s.emit o).tileDef = s.tileDef := rfl
@[simp] theorem State.emit_retire (s : State) o : (s.emit o).retire = s.retire := rfl
@[simp] theorem State.emit_gates (s : State) o : (s.emit o).gates = s.gates := rfl
@[simp] theorem State.emit_roads (s : State) o : (s.emit o).roads = s.roads := rfl
@[simp] theorem State.emit_dies (s : State) o : (s.emit o).dies = s.dies := rfl
@[simp] theorem State.emit_grads (s : State) o : (s.emit o).grads = s.grads := rfl
@[simp] theorem State.emit_hbm (s : State) o : (s.emit o).hbm = s.hbm := rfl
@[simp] theorem State.emit_farPorts (s : State) o : (s.emit o).farPorts = s.farPorts := rfl
@[simp] theorem State.emit_ports (s : State) o : (s.emit o).ports = s.ports := rfl
@[simp] theorem State.emit_routes (s : State) o : (s.emit o).routes = s.routes := rfl
@[simp] theorem State.emit_twin (s : State) o : (s.emit o).twin = s.twin := rfl
@[simp] theorem State.emit_wm (s : State) o : (s.emit o).wm = s.wm := rfl
@[simp] theorem State.emit_mgmt (s : State) o : (s.emit o).mgmt = s.mgmt := rfl
@[simp] theorem State.emit_sec (s : State) o : (s.emit o).sec = s.sec := rfl
@[simp] theorem State.emit_scrubs (s : State) o : (s.emit o).scrubs = s.scrubs := rfl

/-! ### useFree -/

@[simp] theorem State.useFree_pending (s : State) : (s.useFree).pending = s.pending := rfl
@[simp] theorem State.useFree_out (s : State) : (s.useFree).out = s.out := rfl
@[simp] theorem State.useFree_ltime (s : State) : (s.useFree).ltime = s.ltime := rfl
@[simp] theorem State.useFree_stbyNs (s : State) : (s.useFree).stbyNs = s.stbyNs := rfl
@[simp] theorem State.useFree_input (s : State) : (s.useFree).input = s.input := rfl
@[simp] theorem State.useFree_powered (s : State) : (s.useFree).powered = s.powered := rfl
@[simp] theorem State.useFree_brake (s : State) : (s.useFree).brake = s.brake := rfl
@[simp] theorem State.useFree_layout (s : State) : (s.useFree).layout = s.layout := rfl
@[simp] theorem State.useFree_parts (s : State) : (s.useFree).parts = s.parts := rfl
@[simp] theorem State.useFree_queues (s : State) : (s.useFree).queues = s.queues := rfl
@[simp] theorem State.useFree_turns (s : State) : (s.useFree).turns = s.turns := rfl
@[simp] theorem State.useFree_rings (s : State) : (s.useFree).rings = s.rings := rfl
@[simp] theorem State.useFree_wayposts (s : State) : (s.useFree).wayposts = s.wayposts := rfl
@[simp] theorem State.useFree_regs (s : State) : (s.useFree).regs = s.regs := rfl
@[simp] theorem State.useFree_staged (s : State) : (s.useFree).staged = s.staged := rfl
@[simp] theorem State.useFree_counters (s : State) : (s.useFree).counters = s.counters := rfl
@[simp] theorem State.useFree_latches (s : State) : (s.useFree).latches = s.latches := rfl
@[simp] theorem State.useFree_calUser (s : State) : (s.useFree).calUser = s.calUser := rfl
@[simp] theorem State.useFree_calStaged (s : State) : (s.useFree).calStaged = s.calStaged := rfl
@[simp] theorem State.useFree_calClamped (s : State) : (s.useFree).calClamped = s.calClamped := rfl
@[simp] theorem State.useFree_calFactory (s : State) : (s.useFree).calFactory = s.calFactory := rfl
@[simp] theorem State.useFree_mem (s : State) : (s.useFree).mem = s.mem := rfl
@[simp] theorem State.useFree_poison (s : State) : (s.useFree).poison = s.poison := rfl
@[simp] theorem State.useFree_raw (s : State) : (s.useFree).raw = s.raw := rfl
@[simp] theorem State.useFree_slab (s : State) : (s.useFree).slab = s.slab := rfl
@[simp] theorem State.useFree_tiles (s : State) : (s.useFree).tiles = s.tiles := rfl
@[simp] theorem State.useFree_tileDef (s : State) : (s.useFree).tileDef = s.tileDef := rfl
@[simp] theorem State.useFree_retire (s : State) : (s.useFree).retire = s.retire := rfl
@[simp] theorem State.useFree_gates (s : State) : (s.useFree).gates = s.gates := rfl
@[simp] theorem State.useFree_roads (s : State) : (s.useFree).roads = s.roads := rfl
@[simp] theorem State.useFree_dies (s : State) : (s.useFree).dies = s.dies := rfl
@[simp] theorem State.useFree_grads (s : State) : (s.useFree).grads = s.grads := rfl
@[simp] theorem State.useFree_hbm (s : State) : (s.useFree).hbm = s.hbm := rfl
@[simp] theorem State.useFree_farPorts (s : State) : (s.useFree).farPorts = s.farPorts := rfl
@[simp] theorem State.useFree_ports (s : State) : (s.useFree).ports = s.ports := rfl
@[simp] theorem State.useFree_routes (s : State) : (s.useFree).routes = s.routes := rfl
@[simp] theorem State.useFree_twin (s : State) : (s.useFree).twin = s.twin := rfl
@[simp] theorem State.useFree_wm (s : State) : (s.useFree).wm = s.wm := rfl
@[simp] theorem State.useFree_mgmt (s : State) : (s.useFree).mgmt = s.mgmt := rfl
@[simp] theorem State.useFree_sec (s : State) : (s.useFree).sec = s.sec := rfl
@[simp] theorem State.useFree_scrubs (s : State) : (s.useFree).scrubs = s.scrubs := rfl

/-! ### Reading after writing -/

@[simp] theorem State.part_setPart (s : State) p x : (s.setPart p x).part p = x := by simp [State.part, State.setPart]
theorem State.part_setPart_other (s : State) (j p : Nat) x (h : j ≠ p) : (s.setPart p x).part j = s.part j := by
  simp [State.part, State.setPart, tget_tput_other _ _ h]
@[simp] theorem State.queue_setQueue (s : State) q x : (s.setQueue q x).queue q = x := by simp [State.queue, State.setQueue]
theorem State.queue_setQueue_other (s : State) (j q : Nat) x (h : j ≠ q) : (s.setQueue q x).queue j = s.queue j := by
  simp [State.queue, State.setQueue, tget_tput_other _ _ h]
@[simp] theorem State.ring_setRing (s : State) r x : (s.setRing r x).ring r = x := by simp [State.ring, State.setRing]
theorem State.ring_setRing_other (s : State) (j r : Nat) x (h : j ≠ r) : (s.setRing r x).ring j = s.ring j := by
  simp [State.ring, State.setRing, tget_tput_other _ _ h]
@[simp] theorem State.gate_setGate (s : State) d x : (s.setGate d x).gate d = x := by simp [State.gate, State.setGate]
theorem State.gate_setGate_other (s : State) (j d : Nat) x (h : j ≠ d) : (s.setGate d x).gate j = s.gate j := by
  simp [State.gate, State.setGate, tget_tput_other _ _ h]
@[simp] theorem State.grad_setGrad (s : State) d x : (s.setGrad d x).grad d = x := by simp [State.grad, State.setGrad]
theorem State.grad_setGrad_other (s : State) (j d : Nat) x (h : j ≠ d) : (s.setGrad d x).grad j = s.grad j := by
  simp [State.grad, State.setGrad, tget_tput_other _ _ h]
@[simp] theorem State.stack_setStack (s : State) m x : (s.setStack m x).stack m = x := by simp [State.stack, State.setStack]
theorem State.stack_setStack_other (s : State) (j m : Nat) x (h : j ≠ m) : (s.setStack m x).stack j = s.stack j := by
  simp [State.stack, State.setStack, tget_tput_other _ _ h]
@[simp] theorem State.port_setPort (s : State) n x : (s.setPort n x).port n = x := by simp [State.port, State.setPort]
theorem State.port_setPort_other (s : State) (j n : Nat) x (h : j ≠ n) : (s.setPort n x).port j = s.port j := by
  simp [State.port, State.setPort, tget_tput_other _ _ h]
@[simp] theorem State.setQueue_part (s : State) q x (i : Nat) : (s.setQueue q x).part i = s.part i := rfl
@[simp] theorem State.setRing_part (s : State) r x (i : Nat) : (s.setRing r x).part i = s.part i := rfl
@[simp] theorem State.setDie_part (s : State) k d x (i : Nat) : (s.setDie k d x).part i = s.part i := rfl
@[simp] theorem State.setGate_part (s : State) d x (i : Nat) : (s.setGate d x).part i = s.part i := rfl
@[simp] theorem State.setGrad_part (s : State) d x (i : Nat) : (s.setGrad d x).part i = s.part i := rfl
@[simp] theorem State.setStack_part (s : State) m x (i : Nat) : (s.setStack m x).part i = s.part i := rfl
@[simp] theorem State.setPort_part (s : State) n x (i : Nat) : (s.setPort n x).part i = s.part i := rfl
@[simp] theorem State.setWaypost_part (s : State) w v (i : Nat) : (s.setWaypost w v).part i = s.part i := rfl
@[simp] theorem State.setTile_part (s : State) t x (i : Nat) : (s.setTile t x).part i = s.part i := rfl
@[simp] theorem State.setReg_part (s : State) k d o j v (i : Nat) : (s.setReg k d o j v).part i = s.part i := rfl
@[simp] theorem State.emit_part (s : State) o (i : Nat) : (s.emit o).part i = s.part i := rfl
@[simp] theorem State.useFree_part (s : State) (i : Nat) : (s.useFree).part i = s.part i := rfl
@[simp] theorem State.setPart_queue (s : State) p x (i : Nat) : (s.setPart p x).queue i = s.queue i := rfl
@[simp] theorem State.setRing_queue (s : State) r x (i : Nat) : (s.setRing r x).queue i = s.queue i := rfl
@[simp] theorem State.setDie_queue (s : State) k d x (i : Nat) : (s.setDie k d x).queue i = s.queue i := rfl
@[simp] theorem State.setGate_queue (s : State) d x (i : Nat) : (s.setGate d x).queue i = s.queue i := rfl
@[simp] theorem State.setGrad_queue (s : State) d x (i : Nat) : (s.setGrad d x).queue i = s.queue i := rfl
@[simp] theorem State.setStack_queue (s : State) m x (i : Nat) : (s.setStack m x).queue i = s.queue i := rfl
@[simp] theorem State.setPort_queue (s : State) n x (i : Nat) : (s.setPort n x).queue i = s.queue i := rfl
@[simp] theorem State.setWaypost_queue (s : State) w v (i : Nat) : (s.setWaypost w v).queue i = s.queue i := rfl
@[simp] theorem State.setTile_queue (s : State) t x (i : Nat) : (s.setTile t x).queue i = s.queue i := rfl
@[simp] theorem State.setReg_queue (s : State) k d o j v (i : Nat) : (s.setReg k d o j v).queue i = s.queue i := rfl
@[simp] theorem State.emit_queue (s : State) o (i : Nat) : (s.emit o).queue i = s.queue i := rfl
@[simp] theorem State.useFree_queue (s : State) (i : Nat) : (s.useFree).queue i = s.queue i := rfl
@[simp] theorem State.setPart_ring (s : State) p x (i : Nat) : (s.setPart p x).ring i = s.ring i := rfl
@[simp] theorem State.setQueue_ring (s : State) q x (i : Nat) : (s.setQueue q x).ring i = s.ring i := rfl
@[simp] theorem State.setDie_ring (s : State) k d x (i : Nat) : (s.setDie k d x).ring i = s.ring i := rfl
@[simp] theorem State.setGate_ring (s : State) d x (i : Nat) : (s.setGate d x).ring i = s.ring i := rfl
@[simp] theorem State.setGrad_ring (s : State) d x (i : Nat) : (s.setGrad d x).ring i = s.ring i := rfl
@[simp] theorem State.setStack_ring (s : State) m x (i : Nat) : (s.setStack m x).ring i = s.ring i := rfl
@[simp] theorem State.setPort_ring (s : State) n x (i : Nat) : (s.setPort n x).ring i = s.ring i := rfl
@[simp] theorem State.setWaypost_ring (s : State) w v (i : Nat) : (s.setWaypost w v).ring i = s.ring i := rfl
@[simp] theorem State.setTile_ring (s : State) t x (i : Nat) : (s.setTile t x).ring i = s.ring i := rfl
@[simp] theorem State.setReg_ring (s : State) k d o j v (i : Nat) : (s.setReg k d o j v).ring i = s.ring i := rfl
@[simp] theorem State.emit_ring (s : State) o (i : Nat) : (s.emit o).ring i = s.ring i := rfl
@[simp] theorem State.useFree_ring (s : State) (i : Nat) : (s.useFree).ring i = s.ring i := rfl
@[simp] theorem State.setPart_gate (s : State) p x (i : Nat) : (s.setPart p x).gate i = s.gate i := rfl
@[simp] theorem State.setQueue_gate (s : State) q x (i : Nat) : (s.setQueue q x).gate i = s.gate i := rfl
@[simp] theorem State.setRing_gate (s : State) r x (i : Nat) : (s.setRing r x).gate i = s.gate i := rfl
@[simp] theorem State.setDie_gate (s : State) k d x (i : Nat) : (s.setDie k d x).gate i = s.gate i := rfl
@[simp] theorem State.setGrad_gate (s : State) d x (i : Nat) : (s.setGrad d x).gate i = s.gate i := rfl
@[simp] theorem State.setStack_gate (s : State) m x (i : Nat) : (s.setStack m x).gate i = s.gate i := rfl
@[simp] theorem State.setPort_gate (s : State) n x (i : Nat) : (s.setPort n x).gate i = s.gate i := rfl
@[simp] theorem State.setWaypost_gate (s : State) w v (i : Nat) : (s.setWaypost w v).gate i = s.gate i := rfl
@[simp] theorem State.setTile_gate (s : State) t x (i : Nat) : (s.setTile t x).gate i = s.gate i := rfl
@[simp] theorem State.setReg_gate (s : State) k d o j v (i : Nat) : (s.setReg k d o j v).gate i = s.gate i := rfl
@[simp] theorem State.emit_gate (s : State) o (i : Nat) : (s.emit o).gate i = s.gate i := rfl
@[simp] theorem State.useFree_gate (s : State) (i : Nat) : (s.useFree).gate i = s.gate i := rfl
@[simp] theorem State.setPart_grad (s : State) p x (i : Nat) : (s.setPart p x).grad i = s.grad i := rfl
@[simp] theorem State.setQueue_grad (s : State) q x (i : Nat) : (s.setQueue q x).grad i = s.grad i := rfl
@[simp] theorem State.setRing_grad (s : State) r x (i : Nat) : (s.setRing r x).grad i = s.grad i := rfl
@[simp] theorem State.setDie_grad (s : State) k d x (i : Nat) : (s.setDie k d x).grad i = s.grad i := rfl
@[simp] theorem State.setGate_grad (s : State) d x (i : Nat) : (s.setGate d x).grad i = s.grad i := rfl
@[simp] theorem State.setStack_grad (s : State) m x (i : Nat) : (s.setStack m x).grad i = s.grad i := rfl
@[simp] theorem State.setPort_grad (s : State) n x (i : Nat) : (s.setPort n x).grad i = s.grad i := rfl
@[simp] theorem State.setWaypost_grad (s : State) w v (i : Nat) : (s.setWaypost w v).grad i = s.grad i := rfl
@[simp] theorem State.setTile_grad (s : State) t x (i : Nat) : (s.setTile t x).grad i = s.grad i := rfl
@[simp] theorem State.setReg_grad (s : State) k d o j v (i : Nat) : (s.setReg k d o j v).grad i = s.grad i := rfl
@[simp] theorem State.emit_grad (s : State) o (i : Nat) : (s.emit o).grad i = s.grad i := rfl
@[simp] theorem State.useFree_grad (s : State) (i : Nat) : (s.useFree).grad i = s.grad i := rfl
@[simp] theorem State.setPart_stack (s : State) p x (i : Nat) : (s.setPart p x).stack i = s.stack i := rfl
@[simp] theorem State.setQueue_stack (s : State) q x (i : Nat) : (s.setQueue q x).stack i = s.stack i := rfl
@[simp] theorem State.setRing_stack (s : State) r x (i : Nat) : (s.setRing r x).stack i = s.stack i := rfl
@[simp] theorem State.setDie_stack (s : State) k d x (i : Nat) : (s.setDie k d x).stack i = s.stack i := rfl
@[simp] theorem State.setGate_stack (s : State) d x (i : Nat) : (s.setGate d x).stack i = s.stack i := rfl
@[simp] theorem State.setGrad_stack (s : State) d x (i : Nat) : (s.setGrad d x).stack i = s.stack i := rfl
@[simp] theorem State.setPort_stack (s : State) n x (i : Nat) : (s.setPort n x).stack i = s.stack i := rfl
@[simp] theorem State.setWaypost_stack (s : State) w v (i : Nat) : (s.setWaypost w v).stack i = s.stack i := rfl
@[simp] theorem State.setTile_stack (s : State) t x (i : Nat) : (s.setTile t x).stack i = s.stack i := rfl
@[simp] theorem State.setReg_stack (s : State) k d o j v (i : Nat) : (s.setReg k d o j v).stack i = s.stack i := rfl
@[simp] theorem State.emit_stack (s : State) o (i : Nat) : (s.emit o).stack i = s.stack i := rfl
@[simp] theorem State.useFree_stack (s : State) (i : Nat) : (s.useFree).stack i = s.stack i := rfl
@[simp] theorem State.setPart_port (s : State) p x (i : Nat) : (s.setPart p x).port i = s.port i := rfl
@[simp] theorem State.setQueue_port (s : State) q x (i : Nat) : (s.setQueue q x).port i = s.port i := rfl
@[simp] theorem State.setRing_port (s : State) r x (i : Nat) : (s.setRing r x).port i = s.port i := rfl
@[simp] theorem State.setDie_port (s : State) k d x (i : Nat) : (s.setDie k d x).port i = s.port i := rfl
@[simp] theorem State.setGate_port (s : State) d x (i : Nat) : (s.setGate d x).port i = s.port i := rfl
@[simp] theorem State.setGrad_port (s : State) d x (i : Nat) : (s.setGrad d x).port i = s.port i := rfl
@[simp] theorem State.setStack_port (s : State) m x (i : Nat) : (s.setStack m x).port i = s.port i := rfl
@[simp] theorem State.setWaypost_port (s : State) w v (i : Nat) : (s.setWaypost w v).port i = s.port i := rfl
@[simp] theorem State.setTile_port (s : State) t x (i : Nat) : (s.setTile t x).port i = s.port i := rfl
@[simp] theorem State.setReg_port (s : State) k d o j v (i : Nat) : (s.setReg k d o j v).port i = s.port i := rfl
@[simp] theorem State.emit_port (s : State) o (i : Nat) : (s.emit o).port i = s.port i := rfl
@[simp] theorem State.useFree_port (s : State) (i : Nat) : (s.useFree).port i = s.port i := rfl
@[simp] theorem State.waypost_setWaypost (s : State) w v : (s.setWaypost w v).waypost w = v := by simp [State.waypost, State.setWaypost]
theorem State.waypost_setWaypost_other (s : State) (j w : Nat) v (h : j ≠ w) : (s.setWaypost w v).waypost j = s.waypost j := by
  simp [State.waypost, State.setWaypost, tget_tput_other _ _ h]
@[simp] theorem State.setPart_waypost (s : State) p x (w' : Nat) : (s.setPart p x).waypost w' = s.waypost w' := rfl
@[simp] theorem State.setQueue_waypost (s : State) q x (w' : Nat) : (s.setQueue q x).waypost w' = s.waypost w' := rfl
@[simp] theorem State.setRing_waypost (s : State) r x (w' : Nat) : (s.setRing r x).waypost w' = s.waypost w' := rfl
@[simp] theorem State.setDie_waypost (s : State) k d x (w' : Nat) : (s.setDie k d x).waypost w' = s.waypost w' := rfl
@[simp] theorem State.setGate_waypost (s : State) d x (w' : Nat) : (s.setGate d x).waypost w' = s.waypost w' := rfl
@[simp] theorem State.setGrad_waypost (s : State) d x (w' : Nat) : (s.setGrad d x).waypost w' = s.waypost w' := rfl
@[simp] theorem State.setStack_waypost (s : State) m x (w' : Nat) : (s.setStack m x).waypost w' = s.waypost w' := rfl
@[simp] theorem State.setPort_waypost (s : State) n x (w' : Nat) : (s.setPort n x).waypost w' = s.waypost w' := rfl
@[simp] theorem State.setTile_waypost (s : State) t x (w' : Nat) : (s.setTile t x).waypost w' = s.waypost w' := rfl
@[simp] theorem State.setReg_waypost (s : State) k d o j v (w' : Nat) : (s.setReg k d o j v).waypost w' = s.waypost w' := rfl
@[simp] theorem State.emit_waypost (s : State) o (w' : Nat) : (s.emit o).waypost w' = s.waypost w' := rfl
@[simp] theorem State.useFree_waypost (s : State) (w' : Nat) : (s.useFree).waypost w' = s.waypost w' := rfl
@[simp] theorem State.tile_setTile (s : State) t x : (s.setTile t x).tile t = x := by simp [State.tile, State.setTile]
theorem State.tile_setTile_other (s : State) (j t : Nat) x (h : j ≠ t) : (s.setTile t x).tile j = s.tile j := by
  simp [State.tile, State.setTile, tfind_tput_other h]
@[simp] theorem State.reg_setReg (s : State) k d o i v : (s.setReg k d o i v).reg k d o i = v := by simp [State.reg, State.setReg]
@[simp] theorem State.setPart_reg (s : State) p x (k' d' o' i' : Nat) : (s.setPart p x).reg k' d' o' i' = s.reg k' d' o' i' := rfl
@[simp] theorem State.setQueue_reg (s : State) q x (k' d' o' i' : Nat) : (s.setQueue q x).reg k' d' o' i' = s.reg k' d' o' i' := rfl
@[simp] theorem State.setRing_reg (s : State) r x (k' d' o' i' : Nat) : (s.setRing r x).reg k' d' o' i' = s.reg k' d' o' i' := rfl
@[simp] theorem State.setDie_reg (s : State) k d x (k' d' o' i' : Nat) : (s.setDie k d x).reg k' d' o' i' = s.reg k' d' o' i' := rfl
@[simp] theorem State.setGate_reg (s : State) d x (k' d' o' i' : Nat) : (s.setGate d x).reg k' d' o' i' = s.reg k' d' o' i' := rfl
@[simp] theorem State.setGrad_reg (s : State) d x (k' d' o' i' : Nat) : (s.setGrad d x).reg k' d' o' i' = s.reg k' d' o' i' := rfl
@[simp] theorem State.setStack_reg (s : State) m x (k' d' o' i' : Nat) : (s.setStack m x).reg k' d' o' i' = s.reg k' d' o' i' := rfl
@[simp] theorem State.setPort_reg (s : State) n x (k' d' o' i' : Nat) : (s.setPort n x).reg k' d' o' i' = s.reg k' d' o' i' := rfl
@[simp] theorem State.setWaypost_reg (s : State) w v (k' d' o' i' : Nat) : (s.setWaypost w v).reg k' d' o' i' = s.reg k' d' o' i' := rfl
@[simp] theorem State.setTile_reg (s : State) t x (k' d' o' i' : Nat) : (s.setTile t x).reg k' d' o' i' = s.reg k' d' o' i' := rfl
@[simp] theorem State.emit_reg (s : State) o (k' d' o' i' : Nat) : (s.emit o).reg k' d' o' i' = s.reg k' d' o' i' := rfl
@[simp] theorem State.useFree_reg (s : State) (k' d' o' i' : Nat) : (s.useFree).reg k' d' o' i' = s.reg k' d' o' i' := rfl

end Sys2Proof.Machine
end

