-- ==== Sys2Proof/Laws/Queue.lean ====
section
/-! SUPPORT. What finishing a descriptor, writing a waypost and settling a queue do to the queues. -/

set_option Elab.async false

namespace Sys2Proof.Machine

open Sys2Proof Sys2Proof.Safety

/-- A table whose entries are changed under their keys. -/
theorem tfind_map {α : Type} (f : Nat → α → α) (i : Nat) : ∀ m : SMap α,
    tfind (m.map fun e => (e.1, f e.1 e.2)) i = (tfind m i).map (f i)
  | [] => rfl
  | (k, v) :: t => by
    simp only [List.map_cons, tfind]
    split
    · next h => subst h; rfl
    · split
      · rfl
      · exact tfind_map f i t

@[simp] theorem SubQ.meet_running (x : SubQ) (w : Nat) (v : Word64) : (x.meet w v).running = x.running := by
  unfold SubQ.meet
  split
  · split <;> rfl
  · rfl
@[simp] theorem SubQ.meet_head (x : SubQ) (w : Nat) (v : Word64) : (x.meet w v).head = x.head := by
  unfold SubQ.meet
  split
  · split <;> rfl
  · rfl
@[simp] theorem SubQ.meet_tail (x : SubQ) (w : Nat) (v : Word64) : (x.meet w v).tail = x.tail := by
  unfold SubQ.meet
  split
  · split <;> rfl
  · rfl
@[simp] theorem SubQ.meet_length (x : SubQ) (w : Nat) (v : Word64) : (x.meet w v).fetched.length = x.fetched.length := by
  unfold SubQ.meet
  split
  · next h => split <;> simp_all
  · rfl

/-- A change of every queue of a partition that keeps a property of each keeps it of queue `q`. -/
theorem State.queue_modQueues {P : SubQ → Prop} (s : State) (p q : Nat) (f : Nat → SubQ → SubQ)
    (h : P (s.queue q)) (k : ∀ x, P x → P (f q x)) : P ((s.modQueues p f).queue q) := by
  unfold State.queue State.modQueues at *
  dsimp only
  have e : ∀ m : SMap SubQ, (m.map fun e => if (s.part p).holds (queueHub e.1) then (e.1, f e.1 e.2) else e) =
      m.map fun e => (e.1, if (s.part p).holds (queueHub e.1) then f e.1 e.2 else e.2) := by
    intro m
    congr 1
    funext e
    split <;> rfl
  rw [e]
  unfold tget at *
  rw [tfind_map fun i x => if (s.part p).holds (queueHub i) then f i x else x]
  cases g : tfind s.queues q with
  | none => rw [g] at h; exact h
  | some x =>
    rw [g] at h
    simp only [Option.map_some, Option.getD_some] at h ⊢
    split
    · exact k x h
    · exact h

@[simp] theorem State.running_waypostWrite (s : State) (w : Nat) (v : Word64) (q : Nat) :
    ((s.waypostWrite w v).queue q).running = (s.queue q).running :=
  State.queue_modQueues (P := fun x => x.running = (s.queue q).running) _ _ q _ rfl fun _ h => by simpa using h

/-- A descriptor that runs and is not done finishes with the status and RESULT given. -/
theorem finished_finish {s : State} {q st : Nat} {res : List Byte} {r : Running} (h : (s.queue q).running = some r)
    (d : r.done = none) : Finished (s.finish q st res) q st res := by
  unfold State.finish
  simp only [h, d, Option.isSome_none, Bool.false_eq_true, if_false]
  refine ⟨{ r with done := some (st, res), work := { r.work with doneNo := s.nextDone } }, ?_, rfl⟩
  split
  · simp
  · simp

/-- What a descriptor in progress is. -/
theorem runningOp_some {s : State} {q op : Nat} {r : Running} (h : s.runningOp q op = some r) :
    (s.queue q).running = some r ∧ r.began = true ∧ r.done = none ∧ dOpcode r.desc = op := by
  unfold State.runningOp at h
  split at h
  · next x e =>
    split at h
    · next k =>
      cases h
      simp only [Bool.and_eq_true, Option.isNone_iff_eq_none, beq_iff_eq] at k
      exact ⟨e, k.1.1, k.1.2, k.2⟩
    · contradiction
  · contradiction

/-- A command that works on a running descriptor does what its body says. -/
theorem onRunning_run {s : State} {q op : Nat} {r : Running} (h : Runs s q op r) (k : Running → State) :
    onRunning q op s k = .next (k r) := by
  simp only [onRunning, onQueue, h.1, h.2, if_true]

/-- Finishing a descriptor leaves what the other queues run. -/
theorem running_finish_other (s : State) {q q' : Nat} (st : Nat) (res : List Byte) (h : q' ≠ q) :
    ((s.finish q st res).queue q').running = (s.queue q').running := by
  unfold State.finish
  dsimp only
  split
  · rfl
  · split
    · rfl
    · split
      · rw [State.running_waypostWrite, State.queue_setQueue_other _ _ _ _ h]
      · rw [State.queue_setQueue_other _ _ _ _ h]

/-- Settling a queue leaves what every queue runs. -/
theorem running_settle (s : State) (q : Nat) {q' : Nat} {r : Running} (h : (s.queue q').running = some r) :
    ((s.settle q).queue q').running = some r := by
  by_cases e : q' = q
  · subst e
    unfold State.settle
    dsimp only
    rw [h]
    exact h
  · unfold State.settle
    dsimp only
    split
    · next f rest _ _ =>
      have k : ∀ st res, ((s.failHead q f rest st res).queue q').running = some r := by
        intro st res
        unfold State.failHead
        rw [running_finish_other _ _ _ e, State.queue_setQueue_other _ _ _ _ e, h]
      split
      · exact k _ _
      · split
        · exact k _ _
        · split
          · exact k _ _
          · rw [State.queue_setQueue_other _ _ _ _ e, h]
    · exact h

theorem running_settleAll (s : State) (p : Nat) {q' : Nat} {r : Running} (h : (s.queue q').running = some r) :
    ((s.settleAll p).queue q').running = some r := by
  unfold State.settleAll
  generalize s.queuesOf p = l
  induction l generalizing s with
  | nil => exact h
  | cons a l ih => exact ih (s.settle a.1) (running_settle s a.1 h)

end Sys2Proof.Machine
end

