-- ==== Sys2Proof/Tests/Slice0.lean ====
section
/-! SUPPORT. Smoke tests of WellFormed, small tests of commands with results from the spec, and for every statement of the certificate a state and operands that meet its hypotheses. -/

set_option Elab.async false

namespace Sys2Proof.Tests

open Sys2Proof Sys2Proof.Machine Sys2Proof.Safety

/-! ### Small states -/

/-- One partition over the four quadrants, in service. -/
def part0 : Part := { Part.absent with st := .inService, quads := [0, 1, 2, 3] }

/-- The data plane is up with every stack in service; queue 0, ring 0 and the event queue are enabled. -/
def base : State :=
  let s := { State.reset with
    input := true
    powered := true
    ltime := 5000
    parts := [(0, part0)]
    hbm := (List.range 24).map fun m => (m, { Stack.reset with online := true }) }
  ((s.setReg 2 0 0x30C 0 (2 ^ 18)).setReg 2 0 0x320 0 (2 ^ 15)).setReg 2 0 0x330 0 (2 ^ 15)

/-- A command ends in a next state of which a test holds. -/
def next (c : Instr) (s : State) (f : State → Bool) : Bool :=
  match exec c s with
  | .next t => f t
  | .fault _ => false
  | .refused _ => false

/-- Queue 0 holds a descriptor that runs. -/
def running (r : Running) (s : State := base) : State := s.setQueue 0 { SubQ.reset with running := some r }
/-- A descriptor that has begun: opcode, further fields as (offset, bytes, value), argument block. -/
def begun (op : Nat) (fs : List (Nat × Nat × Nat) := []) (args : List Byte := []) : Running :=
  ⟨block 64 ((0, 1, op) :: fs), args, true, none, Work.none⟩
/-- Queue 0 runs a descriptor. -/
def runs (op : Nat) (fs : List (Nat × Nat × Nat) := []) (args : List Byte := []) (s : State := base) : State :=
  running (begun op fs args) s
/-- The state with the partition changed. -/
def within (f : Part → Part) (s : State := base) : State := s.modPart 0 f
/-- The state with a field of a register set. -/
def field' (k d off lo w v : Nat) (s : State := base) : State := s.setRegf k d off lo w v

/-! ### WellFormed -/

/-- Each check of WellFormed refuses a command that breaks it alone. -/
theorem test_wellformed_refuses :
    ([.functionLevelReset 4, .registerWrite 4 0 4 0, .nop 65536, .idleTimeout (528 * 64), .idleTimeout (2 ^ 19), .refreshStart 8,
      .footpathComplete 8 0, .queueEnable .owner 4 0, .refreshReq (.tenant 4) 0 0, .budgetHandover 4, .replayTimeout 9,
      .stackTempSample 24 0, .farLinkDown 2, .bootCfg 2 0 true, .doorbell 0 0 2 0, .registerWrite 0 2 4 0, .scrub 0 0 0,
      .scrub 0 0 16, .challenge 0 [], .hostWindowWrite 0 0 [], .linkFlitReceive 0 [] none] : List Instr).all
      (fun c => !c.wellFormed) = true := by decide
/-- Commands at the edges of their ranges are well formed. -/
theorem test_wellformed_accepts :
    ([.functionLevelReset 3, .nop 65535, .idleTimeout (527 * 64 + 63), .refreshStart 7, .queueEnable .owner 3 0, .budgetHandover 3,
      .replayTimeout 8, .stackTempSample 23 0, .farLinkDown 1, .bootCfg 1 65535 true, .doorbell 3 65535 8 0, .scrub 0 0 15,
      .hostWindowWrite 0 0 (List.replicate 64 0), .linkFlitReceive 8 (List.replicate 256 0) none] : List Instr).all
      Instr.wellFormed = true := by decide +kernel

/-! ### Witnesses: the whole machine and the frames -/

theorem wit_StepRunsFrontCommand : ({ base with pending := [.snoop 0] } : State).pending = .snoop 0 :: [] := rfl
theorem wit_IdleStep : base.pending = [] ∧ State.reset.pending = [] ∧ State.reset.powered = false := by decide +kernel
theorem wit_WellFormed : (Instr.nop 65535).wellFormed = true := by decide
theorem wit_QueueOk : QueueOk { base with pending := [.nop 0] } := by
  intro c hc
  rw [List.mem_singleton.mp hc]
  decide
theorem wit_MemoryOk : MemoryOk base ∧ ∃ t, step base = .next t := ⟨⟨by decide +kernel, by decide +kernel⟩, _, rfl⟩
/-- Every command answers a next state somewhere, so that no frame is empty. -/
theorem wit_Frames :
    ([.doorbell 0 0 8 0, .descriptorFetch 0 .poisoned, .descriptorBegin 0 .poisoned, .budgetHandover 0, .completionPost 0 true,
      .eqOverflow ⟨0, true⟩, .eqOverflow ⟨0, false⟩, .nop 0, .waypostSet 0 true, .copy 0 .poisoned true, .holdRelease 0, .mapLoad 0 .poisoned,
      .groupLoad 0 .poisoned, .vprogLoad 0 .poisoned, .collGroup 0 .poisoned, .forward 0, .dispatch 0, .matmul 0 false, .row 0,
      .ingrad 0 false, .wgrad 0 false, .deriv 0, .vprog 0, .reduceScatter 0, .allGather 0, .allReduce 0, .broadcast 0,
      .orderGather 0, .updateNorm 0, .updateApply 0, .pass2BlockResume 0, .updateInit 0, .program 0, .programBatch 0 [],
      .milestone 0, .milestoneClosure 0, .snapshot 0 true, .snapshotDeferredStart 0 true, .restore 0 .poisoned, .vectorLatch 0,
      .segmentSample 0 [], .edgePipeline 0, .partialPacket 0, .residualArrival 0 0 [], .inputPieceArrival 0, .idleTimeout 0,
      .wakeAdmit 0, .tileWakeDone 0, .tollAdmit 0, .debtCheck 0 0, .railMeasure 0 0 0, .refreshStart 0, .refreshComplete 0,
      .probeStart 0, .probeScanDone 0 [] [], .repairDone 0, .reserveProgrammed 0] : List Instr).all
      (fun c => next c base fun _ => true) = true := by decide +kernel
theorem wit_Frames2 :
    ([.refreshReq .owner 0 0, .probeReq .owner 0 0, .retireReq .owner 0 0, .footpathGo .owner 0 0, .footpathComplete 0 0,
      .queueEnable .owner 0 0, .queueDisable .owner 0 0, .completionRingEnable .owner 0 0, .eventQueueEnable .owner 0 0,
      .portEnableWrite .owner 0 0, .latchedPairRead .owner .hd 0 0x398, .wmFifoRead .owner, .registerWrite 0 0 4 0,
      .hostWindowRead 0 0, .hostWindowWrite 0 0 [], .configRequest 0, .snoop 0, .functionLevelReset 0, .perst, .powerBrakeAssert,
      .powerBrakeRelease, .dieTempSample .ad 0 [], .clockFault .ad 0 0 0, .inputFault false 0,
      .powerOn ⟨0, (true, true), [], [], [], (0, 0), false, 0, [], []⟩, .recoveryImage 0 [], .mgmtRecordWrite, .standbyCopy,
      .mgmtFailover 0, .telemetryRecord ⟨[], 0⟩, .standbyTempSample [], .registerPathRead 0 0 0, .registerPathWrite 0 0 0 0,
      .scrub 0 0 1, .scrubComplete 1 ⟨[], []⟩, .assign 0 0 1, .stop 0 0 1, .resume 0 0 1, .layout 0 0 0, .farAssign 0 0 1 0 0, .reset 0 0 0,
      .fwWrite 0 0 0 0 [], .fwCommit 0 0 2, .keyRecord 0 0 2 0 true [] [], .arbRaise 0 0 0, .report 0 0 0 [], .telemetry 0 0 0,
      .recordRead 0 0 0, .arrayReport 0 0 8, .markClear 0 0 0, .certRead 0 0 2 0, .bootCfg 0 0 true, .getVersion 0,
      .getCapabilities 0, .negotiateAlgorithms 0, .getDigests 0, .getCertificate 0 0 0 0, .challenge 0 [], .getMeasurements 0 0 [],
      .keyExchange 0 [], .finish 0 true, .endSession 0] : List Instr).all (fun c => next c base fun _ => true) = true := by
  decide +kernel
theorem wit_Frames3 :
    ([.linkFlitReceive 0 [] none, .replayRequest 0 0, .replayTimeout 0, .trainComplete 0 ⟨8, 0, 0, 0, false⟩, .trainTimeout 0,
      .linkSignalLoss 0, .packetReceive 0, .readyReceive 0 ⟨0, 0, 0, 0, .allGather, 0, 0, 0, 0, 0, [], 0⟩, .readyResend 0 0 0,
      .collDataReceive 0, .abortReceive 0 ⟨0, 0, 0, 0, 0⟩, .collSettleExpiry 0 0 0, .collWatchdogExpiry 0 0 0, .stackTempSample 0 0,
      .stackReturn 0 [], .patrolRead 0 0 0 [], .farTimeout 0 ⟨0, false⟩, .farLinkDown 0, .spillCopyDone 0 0 true, .twinEnable .owner 0,
      .twinDetach .owner 0, .twinPull .owner 0, .hello ⟨0, 0, [], []⟩, .chain [] [], .ident [], .confirm true, .pairingTimeout,
      .heartbeatSend, .heartbeatReceive ⟨0, 0, 0, 0, false⟩, .twinHeartbeatMiss, .detachEnd, .mirrorReceived false [] true,
      .swTrig .owner 0, .abort .owner 0, .flush .owner 0, .trigInEdge true, .waymarkStep [], .signalPresent 0, .farLinkTrained 0,
      .rangeZeroingComplete 0, .mirrorSendComplete, .returnConfirmed, .returnRequestReceive, .hdmDecoderCommit 0 false,
      .ideKeyManagement 0 0 0 false []] : List Instr).all (fun c => next c base fun _ => true) = true := by decide +kernel

/-! ### Witnesses: the queue engine -/

/-- A tail within the ring, and one beyond it. -/
theorem wit_Doorbell : (base.part 0).inService = true ∧ (base.part 0).holds (queueHub 0) = true ∧ base.queueOn 0 = true ∧
    base.queueSize 0 = 16 ∧ badTail (base.queue 0) (base.queueSize 0) 15 = false ∧ badTail (base.queue 0) (base.queueSize 0) 16 = true ∧
    (base.queue 0).stopped = 0 ∧ next (.doorbell 0 0 8 0x1000F) base (fun t => (t.queue 0).tail == 15) = true := by decide +kernel

/-- A queue with one submitted descriptor, and one behind a descriptor that runs. -/
def submitted : State := base.setQueue 0 { SubQ.reset with tail := 15, head := 14 }
/-- A NOP that stands first, its wait met. -/
def pendingNop : State := base.setQueue 0 { SubQ.reset with fetched := [⟨block 64 [], none, true⟩] }
theorem wit_Descriptors :
    (submitted.part (submitted.queuePart 0)).inService = true ∧ submitted.queueOn 0 = true ∧ (submitted.queue 0).stopped = 0 ∧
    (submitted.queue 0).head ≠ (submitted.queue 0).tail ∧ (block 64 []).length = 64 ∧
    (pendingNop.queue 0).running = none ∧ pendCheck (pendingNop.part 0) (block 64 []) = none ∧
    pendingNop.eligible 0 0 (pendingNop.queue 0) = true ∧ pendingNop.itsTurn 0 0 = true ∧
    pendingNop.readArgs 0 (block 64 []) .poisoned = .inr [] ∧
    ((within fun x => { x with incoming := some 2 }).part 0).incoming = some 2 := by decide +kernel

/-- A NOP that has finished. -/
def finished : State := running { begun 0 with done := some (stOk, result0) }
/-- An event queue that has lost an event and has room again. -/
def overflowed : State := within fun x => { x with eq := { x.eq with lost := 1 } }
theorem wit_Completions : (finished.queue 0).running = some { begun 0 with done := some (stOk, result0) } ∧
    dNocomp (block 64 [(0, 1, 0)]) = false ∧ finished.ringOk (finished.queuePart 0) 0 = true ∧
    finished.postsLater (finished.queuePart 0) 0 { begun 0 with done := some (stOk, result0) } = false ∧
    (finished.ring (finished.queueRing 0)).stopped = false ∧ finished.ringFull (finished.queueRing 0) = false ∧
    (overflowed.part 0).eq.lost ≠ 0 ∧ overflowed.eqOn 0 = true ∧ overflowed.eqRoom 0 = true := by decide +kernel

/-! ### Witnesses: descriptors that order, copy, release and load -/

/-- `Runs` for a state built by `runs`. -/
theorem runs_of {s : State} {op : Nat} {r : Running} (h : s.runningOp 0 op = some r) : Runs s 0 op r := ⟨by decide, h⟩

theorem wit_Nop : Runs (runs 0x00) 0 0x00 (begun 0x00) ∧ Runs (runs 0x03) 0 0x03 (begun 0x03) :=
  ⟨runs_of (by decide +kernel), runs_of (by decide +kernel)⟩

/-- WAYPOST_SET that adds 5 to waypost 3 and reports at 0x1000, or not at all. -/
def wpFields (report : Nat) : List (Nat × Nat × Nat) := [(2, 1, 1), (24, 2, 3), (32, 8, 5), (40, 8, report)]
theorem wit_Waypost : MemoryOk base ∧ Runs (runs 0x01 (wpFields 0x1000)) 0 0x01 (begun 0x01 (wpFields 0x1000)) ∧
    Runs (runs 0x01 (wpFields 0)) 0 0x01 (begun 0x01 (wpFields 0)) ∧
    part0.reach 5 0x1000 8 = some (.dev 0x1000) ∧ base.placeStatus true (.dev 0x1000) 8 = none ∧
    part0.reach 5 (2 ^ 63) 8 = some (.host 0) ∧ base.placeStatus true (.host 0) 8 = none :=
  ⟨⟨by decide +kernel, by decide +kernel⟩, runs_of (by decide +kernel), runs_of (by decide +kernel), by decide +kernel⟩

/-- A COPY of 4 bytes from one address to another. -/
def copyFields (a b : Nat) : List (Nat × Nat × Nat) := [(24, 8, a), (32, 8, b), (40, 8, 4)]
theorem wit_Copy : Runs (runs 0x02 (copyFields 0x1000 0x1004)) 0 0x02 (begun 0x02 (copyFields 0x1000 0x1004)) ∧
    Runs (runs 0x02 (copyFields 0x1000 0x1003)) 0 0x02 (begun 0x02 (copyFields 0x1000 0x1003)) ∧
    part0.reach 7 0x1000 4 = some (.dev 0x1000) ∧ part0.reach 7 0x1004 4 = some (.dev 0x1004) ∧
    overlap (.dev 0x1000) (.dev 0x1004) 4 = false ∧ overlap (.dev 0x1000) (.dev 0x1003) 4 = true ∧
    base.badAccess [(false, .dev 0x1000, 4), (true, .dev 0x1004, 4)] = none ∧
    base.source (.dev 0x1000) 4 .poisoned = some [0, 0, 0, 0] ∧
    place 0x1000 = some (.dev 0x1000) ∧ place 0x1003 = some (.dev 0x1003) :=
  ⟨runs_of (by decide +kernel), runs_of (by decide +kernel), by decide +kernel⟩

/-- A map image of one layer of four inputs and 64 outputs on tile 0, with its copies at an address. -/
def mapAt (copies : Nat) : List Byte := block 160 [(0, 2, 1), (2, 2, 1), (4, 4, 1), (8, 8, 64), (16, 8, 128), (64, 2, 1), (66, 2, 1),
  (72, 1, 0x80), (84, 4, 4), (88, 4, 64), (96, 8, 0x1000), (120, 8, copies), (140, 8, 0x8888888888888880)]
def mapBytes : List Byte := mapAt 0x100000
/-- MAP_LOAD of it from host memory. -/
def mapFields (n : Nat) : List (Nat × Nat × Nat) := [(24, 8, 2 ^ 63), (32, 8, n)]
/-- The layer is loaded, and its narrow copy is marked uncorrectable. -/
def mapBad : State :=
  runs 0x08 (mapFields 160) [] (within (fun x => { x with layers := [readLayer (slice mapBytes 64 64) [readEntry (slice mapBytes 128 32)]] })
    { base with poison := [(0x1000, true)] })
theorem wit_MapLoad : Runs (runs 0x08 (mapFields 160)) 0 0x08 (begun 0x08 (mapFields 160)) ∧
    (runs 0x08 (mapFields 160)).earlier 0 0x08 0 (fun _ => true) = false ∧
    Delivers (runs 0x08 (mapFields 160)) 0 (2 ^ 63) 160 (.data mapBytes) mapBytes ∧
    ((runs 0x08 (mapFields 160)).checkMap 0 mapBytes).getRight?.map (fun new => (runs 0x08 (mapFields 160)).moveFault (copyMoves [] new)) =
      some none ∧
    (mapBad.checkMap 0 (mapAt 0x200000)).getRight?.map (fun new => mapBad.moveFault (copyMoves (mapBad.part 0).layers new)) =
      some (some (stHbmEcc, 0x100000, copyBytes)) ∧
    Runs (runs 0x08 (mapFields 0)) 0 0x08 (begun 0x08 (mapFields 0)) ∧ Delivers (runs 0x08 (mapFields 0)) 0 (2 ^ 63) 0 (.data []) [] ∧
    ((runs 0x08 (mapFields 0)).checkMap 0 []).isLeft = true :=
  ⟨runs_of (by decide +kernel), by decide +kernel, ⟨.host 0, by decide +kernel, by decide +kernel, by decide +kernel⟩, by decide +kernel,
    by decide +kernel, runs_of (by decide +kernel), ⟨.host 0, by decide +kernel, by decide +kernel, by decide +kernel⟩, by decide +kernel⟩

/-- A digital group of one block and a VPROG_LOAD program of one word, and two collective members. -/
def groupBytes : List Byte := block 128 [(0, 1, 2), (1, 1, 1), (8, 8, 1), (24, 8, 1), (32, 8, 0x2000), (40, 8, 0x2100), (48, 8, 0x2200),
  (56, 8, 0x2300)]
def collBytes : List Byte := block 72 [(2, 2, 2), (64, 4, 0), (68, 4, 7)]
/-- Endpoint 7 is reached through port 0, in domain 5. -/
def routed (s : State := base) : State := (s.setReg 2 0 0x220 0 (5 * 2 ^ 16)).setRoute 0 7 0
def gload (n : Nat) : List (Nat × Nat × Nat) := [(24, 8, 2 ^ 63), (32, 2, n)]
theorem wit_Loads :
    Runs (runs 0x09 (gload 1)) 0 0x09 (begun 0x09 (gload 1)) ∧ field (begun 0x09 (gload 1)).desc 32 2 = 1 ∧
    Delivers (runs 0x09 (gload 1)) 0 (2 ^ 63) 128 (.data groupBytes) groupBytes ∧
    (loadRecords groupBytes 1 0 part0).isRight = true ∧ (loadRecords (List.replicate 128 255) 1 0 part0).isLeft = true ∧
    Runs (runs 0x0A [(26, 2, 1), (32, 8, 2 ^ 63)]) 0 0x0A (begun 0x0A [(26, 2, 1), (32, 8, 2 ^ 63)]) ∧
    Delivers (runs 0x0A [(26, 2, 1), (32, 8, 2 ^ 63)]) 0 (2 ^ 63) 4 (.data [0, 0, 0, 0]) [0, 0, 0, 0] ∧
    programOk (words32 1 [0, 0, 0, 0]) = true ∧ part0.slotNamed 0 = false ∧
    Runs (runs 0x0B (gload 0) [] routed) 0 0x0B (begun 0x0B (gload 0)) ∧
    Delivers (runs 0x0B (gload 0) [] routed) 0 (2 ^ 63) 64 (.data (collBytes.take 64)) (collBytes.take 64) ∧
    field (collBytes.take 64) 2 2 = 2 ∧ groupFault part0 groupBytes = none ∧
    Delivers (runs 0x0B (gload 0) [] routed) 0 (2 ^ 63) 64 (.data (List.replicate 64 0)) (List.replicate 64 0) ∧
    Delivers (runs 0x0B (gload 0) [] routed) 0 (2 ^ 63) 72 (.data collBytes) collBytes ∧
    ((runs 0x0B (gload 0) [] routed).groupOf 0 collBytes).isSome = true ∧ part0.collRuns 0 = false :=
  ⟨runs_of (by decide +kernel), by decide +kernel, ⟨.host 0, by decide +kernel, by decide +kernel, by decide +kernel⟩, by decide +kernel,
    by decide +kernel, runs_of (by decide +kernel), ⟨.host 0, by decide +kernel, by decide +kernel, by decide +kernel⟩,
    by decide +kernel, by decide +kernel, runs_of (by decide +kernel), ⟨.host 0, by decide +kernel, by decide +kernel, by decide +kernel⟩,
    by decide +kernel, by decide +kernel, ⟨.host 0, by decide +kernel, by decide +kernel, by decide +kernel⟩,
    ⟨.host 0, by decide +kernel, by decide +kernel, by decide +kernel⟩, by decide +kernel⟩

/-! ### Witnesses: the forward pass and the array tiles -/

/-- The layer of `mapBytes`: four inputs and 64 outputs on tile 0. -/
def lay : Layer := readLayer (slice mapBytes 64 64) [readEntry (slice mapBytes 128 32)]
/-- The same over a chain of two tiles. -/
def lay2 : Layer := { lay with chainLen := 2, inputs := 2048, tiles := lay.tiles ++ lay.tiles.map fun e => { e with tile := 1, pos := 1 } }
/-- A running descriptor that began with a layer in the map. -/
def begunL (l : Layer) (op : Nat) (fs : List (Nat × Nat × Nat)) (args : List Byte := []) : Running :=
  { begun op fs args with work := { Work.none with layers := [l] } }
/-- The partition holds a layer. -/
def withLay (l : Layer) (s : State := base) : State := within (fun x => { x with layers := [l] }) s
/-- FORWARD of two rows of codes. -/
def fwd : Running := begunL lay 0x10 [(1, 1, 1), (24, 2, 1), (26, 2, 0xFFFF), (28, 3, 1), (32, 8, 0x1000), (40, 8, 0x2000)]
def fwdState : State := running fwd (withLay lay)
theorem wit_Forward : Runs fwdState 0 0x10 fwd ∧ fwd.work.started = false ∧ findLayer fwd.work.layers 1 = some lay ∧
    rowCount (fwd.work.route 1) 2 = 2 ∧ ((fwdState.part 0).reach 1 0x1000 16).isSome = true ∧
    ((fwdState.part 0).reach 1 0x2000 512).isSome = true ∧
    fwdState.badAccess ([(false, .dev 0x1000, 16), (true, .dev 0x2000, 512)] ++ fwdState.bypassReads [lay]) = none ∧
    (fwdState.countReads [(false, .dev 0x1000, 16), (true, .dev 0x2000, 512)]).productSlots 0 1 0xFFFF 16 false 0xFFFF 256 =
      .inr (fwdState, 0, none, none) :=
  ⟨runs_of (by decide +kernel), by decide +kernel⟩

/-- DISPATCH of one entry: sequence number 9, layer 1, source row 0. -/
def dsp : Running := begunL lay 0x11 [(1, 1, 1), (24, 8, 0x3000), (32, 4, 1), (36, 4, 1), (40, 8, 0x1000), (48, 8, 0x2000), (56, 2, 0xFFFF),
  (60, 4, 8)]
def dspState : State := running dsp ((withLay lay).writeMem 0x3000 [9, 0, 0, 0, 1, 0, 0, 0])
theorem wit_Dispatch : Runs dspState 0 0x11 dsp ∧ ((dspState.part 0).reach 1 0x3000 8).isSome = true ∧
    dspState.placeStatus false (.dev 0x3000) 8 = none ∧ dispFault [lay] 0 1 8 [⟨9, 1, 0⟩] = none ∧
    dispEntry (memRead dspState.mem 0x3000 8) = ⟨9, 1, 0⟩ ∧ (dispTokens [lay] 0 0 [⟨9, 1, 0⟩]).length = 1 ∧
    ((dspState.part 0).reach 1 0x1000 8).isSome = true ∧ ((dspState.part 0).reach 1 0x2000 256).isSome = true ∧
    dspState.badAccess ([(false, .dev 0x3000, 8), (false, .dev 0x1000, 8), (true, .dev 0x2000, 256)] ++ dspState.bypassReads [lay]) = none ∧
    (dspState.countReads [(false, .dev 0x3000, 8), (false, .dev 0x1000, 8), (true, .dev 0x2000, 256)]).productSlots 0 1 0xFFFF 8 false
      0xFFFF 0 = .inr (dspState, 0, none, none) ∧
    dispRows [lay] ((dispTokens [lay] 0 0 [⟨9, 1, 0⟩]).map fun e => e.2.2.row) ≠ [] :=
  ⟨runs_of (by decide +kernel), by decide +kernel⟩

/-- A vector of the FORWARD that drives its first input. -/
def tok : Token := ⟨0, 0, 1, 1, 0, 0, 0⟩
def vec : Vec := ⟨tok, [1, 0, 0, 0], 127, [0]⟩
/-- Tile 0 after a change. -/
def tiled (f : Tile → Tile) (s : State := fwdState) : State := s.modTile 0 f
/-- A vector waits at the idle tile, and at one that drives another. -/
def waits : State := tiled fun x => { x with st := .idle, slots := [vec] }
def drives : State := tiled fun x => { x with st := .active, slots := [vec], prods := [newProd lay vec 0x4000 []] }
theorem wit_Latch : tileExists 0 = true ∧ waits.role 0 = some (0, lay, 0, lay.tiles.headD ⟨0, 0, 0, 0, 0, 0⟩) ∧ waits.physTile 0 = 0 ∧
    (waits.tile 0).slots = [vec] ∧ waits.tokLayer tok = some lay ∧ (waits.tile 0).st = .idle ∧ (waits.tile 0).driving = false ∧
    waits.outRoom lay (lay.tiles.headD ⟨0, 0, 0, 0, 0, 0⟩) = true ∧
    (drives.role 0).map (·.2.2.2.tile) = some 0 ∧ drives.physTile 0 = 0 ∧ (drives.tile 0).slots = [vec] ∧
    drives.tokLayer tok = some lay ∧ (drives.tile 0).driving = true := by decide +kernel

/-- Its product with the first segment's toll paid, and converted. -/
def paid : Prod := { newProd lay vec 0x4000 [] with toll := 2 }
def sampled : Prod := { paid with todo := [], toll := 0, codes := [(0, [])] }
/-- The converted product stands in the tile. -/
def converted : State := tiled fun x => { x with st := .active, prods := [sampled] }
theorem wit_Segments :
    ((tiled fun x => { x with st := .active, prods := [paid] }).tile 0).prods.find? (fun p => !p.todo.isEmpty) = some paid ∧
    paid.todo = [0] ∧ paid.toll = 2 ∧ (tiled fun x => { x with st := .active, prods := [paid] }).tokLayer tok = some lay ∧
    (converted.tile 0).prods = [sampled] ∧ sampled.todo = [] ∧ converted.tokLayer tok = some lay ∧ (converted.role 0).isSome = true ∧
    (converted.tile 0).retireReq = false ∧ converted.runningProduct 0 = some fwd ∧
    lay.entryOf 0 = some (0, lay.tiles.headD ⟨0, 0, 0, 0, 0, 0⟩) ∧ lay.chainLen = 1 ∧ lay.preload = 0 ∧ lay.preact = false ∧
    lay.pool = 0 ∧ lay.outFmt < 3 ∧ (converted.tile 0).partials = [] ∧ ((converted.tile 0).pool.find? (·.of tok)).isNone = true := by
  decide +kernel

/-- Packets of tiles 0 and 1 of a chain of two, which the chain link joins or, in shape 2, the roads. -/
def packet : Partial := ⟨tok, 0, false, []⟩
def later : Partial := { packet with tok := { tok with idx := 1 } }
def chained (l : Layer) (t : Nat) (f : Tile → Tile) : State :=
  (running { begunL l 0x10 [] with desc := fwd.desc } (withLay l)).modTile t f
/-- What the statement about packets asks of a state for the packet `a` at tile `t`. -/
def packetAt (l : Layer) (t : Nat) (a : Partial) (s : State) : Bool :=
  (s.role t).map (·.2.2.2.tile) == some t && (s.tile t).partials.find? (fun a => !a.got) == some a && s.tokLayer a.tok == some l &&
    (l.entryOf t).isSome && (s.tile t).partials.all fun b => !b.got
theorem wit_Packets :
    (let s := chained lay2 0 fun x => { x with partials := [packet] }
     packetAt lay2 0 packet s = true ∧
     ((s.modTile 0 fun x => { x with partials := [{ packet with got := true }] }).tile 0).sendsNext { packet with got := true } = true ∧
     s.linked lay2 0 1 = false ∧ (lay2.tiles.find? fun f => f.chain == 0 && f.pos == 1).map (·.tile) = some 1) ∧
    (let l := { lay2 with shape := 0 }
     let s := chained l 0 fun x => { x with partials := [packet] }
     packetAt l 0 packet s = true ∧ s.linked l 0 1 = true) ∧
    (let s := chained lay2 0 fun x => { x with partials := [later] }
     packetAt lay2 0 later s = true ∧ (s.tile 0).sendsNext { later with got := true } = false ∧ later.pos + 1 ≠ lay2.chainLen) ∧
    (let s := chained lay2 1 fun x => { x with partials := [packet] }
     packetAt lay2 1 packet s = true ∧ (s.role 1).map (·.2.2.2.pos + 1) = some lay2.chainLen ∧ (s.tile 1).sums = []) ∧
    (let s := chained lay2 1 fun x => { x with partials := [packet], sums := [⟨tok, 1, []⟩] }
     packetAt lay2 1 packet s = true) := by decide +kernel

/-- A piece of the vector, of one or two, that a tile with free places has, or one whose places are taken. -/
def pieced (want : Nat) (vs : List Vec) : State := tiled fun x => { x with st := .active, slots := vs, pieces := [⟨vec, want, false⟩] }
theorem wit_Pieces :
    (let s := tiled fun x => { x with residuals := [⟨0, []⟩] }
     (s.forwardOne 0).isNone = true ∧ (s.readyProduct 0).isNone = true) ∧
    (∀ n ∈ [1, 2], (((pieced n []).tile 0).pieces.find? fun a => !a.got) = some ⟨vec, n, false⟩) ∧ (pieced 1 []).tokLayer tok = some lay ∧
    (pieced 1 []).bypassed lay 0 = false ∧ (pieced 1 []).slotRoom lay (lay.tiles.headD ⟨0, 0, 0, 0, 0, 0⟩) = 2 ∧
    (pieced 1 [vec, vec]).slotRoom lay (lay.tiles.headD ⟨0, 0, 0, 0, 0, 0⟩) = 0 := by decide +kernel

theorem wit_SleepAndWake :
    (let s := field' 0 0 0x40 16 1 1 (field' 0 0 0x40 0 16 1 (tiled fun x => { x with st := .idle }))
     s.tileFree 0 = true ∧ s.regf 0 0 0x40 0 16 ≠ 0 ∧ s.regf 0 0 0x40 16 1 = 1) ∧
    (tiled fun x => { x with st := .idle, due := some 3, ready := true }).refreshMay 0 = true ∧
    (let s := tiled fun x => { x with st := .off, waking := true }
     (s.tile 0).waking = true ∧ (s.tile 0).st = .off ∧ (s.tile 0).programWork = false ∧ (s.tile 0).orders = []) ∧
    (let s := tiled fun x => { x with st := .sleep, waking := true, orders := [(0, 0)] }
     (s.tile 0).orders ≠ [] ∧ s.slotsOf 0 = [] ∧ (s.role 0).isSome = true) ∧
    (let w : WakeReq := ⟨0, 1, false⟩
     let g := { Gate.empty with wakes := [⟨1, 3, false⟩, w], wakeN := 255, wakeAt := 5 }
     g.nextWake = some w ∧ g.wakeN < 256 ∧ { g with wakeN := 256 }.nextWake = some w ∧ base.ltime / 1000 = 5) := by decide +kernel


/-! ### Witnesses: power, heat and clocks -/

/-- A request that a tollgate can admit, one that only a later refill pays, and one of the program bucket. -/
def tollReq : TollReq := ⟨0, 1000, false, false⟩
def tollProg : TollReq := ⟨1, 1000, true, false⟩
def gated (g : Gate) : State := base.setGate 0 g
theorem wit_Tolls : (gated { Gate.empty with reqs := [tollReq], prod := 5120000 }).nextToll 0 = some tollReq ∧
    (gated { Gate.empty with reqs := [tollReq, tollProg], prod := 5119999, prog := 5120000 }).nextToll 0 = some tollProg ∧
    (gated { Gate.empty with reqs := [tollReq], prod := 5119999 }).nextToll 0 = none ∧
    ((gated { Gate.empty with charged := 7 }).gate 0).charged = 7 := by decide +kernel

theorem wit_RailAndBrake : (base.part 0).st ≠ .absent ∧ 0 ∈ (base.part 0).dies 1 ∧ 23 / 6 ∈ (base.part 0).quads ∧ base.brake = false ∧
    ({ base with brake := true } : State).brake = true ∧ ((within fun x => { x with st := .scrubbing }).part 0).st = .scrubbing ∧ skipFor 1600 1600 = 0 ∧ skipFor 1601 1600 = 1 ∧ skipFor 100000 1600 = 12 := by
  decide +kernel

/-- 95 °C, 105 °C, 109.9375 °C and 110 °C. -/
theorem wit_Heat : base.powered = true ∧ base.input = true ∧ base.mgmt.recovery = false ∧ dieCount .hd = 4 ∧
    base.hottest 0 0 [1520, 3] 0 = some (1520, 0) ∧ base.hottest 2 3 [1680] 0 = some (1680, 0) ∧
    base.hottest 1 7 [0, 1759] 0 = some (1759, 1) ∧ base.hottest 0 7 [1760] 0 = some (1760, 0) := by decide +kernel
theorem wit_Faults : MemoryOk base := ⟨by decide +kernel, by decide +kernel⟩
/-- R491: the share factor at the ends of each range, in 1/320; at 100 °C it is three quarters. -/
theorem test_share_factor : shareOf 1519 = 320 ∧ shareOf 1520 = 320 ∧ shareOf 1600 = 240 ∧ shareOf 1680 = 160 ∧ shareOf 1681 = 80 := by
  decide


/-! ### Witnesses: the engines of the gradient dies -/

/-- A product block: further fields over no layer, no slot, ALPHA 1, A at 0x10000 and OUT at 0x30000. -/
def prodArgs (fs : List (Nat × Nat × Nat)) : List Byte :=
  block 128 ([(4, 4, 0x3F800000), (20, 2, 0xFFFF), (22, 2, 0xFFFF), (24, 8, 0x10000), (72, 8, 0x30000)] ++ fs)
/-- MATMUL of 2 by 3 outputs over 4 K positions, BF16, with SUMSQ, PREACT, a bias and a preloaded row. -/
def mmArgs : List Byte := prodArgs [(2, 1, 0x65), (8, 4, 1), (12, 4, 2), (16, 4, 3), (32, 8, 0x20000), (56, 8, 0x40000), (64, 8, 0x50000),
  (88, 8, 0x60000)]
/-- MATMUL at the FP8 rate, one output, E4M3 out. -/
def mm8Args : List Byte := prodArgs [(1, 1, 0x89), (3, 1, 2), (32, 8, 0x20000), (40, 8, 0x40000), (48, 8, 0x50000)]
/-- Ones in BF16 at A and B. -/
def ones : State := (base.writeMem 0x10000 (bytes16 8)).writeMem 0x20000 (bytes16 12)
where bytes16 (n : Nat) : List Byte := (List.replicate n [(0x80 : Byte), 0x3F]).flatten
theorem wit_Matmul : MemoryOk ones ∧ Runs (runs 0x12 [] mmArgs ones) 0 0x12 (begun 0x12 [] mmArgs) ∧
    Runs (runs 0x12 [] mm8Args ones) 0 0x12 (begun 0x12 [] mm8Args) ∧
    ([mmArgs, mm8Args].all fun b => ((runs 0x12 [] b ones).matmulCheck part0 b (productArgs b)).isNone &&
      ((runs 0x12 [] b ones).badAccess (spanAccess (matmulSpans (productArgs b)))).isNone) = true :=
  ⟨⟨by decide +kernel, by decide +kernel⟩, runs_of (by decide +kernel), runs_of (by decide +kernel), by decide +kernel⟩
/-- R261 to R264: sums of 32 ones, and of nothing. -/
theorem test_chunk_sum : chunkSum (List.replicate 32 0x3F800000) = 0x42000000 ∧ chunkSum [] = 0 := by decide +kernel

/-- INGRAD and WGRAD of one token through layer 1, whose stash slot 5 holds its inputs. -/
def igArgs : List Byte := prodArgs [(20, 2, 1)]
def wgArgs : List Byte := prodArgs [(2, 1, 0x80), (20, 2, 1), (22, 2, 5)]
def slotted (f : State → State := id) : State :=
  let s := f (withLay lay)
  s.setEntry 0 5 (mkEntry (s.stashGeom 0).fwd false slStashed false 4096)
theorem wit_Gradients :
    (let s := running (begunL lay 0x14 [] igArgs) (withLay lay)
     findLayer [lay] 1 = some lay ∧ (gradCheck (s.part 0) igArgs (productArgs igArgs) (gradStarts (productArgs igArgs) false)).isNone = true ∧
     (spanCheck (s.part 0) (1 * 4 * 4) (ingradSpans (productArgs igArgs) lay)).isNone = true ∧
     (s.badAccess (spanAccess (ingradSpans (productArgs igArgs) lay) ++ lay.copyAccess)).isNone = true ∧
     s.runningOp 0 0x14 = some (begunL lay 0x14 [] igArgs)) ∧
    (let s := running (begunL lay 0x15 [] wgArgs) (slotted id)
     let a := productArgs wgArgs
     let at_ := (s.stashGeom 0).fwd
     (gradCheck (s.part 0) wgArgs a (gradStarts a true)).isNone = true ∧ s.readSlot 0 5 = .inr (at_, 4096) ∧
     a.k * (lay.inputs + 4 * lay.blocks) ≤ 4096 ∧
     (spanCheck (s.part 0) (lay.weights * 4) (wgradSpans a lay at_ 4096)).isNone = true ∧
     (s.badAccess (spanAccess (wgradSpans a lay at_ 4096))).isNone = true ∧
     dFlag (begunL lay 0x15 [] wgArgs).desc 0 = false ∧ (s.part 0).wantRelease.contains 5 = false ∧ s.runningOp 0 0x15 = some (begunL lay 0x15 [] wgArgs)) := by decide +kernel

/-- A ROW block: function, slot, one row of four elements, BF16 in. -/
def rowBlk (fn slot : Nat) (fs : List (Nat × Nat × Nat) := []) : List Byte :=
  block 128 ([(0, 1, fn), (1, 1, 8), (2, 2, slot), (4, 2, 3), (16, 4, 0x3F800000), (24, 8, 0x10000), (32, 8, 0x30000), (40, 8, 0x20000),
    (48, 8, 0x40000), (56, 8, 0x50000)] ++ fs)
theorem wit_RowForward : MemoryOk ones ∧ Runs (runs 0x13 [] (rowBlk 3 0xFFFF) ones) 0 0x13 (begun 0x13 [] (rowBlk 3 0xFFFF)) ∧
    Runs (runs 0x13 [] (rowBlk 1 5) ones) 0 0x13 (begun 0x13 [] (rowBlk 1 5)) ∧
    ([rowBlk 3 0xFFFF, rowBlk 1 5, rowBlk 2 65534].all fun b => let s := runs 0x13 [] b ones
      (rowCheck (s.part 0) b (rowArgs b) false).isNone && (s.badAccess (spanAccess (rowSpans (rowArgs b) false))).isNone &&
      (match (s.countReads (spanAccess (rowSpans (rowArgs b) false))).rowSlot 0 0 (rowArgs b) with
        | .placed u _ at_ => (u.grad 0).sideRoom 1 && at_.isSome == (rowArgs b).records &&
          (s.badAccess ((placed [(at_, 8)]).map fun e => (true, .dev e.1, e.2))).isNone
        | _ => false))
      = true :=
  ⟨⟨by decide +kernel, by decide +kernel⟩, runs_of (by decide +kernel), runs_of (by decide +kernel), by decide +kernel⟩

/-- A slot that was written with one row of four BF16 elements. -/
def backState (b : List Byte) : State :=
  let s := runs 0x13 [(1, 1, 2), (2, 1, 1)] b (within (fun x => { x with slotFmts := [(5, (1, 1, 4))] }) ones)
  s.setEntry 0 5 (mkEntry (s.stashGeom 0).fwd false slStashed false 8)
theorem wit_RowBackward :
    (dFlag (begun 0x13 [(1, 1, 2), (2, 1, 1)]).desc 0 = true ∧ dPhase (begun 0x13 [(1, 1, 2), (2, 1, 1)]).desc = 2 ∧
      dFlag (begun 0x13 [(1, 1, 2), (2, 1, 1)]).desc 1 = false) ∧
    ([rowBlk 3 5, rowBlk 2 5, rowBlk 1 5, rowBlk 0 5].all fun b => let s := backState b
      (rowCheck (s.part 0) b (rowArgs b) true).isNone && !(s.part 0).wantRelease.contains 5 &&
      s.readSlot 0 5 == .inr ((s.stashGeom 0).fwd, 8) && s.slotTensor 0 5 1 4 == some (.bf16, 1, 4) &&
      (s.badAccess (spanAccess (rowSpans (rowArgs b) true) ++ [(false, .dev (s.stashGeom 0).fwd, 8)])).isNone) = true ∧
    (let b := rowBlk 2 0xFFFF
     (rowCheck part0 b (rowArgs b) true).isNone = true ∧ ((backState b).badAccess (spanAccess (rowSpans (rowArgs b) true))).isNone = true) := by
  decide +kernel

/-- DERIV of GELU from SAVED, and of nothing but average pooling. -/
def drv (fn pool : Nat) : List (Nat × Nat × Nat) := [(24, 1, fn + 16 * pool), (25, 1, 1), (26, 2, 0xFFFF), (28, 4, 4), (32, 4, 3), (36, 1, 5),
  (40, 8, 0x10000), (48, 8, 0x20000), (56, 8, 0x30000)]
theorem wit_Derivatives :
    ([drv 3 0, drv 0 2].all fun b => let s := runs 0x16 b [] ones
      let a := derivArgs (begun 0x16 b).desc
      s.runningOp 0 0x16 == some (begun 0x16 b) && (derivCheck (s.part 0) a).isNone && !a.needsLayer &&
      (match s.derivSaved 0 a false with
        | .inr v => (s.badAccess (spanAccess (derivSpans a) ++ v.toList.map fun e => (false, e.at_, e.len))).isNone
        | _ => false)) = true := by decide +kernel

/-- VPROG of a LOAD and a STORE over 40 elements. -/
def vprogWords : List Byte := bytes32 [0x70000000, 0x74000000, 0]
def vpArgs : List Byte := block 192 [(2, 1, 1), (3, 1, 1), (4, 4, 39), (72, 8, 0x10000), (136, 8, 0x30000), (168, 3, 0)]
def vpRun : Running := { begun 0x17 [] vpArgs with work := { Work.none with prog := words32 3 vprogWords } }
def vpState : State := running vpRun ones
theorem wit_Vprog : MemoryOk vpState ∧ vpState.runningOp 0 0x17 = some vpRun ∧
    (vprogCheck (vpState.part 0) vpArgs (vprogArgs vpArgs) vpRun.work.prog).isNone = true ∧
    (vpState.badAccess (spanAccess (vprogArgs vpArgs).spans)).isNone = true ∧ (vprogArgs vpArgs).addr 8 = 0x30000 :=
  ⟨⟨by decide +kernel, by decide +kernel⟩, by decide +kernel⟩


/-! ### Witnesses: collectives -/

/-- Port 0 is up and leads to endpoint 7; group 0 holds this partition, as rank 0, and endpoint 7. -/
def grouped (s : State := base) : State :=
  ((routed s).setPort 0 { (routed s).port 0 with st := 2 }).modPart 0 fun x =>
    { x with collGroups := [(0, ⟨true, 0, [(0, 0), (7, 0)], []⟩)] }
/-- A collective's block: tag 5, 64 elements, one vector at 0x10000, destination 0x30000. -/
def collArgs (fmts : Nat) : List Byte := block 128 [(1, 1, fmts), (4, 4, 5), (8, 8, 64), (16, 8, 0x30000), (24, 8, 0x50000), (40, 8, 4096),
  (56, 8, 0x10000)]
/-- The split table: one block each. -/
def splitS (op fmts : Nat) : State := runs op [] (collArgs fmts) (grouped (base.writeMem 0x50008 [1, 0, 0, 0, 0, 0, 0, 0, 2]))
/-- What MayBegin asks, in its order. -/
def collBegin (op : CollOp) (code fmts : Nat) : Bool :=
  let s := splitS code fmts
  let r := begun code [] (collArgs fmts)
  let x := s.part 0
  let g := tget CollGroup.none x.collGroups (aGroup r.args)
  s.runningOp 0 code == some r && !r.work.started && (reservedAt r.args 128 collFields).isNone &&
  (collStarts x op r.args g.rank).isNone && g.loaded && !g.tags.contains (aTag r.args).toNat &&
  (s.badAccess (s.collTables 0 op r.args g.members.length)).isNone && s.domain != 0 && x.heldAbort.isEmpty && x.heldReady.isEmpty &&
  match s.planColl 0 (s.newColl 0 0 op r g) r.args with
  | .inr c => (s.badAccess c.accesses).isNone && 2 ≤ c.n && c.rank < c.n && (x.coll c.key).isNone && c.peers.all fun i =>
      match s.hopOf 0 (c.members.getD i (0, 0)).1 (c.members.getD i (0, 0)).2 32 with | .out _ => true | _ => false
  | _ => false
theorem wit_CollBegin : (collBegin .broadcast 0x23 1 && collBegin .allReduce 0x22 9 && collBegin .reduceScatter 0x20 9 &&
    collBegin .allGather 0x21 1 && collBegin .orderGather 0x24 0) = true := by decide +kernel

/-- A running ALL_GATHER or REDUCE_SCATTER of FP32 blocks at rank 0 of two, and a READY of rank 1. -/
def collOf (op : CollOp) : Coll where
  q := 0
  mine := ⟨0, 0, 5, 0, op, 0, 64, 2, 2, 0, [], 0⟩
  rank := 0
  members := [(0, 0), (7, 0)]
  ready := []
  heard := []
  split := [0, 1, 2]
  dst := 0x30000
  staging := 0
  srcs := [0x10000]
  cap := 0
  reads := []
  writes := []
  orders := []
  free0 := 0
  stage := 0
  stage2 := 0
  acc := if op = .reduceScatter then [(0, List.replicate 32 0x3F800000)] else []
  cnt := []
  final := false
  got := []
  placed := 0
  held := []
  passed := 0
  causes := []
def readyOf (n : Nat) : Ready := ⟨0, 0, 5, 1, .allGather, 0, n, 2, 2, 0, [], 3⟩
/-- A packet of rank 1 with one block of ones. -/
def dataOf (b : Nat) : Packet := ⟨5, 0, 0, 7, 0, 0, 32, 0, 0, 5, 128 * b, 2, bytes32 (List.replicate 32 0x3F800000)⟩
def collState (op : CollOp) (f : Part → Part := id) : State :=
  (runs (if op = .allGather then 0x21 else 0x20) [] [] grouped).modPart 0 fun x => f { x with colls := [collOf op] }
theorem wit_Readys : (base.part 0).coll (collKey 0 0 5) = none ∧ (base.part 0).collTag 0 5 = none ∧
    ((collState .allGather).part 0).coll (collKey 0 0 5) = some (collOf .allGather) ∧ (readyOf 64).rank < (collOf .allGather).n ∧
    readyFault (collOf .allGather).mine (readyOf 64) = none ∧
    readyFault (collOf .allGather).mine (readyOf 65) = some stCollMismatch ∧
    ((collState .allGather).part 0).collTag 0 5 = some (collOf .allGather) ∧ (collState .allGather).domain = 5 ∧
    (collOf .allGather).peers = [1] ∧ base.domain = 0 ∧ ((collState .allGather).part 0).inService = true ∧
    (∀ e ∈ (collOf .allGather).ready, e.1 ≠ 1) ∧
    (match (collState .allGather).hopOf 0 7 0 32 with | .out n => n == 0 | _ => false) = true := by decide +kernel
theorem wit_CollData :
    (let s := collState .reduceScatter fun x => { x with delivered := [dataOf 0] }
     (s.part 0).delivered = [dataOf 0] ∧ (collOf .reduceScatter).rankOf (dataOf 0) = some 1 ∧
     (dataOf 0).payload.length = wireSize (collOf .reduceScatter).inF ∧
     tfind (collOf .reduceScatter).acc 0 = some (List.replicate 32 0x3F800000) ∧
     ((s.part 0).colls.find? fun c => c.mine.group == 0 && c.mine.tag.toNat == 5 && c.mine.milestone.toNat % 256 == 0) =
       some (collOf .reduceScatter)) ∧
    (let s := collState .allGather fun x => { x with delivered := [dataOf 0] }
     (s.part 0).inService = true ∧ (collOf .allGather).mine.op = .allGather) ∧
    ((within fun x => { x with delivered := [dataOf 0] }).part 0).colls = [] := by decide +kernel
/-- A collective that aborts for two causes. -/
def collDown : Coll := { collOf .allGather with causes := [(stCollTimeout, 1), (stCollMismatch, 0)] }
theorem wit_Aborts : ((collState .allGather).part 0).coll (collKey 0 0 5) = some (collOf .allGather) ∧
    (((collState .allGather).part 0).colls.find? fun d => d.mine.group == 0 && d.mine.tag == 5 && d.causes.isEmpty) =
      some (collOf .allGather) ∧
    (let s := collState .allGather fun x => { x with colls := [collDown] }
     ((s.part 0).colls.find? fun d => d.mine.group == 0 && d.mine.tag == 5 && !d.causes.isEmpty) = some collDown ∧
     ((s.queue collDown.q).running.map (·.done)) = some none) := by decide +kernel


/-! ### Witnesses: update and programming -/

/-- The digital group of `groupBytes` with an FP32 gradient and STATE_EN, after step 4; and a group of the layer's tile weights,
of which it owns one block. -/
def dgRec : List Byte := patch (patch groupBytes 3 [5]) 80 (bytes32 [0x3F800000, 0x3F800000])
def tgRec : List Byte := block 128 [(1, 1, 0), (3, 1, 5), (4, 2, 1), (6, 2, 1), (8, 8, 2048), (24, 8, 1), (32, 8, 0x12000), (40, 8, 0x12100),
  (48, 8, 0x12200), (56, 8, 0)]
def groupsS (k : List Byte) (op : Nat) (fs : List (Nat × Nat × Nat)) : State :=
  runs op fs [] (within (fun x => { x with groups := [(2, ⟨true, k, none, false, 4⟩)] }) (withLay lay))
theorem wit_Norm : MemoryOk (groupsS dgRec 0x28 [(24, 1, 2), (32, 8, 0x70000)]) ∧
    (let s := groupsS dgRec 0x28 [(24, 1, 2), (28, 4, 0x3F800000), (32, 8, 0x70000)]
     ((s.part 0).usable 2).isSome = true ∧ (s.part 0).reach 1 0x70000 2048 = some (.dev 0x70000) ∧
     s.badAccess (((List.range (gCount dgRec)).flatMap fun i => blockAccess dgRec i true false) ++ [(true, .dev 0x70000, 2048)]) = none ∧
     (s.runningOp 0 0x28).isSome = true) ∧
    (let s := groupsS dgRec 0x28 [(2, 1, 2), (40, 8, 0x70000)]
     (s.runningOp 0 0x28).map (dFlag ·.desc 1) = some true ∧ s.placeStatus false (.dev 0x70000) 2048 = none) :=
  ⟨⟨by decide +kernel, by decide +kernel⟩, by decide +kernel⟩
theorem wit_Init :
    (let s := groupsS tgRec 0x2A [(24, 1, 2)]
     ((s.part 0).usable 2).map (gKind ·.record) = some 0 ∧ (s.part 0).stepOn = false ∧ gCount tgRec = 1 ∧
     s.badAccess (blockAccess tgRec 0 false false) = none ∧
     (s.blockOrders 0 (groupLayers (s.part 0).layers tgRec) tgRec 0 (s.readBlock tgRec 0) true).length = 32 ∧
     s.logStatus 0 32 = none ∧ 32 ≤ s.logCap 0) ∧
    ((groupsS dgRec 0x2A [(24, 1, 2)]).part 0).usable 2 = some ⟨true, dgRec, none, false, 4⟩ ∧ gKind dgRec = 1 := by decide +kernel

/-- UPDATE_APPLY of step `t` that began with the group's record, with or without a mirror that has read nothing. -/
def applyS (t : Nat) (held : Bool := false) : State :=
  ((groupsS dgRec 0x29 [(24, 1, 2), (28, 4, 0x3F800000), (32, 4, 0x3F800000), (40, 8, t)]).modPart 0 fun x =>
    { x with readers := if held then [⟨65536, 0, true, []⟩] else [] }).modWork 0 fun w => { w with record := dgRec }
def applyC (t : Nat) : ApplyCtx := applyCtx 0 (begun 0x29 [(24, 1, 2), (28, 4, 0x3F800000), (32, 4, 0x3F800000), (40, 8, t)]).desc dgRec []
theorem wit_Apply : ([applyS 4, applyS 5, applyS 6, applyS 5 true].all fun s => ((s.runningOp 0 0x29).map (·.work.record)) == some dgRec &&
      !s.shardHeld 0 0 2 && ((s.part 0).usable 2).isSome) = true ∧
    fin32 (applyC 5).eta = true ∧ fin32 (applyC 5).clip = true ∧ gPriv dgRec = false ∧ gSkew dgRec = false ∧ gCount dgRec = 1 ∧
    (let a := Pass2.next (applyC 5) [] ⟨applyS 5, 0, 0, 0, [], none⟩ 0
     a.fail = none ∧ a.wait = []) ∧
    (let a := Pass2.next (applyC 5) [] ⟨applyS 5 true, 0, 0, 0, [], none⟩ 0
     a.fail = none ∧ a.wait = [0]) := by decide +kernel
/-- An infinity among the gradients of the block. -/
def infGrad (s : State) : State := s.writeMem 0x2200 [0, 0, 0x80, 0x7F]
theorem wit_Block : (applyS 5).badAccess (blockAccess dgRec 0 true true) = none ∧ ((applyS 5).readBlock dgRec 0).t = 0 ∧
    ((applyS 5).part 0).heldBlock (blockKey (applyC 5) 0) = false ∧ ((applyS 5 true).part 0).heldBlock (blockKey (applyC 5) 0) = true ∧
    ((applyC 5).table ((applyS 5).gradBlock dgRec 0) ((applyS 5).readBlock dgRec 0)).isSome = true ∧
    ((applyC 5).table ((infGrad (applyS 5)).gradBlock dgRec 0) ((applyS 5).readBlock dgRec 0)).isNone = true ∧
    (applyC 0).t.toNat ≤ ((applyS 5).readBlock dgRec 0).t.toNat := by decide +kernel
/-- An UPDATE_APPLY whose blocks `todo` wait. -/
def resumeS (todo : List Nat) (bg : Bool) : State :=
  ((applyS 5).modPart 0 fun x => { x with readers := [⟨65536, 0, bg, []⟩] }).modWork 0 fun w =>
    { w with started := true, todo := todo, record := dgRec }
theorem wit_Resume : ((resumeS [0] true).runningOp 0 0x29).map (·.work.todo) = some [0] ∧
    ([0].find? fun j => ((resumeS [0] true).part 0).readers.all fun d => d.begun || d.read.contains (blockKey (applyC 5) j)) = some 0 ∧
    (Pass2.next (applyC 5) [] ⟨(resumeS [0] true).modPart 0 fun y => y.readBlock (blockKey (applyC 5) 0), 0, 0, 0, [], none⟩ 0).fail = none :=
  by decide +kernel

/-- PROGRAM of an inbox of one member, with the orders `os`, to tile 0. -/
def inboxS (os : List Nat) (st : TileState := .active) : State :=
  (running (begunL lay 0x30 [(24, 8, 0x60000)])
    ((withLay lay).writeMem 0x60000 (block 256 [(0, 8, os.length), (16, 2, 1)] ++ os.flatMap (natLe 8)))).modTile 0 fun x => { x with st := st }
/-- An order that issues the value 1 to row 3, column 2 of tile 0. -/
def initOrder : Nat := orderWord 0 3 2 1 1 true false 0
theorem wit_Program : ([inboxS [], inboxS [0], inboxS [initOrder]].all fun s => (s.runningOp 0 0x30).isSome && (s.part 0).holds (queueHub 0) &&
      ((s.part 0).reach 1 0x60000 64).isSome && (s.memStatus false 0x60000 64).isNone && (s.part 0).owns 0x60100 8 &&
      (s.memStatus false 0x60100 8).isNone && (s.memStatus false (s.deferBase 0) 0).isNone && !(s.part 0).flushDefer && !(s.tiles.any fun e => e.2.holds 0)) = true ∧
    ((inboxS [0]).part 0).refuse 0 0 = some stOrderForm ∧ ((inboxS [initOrder]).part 0).refuse 0 initOrder = none ∧
    oTile initOrder = 0 ∧ (inboxS [initOrder]).physTile 0 = 0 ∧ ((inboxS [initOrder]).tile 0).st = .active ∧ lay.bypass = false := by
  decide +kernel
/-- R144: parity of an order is even over its 64 bits; its fields come back. -/
theorem test_order : parity 64 initOrder = false ∧ oRow initOrder = 3 ∧ oCol initOrder = 2 ∧ oValue initOrder = 1 := by decide +kernel

/-- Tile 0 programs two weights of width 1, with the toll of the first batch paid. -/
def batchTile (x : Tile) : Tile :=
  let y := { x with st := .program, batchToll := 2 }
  { y with jobs := [y.openJob (newJob 3 2 1 1 false (some (initOrder, 0))), y.openJob (newJob 4 2 1 (-1) false none)] }
def batchS : State := (running { begunL lay 0x30 [] with work := { Work.none with started := true, layers := [lay] } } (withLay lay)).modTile 0 batchTile
/-- The state after its first batch, and the tile that the next batch leaves. -/
def batchS2 : State := match exec (.programBatch 0 [[6400]]) batchS with
  | .next t => t.modTile 0 fun x => { x with batchToll := 2 }
  | _ => base
def batchEnd (s : State) : Tile × Bool × Nat :=
  (s.batchOf 0 lay).zipIdx.foldl (fun (a : Tile × Bool × Nat) d =>
    let w := a.1.writeOne d.1 ([[6400]].getD d.2 [])
    (w.1, a.2.1 || w.2.1, a.2.2 + w.2.2)) (s.tile 0, false, standingPj)
theorem wit_Batch : tileExists 0 = true ∧ ([batchS, batchS2].all fun s => (s.role 0).map (·.2.2.2.tile) == some 0 && !s.narrowOnly lay 0 &&
      (s.tile 0).batchToll == 2 && !(s.tile 0).jobs.isEmpty && !(batchEnd s).2.1 &&
      ((batchEnd s).1.jobs.find? (batchEnd s).1.mustMove).isNone && (batchEnd s).1.jobs.any fun j => !j.isDone) = true ∧
    ((batchEnd batchS2).1.jobs.filter Job.isDone).map (fun j => (j.prow, j.col, j.stage, j.order)) = [(3, 2, 0, some (initOrder, 0))] ∧
    ((batchEnd batchS2).1.lrow 3) = some 3 ∧ (runAt (runsOf (lay.tiles.headD ⟨0, 0, 0, 0, 0, 0⟩).widths) 2).isSome = true := by decide +kernel


/-! ### Witnesses: refresh, probe, milestones and snapshots -/

/-- A tile whose refresh has come to its turn, on a die with SCAN_ON_REFRESH; and a flagged one. -/
def dueS : State := field' 0 0 0x90 28 1 1 ((withLay lay).modTile 0 fun x => { x with st := .idle, due := some 0, ready := true })
def flagS : State := (withLay lay).modTile 0 fun x => { x with st := .idle, flagged := true }
theorem wit_RefreshStart : (dueS.refreshTurn 0).find? (fun e => dueS.refreshMay e.1) = some (0, dueS.tile 0) ∧
    (dueS.tile 0).dormant = false ∧ dueS.regf 0 (tileDie 0) 0x90 28 1 = 1 ∧
    ((flagS.tilesOf 0).filter fun e => e.2.st == .probe).length < 16 ∧
    (flagS.tilesOf 0).find? (fun e => flagS.probeMay e.1) = some (0, flagS.tile 0) ∧ (flagS.tile 0).dormant = false := by decide +kernel
/-- A scan with its toll paid, a repair that is written, a refresh that is written, and a reserve that stands in for tile 0. -/
def scanS (r : Bool) : State := (withLay lay).modTile 0 fun x => { x with st := .probe, scanning := true, scanToll := 2, retireReq := r }
def repairS : State := (withLay lay).modTile 0 fun x => { x with st := .probe, scanning := true }
def refreshS : State := (withLay lay).modTile 0 fun x => { x with st := .program, refresh := true, trim := 0x5000, age := 9 }
def reserveS : State :=
  let s := ((withLay lay).modTile 0 fun x => { x with st := .retired }).modTile 32768 fun x => { x with st := .program, reserveProg := true }
  { s with retire := [(0, 2 * 65536)] }
theorem wit_RefreshEnds : (∀ s ∈ [scanS true, scanS false, repairS, refreshS], (s.role 0).isSome = true ∧
      (s.tiles.all fun e => e.2.orders.isEmpty) = true) ∧ (reserveS.role 32768).isSome = true ∧ tileExists 32768 = true ∧
    ((scanS true).tile 0).retireReq = true ∧ ((scanS false).tile 0).jobs = [] ∧ ((scanS false).tile 0).work = [] ∧
    (scanS false).deviations 0 (runsOf 0x8888888888888880) (lay.narrowAddr 0) [] = [] ∧ (repairS.tile 0).settled = true ∧ (refreshS.tile 0).settled = true ∧
    (refreshS.tile 0).refresh = true ∧ (reserveS.tile 32768).settled = true ∧ (reserveS.tile 32768).reserveProg = true ∧
    isReserve 32768 = true := by decide +kernel
theorem test_no_orders_elsewhere : ∀ s ∈ [scanS true, scanS false, repairS, refreshS], s.tileDef = [] := by decide +kernel

/-- A MILESTONE that has asked for closure, while a SNAPSHOT waits for it and a register write is staged; in `waitS` another queue
still runs a descriptor of the step. -/
def deferredSnap : Running := { begun 0x38 with work := { Work.none with started := true, deferred := true } }
def closeS : State :=
  { ((((runs 0x31).modWork 0 fun w => { w with started := true }).modPart 0 fun x =>
      { x with stepOn := true, milestone := 7, logCount := 3 }).setQueue 1 { SubQ.reset with running := some deferredSnap }) with
    staged := [(regKey 0 0 0x30 0, (1, 4000))] }
def waitS : State := closeS.setQueue 2 { SubQ.reset with running := some (begun 0 [(1, 1, 1)]) }
theorem wit_Closure : Runs (runs 0x31) 0 0x31 (begun 0x31) ∧ closeS.closingQueue 0 = some 0 ∧ base.closingQueue 0 = none ∧
    waitS.closingQueue 0 = none ∧ ((closeS.queuesOf 0).any fun e => e.1 == 1) = true ∧ closeS.runningOp 1 0x38 = some deferredSnap ∧
    ((closeS.part 0).readers.any fun f => f.owner == 1) = false ∧
    (closeS.staged.all fun e => (quadBlocks [0, 1, 2, 3]).contains (keyBlock e.1)) = true :=
  ⟨runs_of (by decide +kernel), by decide +kernel⟩

/-- SNAPSHOT of a partition that owns one block of a digital group, which holds the blocks of milestone 6, or waits for closure. -/
def snapFields (d : Nat) : List (Nat × Nat × Nat) := [(24, 8, d), (32, 8, 1024), (2, 1, 1)]
def snapS (d : Nat) (wait : Bool := false) : State :=
  ((groupsS dgRec 0x38 (snapFields d)).modPart 0 fun x => { x with readers := [⟨0, 6, true, []⟩] }).modWork 0 fun w =>
    { w with deferred := wait }
theorem wit_Snapshot : MemoryOk (snapS 0x80000) ∧ ([snapS 0x80000, snapS (2 ^ 63), snapS 0x80000 true].all fun s =>
      (s.runningOp 0 0x38).isSome && (s.part 0).imageLen true == 704 && !(s.earlier 0 0x39 0 fun _ => true) &&
      (s.part 0).readers.find? (fun e => e.owner == 0) == some ⟨0, 6, true, []⟩) = true ∧
    ((snapS 0x80000).part 0).reach 5 0x80000 704 = some (.dev 0x80000) ∧
    ((snapS 0x80000).part 0).reach 5 (2 ^ 63) 704 = some (.host 0) ∧
    (snapS 0x80000).badAccess (((snapS 0x80000).part 0).imageAccess ++ [(true, .dev 0x80000, 704)]) = none ∧
    (snapS (2 ^ 63)).badAccess (((snapS 0x80000).part 0).imageAccess ++ [(true, .host 0, 704)]) = none :=
  ⟨⟨by decide +kernel, by decide +kernel⟩, by decide +kernel⟩
/-- The image of the group in step 4, at milestone 9. -/
def snapBytes : List Byte := (groupsS dgRec 0 []).image 0 true 9
def restS (ms : Nat) : State := groupsS dgRec 0x39 [(24, 8, 2 ^ 63), (32, 8, 704), (2, 1, ms), (40, 8, 9)]
theorem wit_Restore : ((restS 0).runningOp 0 0x39).isSome = true ∧ ((restS 0).part 0).stepOn = false ∧
    (restS 0).earlier 0 0x38 0 (fun _ => true) = false ∧
    ((restS 0).part 0).reach 5 (2 ^ 63) 704 = some (.host 0) ∧ (restS 0).source (.host 0) 704 (.data snapBytes) = some snapBytes ∧
    (((restS 0).part 0).restoreItems snapBytes 704).map (fun es => (es.length, (restS 0).badAccess (es.flatMap ((restS 0).part 0).restoreAccess))) =
      some (1, none) ∧ ((restS 0).part 0).restoreItems [] 704 = none := by decide +kernel


/-! ### Witnesses: registers, footpath and host window -/

/-- In a step, so that staged fields wait. -/
def inStep : State := within fun x => { x with stepOn := true }
/-- A read-write field (RFR_SEL and the like are staged or held) and the staged fields of a register of an array die. -/
theorem wit_RegWrites : base.viaOpen (.tenant 0) = true ∧ base.pathStatus 0 0x00 0x44 = none ∧ pathDie 0x00 = some (0, 0) ∧
    barTarget 0x44 = some (0, 0, 0x44) ∧ ((regAt 0 0x44).any fun f => f.acc == .rw && base.reaches (.tenant 0) 0 0 f &&
      f.view == .tenant && (base.selected (.tenant 0) 0 0 0x44).isSome && (base.selected .owner 0 0 0x44).isSome) = true ∧
    inStep.atRest 0 0 = false ∧ ((regAt 0 0x40).all fun f => f.acc == .rws && inStep.reaches (.tenant 0) 0 0 f && f.view == .tenant) = true ∧
    inStep.selected (.tenant 0) 0 0 0x40 = some 0 ∧ inStep.selected .owner 0 0 0x40 = some 0 ∧ base.selected .owner 2 3 0x39C = some 0 ∧
    base.pathStatus 0 0x13 0xFFFFC = none ∧ pathDie 0x13 = some (2, 3) := by decide +kernel
theorem wit_RegReads : base.activeCtrl = 0 ∧ ({ base with powered := false } : State).input = true ∧ (pathDie 0x1F).isNone = true ∧
    (0, 0x44) ∉ latchPairs ∧ (0, 0x40) ∉ latchPairs ∧ (2, 0x298) ∈ latchPairs ∧ (2, 0x398) ∈ latchPairs ∧
    base.viaOpen .owner = true ∧ dieCount .hd = 4 ∧ base.inLayout 0 = false ∧
    ({ base with wm := { base.wm with fifo := [7, 8] } } : State).wm.fifo = [7, 8] := by decide +kernel

/-- Tile 0 in a state; hub 0's queue 1, ring 1 and port 0 selected and off; a converter enabled and triggered by writes. -/
def selS : State := ((field' 2 0 0x330 15 1 0 (field' 2 0 0x314 0 10 1 (field' 2 0 0x300 0 14 1))).setRegf 2 0 0x314 0 10 1 1).setRegf 2 0 0x300 0 14 1 1
def portS : State := let s := field' 2 0 0x204 0 1 0; s.setPort 0 { s.port 0 with st := 0, signal := true }
def queueRuns : State := running { begun 0x31 with work := { Work.none with started := true } } |>.setQueue 0
  { (running { begun 0x31 with work := { Work.none with started := true } }).queue 0 with fetched := [⟨block 64 [], none, true⟩] }
def wmS : State := field' 2 0 0x380 16 8 1 (field' 2 0 0x380 1 2 0 (field' 2 0 0x380 0 1 1))
/-- The command's register is reached whole through a path. -/
def wholeB (s : State) (v : Via) (k n off : Nat) : Bool :=
  (regAt k off).all fun f => s.reaches v k n f && (viaOwner v || f.view == .tenant)
theorem wit_Reached : ([Via.tenant 0, .owner].all fun v => base.viaOpen v && wholeB base v 2 0 0x30C && wholeB base v 2 0 0x320 &&
      wholeB base v 2 0 0x330 && wholeB base v 2 0 0x204) = true ∧
    (wholeB base .owner 0 0 0x7C && wholeB base .owner 0 0 0x94 && wholeB base .owner 2 0 0x384) = true ∧ viaSel .owner = 1 := by
  decide +kernel
theorem wit_Control : base.selTile 1 0 = 0 ∧ tileExists 0 = true ∧ (base.tile 0).mark = 0 ∧ (base.tile 0).due = none ∧
    (base.tile 0).st = .off ∧ ((base.modTile 0 fun x => { x with st := .active }).tile 0).st = .active ∧
    selS.queueOn (selS.regf 2 0 0x300 0 14 1) = false ∧ selS.ringOn (selS.regf 2 0 0x314 0 10 1) = false ∧
    selS.regf 2 0 0x330 15 1 = 0 ∧ selS.owner 0 = some 0 ∧ lowDie 2 0 = 0 ∧ queueRuns.queueOn 0 = true ∧
    (queueRuns.queue 0).running.isSome = true ∧ portOf 0 (portS.regf 2 0 0x200 0 2 1) = some 0 ∧ portS.portEn 0 = false ∧
    (portS.port 0).st = 0 ∧ (portS.port 0).signal = true ∧ wmS.input = true ∧ wmS.wmCfg 0 1 = 1 ∧ wmS.wmCfg 1 2 = 0 ∧
    wmS.wm.running = false ∧ wmS.wmSteps ≠ 0 := by decide +kernel

/-- The footpath's access under way: a write of 8 bytes, and a read, of coded or of raw bytes; block 0 has bytes set apart. -/
def fpS (wr raw : Bool) : State :=
  base.setGrad 0 { base.grad 0 with fpBusy := true, fpAt := 8, fpWrite := wr, fpRaw := raw, fpWord := [1, 2, 3, 4, 5, 6, 7, 8] }
theorem wit_Footpath : MemoryOk base ∧ (base.grad 0).fpBusy = false ∧ base.fpAllowed 0 = false ∧
    ({ base with parts := [] } : State).fpAllowed 0 = true ∧ ((fpS true false).grad 0).fpBusy = true ∧
    ((fpS true false).grad 0).fpWord.length = 8 ∧ (fpS true false).poisoned 8 8 = false ∧ (fpS true false).offline 8 8 = false ∧
    tsorted 0 (fpS true true).raw = true := ⟨⟨by decide +kernel, by decide +kernel⟩, by decide +kernel⟩
/-- The same access once the stack is powered down. -/
def fpDown : State := (fpS true false).setStack 0 { (fpS true false).stack 0 with online := false }
theorem wit_FootpathDown : MemoryOk fpDown ∧ (fpDown.grad 0).fpBusy = true ∧ (fpDown.grad 0).fpAt = 8 ∧ fpDown.offline 8 8 = true :=
  ⟨⟨by decide +kernel, by decide +kernel⟩, by decide +kernel⟩

/-- A committed window of 256 MiB at 0. -/
def winS : State := field' 1 0 0x268 0 13 1 (within fun x => { x with hdm := true })
def winOff : State := winS.setStack 0 { winS.stack 0 with online := false }
theorem wit_Window : winS.windowLine 0 0 = some 0 ∧ winS.windowLine 0 (2 ^ 28 - 1) = some (2 ^ 28 - 64) ∧ winS.windowLine 0 (2 ^ 28) = none ∧
    winS.offline 0 64 = false ∧ winS.poisoned 0 64 = false ∧ winOff.windowLine 0 0 = some 0 ∧ winOff.offline 0 64 = true ∧
    (winS.hostWindow 0).2 ≠ 0 ∧ tfind base.parts 0 = some part0 ∧ part0.st ≠ .absent := by decide +kernel


/-! ### Witnesses: partitions, start-up and security -/

def partS (st : PState) : State := within fun x => { x with st := st }
theorem wit_Service : Accepts base 0 1 ∧ base.longTouches 15 = false ∧ base.powered = true ∧ base.maskPart 15 = some 0 ∧
    (base.part 0).inService = true ∧ ((partS .stopped).part 0).inService = false ∧ (partS .stopped).maskPart 15 = some 0 ∧
    (partS .vacant).maskPart 15 = some 0 ∧ (quadsOf 15).any base.mgmt.badQuads.contains = false ∧
    (let s : State := { partS .vacant with mgmt := { base.mgmt with badQuads := [2] } }
     (quadsOf 15).any s.mgmt.badQuads.contains = true ∧ s.maskPart 15 = some 0) ∧ (partS .scrubbing).maskPart 15 = some 0 := by
  refine ⟨⟨by decide +kernel, by decide +kernel, by decide +kernel, by decide +kernel, by decide +kernel⟩, by decide +kernel⟩

/-- The partition of four quadrants is being scrubbed, with all quadrants or the last one left. -/
def scrubLong (left : List Nat) : Long := ⟨cmdScrub, 7, [0, 1, 2, 3], left, 0⟩
def scrubS (left : List Nat) : State :=
  let s := (partS .scrubbing).writeMem 0x1000 [9]
  { s with mgmt := { s.mgmt with long := [scrubLong left] } }
theorem wit_Scrub : MemoryOk (scrubS [3]) ∧
    ((scrubS [3]).mgmt.long.find? fun l => !(quadsOf 8).isEmpty && (quadsOf 8).all l.left.contains) = some (scrubLong [3]) ∧
    (quadsOf 8).all (scrubS [3]).stacksOn = true ∧ (scrubLong [3]).left.all (quadsOf 8).contains = true ∧
    ((scrubS [0, 1, 2, 3]).mgmt.long.find? fun l => !(quadsOf 15).isEmpty && (quadsOf 15).all l.left.contains) =
      some (scrubLong [0, 1, 2, 3]) ∧ (quadsOf 15).all (scrubS [0, 1, 2, 3]).stacksOn = true ∧
    (scrubS [3]).parts.map (fun e => (e.1, e.2.st, e.2.quads)) = [(0, .scrubbing, [0, 1, 2, 3])] :=
  ⟨⟨by decide +kernel, by decide +kernel⟩, by decide +kernel⟩
theorem wit_Layout : base.mgmt.long = [] ∧ (layoutParts 3).contains [0, 1, 2, 3] = false ∧ (layoutParts 0).contains [0, 1, 2, 3] = true ∧
    base.mgmt.badQuads = [] := by decide +kernel
/-- Both ports of the far tier have 4 GiB; a range of 1 GiB returns to the pool. -/
def farS (st : PState) : State := { partS st with farPorts := [(0, (4, 2)), (1, (4, 2))] }
def zeroS : State :=
  let s := (farS .vacant).writeMem farBase [1, 2]
  { s with mgmt := { s.mgmt with zeroing := [(farBase, 2 ^ 30)] } }
theorem wit_Far : Accepts (farS .vacant) 0 1 ∧ (farS .vacant).farBytes = 2 ^ 33 ∧ (farS .vacant).mgmt.farRanges = [] ∧
    (farS .vacant).mgmt.zeroing = [] ∧ MemoryOk zeroS ∧ zeroS.mgmt.zeroing.find? (fun e => e.1 == farBase) = some (farBase, 2 ^ 30) ∧
    zeroS.farDown farBase (2 ^ 30) = false :=
  ⟨⟨by decide +kernel, by decide +kernel, by decide +kernel, by decide +kernel, by decide +kernel⟩, by decide +kernel, by decide +kernel,
    by decide +kernel, ⟨by decide +kernel, by decide +kernel⟩, by decide +kernel⟩

/-- Without power; with a counter that the factory's images do not reach; in recovery; after RESET. -/
def offS : State := State.reset
def noBank : State := { State.reset with sec := { Security.reset with arb := 1 } }
def recovS : State := { State.reset with input := true, mgmt := { Mgmt.reset with recovery := true } }
def bootS : State := { State.reset with input := true, mgmt := { Mgmt.reset with bootFrom := 1, booting := true } }
theorem wit_StartUp : offS.input = false ∧ offS.sec.pickBank 0 = some 0 ∧ noBank.sec.pickBank 0 = none ∧ noBank.sec.pickBank 1 = none ∧
    recovS.mgmt.recovery = true ∧ bootS.input = true ∧ bootS.powered = false ∧ bootS.mgmt.bootFrom = 1 ∧ bootS.mgmt.recovery = false ∧
    base.mgmt.long = [] ∧ ({ State.reset with input := true } : State).mgmt.tripped = false ∧
    ({ State.reset with mgmt := { Mgmt.reset with tripped := true, stbyTemps := [84] } } : State).coolEnough = true := by decide +kernel
theorem wit_Management : base.mgmtRuns = true ∧ base.mgmt.standbyActive = false ∧
    ({ base with mgmt := { base.mgmt with telePeriod := 1 } } : State).mgmt.telePeriod ≠ 0 ∧ base.mgmt.records.length < 1024 ∧
    bootS.input = true ∧ bootS.powered = false := by decide +kernel

/-- A response to number 5, a bank that does not run, key slots in each state. -/
def answered : State := { base with mgmt := { base.mgmt with resp := [(0x31, 5, 0, [1])] } }
theorem wit_Mailbox : answered.mgmt.resp.find? (fun r => r.2.1 == 5) = some (0x31, 5, 0, [1]) ∧ base.activeCtrl = 0 ∧
    base.sec.runBank = 0 ∧ base.sec.slotState = [1, 0, 0, 0, 1, 0, 0, 0] ∧ base.sec.slotDigest.length = 8 ∧ base.sec.lastActive 0 0 = true ∧
    ({ base.sec with slotState := [1, 1, 2, 0, 1, 0, 0, 0] } : Security).lastActive 0 1 = false ∧ base.sec.arb = 0 ∧ base.sec.svn = 0 ∧
    (Security.runSet base.sec 0).meas.length = 3 ∧ tileExists 0x7FFFF = false ∧ tileExists (7 * 65536 + 33791) = true := by decide +kernel
/-- Each place of the exchange, with and without a session. -/
def spdmS (k : Nat) (on : Bool) : State := within fun x => { x with spdmState := k, session := on }
theorem wit_Spdm : ([spdmS 0 false, spdmS 1 false, spdmS 2 false, spdmS 3 false, spdmS 4 false, spdmS 3 true].all fun s =>
    s.spdmOpen 0) = true ∧ ((spdmS 3 true).part 0).session = true := by decide +kernel


/-! ### Witnesses: fabric, stacks, far tier, twin and waymark -/

/-- Port 0 carries traffic, in order up to `seq`, with flits to be acknowledged after `tries` replays. -/
def liveP : Port := { Port.down with st := 2, signal := true }
def flitS (tries : Nat := 0) (replay : List (Nat × FlitStage × List Byte) := []) (asked : Bool := false) : State :=
  (routed base).setPort 0 { liveP with rxSeq := 4095, tries := tries, replay := replay, asked := asked }
/-- A data flit that begins and ends a packet, one that does neither, and bytes kept for replay. -/
def dataFlit (sop eop : Bool) : List Byte := mkFlit 1 3 sop eop 4095 0 [0, 0, 0, 0] [1, 2, 3]
def kept : List (Nat × FlitStage × List Byte) := [(7, none, [1, 2, 3])]
theorem leNat_natLe (n v : Nat) : leNat (natLe n v) = v % 256 ^ n := by
  induction n generalizing v with
  | zero => simp only [natLe, leNat, Nat.pow_zero, Nat.mod_one]
  | succ n ih =>
    simp only [natLe, leNat, ih, BitVec.toNat_ofNat, Nat.pow_succ, Nat.mul_comm (256 ^ n) 256, Nat.mod_mul]
    omega
theorem natLe_length (n v : Nat) : (natLe n v).length = n := by
  induction n generalizing v with
  | zero => rfl
  | succ n ih => simp only [natLe, List.length_cons, ih]
theorem slice_length (bs : List Byte) (o n : Nat) : (slice bs o n).length = n := by
  simp only [slice, List.length_append, List.length_take, List.length_drop, List.length_replicate]; omega
/-- Every flit that is made carries its own CRC (R362). -/
theorem flitOk_mkFlit (ty vc : Nat) (a b : Bool) (sq ak : Nat) (cr : List Nat) (p : List Byte) : flitOk (mkFlit ty vc a b sq ak cr p) = true := by
  unfold mkFlit
  extract_lets c w body
  have hb : body.length = 248 := by simp [body, natLe_length, slice_length]
  have hd : (body ++ natLe 8 (crc64 body).toNat).take 248 = body := by rw [← hb]; exact List.take_left
  have hs : slice (body ++ natLe 8 (crc64 body).toNat) 248 8 = natLe 8 (crc64 body).toNat := by
    unfold slice
    rw [← hb, List.drop_left, List.take_of_length_le (by simp [natLe_length])]
    simp [natLe_length]
  simp only [flitOk, field, hs, hd, leNat_natLe, List.length_append, hb, natLe_length]
  have := (crc64 body).isLt
  simp; omega
theorem wit_Flits : flitS.powered = true ∧ flitS.speaks 0 = true ∧ ackReplay 7 kept = [] ∧ ((flitS).port 0).live = true ∧ bits (field (dataFlit true true) 0 8) 0 4 = 1 ∧
    bits (field (dataFlit true true) 0 8) 8 12 = ((flitS).port 0).rxSeq ∧ flitOk [] = false ∧ ((flitS (asked := true)).port 0).asked = true ∧
    ackReplay 6 kept = kept ∧ (((flitS 7 kept).port 0).acked 6).tries < 8 ∧ ((flitS 8 kept).port 0).tries = 8 ∧
    ((flitS 8 kept).port 0).live = true := by decide +kernel

/-- Port 0 in a state, with or without what it needs to train. -/
def trainS (st : Nat) (sig x4 : Bool := true) : State := (base.setPort 0 { Port.down with st := st, signal := sig }).setRegf 2 0 0x204 1 1 (b2n x4) 0
theorem wit_Train : ((trainS 0).port 0).st = 0 ∧ (trainS 0).portEn 0 = true ∧ (trainS 1).portX4 0 = true ∧ (trainS 4 true false).portX4 0 = false ∧
    ((trainS 4).port 0).st = 4 ∧ ((trainS 1 false).port 0).signal = false := by decide +kernel
/-- A data packet from endpoint 7 for a partition of an endpoint; its port holds it. -/
def pk (dst part dom : Nat) : Packet := ⟨dom, dst, part, 7, 0, 0, 32, 1, 2, 3, 0, 2, [4, 5]⟩
def recvS (bs : List Byte) : State := ((routed base).setPort 0 { liveP with rxq := [(2, bs)] }).setPort 1 { Port.down with st := 1 }
theorem wit_Packet : ((recvS []).port 0).rxq = [(2, [])] ∧ ((recvS []).port 0).freed.length = 4 ∧ (recvS []).portOwner 0 = some 0 ∧
    (recvS []).domain = 5 ∧ field (pk 9 0 5).bytes 0 2 = 5 ∧ parsePacket 2 (pk 9 0 5).bytes = some (pk 9 0 5) ∧
    parsePacket 2 (block 32 [(0, 2, 5), (10, 1, 1)]) = none ∧ (recvS []).hopOf 0 9 0 32 = .drop ∧ (recvS []).hopOf 0 0 0 32 = .deliver ∧
    ((recvS []).setRoute 0 9 1).hopOf 0 9 0 32 = .out 1 ∧
    (((recvS []).setRoute 0 9 1).setPort 1 { liveP with unavail := true }).hopOf 0 9 0 32 = .unavailable ∧
    (parsePacket 1 { pk 9 0 5 with kind := 2 }.bytes).map (·.kind) = some 2 ∧ ((recvS []).part 0).inService = true ∧
    (recvS []).hopOf 0 8 0 32 = .drop ∧ base.domain = 0 ∧ (((recvS []).setRoute 0 9 1).port 1).live = false := by decide +kernel

/-- A stack in a thermal state. -/
def stackS (f : Stack → Stack) : State := base.setStack 5 (f (base.stack 5))
theorem wit_Stacks : (base.stack 5).online = true ∧ (base.stack 5).thermal = 0 ∧
    ((stackS fun x => { x with online := false, thermal := 3, temp := 1472 }).stack 5).temp = 1472 ∧
    sparesOk (spareLanes (base.stack 5) [0, 71]) = true ∧ sparesOk (spareLanes (base.stack 5) [0, 1, 71]) = false ∧
    base.regf 1 (5 / 3) 0x24C 0 8 ≠ 0 ∧ base.poisoned (stackAddr 5 0) 256 = false ∧ base.raw = [] := by decide +kernel
/-- R404: a warm stack cools below 82 °C, a hot one below 92 °C. -/
theorem test_thermal : thermalNext 0 1360 = 1 ∧ thermalNext 1 1312 = 1 ∧ thermalNext 1 1311 = 0 ∧ thermalNext 1 1520 = 2 ∧
    thermalNext 2 1472 = 2 ∧ thermalNext 2 1471 = 1 ∧ thermalNext 1 1680 = 3 := by decide
/-- Slot 5 was spilled: 300 bytes are to go to the far tier. -/
def spillS : State :=
  let s := (farS .inService).modPart 0 fun x => { x with far := (farBase, 2 ^ 30), spills := [(5, 0x10000, farBase, 300)], live := [(5, 0x10000, 300)] }
  s.writeMem 0x10000 [1, 2, 3]
theorem wit_Far2 : MemoryOk spillS ∧ (tget (0, 0) spillS.farPorts 1) = (4, 2) ∧
    (((runs 0x02 []).queue 0).running.map fun r => r.began && r.done.isNone && dOpcode r.desc != 0x30) = some true ∧
    ((runs 0x02 []).part 0).colls = [] ∧ (spillS.part 0).spills.find? (fun e => e.1 == 5) = some (5, 0x10000, farBase, 300) ∧
    spillS.offline (spillS.dirAddr 0 5) 16 = false ∧ spillS.memStatus true farBase 300 = none ∧
    spillS.memStatus false 0x10000 300 = none ∧ spillS.dirAddr 0 5 + 16 ≤ farBase := ⟨⟨by decide +kernel, by decide +kernel⟩, by decide +kernel⟩

/-- Port T is up in domain 5; the twin in a state, with mirror slots of 1 MiB at 0. -/
def twinS (f : Twin → Twin) (en : Nat := 0) : State :=
  let s := (field' 2 3 0x36C 0 16 1 ((routed base).setPort 8 liveP)).setRegf 2 3 0x360 0 1 en
  { s with twin := f Twin.reset }
def pairing (k : Nat) (from_ : TwinState) (held : Option Nat) (x : Twin) : Twin :=
  { x with st := .pairing, from_ := from_, progress := k, held := held, nonceOwn := List.replicate 32 7, noncePeer := List.replicate 32 9 }
theorem wit_Twin : (twinS id).twinPart = some 0 ∧ (twinS id).powered = true ∧ ((twinS id).port 8).live = true ∧ (twinS id).domain = 5 ∧
    (twinS id).twin.st = .unpaired ∧ ((twinS id).part 0).inService = true ∧ (twinS id 1).twCfg 0 1 = 1 ∧
    (twinS (pairing 0 .unpaired none)).twCfg 16 12 = 0 ∧ (twinS id).regf 2 3 0x36C 0 16 ≠ 0 ∧
    slice (block 96 [(10, 2, 0)] |>.take 64 |> (· ++ List.replicate 32 7)) 64 32 = (pairing 2 .unpaired none Twin.reset).nonceOwn ∧
    (twinS id).endpoint = 0 ∧ (pairing 3 .holding (some 1) Twin.reset).held = some 1 ∧
    ((twinS id).setRegf 2 3 0x36C 0 16 0).regf 2 3 0x36C 0 16 = 0 := by decide +kernel
/-- An image of 64 bytes: the digest of nothing. -/
def img : List Byte := sha512 []
theorem wit_Images : (twinS fun x => { x with st := .paired, held := some 0 }).imageFail 1 img true = none ∧
    (twinS fun x => { x with st := .paired }).imageFail 0 [] true = some 2 ∧ (twinS fun x => { x with st := .paired }).imageFail 2 img true = none ∧
    MemoryOk (twinS id) ∧ (twinS fun x => { x with mirroring := true }).twin.mirrorsDue = [] ∧
    (((twinS fun x => { x with mirroring := true }).port 8).txq.any fun e => e.vc == 2) = false :=
  ⟨by decide +kernel, by decide +kernel, by decide +kernel, ⟨by decide +kernel, by decide +kernel⟩, by decide +kernel⟩

/-- Converters 0 and 7 are enabled with sequences of two entries and one; triggers come from the pin, on both edges. -/
def wmPin (f : Waymark → Waymark) (passes : Nat := 0) : State :=
  let s := field' 2 0 0x380 0 24 (1 + 1 * 2 + 3 * 8 + passes * 256 + 0x81 * 65536)
  { s.setRegf 2 0 0x38C 12 1 0 0 with wm := f Waymark.reset }
theorem wit_Waymark : (wmPin id).input = true ∧ (wmPin id).wmCfg 0 1 = 1 ∧ (wmPin id).wmCfg 1 2 = 1 ∧ (wmPin id).wmCfg 3 2 = 3 ∧
    (wmPin id).wmSteps = 2 ∧ (wmPin id).wm.running = false ∧ (wmPin id).wmEnabled = [0, 7] ∧ (wmPin id).wmLength 0 = 2 ∧ base.wmCfg 0 1 = 0 ∧
    (wmPin id 255).wmCfg 8 8 = 255 := by decide +kernel

/-! ### The spec's worked examples -/

/-- Worked example of R84 and R85, and of the trim in Setup Registers: −5.4 and 19 unit products at range codes 0 and 2. -/
theorem test_conversion : rawCode 0 0 0 (-34560) = -5 ∧ rawCode 0 0 0 121600 = 19 ∧ rawCode 2 0 0 (-34560) = -1 ∧
    rawCode 2 0 0 121600 = 5 ∧ corrected (-83) 16 300 = 297 := by decide +kernel
/-- Worked example of R54: the digits of +5, −7, +3, −9 and +23. -/
theorem test_digits : canonDigits 2 5 = [1, 1] ∧ canonDigits 2 (-7) = [1, -2] ∧ canonDigits 2 3 = [-1, 1] ∧
    canonDigits 3 (-9) = [-1, 2, -1] ∧ canonDigits 3 23 = [-1, 2, 1] := by decide
/-- Worked example of R137: two scale segments, a = 4. -/
theorem test_quantise : quantise 4 2 none [(0, r32 (.fin false 52009 (-14))), (1, r32 (.fin false 1638 (-14))),
      (512, r32 (.fin true 6554 (-14))), (513, r32 (.fin false 492 (-14)))] =
    ⟨[(0, 0x06), (1, 0x00), (512, 0x86), (513, 0x00)], 123, [3, 0], 0, 0⟩ := by decide +kernel
/-- Worked example of R262 and R264: the place of a small product decides whether it survives. -/
theorem test_cancellation :
    chunkSum [0x4B800000, 0x3F800000, 0xCB800000] = 0 ∧ chunkSum [0x4B800000, 0, 0xCB800000, 0x3F800000] = 0x3F800000 ∧
    chunkSum [0x4B800000, 0, 0xCB800000, 0, 0x3F800000] = 0x3F800000 := by decide +kernel
/-- Worked example of R395: two addresses. -/
theorem test_addresses : stackOf 0x6000000A40 = 10 ∧ stackAddr 10 1 = 0x6000000A00 ∧ stackOf 0x17FFFFFFFFF = 23 ∧
    stackAddr 23 268435455 = 0x17FFFFFFF00 := by decide
/-- Worked example of R337: the first step of one element; s1n and s2n are the example's, w′ is by hand without bias correction and ε. -/
def updGroup : List Byte := block 128 [(3, 1, 4), (64, 4, 0x3F600000), (68, 4, 0x3E000000), (72, 4, 0x3F7FC000), (76, 4, 0x3A800000)]
theorem test_update :
    ((⟨0, 0, updGroup, [], 1, 0x3A800000, 0x3F800000⟩ : ApplyCtx).element (.fin false 1 (-1)) (.fin false 41 (-11)) 0 0).map
      (fun e => (r32 e.1, e.2)) = some (0x3C840000, 0x3D800000, 0x39800000) ∧
    quantMaster (.fin false 39 (-11)) 0x3C000000 4 = some 2 := by decide +kernel
/-- Worked example of R576: the tile is kept with τ = 0x445D. -/
theorem test_array_check : refCheck (64 * 49152, 64 * 46016, 64 * 128) = (0x445D, false) := by decide +kernel
/-- Worked example of R557: `V_ARRAY` at 0.70 V and gain 2. -/
theorem test_waymark : (wmPin id).wmConvert 0 1 (16 * 700000) = (50972, false) := by decide +kernel
/-- R84 at transitions and at the ends of the scale, and the owner's FIFO seen by a tenant (R559). -/
theorem wit_Conversion : corrected 0 0 (rawCode 1 0 0 6400) = 1 ∧ corrected 0 0 (rawCode 1 0 0 (-6400)) = -1 ∧
    corrected 0 0 (rawCode 0 0 0 3267200) = 511 ∧ corrected 0 0 (rawCode 0 0 0 3267199) = 510 ∧
    corrected 0 0 (rawCode 0 0 0 (-3267200)) = -511 ∧ corrected 0 0 (rawCode 0 0 0 (-99999999)) = -511 ∧
    ((wmPin fun w => { w with fifo := [5, 6] }).regRead (.tenant 0) 2 0 0x398).1 = 0 := by decide +kernel
/-- The hypotheses on a tenant's access to the waymark. -/
theorem wit_Tenants : (3 : Nat) < 4 ∧ (0x398 : Nat) ∈ [0x380, 0x384, 0x388, 0x38C, 0x390, 0x394, 0x398, 0x39C] ∧
    base.viaOpen (.tenant 0) = true := by decide +kernel
/-- R364: packets of two inputs take turns, and a packet that has begun goes on. -/
theorem test_turns :
    let x := { Port.down with txq := packetFlits 0 9 none (List.replicate 300 1) ++ packetFlits 0 9 none [2] ++ packetFlits 0 1 none [3] }
    x.nextInput 0 = 1 ∧ { x with turn := [1, 9, 9, 9] }.nextInput 0 = 9 ∧ { x with txq := x.txq.drop 1 }.nextInput 0 = 9 := by
  decide +kernel
/-- R512, R592: Q_READY_N is low only in service. -/
theorem test_ready : base.readyLow 2 = true ∧ (partS .stopped).readyLow 2 = false ∧ ({ base with powered := false } : State).readyLow 2 = false := by
  decide +kernel

end Sys2Proof.Tests
end

section
/-! Column conversion (R84): rounding half away from zero, told by the transitions between neighbouring codes, and the code
that a conversion with neither gain nor offset takes. -/

namespace Sys2Proof.Machine

/-! ### Rounding half away from zero -/

/-- Twice the transition below code `c`, half a step under it. -/
theorem transition_below (c q : Int) : (2 * c - 1) * q = 2 * (c * q) - q := by
  rw [Int.sub_mul, Int.mul_assoc, Int.one_mul]

/-- Twice the transition above code `c`, half a step over it. -/
theorem transition_above (c q : Int) : (2 * c + 1) * q = 2 * (c * q) + q := by
  rw [Int.add_mul, Int.mul_assoc, Int.one_mul]

/-- Rounding half away from zero is odd. -/
theorem roundAway_neg (n : Int) (d : Nat) : roundAway (-n) d = -roundAway n d := by
  rcases Int.lt_trichotomy n 0 with hn | rfl | hn
  · rw [roundAway, roundAway, if_pos (by omega), if_neg (by omega), Int.neg_neg]
  · have hzero : (2 * 0 + (d : Int)) / (2 * d) = 0 := by
      rw [Int.mul_zero, Int.zero_add]
      rcases d.eq_zero_or_pos with rfl | hd
      · rfl
      · exact Int.ediv_eq_zero_of_lt (by omega) (by omega)
    rw [Int.neg_zero, roundAway, if_pos (Int.le_refl 0), hzero, Int.neg_zero]
  · rw [roundAway, roundAway, if_neg (by omega), if_pos (by omega), Int.neg_neg]

/-- The transition below a positive code belongs to that code. -/
theorem le_roundAway_iff {d : Nat} (hd : 0 < d) {c : Int} (hc : 0 < c) (n : Int) :
    c ≤ roundAway n d ↔ (2 * c - 1) * d ≤ 2 * n := by
  unfold roundAway
  split
  · rw [Int.le_ediv_iff_mul_le (by omega), Int.mul_left_comm, transition_below]
    omega
  · next hn =>
    have hquot : 0 ≤ (2 * -n + d) / (2 * (d : Int)) := Int.ediv_nonneg (by omega) (by omega)
    have htrans : 0 < (2 * c - 1) * (d : Int) := Int.mul_pos (by omega) (by omega)
    omega

/-- The transition above a negative code belongs to that code. -/
theorem roundAway_le_iff {d : Nat} (hd : 0 < d) {c : Int} (hc : c < 0) (n : Int) :
    roundAway n d ≤ c ↔ 2 * n ≤ (2 * c + 1) * d := by
  have h := le_roundAway_iff hd (show 0 < -c by omega) (-n)
  rw [roundAway_neg, transition_below, Int.neg_mul] at h
  rw [transition_above]
  omega

/-- A common factor of the number and the step does not matter. -/
theorem roundAway_mul_mul {m : Nat} (hm : 0 < m) (n : Int) (d : Nat) : roundAway (m * n) (m * d) = roundAway n d := by
  have hm' : (0 : Int) < m := by omega
  have hquot (a : Int) : (2 * (m * a) + (m * d : Nat)) / (2 * ((m * d : Nat) : Int)) = (2 * a + d) / (2 * (d : Int)) := by
    rw [← Int.mul_ediv_mul_of_pos (2 * a + d) (2 * d) hm', Int.natCast_mul, Int.mul_add, Int.mul_left_comm 2 m a,
      Int.mul_left_comm 2 m d]
  by_cases hn : 0 ≤ n
  · rw [roundAway, roundAway, if_pos (Int.mul_nonneg (by omega) hn), if_pos hn, hquot]
  · have hprod : (m : Int) * n < 0 := Int.mul_neg_of_pos_of_neg hm' (by omega)
    rw [roundAway, roundAway, if_neg (by omega), if_neg hn, ← Int.mul_neg, hquot]

/-- In steps of 1 an integer is its own rounding. -/
theorem roundAway_one (n : Int) : roundAway n 1 = n := by
  unfold roundAway
  split <;> omega

/-! ### The code of a conversion with neither gain nor offset -/

/-- The code of a sum in steps of `q`: rounded half away from zero and held within ±511. -/
def idealCode (q : Nat) (sum : Int) : Int := clampI (-511) 511 (roundAway sum q)

/-- With neither gain nor offset the converter rounds the sum in steps of its range code. -/
theorem rawCode_zero (k : Nat) (sum : Int) :
    rawCode k 0 0 sum = clampI (-512) 511 (roundAway sum (anUnit * 2 ^ k)) := by
  have hnum : 16 * (sum * 16384) + 0 * (((anUnit * 2 ^ k : Nat) : Int) * (16384 + 0)) = (16 * 16384 : Nat) * sum := by omega
  have hden : (16 * (((anUnit * 2 ^ k : Nat) : Int) * (16384 + 0))).toNat = 16 * 16384 * (anUnit * 2 ^ k) := by omega
  rw [rawCode, hnum, hden, roundAway_mul_mul (by decide)]

/-- With neither gain nor offset the correction only holds the code within ±511. -/
theorem corrected_zero (r : Int) : corrected 0 0 r = clampI (-511) 511 r := by
  have hnum : (16 * r - 0) * (16384 + 0) = (16 * 16384 : Nat) * r := by omega
  have hround : roundAway ((16 * 16384 : Nat) * r) (16 * 16384) = r :=
    (roundAway_mul_mul (by decide) r 1).trans (roundAway_one r)
  rw [corrected, hnum, hround]

theorem corrected_rawCode_zero (k : Nat) (sum : Int) :
    corrected 0 0 (rawCode k 0 0 sum) = idealCode (anUnit * 2 ^ k) sum := by
  rw [rawCode_zero, corrected_zero, idealCode]
  unfold clampI
  omega

theorem idealCode_mem (q : Nat) (sum : Int) : -511 ≤ idealCode q sum ∧ idealCode q sum ≤ 511 := by
  unfold idealCode clampI
  omega

section
variable {q : Nat} (hq : 0 < q) (sum : Int) {c : Int}
include hq

/-- A sum takes the positive code `c` or a larger one from the transition below `c` on. -/
theorem le_idealCode_iff (hc : 0 < c) (hc' : c ≤ 511) : c ≤ idealCode q sum ↔ (2 * c - 1) * q ≤ 2 * sum := by
  rw [← le_roundAway_iff hq hc]
  unfold idealCode clampI
  omega

/-- A sum takes the negative code `c` or a smaller one up to the transition above `c`. -/
theorem idealCode_le_iff (hc : c < 0) (hc' : -511 ≤ c) : idealCode q sum ≤ c ↔ 2 * sum ≤ (2 * c + 1) * q := by
  rw [← roundAway_le_iff hq hc]
  unfold idealCode clampI
  omega

/-- No sum lies above the transition over its code, unless that code is the largest. -/
theorem two_mul_le_of_idealCode_lt (h : idealCode q sum < 511) : 2 * sum ≤ (2 * idealCode q sum + 1) * q := by
  obtain ⟨hlow, -⟩ := idealCode_mem q sum
  by_cases hneg : idealCode q sum < 0
  · exact (idealCode_le_iff hq sum hneg hlow).1 (Int.le_refl _)
  · have hnext : 2 * (idealCode q sum + 1) - 1 = 2 * idealCode q sum + 1 := by omega
    have habove := mt (le_idealCode_iff hq sum (c := idealCode q sum + 1) (by omega) (by omega)).2 (by omega)
    rw [hnext] at habove
    omega

/-- No sum lies below the transition under its code, unless that code is the smallest. -/
theorem le_two_mul_of_lt_idealCode (h : -511 < idealCode q sum) : (2 * idealCode q sum - 1) * q ≤ 2 * sum := by
  obtain ⟨-, hhigh⟩ := idealCode_mem q sum
  by_cases hpos : 0 < idealCode q sum
  · exact (le_idealCode_iff hq sum hpos hhigh).1 (Int.le_refl _)
  · have hprev : 2 * (idealCode q sum - 1) + 1 = 2 * idealCode q sum - 1 := by omega
    have hbelow := mt (idealCode_le_iff hq sum (c := idealCode q sum - 1) (by omega) (by omega)).2 (by omega)
    rw [hprev] at hbelow
    omega

/-- No code is nearer to the sum than the one taken: the transition next to it lies between the sum and every other code. -/
theorem idealCode_nearest {n : Int} (hn : -511 ≤ n) (hn' : n ≤ 511) :
    (sum - idealCode q sum * q).natAbs ≤ (sum - n * q).natAbs := by
  have hq' : (0 : Int) ≤ q := by omega
  rcases Int.lt_trichotomy n (idealCode q sum) with hlt | rfl | hgt
  · have htrans := le_two_mul_of_lt_idealCode hq sum (by omega)
    have hstep : (n + 1) * (q : Int) ≤ idealCode q sum * q := Int.mul_le_mul_of_nonneg_right hlt hq'
    rw [transition_below] at htrans
    rw [Int.add_mul] at hstep
    omega
  · exact Nat.le_refl _
  · have htrans := two_mul_le_of_idealCode_lt hq sum (by omega)
    have hstep : (idealCode q sum + 1) * (q : Int) ≤ n * q := Int.mul_le_mul_of_nonneg_right hgt hq'
    rw [transition_above] at htrans
    rw [Int.add_mul] at hstep
    omega

/-- A sum on a transition takes the code of larger magnitude of the two. -/
theorem idealCode_of_transition {n : Int} (hn : -511 ≤ n) (hn' : n ≤ 510) (h : 2 * sum = (2 * n + 1) * q) :
    idealCode q sum = if 0 ≤ n then n + 1 else n := by
  have hq' : (0 : Int) < q := by omega
  split
  · next hnonneg =>
    have hnext : 2 * (n + 1) - 1 = 2 * n + 1 := by omega
    have hle : n + 1 ≤ idealCode q sum :=
      (le_idealCode_iff hq sum (by omega) (by omega)).2 (by rw [hnext]; exact Int.le_of_eq h.symm)
    have hge := le_two_mul_of_lt_idealCode hq sum (by omega)
    rw [h] at hge
    have := Int.le_of_mul_le_mul_right hge hq'
    omega
  · next hneg =>
    have hle : idealCode q sum ≤ n := (idealCode_le_iff hq sum (by omega) hn).2 (Int.le_of_eq h)
    have hge := two_mul_le_of_idealCode_lt hq sum (by omega)
    rw [h] at hge
    have := Int.le_of_mul_le_mul_right hge hq'
    omega

end

/-- Settles O20: the code taken is told by its two transitions, each of which belongs to the code of larger magnitude. -/
theorem conversionTakesNearestCode : Obligations.ConversionTakesNearestCode := by
  unfold Obligations.ConversionTakesNearestCode
  intro k sum
  dsimp only
  rw [corrected_rawCode_zero]
  have hq : 0 < anUnit * 2 ^ k := Nat.mul_pos (by decide) (Nat.two_pow_pos k)
  obtain ⟨hlow, hhigh⟩ := idealCode_mem (anUnit * 2 ^ k) sum
  refine ⟨hhigh, hlow, fun h => ?_, fun h => ?_, fun n hn hn' => idealCode_nearest hq sum hn hn',
    fun n hn hn' => idealCode_of_transition hq sum hn hn'⟩
  · exact Int.le_antisymm hhigh ((le_idealCode_iff hq sum (by decide) (Int.le_refl _)).2 h)
  · exact Int.le_antisymm ((idealCode_le_iff hq sum (by decide) (Int.le_refl _)).2 h) hlow

end Sys2Proof.Machine
end

section
/-! WAYPOST_SET (R443): its report, and what a waypost write and the signal of a finished descriptor leave in the wayposts. -/

namespace Sys2Proof.Machine

open Sys2Proof Sys2Proof.Safety

/-! ### Waypost writes and the signal of a finished descriptor (R441, R442) -/

@[simp] theorem State.waypostWrite_mem (s : State) (w : Nat) (v : Word64) : (s.waypostWrite w v).mem = s.mem := rfl
@[simp] theorem State.waypostWrite_out (s : State) (w : Nat) (v : Word64) : (s.waypostWrite w v).out = s.out := rfl
@[simp] theorem State.waypostWrite_parts (s : State) (w : Nat) (v : Word64) : (s.waypostWrite w v).parts = s.parts := rfl

/-- Only the waypost written takes the value. -/
theorem State.waypost_waypostWrite (s : State) (w : Nat) (v : Word64) (j : Nat) :
    (s.waypostWrite w v).waypost j = if j = w then v else s.waypost j := by
  change (s.setWaypost w v).waypost j = _
  split
  · next h => rw [h, State.waypost_setWaypost]
  · next h => exact State.waypost_setWaypost_other s j w v h

@[simp] theorem State.finish_mem (s : State) (q st : Nat) (res : List Byte) : (s.finish q st res).mem = s.mem :=
  (State.finish_evolves s q st res).same .mem rfl
@[simp] theorem State.finish_out (s : State) (q st : Nat) (res : List Byte) : (s.finish q st res).out = s.out :=
  (State.finish_evolves s q st res).same .out rfl

/-- A finished descriptor adds 1 to its signal waypost if SIG_EN asks for it and its partition holds the waypost, and to no other. -/
theorem State.waypost_finish {s : State} {q : Nat} {r : Running} (st : Nat) (res : List Byte)
    (h : (s.queue q).running = some r) (hd : r.done = none) (v : Nat) :
    (s.finish q st res).waypost v = s.waypost v +
      if (dSigEn r.desc = true ∧ (s.part (s.queuePart q)).holds (dSigWp r.desc / 4096) = true) ∧ dSigWp r.desc = v
      then 1 else 0 := by
  simp only [State.finish, h, hd, Option.isSome_none, Bool.false_eq_true, if_false]
  by_cases hsig : dSigEn r.desc = true ∧ (s.part (s.queuePart q)).holds (dSigWp r.desc / 4096) = true
  · rw [if_pos (Bool.and_eq_true_iff.2 hsig), State.waypost_waypostWrite]
    by_cases hv : v = dSigWp r.desc
    · subst hv
      simp [hsig]
    · rw [if_neg hv, if_neg fun h => hv h.2.symm]
      simp
  · rw [if_neg (mt Bool.and_eq_true_iff.1 hsig), if_neg fun h => hsig h.1]
    simp

/-! ### Writes to a place -/

@[simp] theorem State.writeMem_out (s : State) (a : Nat) (bs : List Byte) : (s.writeMem a bs).out = s.out :=
  (State.writeMem_evolves s a bs).same .out rfl

/-- Device memory that is not offline takes the bytes written; what the write corrects on its way does not change them. -/
theorem State.writeMem_mem {s : State} {a : Nat} {bs : List Byte} (h : s.offline a bs.length = false) :
    (s.writeMem a bs).mem = memWrite s.mem a bs := by
  have hmod : (s.modifyBlocks a bs.length).mem = s.mem := (State.modifyBlocks_evolves s a bs.length).same .mem rfl
  simp only [State.writeMem, h, Bool.false_eq_true, if_false, hmod]

/-- An access that device memory admits reaches no offline stack. -/
theorem State.offline_of_memStatus {s : State} {write : Bool} {a n : Nat} (h : s.memStatus write a n = none) :
    s.offline a n = false := by
  unfold State.memStatus at h
  split at h
  · contradiction
  · next hon => exact Bool.eq_false_iff.2 hon

/-! ### WAYPOST_SET (R443) -/

/-- Bytes written to a place, or nowhere if there is none. -/
def State.report (s : State) (fn : Nat) (pl : Option Place) (bs : List Byte) : State :=
  match pl with
  | none => s
  | some pl => s.writeAt fn pl bs

theorem State.report_evolves (s : State) (fn : Nat) (pl : Option Place) (bs : List Byte) :
    Evolves 62980098 s (s.report fn pl bs) := by
  cases pl with
  | none => exact .refl
  | some pl => exact State.writeAt_evolves s fn pl bs

@[simp] theorem State.report_parts (s : State) (fn : Nat) (pl : Option Place) (bs : List Byte) :
    (s.report fn pl bs).parts = s.parts := (State.report_evolves s fn pl bs).same .parts rfl
@[simp] theorem State.report_queues (s : State) (fn : Nat) (pl : Option Place) (bs : List Byte) :
    (s.report fn pl bs).queues = s.queues := (State.report_evolves s fn pl bs).same .queues rfl
@[simp] theorem State.report_wayposts (s : State) (fn : Nat) (pl : Option Place) (bs : List Byte) :
    (s.report fn pl bs).wayposts = s.wayposts := (State.report_evolves s fn pl bs).same .wayposts rfl

/-- The state in which a WAYPOST_SET finishes: the waypost has taken its value, and REPORT, if it is given, has received it. -/
def State.waypostSet (s : State) (q w : Nat) (v : Word64) (pl : Option Place) : State :=
  (s.waypostWrite w v).report (s.queuePart q) pl (natLe 8 v.toNat)

section
variable (s : State) (q w : Nat) (x : Word64) (pl : Option Place)

theorem State.part_waypostSet (p : Nat) : (s.waypostSet q w x pl).part p = s.part p := by
  simp only [State.part, State.waypostSet, State.report_parts, State.waypostWrite_parts]

theorem State.queuePart_waypostSet (q' : Nat) : (s.waypostSet q w x pl).queuePart q' = s.queuePart q' := by
  simp only [State.queuePart, State.ownerD, State.owner, State.waypostSet, State.report_parts, State.waypostWrite_parts]

theorem State.running_waypostSet (q' : Nat) : ((s.waypostSet q w x pl).queue q').running = (s.queue q').running := by
  rw [← State.running_waypostWrite s w x q', State.queue, State.queue, State.waypostSet, State.report_queues]

theorem State.waypost_waypostSet (v : Nat) : (s.waypostSet q w x pl).waypost v = if v = w then x else s.waypost v := by
  rw [← State.waypost_waypostWrite s w x v, State.waypost, State.waypost, State.waypostSet, State.report_wayposts]

theorem State.waypostSet_dev_mem {a : Nat} (h : s.offline a 8 = false) :
    (s.waypostSet q w x (some (.dev a))).mem = memWrite s.mem a (natLe 8 x.toNat) := by
  have hon : (s.waypostWrite w x).offline a (natLe 8 x.toNat).length = false := h
  rw [State.waypostSet, State.report, State.writeAt, State.writeMem_mem hon, State.waypostWrite_mem]

end

/-- A WAYPOST_SET with a known OP whose REPORT is 0, or is reached and accepts the write, sets its waypost, reports the value,
and finishes with it. -/
theorem execWaypostSet_run {s : State} {q : Nat} {ok : Bool} {r : Running} (h : Runs s q 0x01 r)
    (hop : field r.desc 2 2 % 4 < 3) {w : Nat} (hw : w = bits (field r.desc 24 2) 0 14) {v : Word64}
    (hv : v = waypostOp (field r.desc 2 2 % 4) (s.waypost w) (BitVec.ofNat 64 (field r.desc 32 8))) {pl : Option Place}
    (hpl : pl = if field r.desc 40 8 = 0 then none else (s.part (s.queuePart q)).reach 5 (field r.desc 40 8) 8)
    (hrep : field r.desc 40 8 ≠ 0 → ∃ a, pl = some a ∧ s.placeStatus true a 8 = none ∧ (a.isHost = true → ok = true)) :
    execWaypostSet q ok s = .next ((s.waypostSet q w v pl).finish q stOk (natLe 8 v.toNat ++ List.replicate 8 0)) := by
  subst hw hv
  have hform : (field r.desc 2 2 % 4 == 3) = false := beq_eq_false_iff_ne.2 (Nat.ne_of_lt hop)
  rw [execWaypostSet, onRunning_run h]
  by_cases h0 : field r.desc 40 8 = 0
  · rw [if_pos h0] at hpl
    subst hpl
    simp only [hform, h0, formIf, firstFail, bne_self_eq_false, Bool.false_and, Bool.false_eq_true, if_true, if_false]
    rfl
  · obtain ⟨a, ha, hst, hhost⟩ := hrep h0
    subst ha
    rw [if_neg h0] at hpl
    simp only [hform, h0, ← hpl, hst, formIf, firstFail, Option.isNone_some, Bool.and_false, Bool.false_eq_true, if_false]
    cases a with
    | dev a => rfl
    | slab a => rfl
    | host a => rw [hhost rfl]; rfl

/-- Settles O14: the command ends where `State.waypostSet` leaves it, and finishing there adds the signal. -/
theorem waypostSetReportsAndReturnsResult : Obligations.WaypostSetReportsAndReturnsResult := by
  unfold Obligations.WaypostSetReportsAndReturnsResult
  intro s q ok r hmem hrun d p op w value result bytes report sig hop hrep
  obtain ⟨hq, -, hdone, -⟩ := runningOp_some hrun.2
  obtain ⟨pl, hpl⟩ : ∃ pl, pl = if field d 40 8 = 0 then none else report := ⟨_, rfl⟩
  have hexec := execWaypostSet_run (ok := ok) hrun hop (w := w) rfl (v := result) rfl hpl fun h => by
    rw [hpl, if_neg h]
    exact hrep h
  have hu : ((s.waypostSet q w result pl).queue q).running = some r := (State.running_waypostSet ..).trans hq
  refine ⟨_, hexec, finished_finish hu hdone, fun v => ?_, ?_⟩
  · rw [State.waypost_finish _ _ hu hdone, State.waypost_waypostSet, State.part_waypostSet, State.queuePart_waypostSet]
  · rw [State.finish_mem, State.finish_out]
    refine ⟨fun h => ?_, fun a h ha => ?_, fun a h ha => ?_⟩
    · rw [hpl, if_pos h]
      exact ⟨rfl, rfl⟩
    · obtain ⟨_, hreach, hst, -⟩ := hrep h
      cases ha.symm.trans hreach
      rw [hpl, if_neg h, ha, State.waypostSet_dev_mem _ _ _ _ (State.offline_of_memStatus hst)]
      exact ⟨memRead_memWrite bytes hmem.1 a, State.writeMem_out .., fun b hb => memByte_memWrite_out bytes hmem.1 hb⟩
    · rw [hpl, if_neg h, ha]
      exact ⟨rfl, rfl⟩

end Sys2Proof.Machine
end

section
/-! The waymark's registers, the owner's alone (R559): what a tenant's access to an owner-only register reads and changes. -/

namespace Sys2Proof.Machine

open Sys2Proof Sys2Proof.Safety

/-! ### Owner-only registers seen by a tenant (R465) -/

/-- No field of the register is in a tenant's view. -/
def Hidden (k off : Nat) : Prop := ∀ f ∈ regAt k off, f.view = .hidden

section

variable {k off : Nat} (hid : Hidden k off) (s : State) (fn d : Nat)

include hid

theorem State.reaches_tenant_of_hidden {f : RegField} (hf : f ∈ regAt k off) : s.reaches (.tenant fn) k d f = false := by
  simp only [State.reaches, hid f hf, bne_self_eq_false, Bool.false_and, Bool.and_false]

/-- A tenant finds no field to read. -/
theorem State.regValue_tenant_of_hidden : s.regValue (.tenant fn) k d off = 0 := by
  have hnone : (regAt k off).filter (s.reaches (.tenant fn) k d) = [] :=
    List.filter_eq_nil_iff.2 fun f hf => Bool.eq_false_iff.1 (s.reaches_tenant_of_hidden hid fn d hf)
  rw [State.regValue, hnone]
  split
  · rfl
  · exact ite_self 0

/-- A tenant finds no field to write. -/
theorem State.regWrite_tenant_of_hidden (w : Nat) : s.regWrite (.tenant fn) k d off w = s := by
  have hnone : (regAt k off).filter (fun f =>
      s.reaches (.tenant fn) k d f && (viaOwner (.tenant fn) || f.view == .tenant)) = [] :=
    List.filter_eq_nil_iff.2 fun f hf => by simp [s.reaches_tenant_of_hidden hid fn d hf]
  rw [State.regWrite, hnone]
  split <;> rfl

/-- A read returns 0 to a tenant, if what the register may return as the HI half of a latched pair is hidden as well. -/
theorem State.regRead_tenant_of_hidden (hlo : (k, off - 4) ∈ latchPairs → Hidden k (off - 4)) :
    (s.regRead (.tenant fn) k d off).1 = 0 := by
  have hval := s.regValue_tenant_of_hidden hid fn d
  unfold State.regRead
  split
  · exact hval
  · split
    · next hpair =>
      have hnone : (regAt k (off - 4)).any (s.reaches (.tenant fn) k d) = false :=
        List.any_eq_false.2 fun f hf =>
          Bool.eq_false_iff.1 (s.reaches_tenant_of_hidden (hlo (List.contains_iff_mem.1 hpair)) fn d hf)
      simp [hnone]
    · split <;> exact hval

end

/-! ### The waymark's registers (R559 to R564) -/

/-- Offsets of WM_CFG, WM_CTRL, WM_SEQSEL, WM_SEQDATA, WM_PROBESEL, WM_STAT, WM_FIFO_LO and WM_FIFO_HI. -/
def waymarkRegs : List Nat := [0x380, 0x384, 0x388, 0x38C, 0x390, 0x394, 0x398, 0x39C]

/-- The register tables keep every waymark field for the management-plane owner. -/
theorem hidden_of_mem_waymarkRegs {off : Nat} (h : off ∈ waymarkRegs) : Hidden 2 off := by
  revert off
  unfold Hidden
  decide

/-- WM_FIFO is the only latched pair whose HI register is the waymark's. -/
theorem latchPair_waymarkRegs {off : Nat} (h : off ∈ waymarkRegs) (hpair : (2, off - 4) ∈ latchPairs) : off - 4 = 0x398 := by
  revert off
  decide

theorem State.regRead_tenant_waymarkRegs (s : State) (fn d : Nat) {off : Nat} (h : off ∈ waymarkRegs) :
    (s.regRead (.tenant fn) 2 d off).1 = 0 :=
  s.regRead_tenant_of_hidden (hidden_of_mem_waymarkRegs h) fn d fun hpair =>
    hidden_of_mem_waymarkRegs (latchPair_waymarkRegs h hpair ▸ by decide)

/-- A tenant's read of a hub die's register changes at most the latches: only the owner's read removes from the FIFO (R558). -/
theorem State.regRead_tenant_evolves (s : State) (fn d off : Nat) : Evolves 131072 s (s.regRead (.tenant fn) 2 d off).2 := by
  have hengine : ((2 : Nat) = 1 && off = 0x144 && s.enginesRun d) = false := rfl
  simp only [State.regRead, viaOwner, hengine, Bool.and_false, Bool.false_eq_true, if_false]
  exact .iteSnd (.ite .refl (.latches .refl rfl)) (.iteSnd .refl .refl)

/-! ### WM_FIFO_READ by a tenant (R558, R559) -/

/-- A function in service that reads WM_FIFO_LO is answered 0 by the state after the read. -/
theorem execWmFifoRead_tenant {s : State} {fn : Nat} (hfn : fn < 4) (hopen : s.viaOpen (.tenant fn) = true) :
    execWmFifoRead (.tenant fn) s = .next ((s.regRead (.tenant fn) 2 0 0x398).2.emit (.regRead 0 0)) := by
  have hzero := s.regRead_tenant_waymarkRegs fn 0 (off := 0x398) (by decide)
  rw [execWmFifoRead, onVia, onFunction, if_pos hfn, hopen]
  exact congrArg (fun x => Host.Outcome.next ((s.regRead (.tenant fn) 2 0 0x398).2.emit (.regRead 0 (BitVec.ofNat 32 x)))) hzero

/-- What keeps every component outside the mask of output and latches changes only these two. -/
theorem only_out_latches {s t : State} (h : Evolves 131074 s t) : Only [.out, .latches] s t := by
  intro c hc
  have hbit : Nat.testBit 131074 (compBit c) = false := by
    revert hc
    cases c <;> decide
  exact h.same c hbit

/-- Settles O45: no field of a waymark register is in a tenant's view, so no access finds one, and a read changes only latches. -/
theorem tenantsReadWaymarkAsZero : Obligations.TenantsReadWaymarkAsZero := by
  unfold Obligations.TenantsReadWaymarkAsZero
  intro s fn d off w hfn hoff
  refine ⟨s.regRead_tenant_waymarkRegs fn d hoff, (s.regRead_tenant_evolves fn d off).same .wm rfl,
    s.regWrite_tenant_of_hidden (hidden_of_mem_waymarkRegs hoff) fn d w, fun hopen => ?_⟩
  have hread := s.regRead_tenant_evolves fn 0 0x398
  have hframe := (State.emit_evolves _ (.regRead 0 0)).app (m := 131074) (hread.mono rfl) rfl
  refine ⟨_, execWmFifoRead_tenant hfn hopen, ?_, hframe.same .wm rfl, only_out_latches hframe⟩
  exact congrArg (· ++ [Output.regRead 0 0]) (hread.same .out rfl)

end Sys2Proof.Machine
end

section
/-! The whole machine: what a step is, what reset leaves, and the frames of the commands, read off the masks under which each
command evolves the state. -/

namespace Sys2Proof.Machine

open Sys2Proof Sys2Proof.Safety

/-! ### Masks and lists of components -/

/-- The components, each at its bit number. -/
def compList : List Comp :=
  [.pending, .out, .free, .ltime, .stbyNs, .input, .powered, .brake, .layout, .parts, .queues, .turns, .rings, .wayposts, .regs,
    .staged, .counters, .latches, .calUser, .calStaged, .calClamped, .calFactory, .mem, .poison, .raw, .slab, .tiles, .tileDef,
    .retire, .gates, .roads, .dies, .grads, .hbm, .farPorts, .ports, .routes, .twin, .wm, .mgmt, .sec, .scrubs]

theorem compList_compBit (c : Comp) : compList.getD (compBit c) .pending = c := by cases c <;> rfl

theorem compBit_injective {c k : Comp} (h : compBit c = compBit k) : c = k := by
  rw [← compList_compBit c, h, compList_compBit]

/-- The mask that lets the listed components differ. -/
def maskOf : List Comp → Nat
  | [] => 0
  | c :: cs => 2 ^ compBit c ||| maskOf cs

theorem testBit_maskOf_of_not_mem {c : Comp} : ∀ {cs : List Comp}, c ∉ cs → (maskOf cs).testBit (compBit c) = false
  | [], _ => Nat.zero_testBit _
  | k :: cs, h => by
    obtain ⟨hk, hcs⟩ := not_or.1 (mt List.mem_cons.2 h)
    rw [maskOf, Nat.testBit_or, testBit_maskOf_of_not_mem hcs, Bool.or_false]
    exact Nat.testBit_two_pow_of_ne fun e => hk (compBit_injective e.symm)

/-- What evolves under a mask that lies within the listed components differs in these alone. -/
theorem only_of_evolves {m : Nat} {cs : List Comp} {s t : State} (h : Evolves m s t) (hm : m &&& maskOf cs = m) : Only cs s t :=
  fun c hc => (h.mono hm).same c (testBit_maskOf_of_not_mem hc)

/-- A command whose next states all evolve under a mask within the listed components has these as its frame. -/
theorem frame_of_ends {m : Nat} {c : Instr} {cs : List Comp} (h : ∀ s, Ends m s (exec c s)) (hm : m &&& maskOf cs = m) :
    Frame c cs := fun s t e => only_of_evolves ((h s).run t e) hm

/-! ### One step -/

theorem step_of_pending {c : Instr} {rest : List Instr} {s : State} (h : s.pending = c :: rest) :
    step s = exec c { s with pending := rest } := by rw [step, h]

theorem step_of_idle {s : State} (h : s.pending = []) : step s = .next s.tick := by rw [step, h]

/-- Settles O1: it is the second branch of `step`. -/
theorem stepRunsFrontCommand : Obligations.StepRunsFrontCommand := fun _ _ _ h => step_of_pending h

/-- Settles O3: reset is a literal state, and every table in it is empty. -/
theorem resetLeavesNothingRunning : Obligations.ResetLeavesNothingRunning := by
  unfold Obligations.ResetLeavesNothingRunning
  refine ⟨rfl, rfl, fun _ => rfl, fun _ => rfl, ⟨rfl, rfl⟩, fun c hc => ?_, rfl, rfl⟩
  cases hc

/-- With no command waiting, the state with the queue's rest is the state. -/
theorem dropFront_of_idle {s : State} (h : s.pending = []) : ({ s with pending := s.pending.tail } : State) = s := by
  cases s
  cases h
  rfl

/-- A step from a waiting command evolves from the state with the queue's rest, one on an empty queue from the state itself;
both keep memory and fuses. -/
theorem step_evolves {s t : State} (h : step s = .next t) : Evolves 4398046511102 { s with pending := s.pending.tail } t := by
  cases hp : s.pending with
  | nil =>
    rw [← hp, dropFront_of_idle hp]
    exact step_idle hp h
  | cons c rest => exact step_front hp h

/-- Settles O6: the step evolves from a state with the same memory and slabs. -/
theorem stepsKeepMemoryCanonical : Obligations.StepsKeepMemoryCanonical :=
  fun _ _ hmem h => (step_evolves h).memory hmem

/-- Settles O7: the step evolves from a state with the same fuses. -/
theorem stepsNeverUndoFuses : Obligations.StepsNeverUndoFuses := fun _ _ h => by
  obtain ⟨harb, hrevoked⟩ := (step_evolves h).lasts
  exact ⟨harb, hrevoked⟩

/-! ### One period of the road clock (R494, R580) -/

theorem State.renewViews_ltime (s : State) : s.renewViews.ltime = s.ltime := (State.renewViews_evolves s).same .ltime rfl
theorem State.renewViews_stbyNs (s : State) : s.renewViews.stbyNs = s.stbyNs := (State.renewViews_evolves s).same .stbyNs rfl

theorem State.tick_ltime (s : State) : s.tick.ltime = if s.powered then s.ltime + 1 else s.ltime := by
  unfold State.tick
  cases hi : s.input <;> cases hp : s.powered <;> simp [hp] <;> split <;> simp [State.renewViews_ltime]

theorem State.tick_stbyNs (s : State) : s.tick.stbyNs = if s.input then s.stbyNs + 1 else s.stbyNs := by
  unfold State.tick
  cases hi : s.input <;> cases hp : s.powered <;> simp [hp] <;> split <;> simp [State.renewViews_stbyNs]

/-- Without the data plane only standby time can run. -/
theorem State.tick_of_unpowered {s : State} (h : s.powered = false) :
    s.tick = if s.input then { s with stbyNs := s.stbyNs + 1 } else s := by
  unfold State.tick
  cases hi : s.input <;> simp [h]

/-- Settles O2: the idle step is `State.tick`. -/
theorem idleStepIsOneClockPeriod : Obligations.IdleStepIsOneClockPeriod := by
  unfold Obligations.IdleStepIsOneClockPeriod
  intro s hs
  refine ⟨s.tick, step_of_idle hs, s.tick_ltime, s.tick_stbyNs, only_of_evolves s.tick_evolves rfl, fun hp => ?_⟩
  have hrun : Evolves 16 s s.tick := by
    rw [State.tick_of_unpowered hp]
    exact .ite (.stbyNs .refl rfl) .refl
  exact only_of_evolves hrun rfl

/-! ### Frames -/

/-- Settles O8: each frame is the list form of the mask under which its command evolves the state. -/
theorem programAndEngineCommandsChangeOnly : Obligations.ProgramAndEngineCommandsChangeOnly := by
  unfold Obligations.ProgramAndEngineCommandsChangeOnly
  exact ⟨⟨fun _ _ _ _ => frame_of_ends (execDoorbell_ends _ _ _ _) rfl,
        fun _ _ => frame_of_ends (execDescriptorFetch_ends _ _) rfl,
        fun _ _ => frame_of_ends (execDescriptorBegin_ends _ _) rfl,
        fun _ => frame_of_ends (execBudgetHandover_ends _) rfl,
        fun _ _ => frame_of_ends (execCompletionPost_ends _ _) rfl,
        fun _ => frame_of_ends (execEqOverflow_ends _) rfl,
        fun _ => frame_of_ends (execNop_ends _) rfl,
        fun _ _ => frame_of_ends (execWaypostSet_ends _ _) rfl,
        fun _ _ _ => frame_of_ends (execCopy_ends _ _ _) rfl,
        fun _ => frame_of_ends (execHoldRelease_ends _) rfl,
        fun _ _ => frame_of_ends (execMapLoad_ends _ _) rfl,
        fun _ _ => frame_of_ends (execGroupLoad_ends _ _) rfl,
        fun _ _ => frame_of_ends (execVprogLoad_ends _ _) rfl,
        fun _ _ => frame_of_ends (execCollGroup_ends _ _) rfl,
        fun _ => frame_of_ends (execMilestone_ends _) rfl,
        fun _ => frame_of_ends (execMilestoneClosure_ends _) rfl,
        fun _ _ => frame_of_ends (execSnapshot_ends _ _) rfl,
        fun _ _ => frame_of_ends (execSnapshotDeferredStart_ends _ _) rfl,
        fun _ _ => frame_of_ends (execRestore_ends _ _) rfl⟩,
      ⟨fun _ _ => frame_of_ends (execMatmul_ends _ _) rfl,
        fun _ => frame_of_ends (execRow_ends _) rfl,
        fun _ _ => frame_of_ends (execIngrad_ends _ _) rfl,
        fun _ _ => frame_of_ends (execWgrad_ends _ _) rfl,
        fun _ => frame_of_ends (execDeriv_ends _) rfl,
        fun _ => frame_of_ends (execVprog_ends _) rfl,
        fun _ => frame_of_ends (execReduceScatter_ends _) rfl,
        fun _ => frame_of_ends (execAllGather_ends _) rfl,
        fun _ => frame_of_ends (execAllReduce_ends _) rfl,
        fun _ => frame_of_ends (execBroadcast_ends _) rfl,
        fun _ => frame_of_ends (execOrderGather_ends _) rfl,
        fun _ => frame_of_ends (execUpdateNorm_ends _) rfl,
        fun _ => frame_of_ends (execUpdateApply_ends _) rfl,
        fun _ => frame_of_ends (execPass2BlockResume_ends _) rfl,
        fun _ => frame_of_ends (execUpdateInit_ends _) rfl⟩,
      ⟨fun _ => frame_of_ends (execForward_ends _) rfl,
        fun _ => frame_of_ends (execDispatch_ends _) rfl,
        fun _ => frame_of_ends (execProgram_ends _) rfl,
        fun _ _ => frame_of_ends (execProgramBatch_ends _ _) rfl,
        fun _ => frame_of_ends (execVectorLatch_ends _) rfl,
        fun _ _ => frame_of_ends (execSegmentSample_ends _ _) rfl,
        fun _ => frame_of_ends (execEdgePipeline_ends _) rfl,
        fun _ => frame_of_ends (execPartialPacket_ends _) rfl,
        fun _ _ _ => frame_of_ends (execResidualArrival_ends _ _ _) rfl,
        fun _ => frame_of_ends (execInputPieceArrival_ends _) rfl,
        fun _ => frame_of_ends (execIdleTimeout_ends _) rfl,
        fun _ => frame_of_ends (execWakeAdmit_ends _) rfl,
        fun _ => frame_of_ends (execTileWakeDone_ends _) rfl,
        fun _ => frame_of_ends (execTollAdmit_ends _) rfl,
        fun _ _ => frame_of_ends (execDebtCheck_ends _ _) rfl,
        fun _ _ _ => frame_of_ends (execRailMeasure_ends _ _ _) rfl,
        fun _ => frame_of_ends (execRefreshStart_ends _) rfl,
        fun _ => frame_of_ends (execRefreshComplete_ends _) rfl,
        fun _ => frame_of_ends (execProbeStart_ends _) rfl,
        fun _ _ _ => frame_of_ends (execProbeScanDone_ends _ _ _) rfl,
        fun _ => frame_of_ends (execRepairDone_ends _) rfl,
        fun _ => frame_of_ends (execReserveProgrammed_ends _) rfl⟩⟩

/-- Settles O9: each frame is the list form of the mask under which its command evolves the state. -/
theorem accessAndModuleCommandsChangeOnly : Obligations.AccessAndModuleCommandsChangeOnly := by
  unfold Obligations.AccessAndModuleCommandsChangeOnly
  exact ⟨⟨fun _ _ _ => frame_of_ends (execRefreshReq_ends _ _ _) rfl,
        fun _ _ _ => frame_of_ends (execProbeReq_ends _ _ _) rfl,
        fun _ _ _ => frame_of_ends (execRetireReq_ends _ _ _) rfl,
        fun _ _ _ => frame_of_ends (execFootpathGo_ends _ _ _) rfl,
        fun _ _ => frame_of_ends (execFootpathComplete_ends _ _) rfl,
        fun _ _ _ => frame_of_ends (execQueueEnable_ends _ _ _) rfl,
        fun _ _ _ => frame_of_ends (execQueueDisable_ends _ _ _) rfl,
        fun _ _ _ => frame_of_ends (execCompletionRingEnable_ends _ _ _) rfl,
        fun _ _ _ => frame_of_ends (execEventQueueEnable_ends _ _ _) rfl,
        fun _ _ _ => frame_of_ends (execPortEnableWrite_ends _ _ _) rfl,
        fun _ _ _ _ => frame_of_ends (execLatchedPairRead_ends _ _ _ _) rfl,
        fun _ => frame_of_ends (execWmFifoRead_ends _) rfl,
        fun _ _ _ _ => frame_of_ends (execRegisterWrite_ends _ _ _ _) rfl,
        fun _ _ => frame_of_ends (execHostWindowRead_ends _ _) rfl,
        fun _ _ _ => frame_of_ends (execHostWindowWrite_ends _ _ _) rfl,
        fun _ => frame_of_ends (execConfigRequest_ends _) rfl,
        fun addr => frame_of_ends (execSnoop_ends addr) rfl,
        fun _ _ _ => frame_of_ends (execRegisterPathRead_ends _ _ _) rfl,
        fun _ _ _ _ => frame_of_ends (execRegisterPathWrite_ends _ _ _ _) rfl,
        fun _ _ => frame_of_ends (execStackTempSample_ends _ _) rfl,
        fun _ _ => frame_of_ends (execStackReturn_ends _ _) rfl,
        fun _ _ _ _ => frame_of_ends (execPatrolRead_ends _ _ _ _) rfl,
        fun _ _ => frame_of_ends (execFarTimeout_ends _ _) rfl,
        fun _ => frame_of_ends (execFarLinkDown_ends _) rfl,
        fun _ _ _ => frame_of_ends (execSpillCopyDone_ends _ _ _) rfl,
        fun _ _ => frame_of_ends (execTwinEnable_ends _ _) rfl,
        fun _ _ => frame_of_ends (execTwinDetach_ends _ _) rfl,
        fun _ _ => frame_of_ends (execTwinPull_ends _ _) rfl,
        fun _ _ => frame_of_ends (execSwTrig_ends _ _) rfl,
        fun _ _ => frame_of_ends (execAbort_ends _ _) rfl,
        fun _ _ => frame_of_ends (execFlush_ends _ _) rfl,
        fun _ => frame_of_ends (execFarLinkTrained_ends _) rfl,
        fun _ => frame_of_ends (execRangeZeroingComplete_ends _) rfl,
        fun _ _ => frame_of_ends (execHdmDecoderCommit_ends _ _) rfl⟩,
      ⟨fun _ => frame_of_ends (execFunctionLevelReset_ends _) rfl,
        frame_of_ends (execPerst_ends) rfl,
        frame_of_ends (execPowerBrakeAssert_ends) rfl,
        frame_of_ends (execPowerBrakeRelease_ends) rfl,
        fun _ _ _ => frame_of_ends (execDieTempSample_ends _ _ _) rfl,
        fun _ _ _ _ => frame_of_ends (execClockFault_ends _ _ _ _) rfl,
        fun _ _ => frame_of_ends (execInputFault_ends _ _) rfl,
        fun _ => frame_of_ends (execPowerOn_ends _) rfl,
        fun _ _ => frame_of_ends (execRecoveryImage_ends _ _) rfl,
        frame_of_ends (execMgmtRecordWrite_ends) rfl,
        frame_of_ends (execStandbyCopy_ends) rfl,
        fun _ => frame_of_ends (execMgmtFailover_ends _) rfl,
        fun _ => frame_of_ends (execTelemetryRecord_ends _) rfl,
        fun _ => frame_of_ends (execStandbyTempSample_ends _) rfl,
        fun _ _ _ => frame_of_ends (execScrub_ends _ _ _) rfl,
        fun _ _ => frame_of_ends (execScrubComplete_ends _ _) rfl,
        fun _ _ _ => frame_of_ends (execAssign_ends _ _ _) rfl,
        fun _ _ _ => frame_of_ends (execStop_ends _ _ _) rfl,
        fun _ _ _ => frame_of_ends (execResume_ends _ _ _) rfl,
        fun _ _ _ => frame_of_ends (execLayout_ends _ _ _) rfl,
        fun _ _ _ _ _ => frame_of_ends (execFarAssign_ends _ _ _ _ _) rfl,
        fun _ _ _ => frame_of_ends (execReset_ends _ _ _) rfl,
        fun _ _ _ _ _ => frame_of_ends (execFwWrite_ends _ _ _ _ _) rfl,
        fun _ _ _ => frame_of_ends (execFwCommit_ends _ _ _) rfl,
        fun _ _ _ _ _ _ _ => frame_of_ends (execKeyRecord_ends _ _ _ _ _ _ _) rfl,
        fun _ _ _ => frame_of_ends (execArbRaise_ends _ _ _) rfl,
        fun _ _ _ _ => frame_of_ends (execReport_ends _ _ _ _) rfl,
        fun _ _ _ => frame_of_ends (execTelemetry_ends _ _ _) rfl,
        fun _ _ _ => frame_of_ends (execRecordRead_ends _ _ _) rfl,
        fun _ _ _ => frame_of_ends (execArrayReport_ends _ _ _) rfl,
        fun _ _ _ => frame_of_ends (execMarkClear_ends _ _ _) rfl,
        fun _ _ _ _ => frame_of_ends (execCertRead_ends _ _ _ _) rfl,
        fun _ _ _ => frame_of_ends (execBootCfg_ends _ _ _) rfl,
        fun _ => frame_of_ends (execGetVersion_ends _) rfl,
        fun _ => frame_of_ends (execGetCapabilities_ends _) rfl,
        fun _ => frame_of_ends (execNegotiateAlgorithms_ends _) rfl,
        fun _ => frame_of_ends (execGetDigests_ends _) rfl,
        fun _ _ _ _ => frame_of_ends (execGetCertificate_ends _ _ _ _) rfl,
        fun _ _ => frame_of_ends (execChallenge_ends _ _) rfl,
        fun _ _ _ => frame_of_ends (execGetMeasurements_ends _ _ _) rfl,
        fun _ _ => frame_of_ends (execKeyExchange_ends _ _) rfl,
        fun _ _ => frame_of_ends (execFinish_ends _ _) rfl,
        fun _ => frame_of_ends (execEndSession_ends _) rfl,
        fun _ _ _ _ _ => frame_of_ends (execIdeKeyManagement_ends _ _ _ _ _) rfl⟩,
      ⟨fun _ _ _ => frame_of_ends (execLinkFlitReceive_ends _ _ _) rfl,
        fun _ _ => frame_of_ends (execReplayRequest_ends _ _) rfl,
        fun _ => frame_of_ends (execReplayTimeout_ends _) rfl,
        fun _ _ => frame_of_ends (execTrainComplete_ends _ _) rfl,
        fun _ => frame_of_ends (execTrainTimeout_ends _) rfl,
        fun _ => frame_of_ends (execLinkSignalLoss_ends _) rfl,
        fun _ => frame_of_ends (execPacketReceive_ends _) rfl,
        fun _ _ => frame_of_ends (execReadyReceive_ends _ _) rfl,
        fun _ _ _ => frame_of_ends (execReadyResend_ends _ _ _) rfl,
        fun _ => frame_of_ends (execCollDataReceive_ends _) rfl,
        fun _ _ => frame_of_ends (execAbortReceive_ends _ _) rfl,
        fun _ _ _ => frame_of_ends (execCollSettleExpiry_ends _ _ _) rfl,
        fun _ _ _ => frame_of_ends (execCollWatchdogExpiry_ends _ _ _) rfl,
        fun _ => frame_of_ends (execHello_ends _) rfl,
        fun _ _ => frame_of_ends (execChain_ends _ _) rfl,
        fun _ => frame_of_ends (execIdent_ends _) rfl,
        fun _ => frame_of_ends (execConfirm_ends _) rfl,
        frame_of_ends (execPairingTimeout_ends) rfl,
        frame_of_ends (execHeartbeatSend_ends) rfl,
        fun _ => frame_of_ends (execHeartbeatReceive_ends _) rfl,
        frame_of_ends (execTwinHeartbeatMiss_ends) rfl,
        frame_of_ends (execDetachEnd_ends) rfl,
        fun _ _ _ => frame_of_ends (execMirrorReceived_ends _ _ _) rfl,
        fun _ => frame_of_ends (execTrigInEdge_ends _) rfl,
        fun _ => frame_of_ends (execWaymarkStep_ends _) rfl,
        fun _ => frame_of_ends (execSignalPresent_ends _) rfl,
        frame_of_ends (execMirrorSendComplete_ends) rfl,
        frame_of_ends (execReturnConfirmed_ends) rfl,
        frame_of_ends (execReturnRequestReceive_ends) rfl⟩⟩

end Sys2Proof.Machine
end

section
/-! Completion: every command whose operands name existing hardware passes its guard and ends in a next state, so no step stops. -/

namespace Sys2Proof.Machine

open Sys2Proof Sys2Proof.Safety

/-- A result that is a next state. -/
def Ran (r : Result) : Prop := ∃ t, r = .next t

namespace Ran

theorem next (t : State) : Ran (.next t) := ⟨t, rfl⟩
theorem ite {c : Prop} [Decidable c] {a b : Result} (ha : Ran a) (hb : Ran b) : Ran (if c then a else b) := by
  split <;> assumption
/-- A guard that passes answers what it guards. -/
theorem guard {c : Prop} [Decidable c] {f : Fault} {r : Result} (hc : c) (hr : Ran r) : Ran (if c then r else .fault f) := by
  rwa [if_pos hc]

section
variable {k n : Nat} {v : Via} {r : Result}

theorem onTile (h : okTile k = true) (hr : Ran r) : Ran (onTile k r) := guard h hr
theorem onQueue (h : okQueue k = true) (hr : Ran r) : Ran (onQueue k r) := guard (of_decide_eq_true h) hr
theorem onQuad (h : okQuadrant k = true) (hr : Ran r) : Ran (onQuad k r) := guard (of_decide_eq_true h) hr
theorem onPort (h : okPort k = true) (hr : Ran r) : Ran (onPort k r) := guard (of_decide_eq_true h) hr
theorem onStack (h : okStack k = true) (hr : Ran r) : Ran (onStack k r) := guard (of_decide_eq_true h) hr
theorem onFunction (h : okFunction k = true) (hr : Ran r) : Ran (onFunction k r) := guard (of_decide_eq_true h) hr
theorem onFarPort (h : okFarPort k = true) (hr : Ran r) : Ran (onFarPort k r) := guard (of_decide_eq_true h) hr
theorem onController (h : okController k = true) (hr : Ran r) : Ran (onController k r) := guard (of_decide_eq_true h) hr
theorem onDie {kind : DieKind} (h : okDie kind k = true) (hr : Ran r) : Ran (onDie (dieCount kind) k r) := by
  cases kind <;> exact guard (of_decide_eq_true h) hr
theorem onVia (h : okVia v = true) (hr : Ran r) : Ran (onVia v r) := by
  cases v with
  | tenant fn => exact onFunction h hr
  | owner => exact hr

end

section
variable {s : State}

theorem onRunning {q op : Nat} {f : Running → State} (h : okQueue q = true) : Ran (onRunning q op s f) := by
  refine .onQueue h ?_
  split <;> exact next _
theorem mailbox {c cmd seq : Nat} {early : Bool} {f : State → State × Reply} (h : okController c = true) :
    Ran (mailbox c cmd seq early s f) := by
  refine .onController h (.ite (next _) (.ite (next _) ?_))
  split <;> exact next _
theorem spdm {fn code : Nat} {ok : Part → Bool} {body : List Byte} {f : Part → Part} (h : okFunction fn = true) :
    Ran (spdm fn s ok code body f) := .onFunction h (.ite (next _) (.ite (next _) (next _)))
theorem writeVia {v : Via} {kind : DieKind} {d off : Nat} {w : Word} (h : okVia v = true) : Ran (writeVia v kind d off w s) :=
  .onVia h (.ite (next _) (next _))
theorem twinMessage {r : Result} (h : Ran r) : Ran (s.twinMessage r) := .ite (next _) h

end
end Ran

theorem of_and_left {a b : Bool} (h : (a && b) = true) : a = true := (Bool.and_eq_true_iff.1 h).1
theorem of_and_right {a b : Bool} (h : (a && b) = true) : b = true := (Bool.and_eq_true_iff.1 h).2

/-- A well-formed command passes its guards, and behind them every branch answers a next state. -/
theorem exec_ran {c : Instr} (s : State) (h : c.wellFormed = true) : Ran (exec c s) := by
  cases c with
  | doorbell fn slot width v => exact .onFunction (of_and_left (of_and_left h)) (.ite (.next _) (.ite (.next _) (.ite (.next _) (.next _))))
  | descriptorFetch q r =>
    refine .onQueue h ?_
    repeat' split
    all_goals exact .next _
  | descriptorBegin q r =>
    refine .onQueue h (.ite (.next _) ?_)
    dsimp only
    repeat' split
    all_goals exact .next _
  | budgetHandover p =>
    refine .onQuad h ?_
    repeat' split
    all_goals exact .next _
  | completionPost q ok =>
    refine .onQueue h ?_
    repeat' split
    all_goals exact .next _
  | eqOverflow e => exact .onQuad h (.next _)
  | nop q => exact .onRunning h
  | waypostSet q ok => exact .onRunning h
  | copy q r ok => exact .onRunning h
  | holdRelease q => exact .onRunning h
  | mapLoad q r => exact .onRunning h
  | groupLoad q r => exact .onRunning h
  | vprogLoad q r => exact .onRunning h
  | collGroup q r => exact .onRunning h
  | forward q => exact .onRunning h
  | dispatch q => exact .onRunning h
  | matmul q slabErr => exact .onRunning h
  | row q => exact .onRunning h
  | ingrad q slabErr => exact .onRunning h
  | wgrad q slabErr => exact .onRunning h
  | deriv q => exact .onRunning h
  | vprog q => exact .onRunning h
  | reduceScatter q => exact .onRunning h
  | allGather q => exact .onRunning h
  | allReduce q => exact .onRunning h
  | broadcast q => exact .onRunning h
  | orderGather q => exact .onRunning h
  | updateNorm q => exact .onRunning h
  | updateApply q => exact .onRunning h
  | pass2BlockResume q => exact .onRunning h
  | updateInit q => exact .onRunning h
  | program q => exact .onRunning h
  | programBatch tile readings =>
    refine .onTile h ?_
    split
    · exact .next _
    · refine .ite (.next _) (.ite (.next _) (.ite (.next _) ?_))
      split
      · exact .ite (.next _) (.next _)
      · exact .ite (.next _) (.next _)
      · exact .ite (.next _) (.next _)
      · exact .next _
  | milestone q => exact .onRunning h
  | milestoneClosure p =>
    refine .onQuad h ?_
    repeat' split
    all_goals exact .next _
  | snapshot q ok => exact .onRunning h
  | snapshotDeferredStart q ok => exact .onRunning h
  | restore q r => exact .onRunning h
  | vectorLatch tile =>
    refine .onTile h ?_
    repeat' split
    all_goals exact .next _
  | segmentSample tile dev =>
    refine .onTile h ?_
    repeat' split
    all_goals exact .next _
  | edgePipeline tile =>
    refine .onTile h ?_
    repeat' split
    all_goals exact .next _
  | partialPacket tile =>
    refine .onTile h ?_
    repeat' split
    all_goals exact .next _
  | residualArrival tile seq values =>
    refine .onTile h ?_
    repeat' split
    all_goals exact .next _
  | inputPieceArrival tile =>
    refine .onTile h ?_
    repeat' split
    all_goals exact .next _
  | idleTimeout tile => exact .onTile h (.ite (.next _) (.next _))
  | wakeAdmit die =>
    refine .onDie (kind := .ad) h ?_
    repeat' split
    all_goals exact .next _
  | tileWakeDone tile => exact .onTile h (.ite (.next _) (.next _))
  | tollAdmit die =>
    refine .onDie (kind := .ad) h ?_
    repeat' split
    all_goals exact .next _
  | debtCheck die drawn => exact .onDie (kind := .ad) h (.next _)
  | railMeasure p gradientMw memoryMw => exact .onQuad h (.ite (.next _) (.next _))
  | refreshStart die =>
    refine .onDie (kind := .ad) h ?_
    repeat' split
    all_goals exact .next _
  | refreshComplete tile => exact .onTile h (.ite (.next _) (.next _))
  | probeStart die =>
    refine .onDie (kind := .ad) h ?_
    repeat' split
    all_goals exact .next _
  | probeScanDone tile meas reads =>
    refine .onTile h ?_
    dsimp only
    split
    · exact .next _
    · exact .ite (.next _) (.ite (.next _) (.ite (.next _) (.next _)))
  | repairDone tile => exact .onTile h (.ite (.next _) (.next _))
  | reserveProgrammed tile => exact .onTile h (.ite (.next _) (.next _))
  | refreshReq via die w => exact .writeVia (of_and_left h)
  | probeReq via die w => exact .writeVia (of_and_left h)
  | retireReq via die w => exact .writeVia (of_and_left h)
  | footpathGo via die w => exact .writeVia (of_and_left h)
  | footpathComplete die errs => exact .onDie (kind := .gd) h (.ite (.next _) (.next _))
  | queueEnable via hub w => exact .writeVia (of_and_left h)
  | queueDisable via hub w => exact .writeVia (of_and_left h)
  | completionRingEnable via hub w => exact .writeVia (of_and_left h)
  | eventQueueEnable via hub w => exact .writeVia (of_and_left h)
  | portEnableWrite via hub w => exact .writeVia (of_and_left h)
  | latchedPairRead via kind die off => exact .onVia (of_and_left (of_and_left h)) (.ite (.next _) (.ite (.next _) (.next _)))
  | wmFifoRead via => exact .onVia h (.ite (.next _) (.next _))
  | registerWrite fn addr width v => exact .onFunction (of_and_left (of_and_left h)) (.ite (.next _) (.ite (.next _) (.ite (.next _) (.next _))))
  | hostWindowRead fn off =>
    refine .onFunction (of_and_left h) ?_
    repeat' split
    all_goals exact .next _
  | hostWindowWrite fn off line =>
    refine .onFunction (of_and_left (of_and_left h)) ?_
    repeat' split
    all_goals exact .next _
  | configRequest fn => exact .onFunction h (.next _)
  | snoop addr => exact .next _
  | functionLevelReset fn => exact .onFunction h (.next _)
  | perst => exact .next _
  | powerBrakeAssert => exact .ite (.next _) (.next _)
  | powerBrakeRelease => exact .ite (.next _) (.next _)
  | dieTempSample kind die sensors =>
    refine .onDie (of_and_left h) ?_
    repeat' split
    all_goals exact .next _
  | clockFault kind die source ppm => exact .onDie h (.ite (.next _) (.next _))
  | inputFault above centivolts => exact .ite (.next _) (.next _)
  | powerOn x => exact .ite (.next _) (.ite (.next _) (.next _))
  | recoveryImage bank images => exact .ite (.next _) (.ite (.next _) (.next _))
  | mgmtRecordWrite => exact .next _
  | standbyCopy => exact .next _
  | mgmtFailover reason => exact .ite (.next _) (.next _)
  | telemetryRecord t => exact .ite (.next _) (.next _)
  | standbyTempSample temps => exact .next _
  | registerPathRead ctrl die off =>
    refine .onController (of_and_left h) ?_
    repeat' split
    all_goals exact .next _
  | registerPathWrite ctrl die off w =>
    refine .onController (of_and_left h) ?_
    repeat' split
    all_goals exact .next _
  | scrub ctrl seq quads => exact show Ran (execScrub ctrl seq quads s) from .mailbox (of_and_left h)
  | scrubComplete quads found =>
    change Ran (execScrubComplete quads found s)
    unfold execScrubComplete
    dsimp only
    split
    · exact .next _
    · exact .ite (.next _) (.next _)
  | assign ctrl seq quads => exact show Ran (execAssign ctrl seq quads s) from .mailbox (of_and_left h)
  | stop ctrl seq quads => exact show Ran (execStop ctrl seq quads s) from .mailbox (of_and_left h)
  | resume ctrl seq quads => exact show Ran (execResume ctrl seq quads s) from .mailbox (of_and_left h)
  | layout ctrl seq code => exact show Ran (execLayout ctrl seq code s) from .mailbox h
  | farAssign ctrl seq quads base gib => exact show Ran (execFarAssign ctrl seq quads base gib s) from .mailbox (of_and_left h)
  | reset ctrl seq scope => exact show Ran (execReset ctrl seq scope s) from .mailbox h
  | fwWrite ctrl seq bank off bytes => exact show Ran (execFwWrite ctrl seq bank off bytes s) from .mailbox (of_and_left (of_and_left h))
  | fwCommit ctrl seq bank => exact show Ran (execFwCommit ctrl seq bank s) from .mailbox (of_and_left h)
  | keyRecord ctrl seq alg slot activate digest record => exact show Ran (execKeyRecord ctrl seq alg slot activate digest record s) from .mailbox (of_and_left (of_and_left (of_and_left (of_and_left h))))
  | arbRaise ctrl seq value => exact show Ran (execArbRaise ctrl seq value s) from .mailbox h
  | report ctrl seq quads nonce => exact show Ran (execReport ctrl seq quads nonce s) from .mailbox (of_and_left (of_and_left h))
  | telemetry ctrl seq period => exact show Ran (execTelemetry ctrl seq period s) from .mailbox h
  | recordRead ctrl seq count => exact show Ran (execRecordRead ctrl seq count s) from .mailbox h
  | arrayReport ctrl seq die => exact show Ran (execArrayReport ctrl seq die s) from .mailbox (of_and_left h)
  | markClear ctrl seq tile => exact show Ran (execMarkClear ctrl seq tile s) from .mailbox (of_and_left h)
  | certRead ctrl seq alg off => exact show Ran (execCertRead ctrl seq alg off s) from .mailbox (of_and_left h)
  | bootCfg ctrl seq keep => exact show Ran (execBootCfg ctrl seq keep s) from .mailbox h
  | getVersion fn => exact show Ran (execGetVersion fn s) from .spdm h
  | getCapabilities fn => exact show Ran (execGetCapabilities fn s) from .spdm h
  | negotiateAlgorithms fn => exact show Ran (execNegotiateAlgorithms fn s) from .spdm h
  | getDigests fn => exact show Ran (execGetDigests fn s) from .spdm h
  | getCertificate fn slot off len => exact show Ran (execGetCertificate fn slot off len s) from .spdm (of_and_left h)
  | challenge fn nonce => exact show Ran (execChallenge fn nonce s) from .spdm (of_and_left h)
  | getMeasurements fn block nonce => exact show Ran (execGetMeasurements fn block nonce s) from .spdm (of_and_left h)
  | keyExchange fn random => exact show Ran (execKeyExchange fn random s) from .spdm h
  | finish fn verified => exact show Ran (execFinish fn verified s) from .spdm h
  | endSession fn => exact show Ran (execEndSession fn s) from .spdm h
  | linkFlitReceive port flit uncorr =>
    refine .onPort (of_and_left h) ?_
    repeat' split
    all_goals exact .next _
  | replayRequest port ack => exact .onPort h (.ite (.next _) (.next _))
  | replayTimeout port => exact .onPort h (.next _)
  | trainComplete port t => exact .onPort (of_and_left h) (.ite (.next _) (.ite (.next _) (.ite (.next _) (.next _))))
  | trainTimeout port => exact .onPort h (.ite (.next _) (.next _))
  | linkSignalLoss port => exact .onPort h (.ite (.next _) (.next _))
  | packetReceive port =>
    refine .onPort h ?_
    repeat' split
    all_goals exact .next _
  | readyReceive p r => exact .onQuad h (.ite (.next _) (.ite (.next _) (.next _)))
  | readyResend p group tag =>
    refine .onQuad h ?_
    repeat' split
    all_goals exact .next _
  | collDataReceive p =>
    refine .onQuad h ?_
    split
    · exact .next _
    · dsimp only
      split
      · exact .next _
      · split
        · exact .next _
        · exact .ite (.next _) (.next _)
  | abortReceive p a =>
    refine .onQuad h ?_
    repeat' split
    all_goals exact .next _
  | collSettleExpiry p group tag =>
    refine .onQuad h ?_
    repeat' split
    all_goals exact .next _
  | collWatchdogExpiry p group tag =>
    refine .onQuad h ?_
    repeat' split
    all_goals exact .next _
  | stackTempSample m t => exact .onStack h (.ite (.next _) (.ite (.next _) (.ite (.next _) (.next _))))
  | stackReturn m failedLanes => exact .onStack (of_and_left h) (.ite (.next _) (.ite (.next _) (.next _)))
  | patrolRead m rb errs laneErrs => exact .onStack h (.ite (.next _) (.ite (.next _) (.ite (.next _) (.next _))))
  | farTimeout fm f =>
    refine .onFarPort (of_and_left h) (.onQueue (of_and_right h) ?_)
    split
    · exact .ite (.next _) (.next _)
    · exact .next _
  | farLinkDown fm => exact .onFarPort h (.ite (.next _) (.next _))
  | spillCopyDone p slot ok =>
    refine .onQuad h ?_
    dsimp only
    split
    · exact .next _
    · exact .ite (.next _) (.next _)
  | twinEnable via w => exact .writeVia h
  | twinDetach via w => exact .writeVia h
  | twinPull via w => exact .writeVia h
  | hello m => exact .twinMessage (.ite (.next _) (.ite (.next _) (.ite (.next _) (.next _))))
  | chain edChain mldsaChain => exact .twinMessage (.ite (.next _) (.ite (.next _) (.next _)))
  | ident record => exact .twinMessage (.ite (.next _) (.ite (.next _) (.ite (.next _) (.next _))))
  | confirm accept => exact .twinMessage (.ite (.next _) (.ite (.next _) (.ite (.next _) (.next _))))
  | pairingTimeout => exact .ite (.next _) (.next _)
  | heartbeatSend => exact .ite (.next _) (.next _)
  | heartbeatReceive h => exact .twinMessage (.ite (.next _) (.next _))
  | twinHeartbeatMiss => exact .next _
  | detachEnd => exact .ite (.next _) (.next _)
  | mirrorReceived toReturnSlot image whole => exact .twinMessage (.ite (.next _) (.next _))
  | swTrig via w => exact .writeVia h
  | abort via w => exact .writeVia h
  | flush via w => exact .writeVia h
  | trigInEdge rising => exact .next _
  | waymarkStep uv => exact .ite (.next _) (.next _)
  | signalPresent port => exact .onPort h (.ite (.next _) (.next _))
  | farLinkTrained fm => exact .onFarPort h (.ite (.next _) (.next _))
  | rangeZeroingComplete base =>
    change Ran (execRangeZeroingComplete base s)
    unfold execRangeZeroingComplete
    split
    · exact .next _
    · exact .ite (.next _) (.next _)
  | mirrorSendComplete => exact .ite (.next _) (.next _)
  | returnConfirmed => exact .twinMessage (.ite (.next _) (.next _))
  | returnRequestReceive => exact .twinMessage (.ite (.next _) (.ite (.next _) (.next _)))
  | hdmDecoderCommit fn committed => exact .onFunction h (.ite (.next _) (.next _))
  | ideKeyManagement fn stream keySet activate key => exact show Ran (execIdeKeyManagement fn stream keySet activate key s) from .spdm h

/-- Settles O4: behind the guards no branch of a command faults or is refused. -/
theorem wellFormedCommandsComplete : Obligations.WellFormedCommandsComplete := fun _ s h => exec_ran s h

/-- Settles O5: the command at the front is well formed, so it completes, and no command touches the queue. -/
theorem stepsNeverStop : Obligations.StepsNeverStop := by
  unfold Obligations.StepsNeverStop
  intro s hs
  obtain ⟨t, ht⟩ : Ran (step s) := by
    cases hp : s.pending with
    | nil =>
      rw [step_of_idle hp]
      exact .next _
    | cons c rest =>
      rw [step_of_pending hp]
      exact exec_ran _ (hs c (hp ▸ List.mem_cons_self))
  have hpending : t.pending = s.pending.tail := (step_evolves ht).same .pending rfl
  exact ⟨t, ht, hpending, fun c hc => hs c (List.mem_of_mem_tail (hpending ▸ hc))⟩

end Sys2Proof.Machine
end

section
/-! Commands that stand for the write of one register (R187, R219, R383, R418, R452, R455, R458, R535, R541, R544, R561). -/

namespace Sys2Proof.Machine

open Sys2Proof Sys2Proof.Safety

/-- A write through an open path to a die that exists is the register write. -/
theorem writeVia_run {v : Via} {kind : DieKind} {d off : Nat} {w : Word} {s : State} (hv : ∀ fn, v = .tenant fn → fn < 4)
    (hopen : s.viaOpen v = true) (hd : d < dieCount kind) :
    writeVia v kind d off w s = .next (s.regWrite v (kindCode kind) d off w.toNat) := by
  rw [writeVia, if_pos (by simp [hd, hopen])]
  cases v with
  | tenant fn => rw [onVia, onFunction, if_pos (hv fn rfl)]
  | owner => rfl

/-- Settles O46: each command is `writeVia` at its register's offset. -/
theorem registerCommandsAreRegisterWrites : Obligations.RegisterCommandsAreRegisterWrites := by
  unfold Obligations.RegisterCommandsAreRegisterWrites
  intro s v d h w hv hopen hd hh put
  have array (off : Nat) : writeVia v .ad d off w s = put 0 d off := writeVia_run hv hopen hd
  have gradient (off : Nat) : writeVia v .gd d off w s = put 1 d off := writeVia_run hv hopen hd
  have hub (off : Nat) : writeVia v .hd h off w s = put 2 h off := writeVia_run hv hopen hh
  have twin : writeVia v .hd 3 0x360 w s = put 2 3 0x360 := writeVia_run hv hopen (by decide)
  have waymark : writeVia v .hd 0 0x384 w s = put 2 0 0x384 := writeVia_run hv hopen (by decide)
  exact ⟨array _, array _, array _, gradient _, hub _, hub _, hub _, hub _, hub _, twin, twin, twin, waymark, waymark, waymark⟩

end Sys2Proof.Machine
end

section
/-! What the shared operations on device memory, slab and host memory leave: equal tables give equal reads, accesses that pass,
and writes to a place. -/

namespace Sys2Proof.Machine

open Sys2Proof Sys2Proof.Safety

/-! ### Equal tables give equal reads -/

section
variable {s t : State}

theorem part_congr (h : t.parts = s.parts) (p : Nat) : t.part p = s.part p := congrArg (tget Part.absent · p) h
theorem queue_congr (h : t.queues = s.queues) (q : Nat) : t.queue q = s.queue q := congrArg (tget SubQ.reset · q) h
theorem ring_congr (h : t.rings = s.rings) (r : Nat) : t.ring r = s.ring r := congrArg (tget Ring.reset · r) h
theorem queuePart_congr (h : t.parts = s.parts) (q : Nat) : t.queuePart q = s.queuePart q := by
  simp only [State.queuePart, State.ownerD, State.owner, h]
theorem waypost_congr (h : t.wayposts = s.wayposts) (w : Nat) : t.waypost w = s.waypost w := congrArg (tget 0 · w) h
theorem runningOp_congr (h : t.queues = s.queues) (q op : Nat) : t.runningOp q op = s.runningOp q op := by
  simp only [State.runningOp, queue_congr h]
/-- What a place holds depends on memory and slab alone. -/
theorem readAt_congr (hmem : t.mem = s.mem) (hslab : t.slab = s.slab) (pl : Place) (n : Nat) :
    t.readAt pl n = s.readAt pl n := by
  cases pl <;> simp only [State.readAt, hmem, hslab]
theorem offline_congr (h : t.hbm = s.hbm) (a n : Nat) : t.offline a n = s.offline a n := by
  simp only [State.offline, State.stack, h]
theorem source_congr (hmem : t.mem = s.mem) (hslab : t.slab = s.slab) (pl : Place) (n : Nat) (r : HostReply) :
    t.source pl n r = s.source pl n r := by
  cases pl <;> simp only [State.source, readAt_congr hmem hslab]
/-- A state in which every component but the queues, wayposts and counters is as before shows the same finished descriptor. -/
theorem finished_congr (h : t.queues = s.queues) {q st : Nat} {res : List Byte} (hs : Finished s q st res) :
    Finished t q st res := by
  obtain ⟨r, hr, hd⟩ := hs
  exact ⟨r, (queue_congr h q ▸ hr), hd⟩

end

/-! ### Finishing and counting leave the rest -/

theorem State.finish_same (s : State) (q st : Nat) (res : List Byte) (c : Comp) (hq : c ≠ .queues) (hw : c ≠ .wayposts) :
    c.same s (s.finish q st res) := by
  refine (State.finish_evolves s q st res).same c ?_
  revert hq hw
  cases c <;> decide

@[simp] theorem State.finish_parts (s : State) (q st : Nat) (res : List Byte) : (s.finish q st res).parts = s.parts :=
  s.finish_same q st res .parts nofun nofun
@[simp] theorem State.finish_slab (s : State) (q st : Nat) (res : List Byte) : (s.finish q st res).slab = s.slab :=
  s.finish_same q st res .slab nofun nofun
@[simp] theorem State.finish_tiles (s : State) (q st : Nat) (res : List Byte) : (s.finish q st res).tiles = s.tiles :=
  s.finish_same q st res .tiles nofun nofun
@[simp] theorem State.finish_part (s : State) (q st : Nat) (res : List Byte) (p : Nat) :
    (s.finish q st res).part p = s.part p := part_congr (s.finish_parts q st res) p

theorem State.countReads_same (s : State) (xs : List (Bool × Place × Nat)) (c : Comp) (h : c ≠ .counters) :
    c.same s (s.countReads xs) := by
  refine (State.countReads_evolves s xs).same c ?_
  revert h
  cases c <;> decide
theorem State.countBad_same (s : State) (st : Nat) (xs : List (Bool × Place × Nat)) (c : Comp) (h : c ≠ .counters) :
    c.same s (s.countBad st xs) := by
  refine (State.countBad_evolves s st xs).same c ?_
  revert h
  cases c <;> decide

@[simp] theorem State.countReads_mem (s : State) (xs) : (s.countReads xs).mem = s.mem := s.countReads_same xs .mem nofun
@[simp] theorem State.countReads_slab (s : State) (xs) : (s.countReads xs).slab = s.slab := s.countReads_same xs .slab nofun
@[simp] theorem State.countReads_out (s : State) (xs) : (s.countReads xs).out = s.out := s.countReads_same xs .out nofun
@[simp] theorem State.countReads_parts (s : State) (xs) : (s.countReads xs).parts = s.parts := s.countReads_same xs .parts nofun
@[simp] theorem State.countReads_queues (s : State) (xs) : (s.countReads xs).queues = s.queues := s.countReads_same xs .queues nofun
@[simp] theorem State.countReads_hbm (s : State) (xs) : (s.countReads xs).hbm = s.hbm := s.countReads_same xs .hbm nofun
@[simp] theorem State.countReads_part (s : State) (xs) (p : Nat) : (s.countReads xs).part p = s.part p :=
  part_congr (s.countReads_parts xs) p
@[simp] theorem State.countReads_queue (s : State) (xs) (q : Nat) : (s.countReads xs).queue q = s.queue q :=
  queue_congr (s.countReads_queues xs) q
@[simp] theorem State.countReads_queuePart (s : State) (xs) (q : Nat) : (s.countReads xs).queuePart q = s.queuePart q :=
  queuePart_congr (s.countReads_parts xs) q

/-- A descriptor that fails leaves memory, slab, outputs, partitions and tiles as they are, and is finished. -/
theorem State.fail_same (s : State) (q st : Nat) (xs : List (Bool × Place × Nat)) (c : Comp) (hq : c ≠ .queues)
    (hw : c ≠ .wayposts) (hc : c ≠ .counters) : c.same s (s.fail q st xs) :=
  same_trans (s.countBad_same st xs c hc) ((s.countBad st xs).finish_same q st result0 c hq hw)

theorem finished_fail {s : State} {q st : Nat} {xs : List (Bool × Place × Nat)} {r : Running}
    (h : (s.queue q).running = some r) (d : r.done = none) : Finished (s.fail q st xs) q st result0 :=
  finished_finish (r := r) ((queue_congr (s.countBad_same st xs .queues nofun) q).symm ▸ h) d

/-! ### Accesses that pass -/

/-- Accesses with no failing status have none each. -/
theorem State.placeStatus_of_badAccess {s : State} {xs : List (Bool × Place × Nat)} (h : s.badAccess xs = none)
    {w : Bool} {pl : Place} {n : Nat} (hx : (w, pl, n) ∈ xs) : s.placeStatus w pl n = none := by
  refine Classical.byContradiction fun hne => ?_
  obtain ⟨st, hst⟩ := Option.ne_none_iff_exists'.1 hne
  have hmem : st ∈ xs.filterMap fun (w, pl, n) => s.placeStatus w pl n := List.mem_filterMap.2 ⟨_, hx, hst⟩
  unfold State.badAccess at h
  dsimp only at h
  split at h
  · contradiction
  · rw [List.head?_eq_none_iff] at h
    rw [h] at hmem
    cases hmem

/-- A device place whose access passes lies in no offline stack. -/
theorem State.offline_of_badAccess {s : State} {xs : List (Bool × Place × Nat)} (h : s.badAccess xs = none)
    {w : Bool} {a n : Nat} (hx : (w, .dev a, n) ∈ xs) : s.offline a n = false :=
  State.offline_of_memStatus (State.placeStatus_of_badAccess h hx)

theorem State.access_of_pass {s : State} {xs : List (Bool × Place × Nat)} (h : s.badAccess xs = none) (q : Nat)
    (k : State → State) : s.access q xs k = k (s.countReads xs) := by rw [State.access, h]

/-- A range that is reached has a form. -/
theorem Part.place_of_reach {x : Part} {allow v n : Nat} {pl : Place} (h : x.reach allow v n = some pl) : place v = some pl := by
  unfold Part.reach at h
  split at h
  · next e => split at h <;> simp_all
  · next e => split at h <;> simp_all
  · next e => split at h <;> simp_all
  · contradiction

theorem memRead_length (m : List Host.Cell) (a n : Nat) : (memRead m a n).length = n := by simp [memRead]

theorem State.readAt_length (s : State) (pl : Place) (n : Nat) : (s.readAt pl n).length = n := by
  cases pl <;> simp [State.readAt, memRead_length]

/-- The bytes that a source gives are as many as were read. -/
theorem State.source_length {s : State} {pl : Place} {n : Nat} {r : HostReply} {bs : List Byte}
    (h : s.source pl n r = some bs) : bs.length = n := by
  cases pl with
  | host a =>
    cases r with
    | data cs =>
      simp only [State.source] at h
      split at h
      · next hn =>
        cases h
        exact List.length_take_of_le hn
      · contradiction
    | poisoned => contradiction
    | notTranslated => contradiction
  | dev a =>
    cases h
    exact s.readAt_length _ n
  | slab a =>
    cases h
    exact s.readAt_length _ n

/-- A delivered range: a fetch of it hands its bytes on. -/
theorem State.fetch_of_delivered {s : State} {q n : Nat} {reply : HostReply} {pl : Place} {bs : List Byte}
    (hst : s.placeStatus false pl n = none) (hsrc : s.source pl n reply = some bs) (k : List Byte → State → State) :
    s.fetch q pl n reply k = k bs (s.countReads [(false, pl, n)]) := by
  have hpass : s.badAccess [(false, pl, n)] = none := by simp [State.badAccess, hst]
  rw [State.fetch, State.access_of_pass hpass, source_congr (s.countReads_mem _) (s.countReads_slab _), hsrc]

/-! ### Writes to a place -/

/-- A write to a place that is not offline puts its bytes there and writes nothing else. -/
theorem State.wrote_writeAt {s : State} (hmem : MemoryOk s) (fn : Nat) {pl : Place} {bs : List Byte}
    (hon : ∀ a, pl = .dev a → s.offline a bs.length = false) : Wrote s (s.writeAt fn pl bs) fn pl bs := by
  cases pl with
  | dev a =>
    have hm : (s.writeMem a bs).mem = memWrite s.mem a bs := State.writeMem_mem (hon a rfl)
    refine ⟨⟨fun b hb => ?_, (State.writeMem_evolves s a bs).same .slab rfl, s.writeMem_out a bs⟩, ?_⟩
    · exact (congrArg (memByte · b) hm).trans (memByte_memWrite_out bs hmem.1 hb)
    · exact (congrArg (memRead · a bs.length) hm).trans (memRead_memWrite bs hmem.1 a)
  | slab a =>
    exact ⟨⟨fun b hb => memByte_memWrite_out bs hmem.2 hb, rfl, rfl⟩, memRead_memWrite bs hmem.2 a⟩
  | host a => exact ⟨⟨rfl, rfl⟩, rfl⟩

/-- What was written between two states was written between two others with the same memory, slab and outputs. -/
theorem wrote_congr {s t s' t' : State} {fn : Nat} {pl : Place} {bs : List Byte} (h : Wrote s t fn pl bs)
    (hs : Untouched s s') (ht : Untouched t t') : Wrote s' t' fn pl bs := by
  obtain ⟨hm, hl, ho⟩ := hs
  obtain ⟨hm', hl', ho'⟩ := ht
  cases pl <;> simpa only [Wrote, Outside, State.readAt, hm, hl, ho, hm', hl', ho'] using h

theorem untouched_finish (s : State) (q st : Nat) (res : List Byte) : Untouched s (s.finish q st res) :=
  ⟨s.finish_mem q st res, s.finish_slab q st res, s.finish_out q st res⟩
theorem untouched_countReads (s : State) (xs : List (Bool × Place × Nat)) : Untouched s (s.countReads xs) :=
  ⟨s.countReads_mem xs, s.countReads_slab xs, s.countReads_out xs⟩
theorem untouched_symm {s t : State} (h : Untouched s t) : Untouched t s := by
  obtain ⟨hm, hl, ho⟩ := h
  exact ⟨hm.symm, hl.symm, ho.symm⟩
theorem untouched_trans {s t u : State} (h : Untouched s t) (k : Untouched t u) : Untouched s u := by
  obtain ⟨hm, hl, ho⟩ := h
  obtain ⟨hm', hl', ho'⟩ := k
  exact ⟨hm'.trans hm, hl'.trans hl, ho'.trans ho⟩

theorem memoryOk_of_untouched {s t : State} (h : Untouched s t) (hs : MemoryOk s) : MemoryOk t := by
  obtain ⟨hm, hl, -⟩ := h
  exact ⟨hm ▸ hs.1, hl ▸ hs.2⟩

/-- Writing a place leaves what the queues run. -/
theorem State.writeAt_queues (s : State) (fn : Nat) (pl : Place) (bs : List Byte) : (s.writeAt fn pl bs).queues = s.queues :=
  (State.writeAt_evolves s fn pl bs).same .queues rfl

end Sys2Proof.Machine
end

section
/-! NOP, HOLD_RELEASE and COPY (R36, R438). -/

namespace Sys2Proof.Machine

open Sys2Proof Sys2Proof.Safety

/-- Settles O13: both commands are a finish, HOLD_RELEASE after its partition's change. -/
theorem nopAndHoldReleaseFinish : Obligations.NopAndHoldReleaseFinish := by
  unfold Obligations.NopAndHoldReleaseFinish
  intro s q r w up
  refine ⟨fun hrun => ?_, fun hrun => ?_⟩
  · obtain ⟨hq, -, hdone, -⟩ := runningOp_some hrun.2
    refine ⟨_, onRunning_run hrun _, finished_finish hq hdone, s.finish_parts .., ?_⟩
    rw [State.waypost_finish _ _ hq hdone]
    simp only [w, up, and_true]
  · obtain ⟨hq, -, hdone, -⟩ := runningOp_some hrun.2
    refine ⟨_, onRunning_run hrun _, finished_finish (r := r) hq hdone, ?_⟩
    rw [State.finish_part, State.modPart, State.part_setPart]

/-! ### COPY -/

/-- A COPY whose two ranges are reached, do not overlap and can be accessed writes what its source gives. -/
theorem execCopy_run {s : State} {q : Nat} {reply : HostReply} {ok : Bool} {r : Running} {a b : Place} {bs : List Byte}
    (hrun : Runs s q 0x02 r) {n : Nat} (hn : n = field r.desc 40 8)
    (ha : (s.part (s.queuePart q)).reach 7 (field r.desc 24 8) n = some a)
    (hb : (s.part (s.queuePart q)).reach 7 (field r.desc 32 8) n = some b) (hov : overlap a b n = false)
    (hacc : s.badAccess [(false, a, n), (true, b, n)] = none) (hsrc : s.source a n reply = some bs)
    (hhost : b.isHost = true → ok = true) :
    execCopy q reply ok s = .next (((s.countReads [(false, a, n), (true, b, n)]).writeAt (s.queuePart q) b bs).finish q stOk
      (natLe 8 n ++ List.replicate 8 0)) := by
  subst hn
  obtain ⟨xs, hxs⟩ : ∃ xs, xs = [(false, a, field r.desc 40 8), (true, b, field r.desc 40 8)] := ⟨_, rfl⟩
  have hsrc' := (source_congr (s.countReads_mem xs) (s.countReads_slab xs) a (field r.desc 40 8) reply).trans hsrc
  have hok : (b.isHost && !ok) = false := by
    cases hh : b.isHost with
    | false => rfl
    | true => rw [hhost hh]; rfl
  have hrange : (s.part (s.queuePart q)).badRange [(field r.desc 24 8, 7, field r.desc 40 8, 24, false),
      (field r.desc 32 8, 7, field r.desc 40 8, 32, false)] = none := by simp [Part.badRange, ha, hb]
  rw [execCopy, onRunning_run hrun]
  rw [← hxs] at hacc ⊢
  simp only [Part.place_of_reach ha, Part.place_of_reach hb, hov, hrange, formIf, firstFail, ha, hb, ← hxs,
    State.access_of_pass hacc, hsrc', hok, Bool.false_eq_true, if_false]
  rfl

/-- Settles O15: a COPY that passes ends where its write leaves it, and an overlap is its first check. -/
theorem copyMovesBytesOrIsRefused : Obligations.CopyMovesBytesOrIsRefused := by
  unfold Obligations.CopyMovesBytesOrIsRefused
  constructor
  · intro s q reply ok r a b bs hmem hrun n ha hb hov hacc hsrc hhost
    obtain ⟨hq, -, hdone, -⟩ := runningOp_some hrun.2
    have hlen : bs.length = n := State.source_length hsrc
    obtain ⟨u, hu⟩ : ∃ u, u = s.countReads [(false, a, n), (true, b, n)] := ⟨_, rfl⟩
    have hsu : Untouched s u := hu ▸ untouched_countReads s _
    have hwrote : Wrote u (u.writeAt (s.queuePart q) b bs) (s.queuePart q) b bs := by
      refine State.wrote_writeAt (memoryOk_of_untouched hsu hmem) _ fun i hi => ?_
      rw [hu, offline_congr (s.countReads_hbm _), hlen]
      exact State.offline_of_badAccess hacc (w := true) (by simp [hi])
    have hqu : ((u.writeAt (s.queuePart q) b bs).queue q).running = some r := by
      rw [queue_congr (u.writeAt_queues ..), hu, State.countReads_queue, hq]
    have h := wrote_congr hwrote (untouched_symm hsu) (untouched_finish _ q stOk (natLe 8 n ++ List.replicate 8 0))
    refine ⟨_, hu ▸ execCopy_run hrun rfl ha hb hov hacc hsrc hhost, finished_finish hqu hdone, ?_⟩
    obtain ⟨hout, hat⟩ := h
    rw [hlen] at hout
    cases b with
    | dev i =>
      obtain ⟨hbytes, hslab, hemit⟩ := hout
      exact ⟨hlen ▸ hat, hslab, hemit, hbytes⟩
    | slab i =>
      obtain ⟨hbytes, hm, hemit⟩ := hout
      exact ⟨hlen ▸ hat, hm, hemit, hbytes⟩
    | host i =>
      obtain ⟨hm, hslab⟩ := hout
      exact ⟨hat, hm, hslab⟩
  · intro s q reply ok r a b hrun ha hb hov
    obtain ⟨hq, -, hdone, -⟩ := runningOp_some hrun.2
    refine ⟨s.finish q stOpForm (resultAt 32 false), ?_, finished_finish hq hdone, untouched_finish s ..⟩
    change execCopy q reply ok s = _
    rw [execCopy, onRunning_run hrun]
    simp only [ha, hb, hov, formIf, firstFail, if_true]

end Sys2Proof.Machine
end

section
/-! What an operation keeps of every partition: a projection of the partition that an update leaves alone. -/

namespace Sys2Proof.Machine

open Sys2Proof Sys2Proof.Safety

/-- A projection of every partition is the same in two states. -/
structure Keeps {β : Type} (π : Part → β) (s t : State) : Prop where
  same : ∀ j, π (t.part j) = π (s.part j)

namespace Keeps

section
variable {β : Type} {π : Part → β} {s t u : State}

theorem refl : Keeps π s s := ⟨fun _ => rfl⟩
theorem trans (h : Keeps π s t) (k : Keeps π t u) : Keeps π s u := ⟨fun j => (k.same j).trans (h.same j)⟩
theorem of_parts (h : t.parts = s.parts) : Keeps π s t := ⟨fun j => congrArg π (part_congr h j)⟩
/-- A command or operation whose mask leaves the partitions out keeps all of them. -/
theorem of_evolves {m : Nat} (h : Evolves m s t) (hm : m.testBit 9 = false) : Keeps π s t := .of_parts (h.same .parts hm)
theorem setPart (p : Nat) {x : Part} (h : π x = π (s.part p)) : Keeps π s (s.setPart p x) := by
  refine ⟨fun j => ?_⟩
  by_cases e : j = p
  · rw [e, State.part_setPart, h]
  · rw [State.part_setPart_other _ _ _ _ e]
theorem modPart (p : Nat) {f : Part → Part} (h : ∀ x, π (f x) = π x) : Keeps π s (s.modPart p f) := .setPart p (h _)
theorem ite {c : Prop} [Decidable c] (h : Keeps π s t) (k : Keeps π s u) : Keeps π s (if c then t else u) := by
  split <;> assumption
theorem foldl {α : Type} {f : State → α → State} {l : List α} (h : Keeps π s t) (k : ∀ v a, Keeps π v (f v a)) :
    Keeps π s (l.foldl f t) := by
  induction l generalizing t with
  | nil => exact h
  | cons a l ih => exact ih (h.trans (k t a))

end

/-! ### Events change a partition's event queue alone, and not its head -/

section
variable {β : Type} {π : Part → β} (hπ : ∀ (x : Part) (e : EventQ), e.head = x.eq.head → π { x with eq := e } = π x) (s : State) (p code : Nat)
  (fs ms : List (Nat × Nat × Nat))
include hπ

theorem eqPut : Keeps π s (s.eqPut p code fs) := by
  refine .trans (.setPart p (hπ _ _ ?_)) (.of_parts rfl)
  rfl
theorem eqFlush : Keeps π s (s.eqFlush p) :=
  .ite .refl (.trans (.eqPut hπ ..) (.modPart p fun _ => hπ _ _ rfl))
theorem eqEvent : Keeps π s (s.eqEvent p code fs) := by
  refine .trans (.eqFlush hπ s p) (.ite (.eqPut hπ ..) (.trans ?_ (.of_evolves (State.count_evolves ..) rfl)))
  exact .modPart p fun _ => hπ _ _ rfl
theorem raiseM : Keeps π s (s.raiseM p code fs ms) :=
  .trans (.eqEvent hπ s p code fs) (.of_evolves (State.pushRecord_evolves ..) rfl)
theorem raise : Keeps π s (s.raise p code fs) := .raiseM hπ s p code fs []
theorem raiseAll (qs : List Nat) : Keeps π s (s.raiseAll qs code fs) := .foldl .refl fun v e => .raise hπ v e.1 code fs

end
end Keeps

end Sys2Proof.Machine
end

section
/-! MAP_LOAD (R225, R230 to R233, R252): what makes the new map take effect leaves it as it is. -/

namespace Sys2Proof.Machine

open Sys2Proof Sys2Proof.Safety

/-! ### Operations that keep every partition's map -/

theorem State.dropDeferred_keeps_layers (s : State) (p t : Nat) : Keeps Part.layers s (s.dropDeferred p t) :=
  .ite .refl (.trans (.of_evolves (State.writeMem_evolves ..) rfl) (.modPart p fun _ => rfl))

theorem State.unplace_keeps_layers (s : State) (p t : Nat) : Keeps Part.layers s (s.unplace p t) := by
  refine .trans (t := ((s.releaseReserve t).modTile t Tile.off).dropRequests t) ?_ (State.dropDeferred_keeps_layers ..)
  exact .trans (.of_evolves (State.releaseReserve_evolves ..) rfl) (.of_parts rfl)

theorem State.reportRetired_keeps_layers (s : State) (p layer t reserve cause outcome flagTime cols rows : Nat) :
    Keeps Part.layers s (s.reportRetired p layer t reserve cause outcome flagTime cols rows) :=
  .trans (.raiseM (fun _ _ _ => rfl) ..) (.of_evolves (State.logFault_evolves ..) rfl)

theorem State.replaceTile_keeps_layers (s : State) (t cause flagTime cols rows : Nat) (silent : Bool) :
    Keeps Part.layers s (s.replaceTile t cause flagTime cols rows silent) := by
  have report (u : State) (p layer t reserve outcome : Nat) :
      Keeps Part.layers u (if silent then u else u.reportRetired p layer t reserve cause outcome flagTime cols rows) :=
    .ite .refl (State.reportRetired_keeps_layers ..)
  unfold State.replaceTile
  split
  · exact report ..
  · next p l i e _ =>
    dsimp only
    split
    · exact .trans (.trans (.of_evolves (State.modTile_evolves s e.tile _) rfl) (.of_evolves (State.engageReserve_evolves ..) rfl))
        (report ..)
    · exact .trans (.trans (.of_evolves (State.modTile_evolves s e.tile _) rfl) (report ..)) (.raiseM (fun _ _ _ => rfl) ..)

theorem State.place_keeps_layers (s : State) (p t : Nat) : Keeps Part.layers s (s.place p t) := by
  refine .trans (t := ((s.dropDeferred p t).modTile t Tile.newPlace).dropRequests t)
    (.trans (State.dropDeferred_keeps_layers s p t) (.of_parts rfl)) ?_
  unfold State.place
  dsimp only
  split
  · split
    · exact .of_evolves (State.powerUp_evolves ..) rfl
    · exact .ite .refl (.of_evolves (State.engageReserve_evolves ..) rfl)
    · exact State.replaceTile_keeps_layers ..
  · exact .of_evolves (State.powerUp_evolves ..) rfl

/-- The map that takes effect is the one given: what places, frees and clears tiles afterwards does not touch it. -/
theorem State.applyMap_layers (s : State) (p : Nat) (new : List Layer) : ((s.applyMap p new).part p).layers = new := by
  obtain ⟨u, hu, hkeep⟩ : ∃ u : State, (u.part p).layers = new ∧ Keeps Part.layers u (s.applyMap p new) := by
    refine ⟨_, ?_, .foldl (.foldl (.foldl .refl fun v a => ?_) fun v a => ?_) fun v a => ?_⟩
    · rw [State.modPart, State.part_setPart]
    · exact State.place_keeps_layers ..
    · exact .ite .refl (.of_evolves (State.clearIdle_evolves ..) rfl)
    · exact .of_evolves (State.modTile_evolves ..) rfl
  exact (hkeep.same p).trans hu

/-! ### The command -/

section
variable {s : State} {q : Nat} {reply : HostReply} {r : Running} {bs : List Byte} (hrun : Runs s q 0x08 r)
  (hfirst : s.earlier (s.queuePart q) 0x08 r.work.gen (fun _ => true) = false)
  (hdel : Delivers s q (field r.desc 24 8) (field r.desc 32 8) reply bs)
include hrun hfirst hdel

/-- A MAP_LOAD that nothing precedes and that gets its image does what `State.checkMap` of that image says. -/
theorem execMapLoad_run : ∃ xs, execMapLoad q reply s = .next (
    let u := s.countReads xs
    let tables := tableReads (u.part (s.queuePart q)) (mapImage bs).layers
    match u.checkMap (s.queuePart q) bs with
    | .inl (st, res) => (u.countBad st tables).finish q st res
    | .inr new =>
      let v := u.countReads tables
      match v.moveFault (copyMoves (v.part (s.queuePart q)).layers new) with
      | some (st, a, len) => v.fail q st [(false, .dev a, len)]
      | none =>
        let moves := (copyMoves (v.part (s.queuePart q)).layers new).filter fun e => e.1 != e.2.1
        ((v.countReads (moves.map fun e => (false, .dev e.1, e.2.2))).applyMap (s.queuePart q) new).finish q stOk result0) := by
  obtain ⟨pl, hreach, hst, hsrc⟩ := hdel
  refine ⟨[(false, pl, field r.desc 32 8)], ?_⟩
  rw [execMapLoad, onRunning_run hrun]
  simp only [hfirst, Bool.false_eq_true, if_false, hreach]
  rw [State.fetch_of_delivered hst hsrc] <;> rfl

end

/-! ### Counting reads changes no check -/

/-- Two states that agree but for the counters. -/
theorem eq_of_same_but_counters {s t : State} (h : Evolves 65536 s t) : t = { s with counters := t.counters } := by
  cases t
  rw [State.mk.injEq]
  exact ⟨h.same .pending rfl, h.same .out rfl, h.same .free rfl, h.same .ltime rfl, h.same .stbyNs rfl, h.same .input rfl,
    h.same .powered rfl, h.same .brake rfl, h.same .layout rfl, h.same .parts rfl, h.same .queues rfl, h.same .turns rfl,
    h.same .rings rfl, h.same .wayposts rfl, h.same .regs rfl, h.same .staged rfl, rfl, h.same .latches rfl,
    h.same .calUser rfl, h.same .calStaged rfl, h.same .calClamped rfl, h.same .calFactory rfl, h.same .mem rfl,
    h.same .poison rfl, h.same .raw rfl, h.same .slab rfl, h.same .tiles rfl, h.same .tileDef rfl, h.same .retire rfl,
    h.same .gates rfl, h.same .roads rfl, h.same .dies rfl, h.same .grads rfl, h.same .hbm rfl, h.same .farPorts rfl,
    h.same .ports rfl, h.same .routes rfl, h.same .twin rfl, h.same .wm rfl, h.same .mgmt rfl, h.same .sec rfl,
    h.same .scrubs rfl⟩

theorem State.countReads_eq (s : State) (xs : List (Bool × Place × Nat)) :
    ∃ c, s.countReads xs = { s with counters := c } := ⟨_, eq_of_same_but_counters (s.countReads_evolves xs)⟩

theorem recFaults_of_counters (s : State) (c) (x : Part) (m : MapImage) (done img : List MapLayer) :
    recFaults { s with counters := c } x m done img = recFaults s x m done img := by
  induction img generalizing done with
  | nil => rfl
  | cons ml img ih =>
    have hrec : recFault { s with counters := c } x m done ml = recFault s x m done ml := rfl
    rw [recFaults, recFaults, hrec, ih]

/-- The checks of an image and of the moves it makes read no counter. -/
theorem State.checkMap_countReads (s : State) (xs : List (Bool × Place × Nat)) (p : Nat) (bs : List Byte) :
    (s.countReads xs).checkMap p bs = s.checkMap p bs := by
  obtain ⟨c, h⟩ := s.countReads_eq xs
  simp only [h, State.checkMap, recFaults_of_counters]
  rfl

theorem State.moveFault_countReads (s : State) (xs : List (Bool × Place × Nat)) (ms : List (Nat × Nat × Nat)) :
    (s.countReads xs).moveFault ms = s.moveFault ms := by
  obtain ⟨c, h⟩ := s.countReads_eq xs
  rw [h]
  rfl

/-- Settles O16: the command is the match on the checks, which the counting of its reads leaves alone. -/
theorem mapLoadIsAllOrNothing : Obligations.MapLoadIsAllOrNothing := by
  unfold Obligations.MapLoadIsAllOrNothing
  intro s q reply r bs hrun
  dsimp only
  intro hfirst hdel
  obtain ⟨hq, -, hdone, -⟩ := runningOp_some hrun.2
  obtain ⟨xs, hexec⟩ := execMapLoad_run hrun hfirst hdel
  change exec (.mapLoad q reply) s = _ at hexec
  have hrunning (ys : List (Bool × Place × Nat)) : ((s.countReads ys).queue q).running = some r := by
    rw [State.countReads_queue, hq]
  simp only [State.checkMap_countReads, State.moveFault_countReads, State.countReads_part] at hexec
  refine ⟨fun new hcheck hmove => ?_, fun new st a len hcheck hmove => ?_, fun st res hcheck => ?_⟩
  · rw [hcheck] at hexec
    dsimp only at hexec
    rw [hmove] at hexec
    refine ⟨_, hexec, finished_finish (r := r) ?_ hdone, ?_⟩
    · rw [queue_congr ((State.applyMap_evolves ..).same .queues rfl)]
      simpa only [State.countReads_queue] using hq
    · rw [State.finish_part, State.applyMap_layers]
  · rw [hcheck] at hexec
    dsimp only at hexec
    rw [hmove] at hexec
    refine ⟨_, hexec, finished_fail (r := r) (by simpa only [State.countReads_queue] using hq) hdone, ?_⟩
    have hsame (ys zs) (c : Comp) (hq' : c ≠ .queues) (hw : c ≠ .wayposts) (hc : c ≠ .counters) :
        c.same s (((s.countReads xs).countReads ys).fail q st zs) :=
      same_trans (same_trans (s.countReads_same xs c hc) (State.countReads_same _ ys c hc)) (State.fail_same _ q st zs c hq' hw hc)
    exact ⟨hsame _ _ .parts nofun nofun nofun, hsame _ _ .mem nofun nofun nofun, hsame _ _ .tiles nofun nofun nofun⟩
  · rw [hcheck] at hexec
    refine ⟨_, hexec, finished_finish (r := r) ?_ hdone, ?_⟩
    · rw [queue_congr (State.countBad_same _ _ _ .queues nofun), State.countReads_queue, hq]
    · have hsame (ys) (c : Comp) (hq' : c ≠ .queues) (hw : c ≠ .wayposts) (hc : c ≠ .counters) :
          c.same s (((s.countReads xs).countBad st ys).finish q st res) :=
        same_trans (same_trans (s.countReads_same xs c hc) (State.countBad_same _ st ys c hc)) (State.finish_same _ q st res c hq' hw)
      exact ⟨hsame _ .parts nofun nofun nofun, hsame _ .mem nofun nofun nofun, hsame _ .tiles nofun nofun nofun⟩

end Sys2Proof.Machine
end

section
/-! Part of a range of device memory that an access admits is admitted too (R399, R405, R410). -/

namespace Sys2Proof.Machine

open Sys2Proof Sys2Proof.Safety

/-! ### Stacks (R395) -/

/-- Road blocks lie on the six stacks of their quadrant in turn. -/
theorem stackOf_block {q r : Nat} (hr : r < 0x60000000) : stackOf ((0x60000000 * q + r) * 256) = 6 * q + r % 6 := by
  have hq : (0x60000000 * q + r) * 256 / 0x6000000000 = q := by
    rw [show (0x60000000 * q + r) * 256 = 0x6000000000 * q + r * 256 by omega, Nat.mul_add_div (by decide),
      Nat.div_eq_of_lt (by omega), Nat.add_zero]
  simp only [stackOf, quadBytes, hq]
  congr 2
  omega

/-- A range meets a stack with a property just when one of its road blocks lies there. -/
theorem rangeStacks_iff {a n : Nat} {f : Nat → Bool} : rangeStacks a n f = true ↔
    n ≠ 0 ∧ ∃ q, q < 4 ∧ ∃ r, r < 0x60000000 ∧ a / 256 ≤ 0x60000000 * q + r ∧ 0x60000000 * q + r ≤ (a + n - 1) / 256 ∧
      f (6 * q + r % 6) = true := by
  have hdiv : quadBytes / 256 = 0x60000000 := rfl
  simp only [rangeStacks, hdiv, Bool.and_eq_true, bne_iff_ne, List.any_eq_true, List.mem_range]
  refine and_congr_right fun hn => exists_congr fun q => and_congr_right fun hq => ?_
  have hstack (r : Nat) := stackOf_block (q := q) (r := r)
  rw [Nat.add_mul q 1, Nat.one_mul, Nat.mul_comm q]
  generalize 0x60000000 * q = base at *
  generalize 0x60000000 = size at *
  constructor
  · rintro ⟨i, hi, hf⟩
    obtain ⟨r, hr⟩ : ∃ r, max (a / 256) base + i = base + r := ⟨max (a / 256) base + i - base, by omega⟩
    have hlt : r < size := by omega
    rw [hr, hstack r hlt] at hf
    exact ⟨r, hlt, by omega, by omega, hf⟩
  · rintro ⟨r, hr, hlo, hhi, hf⟩
    obtain ⟨k, hk⟩ : ∃ k, max (a / 256) base = base + k := ⟨max (a / 256) base - base, by omega⟩
    refine ⟨(r - k) % 6, by omega, ?_⟩
    rw [hk, Nat.add_assoc, hstack _ (by omega)]
    rwa [show (k + (r - k) % 6) % 6 = r % 6 by omega]

theorem rangeStacks_sub {a n b m : Nat} {f : Nat → Bool} (h : rangeStacks a n f = false) (hlo : a ≤ b) (hhi : b + m ≤ a + n) :
    rangeStacks b m f = false := by
  rw [Bool.eq_false_iff, ne_eq, rangeStacks_iff] at h ⊢
  rintro ⟨hm, q, hq, r, hr, hb, he, hf⟩
  refine h ⟨by omega, q, hq, r, hr, Nat.le_trans (Nat.div_le_div_right hlo) hb, Nat.le_trans he (Nat.div_le_div_right ?_), hf⟩
  omega

theorem State.poisoned_sub {s : State} {a n b m : Nat} (h : s.poisoned a n = false) (hlo : a ≤ b) (hhi : b + m ≤ a + n) :
    s.poisoned b m = false := by
  simp only [State.poisoned, Bool.not_eq_false', List.isEmpty_iff] at h ⊢
  unfold State.badBlocks at h ⊢
  split
  · rfl
  · next hm =>
    split at h
    · omega
    rw [List.filter_eq_nil_iff] at h
    refine List.filter_eq_nil_iff.2 fun rb hrb hin => h rb hrb ?_
    simp only [roadFirst, roadLast, Bool.and_eq_true] at hin ⊢
    obtain ⟨hb, he⟩ := hin
    exact ⟨decide_eq_true (Nat.le_trans (Nat.div_le_div_right hlo) (of_decide_eq_true hb)),
      decide_eq_true (Nat.le_trans (of_decide_eq_true he) (Nat.div_le_div_right (by omega)))⟩

/-! ### Far-memory ports (R408, R410) -/

/-- The link of the port of a far-tier address is up. -/
def State.farUp (s : State) (k : Nat) : Prop := (tget (0, 0) s.farPorts k).2 = 2

theorem State.farDown_iff {s : State} {a n : Nat} : s.farDown a n = true ↔ n ≠ 0 ∧ farBase ≤ a + n - 1 ∧
    ∃ b, (b = a ∨ b = a + n - 1) ∧ farBase ≤ b ∧
      (¬ s.farUp (s.farPortOf b) ∨ s.farEven = true ∧ 4096 < n ∧ ¬ s.farUp (1 - s.farPortOf b)) := by
  simp [State.farDown, State.farUp, and_assoc]

/-- Every address of a range whose ports are up is at a port that is up, as is the other port where the access is of both. -/
theorem State.farUp_of_range {s : State} {a n b : Nat} (h : s.farDown a n = false) (hn : n ≤ 2 ^ 30) (hlo : a ≤ b)
    (hhi : b < a + n) (hb : farBase ≤ b) :
    s.farUp (s.farPortOf b) ∧ (s.farEven = true → 4096 < n → s.farUp (1 - s.farPortOf b)) := by
  rw [Bool.eq_false_iff, ne_eq, State.farDown_iff] at h
  have hends (e : Nat) (he : e = a ∨ e = a + n - 1) (hfe : farBase ≤ e) :
      s.farUp (s.farPortOf e) ∧ (s.farEven = true → 4096 < n → s.farUp (1 - s.farPortOf e)) := by
    refine Classical.byContradiction fun hne => h ⟨by omega, by omega, e, he, hfe, ?_⟩
    rcases Classical.not_and_iff_not_or_not.1 hne with hmine | hother
    · exact .inl hmine
    · exact .inr (by simpa only [Classical.not_imp] using hother)
  have hlast := hends (a + n - 1) (.inr rfl) (by omega)
  have hfirst := hends a (.inl rfl)
  clear h hends
  cases hev : s.farEven with
  | true =>
    simp only [State.farPortOf, hev, if_true, forall_const] at hfirst hlast ⊢
    generalize farBase = F at *
    by_cases hbig : 4096 < n
    · obtain ⟨hl, hother⟩ := hlast
      specialize hother hbig
      obtain e | e : (b - F) / 4096 % 2 = (a + n - 1 - F) / 4096 % 2 ∨
        (b - F) / 4096 % 2 = 1 - (a + n - 1 - F) / 4096 % 2 := by omega
      · exact ⟨e ▸ hl, fun _ => e ▸ hother⟩
      · have e' : 1 - (b - F) / 4096 % 2 = (a + n - 1 - F) / 4096 % 2 := by omega
        exact ⟨e ▸ hother, fun _ => e' ▸ hl⟩
    · refine ⟨?_, fun hbig' => absurd hbig' hbig⟩
      obtain e | ⟨ha, e⟩ : (b - F) / 4096 = (a + n - 1 - F) / 4096 ∨ F ≤ a ∧ (b - F) / 4096 = (a - F) / 4096 := by omega
      · exact e ▸ hlast.1
      · exact e ▸ (hfirst ha).1
  | false =>
    refine ⟨?_, nofun⟩
    simp only [State.farPortOf, hev, Bool.false_eq_true, if_false] at hfirst hlast ⊢
    generalize farBase = F at *
    generalize (tget (0, 0) s.farPorts 0).1 = c at *
    obtain e | ⟨ha, e⟩ : (b - F < c * 2 ^ 30 ↔ a + n - 1 - F < c * 2 ^ 30) ∨ F ≤ a ∧ (b - F < c * 2 ^ 30 ↔ a - F < c * 2 ^ 30) := by
      omega
    · simpa only [e] using hlast.1
    · simpa only [e] using (hfirst ha).1

theorem State.farDown_sub {s : State} {a n b m : Nat} (h : s.farDown a n = false) (hn : n ≤ 2 ^ 30) (hlo : a ≤ b)
    (hhi : b + m ≤ a + n) : s.farDown b m = false := by
  rw [Bool.eq_false_iff, ne_eq, State.farDown_iff]
  rintro ⟨hm, -, e, he, hfe, hdown⟩
  obtain ⟨hup, hboth⟩ := State.farUp_of_range h hn (b := e) (by omega) (by omega) hfe
  rcases hdown with hdown | ⟨hev, hbig, hdown⟩
  · exact hdown hup
  · exact hdown (hboth hev (by omega))

/-- A part of an admitted access is admitted. -/
theorem State.memStatus_sub {s : State} {w : Bool} {a n b m : Nat} (h : s.memStatus w a n = none) (hn : n ≤ 2 ^ 30)
    (hlo : a ≤ b) (hhi : b + m ≤ a + n) : s.memStatus w b m = none := by
  unfold State.memStatus at h
  split at h
  · contradiction
  next hoff =>
  split at h
  · contradiction
  next hpoison =>
  split at h
  · contradiction
  next hfar =>
  have hoff' : s.offline b m = false := rangeStacks_sub (Bool.eq_false_iff.2 hoff) hlo hhi
  have hfar' := State.farDown_sub (Bool.eq_false_iff.2 hfar) hn hlo hhi
  have hpoison' : (!w && s.poisoned b m) = false := by
    cases w with
    | true => rfl
    | false => exact State.poisoned_sub (by simpa using hpoison) hlo hhi
  simp only [State.memStatus, hoff', hpoison', hfar', Bool.false_eq_true, if_false]

end Sys2Proof.Machine
end

section
/-! GROUP_LOAD, VPROG_LOAD and COLL_GROUP (R322 to R325, R347, R370). -/

namespace Sys2Proof.Machine

open Sys2Proof Sys2Proof.Safety

/-! ### Runs of records -/

/-- The first byte of a record is the byte at its place in the image. -/
theorem field_record (bs : List Byte) (i : Nat) : field (slice (bs.drop (128 * i)) 0 128) 0 1 = field bs (128 * i) 1 := by
  simp only [field, slice, List.drop_zero]
  cases bs.drop (128 * i) <;> simp [leNat, List.replicate]

/-- Whether a record changes the shard of its group: the offset of the field that does (R322); an unused group has none yet. -/
def Group.shardOf (x : Group) (g : List Byte) : Option Nat := if x.used then shardChange x.record g else some 1

/-- A group that is loaded is used: only a used group keeps its record for later. -/
theorem Group.load_used (x : Group) (g : List Byte) (stepOn : Bool) : (x.load g (x.shardOf g).isSome stepOn).used = true := by
  unfold Group.shardOf
  cases hu : x.used with
  | false => rfl
  | true =>
    simp only [Group.load, if_true]
    split
    · rfl
    · split <;> exact hu

/-- The group of the record at place `i` of an image after that record. -/
def loadedGroup (bs : List Byte) (i : Nat) (x : Part) : Group :=
  let cur := tget Group.unused x.groups (field bs (128 * i) 1)
  let g := slice (bs.drop (128 * i)) 0 128
  cur.load g (cur.shardOf g).isSome x.stepOn

/-- One record: it fails a check, or it would change a shard in a step, or its group takes it. -/
theorem loadRecords_succ (bs : List Byte) (n i : Nat) (x : Part) : loadRecords bs (n + 1) i x =
    match groupFault x (slice (bs.drop (128 * i)) 0 128) with
    | some o => .inl (stGroupForm, resultImage (128 * i + o))
    | none =>
      let ch := (tget Group.unused x.groups (field bs (128 * i) 1)).shardOf (slice (bs.drop (128 * i)) 0 128)
      if ch.isSome && x.stepOn then .inl (stGroupBusy, resultImage (128 * i + ch.getD 1))
      else loadRecords bs n (i + 1) { x with groups := tput x.groups (field bs (128 * i) 1) (loadedGroup bs i x) } := by
  rw [← field_record]
  unfold loadedGroup
  rw [← field_record]
  rfl

/-- A load that passes goes on from each record. -/
theorem loadRecords_next {bs : List Byte} {n i : Nat} {x y : Part} (h : loadRecords bs (n + 1) i x = .inr y) :
    loadRecords bs n (i + 1) { x with groups := tput x.groups (field bs (128 * i) 1) (loadedGroup bs i x) } = .inr y := by
  rw [loadRecords_succ] at h
  split at h
  · contradiction
  · dsimp only at h
    split at h
    · contradiction
    · exact h

/-- A load that passes leaves groups that no record names alone, and groups that are used before it or named by it used. -/
theorem loadRecords_groups {bs : List Byte} {k : Nat} : ∀ {n i : Nat} {x y : Part}, loadRecords bs n i x = .inr y →
    ((∀ j, i ≤ j → j < i + n → field bs (128 * j) 1 ≠ k) → tget Group.unused y.groups k = tget Group.unused x.groups k) ∧
    ((tget Group.unused x.groups k).used = true ∨ (∃ j, i ≤ j ∧ j < i + n ∧ field bs (128 * j) 1 = k) →
      (tget Group.unused y.groups k).used = true)
  | 0, i, x, y, h => by
    cases h
    exact ⟨fun _ => rfl, fun h => h.elim id fun ⟨j, hlo, hhi, _⟩ => absurd hhi (by omega)⟩
  | n + 1, i, x, y, h => by
    obtain ⟨hkeep, hused⟩ := loadRecords_groups (k := k) (loadRecords_next h)
    constructor
    · intro hne
      rw [hkeep fun j hlo hhi => hne j (by omega) (by omega)]
      exact tget_tput_other _ _ (fun e => hne i (by omega) (by omega) e.symm) _
    · intro h
      apply hused
      by_cases e : field bs (128 * i) 1 = k
      · left
        rw [← e, tget_tput_self]
        exact Group.load_used _ _ _
      · refine h.imp (fun hx => ?_) fun ⟨j, hlo, hhi, hj⟩ => ⟨j, ?_, by omega, hj⟩
        · rwa [tget_tput_other _ _ (fun e' => e e'.symm)]
        · have : j ≠ i := fun e' => e (e' ▸ hj)
          omega

/-- A single record that passes its checks and changes no shard in a step is taken by its group. -/
theorem loadRecords_one {bs : List Byte} {x : Part} (hfault : groupFault x (slice bs 0 128) = none)
    (hok : ((tget Group.unused x.groups (field bs 0 1)).shardOf (slice bs 0 128)).isSome = false ∨ x.stepOn = false) :
    loadRecords bs 1 0 x = .inr { x with groups := tput x.groups (field bs 0 1) (loadedGroup bs 0 x) } := by
  have hok' := Bool.and_eq_false_iff.2 hok
  simp only [loadRecords_succ, Nat.mul_zero, List.drop_zero, hfault, hok', Bool.false_eq_true, if_false]
  rfl

/-! ### What the commands do once their record is delivered -/

section
variable {s : State} {q : Nat} {reply : HostReply} {r : Running} {bs : List Byte}

theorem execGroupLoad_run (hrun : Runs s q 0x09 r) (hlo : 0 < field r.desc 32 2) (hhi : field r.desc 32 2 ≤ 256)
    (hdel : Delivers s q (field r.desc 24 8) (128 * field r.desc 32 2) reply bs) :
    ∃ xs, execGroupLoad q reply s = .next (
      match loadRecords bs (field r.desc 32 2) 0 (s.part (s.queuePart q)) with
      | .inl (st, res) => (s.countReads xs).finish q st res
      | .inr x => ((s.countReads xs).modPart (s.queuePart q) fun y => { y with groups := x.groups }).finish q stOk result0) := by
  obtain ⟨pl, hreach, hst, hsrc⟩ := hdel
  refine ⟨[(false, pl, 128 * field r.desc 32 2)], ?_⟩
  have hn : (decide (field r.desc 32 2 = 0) || decide (256 < field r.desc 32 2)) = false := by
    simp only [Bool.or_eq_false_iff, decide_eq_false_iff_not]
    omega
  rw [execGroupLoad, onRunning_run hrun]
  simp only [hn, Bool.false_eq_true, if_false, hreach]
  rw [State.fetch_of_delivered hst hsrc]
  simp only [State.countReads_part] <;> rfl

theorem execVprogLoad_run (hrun : Runs s q 0x0A r) (hlo : 0 < field r.desc 26 2) (hhi : field r.desc 26 2 ≤ 256)
    (hdel : Delivers s q (field r.desc 32 8) (4 * field r.desc 26 2) reply bs)
    (hok : programOk (words32 (field r.desc 26 2) bs) = true)
    (hfree : ¬ ((s.part (s.queuePart q)).slotNamed (bits (field r.desc 24 1) 0 4) = true ∧
      (s.part (s.queuePart q)).stepOn = true)) :
    ∃ xs, execVprogLoad q reply s = .next (((s.countReads xs).modPart (s.queuePart q) fun x =>
      { x with progs := tput x.progs (bits (field r.desc 24 1) 0 4) (words32 (field r.desc 26 2) bs) }).finish q stOk
        result0) := by
  obtain ⟨pl, hreach, hst, hsrc⟩ := hdel
  refine ⟨[(false, pl, 4 * field r.desc 26 2)], ?_⟩
  have hn : (decide (field r.desc 26 2 = 0) || decide (256 < field r.desc 26 2)) = false := by
    simp only [Bool.or_eq_false_iff, decide_eq_false_iff_not]
    omega
  have hfree' := Bool.eq_false_iff.2 (mt Bool.and_eq_true_iff.1 hfree)
  rw [execVprogLoad, onRunning_run hrun]
  simp only [hn, Bool.false_eq_true, if_false, hreach]
  rw [State.fetch_of_delivered hst hsrc]
  simp only [hok, State.countReads_part, hfree', Bool.not_true, Bool.false_eq_true, if_false]

/-- COLL_GROUP with its header: it goes on to the entries unless their number is out of bounds. -/
theorem execCollGroup_header {h : List Byte} (hrun : Runs s q 0x0B r) (hdel : Delivers s q (field r.desc 24 8) 64 reply h)
    (hn : field h 2 2 < 2 ∨ 4096 < field h 2 2) :
    ∃ xs, execCollGroup q reply s = .next ((s.countReads xs).finish q stCollForm result0) := by
  obtain ⟨pl, hreach, hst, hsrc⟩ := hdel
  refine ⟨[(false, pl, 64)], ?_⟩
  have hn' : (decide (field h 2 2 < 2) || decide (4096 < field h 2 2)) = true := by simpa using hn
  rw [execCollGroup, onRunning_run hrun]
  simp only [hreach]
  rw [State.fetch_of_delivered hst hsrc]
  simp only [hn', if_true]

/-- Membership is read off the registers, routes and partitions. -/
theorem State.groupOf_countReads (s : State) (xs : List (Bool × Place × Nat)) (p : Nat) (bs : List Byte) :
    (s.countReads xs).groupOf p bs = s.groupOf p bs := by
  obtain ⟨c, h⟩ := s.countReads_eq xs
  rw [h]
  rfl

/-- The rest of an admitted range is admitted. -/
theorem State.badAccess_tail {xs : List (Bool × Place × Nat)} {pl : Place} {k n : Nat} (hn : k + n ≤ 2 ^ 30)
    (h : s.placeStatus false pl (k + n) = none) : (s.countReads xs).badAccess [(false, pl.plus k, n)] = none := by
  obtain ⟨c, hc⟩ := s.countReads_eq xs
  have hst : s.placeStatus false (pl.plus k) n = none := by
    cases pl with
    | dev a => exact State.memStatus_sub h hn (Nat.le_add_right a k) (by omega)
    | slab a => rfl
    | host a => rfl
  have hbad : s.badAccess [(false, pl.plus k, n)] = none := by simp [State.badAccess, hst]
  rw [hc]
  exact hbad

theorem execCollGroup_run {h : List Byte} {g : CollGroup} (hrun : Runs s q 0x0B r)
    (hhead : Delivers s q (field r.desc 24 8) 64 reply h) (hlo : 2 ≤ field h 2 2) (hhi : field h 2 2 ≤ 4096)
    (hdel : Delivers s q (field r.desc 24 8) (64 + 4 * field h 2 2) reply bs) (hg : s.groupOf (s.queuePart q) bs = some g)
    (hfree : (s.part (s.queuePart q)).collRuns (field bs 0 1) = false) :
    ∃ xs ys, execCollGroup q reply s = .next ((((s.countReads xs).countReads ys).modPart (s.queuePart q) fun x =>
      { x with
        collGroups := tput x.collGroups (field bs 0 1)
          ({ g with tags := (tget CollGroup.none (s.part (s.queuePart q)).collGroups (field bs 0 1)).tags } : CollGroup) }).finish q stOk
        result0) := by
  obtain ⟨pl, hreach, hst, hsrc⟩ := hhead
  obtain ⟨pl', hreach', hst', hsrc'⟩ := hdel
  obtain rfl : pl' = pl := Option.some.inj ((Part.place_of_reach hreach').symm.trans (Part.place_of_reach hreach))
  have hn : (decide (field h 2 2 < 2) || decide (4096 < field h 2 2)) = false := by
    simp only [Bool.or_eq_false_iff, decide_eq_false_iff_not]
    omega
  refine ⟨[(false, pl', 64)], [(false, pl'.plus 64, 4 * field h 2 2)], ?_⟩
  rw [execCollGroup, onRunning_run hrun]
  simp only [hreach]
  rw [State.fetch_of_delivered hst hsrc]
  simp only [hn, Bool.false_eq_true, if_false, State.countReads_part, hreach', Option.isNone_some]
  rw [State.access_of_pass (State.badAccess_tail (by omega) hst')]
  simp only [source_congr (State.countReads_mem _ _) (State.countReads_slab _ _), hsrc', State.groupOf_countReads, hg,
    State.countReads_part, hfree, Bool.false_eq_true, if_false]

end

/-- A descriptor whose command changes its partition alone, after reads, is finished with that change. -/
theorem finished_modPart {s u : State} {q : Nat} {r : Running} (hu : u.queues = s.queues)
    (hq : (s.queue q).running = some r) (hdone : r.done = none) (p st : Nat) (f : Part → Part) (res : List Byte) :
    Finished ((u.modPart p f).finish q st res) q st res :=
  finished_finish (r := r) (by rw [queue_congr (t := u.modPart p f) (s := s) hu, hq]) hdone

theorem part_modPart_finish {s u : State} (hu : u.parts = s.parts) (q p st : Nat) (f : Part → Part) (res : List Byte) :
    ((u.modPart p f).finish q st res).part p = f (s.part p) := by
  rw [State.finish_part, State.modPart, State.part_setPart, part_congr hu]

/-- Settles O17: the loads are a change of the partition's tables, and `loadRecords_groups` says which groups it touches. -/
theorem loadsDefineGroupsProgramsAndMembers : Obligations.LoadsDefineGroupsProgramsAndMembers := by
  unfold Obligations.LoadsDefineGroupsProgramsAndMembers
  intro s q reply r bs
  dsimp only
  refine ⟨fun hrun hlo hhi hdel => ?_, fun hrun hlo hhi hdel hok hfree => ?_, fun h hrun hhead => ⟨fun hn => ?_, ?_⟩⟩
  · obtain ⟨hq, -, hdone, -⟩ := runningOp_some hrun.2
    obtain ⟨xs, hexec⟩ := execGroupLoad_run hrun hlo hhi hdel
    change exec (.groupLoad q reply) s = _ at hexec
    have hcounted := s.countReads_parts xs
    refine ⟨fun y hy => ?_, fun hone g hg hfault hok => ?_, fun st res hbad => ?_⟩
    · rw [hy] at hexec
      refine ⟨_, hexec, finished_modPart (s.countReads_queues xs) hq hdone .., part_modPart_finish hcounted ..,
        fun k hk => ?_, fun i hi => ?_⟩
      · rw [part_modPart_finish hcounted]
        exact (loadRecords_groups hy).1 fun j _ hj => hk j (by omega)
      · rw [part_modPart_finish hcounted]
        exact (loadRecords_groups hy).2 (.inr ⟨i, i.zero_le, by omega, rfl⟩)
    · subst hg
      rw [show field (slice bs 0 128) 0 1 = field bs 0 1 from field_record bs 0] at hok ⊢
      rw [hone, loadRecords_one hfault hok] at hexec
      refine ⟨_, hexec, finished_modPart (s.countReads_queues xs) hq hdone .., ?_⟩
      rw [part_modPart_finish hcounted, tget_tput_self]
      rfl
    · rw [hbad] at hexec
      refine ⟨_, hexec, finished_finish (r := r) (by rw [State.countReads_queue, hq]) hdone, ?_⟩
      rw [State.finish_parts, State.countReads_parts]
  · obtain ⟨hq, -, hdone, -⟩ := runningOp_some hrun.2
    obtain ⟨xs, hexec⟩ := execVprogLoad_run hrun hlo hhi hdel hok hfree
    refine ⟨_, hexec, finished_modPart (s.countReads_queues xs) hq hdone .., ?_, fun k hk => ?_⟩
    · rw [part_modPart_finish (s.countReads_parts xs), tget_tput_self]
    · rw [part_modPart_finish (s.countReads_parts xs), tget_tput_other _ _ hk]
  · obtain ⟨hq, -, hdone, -⟩ := runningOp_some hrun.2
    obtain ⟨xs, hexec⟩ := execCollGroup_header hrun hhead hn
    refine ⟨_, hexec, finished_finish (r := r) (by rw [State.countReads_queue, hq]) hdone, ?_⟩
    rw [State.finish_parts, State.countReads_parts]
  · intro g hlo hhi hdel hg hfree
    obtain ⟨hq, -, hdone, -⟩ := runningOp_some hrun.2
    obtain ⟨xs, ys, hexec⟩ := execCollGroup_run hrun hhead hlo hhi hdel hg hfree
    have hqs := (State.countReads_queues (s.countReads xs) ys).trans (s.countReads_queues xs)
    have hps := (State.countReads_parts (s.countReads xs) ys).trans (s.countReads_parts xs)
    refine ⟨_, hexec, finished_modPart hqs hq hdone .., ?_, fun k hk => ?_⟩
    · rw [part_modPart_finish hps, tget_tput_self]
    · rw [part_modPart_finish hps, tget_tput_other _ _ hk]

end Sys2Proof.Machine
end

section
/-! Doorbells and lost events (R431 to R434, R444, R445, R449). -/

namespace Sys2Proof.Machine

open Sys2Proof Sys2Proof.Safety

/-! ### Stopping a queue -/

/-- A queue that stops has its reason; what else changes is what the event reports. -/
theorem State.stopQueue_run {s : State} {q : Nat} (h : (s.queue q).stopped = 0) (reason : Nat) :
    s.stopQueue q reason = (s.setQueue q { s.queue q with stopped := reason }).queueError (s.queuePart q) q 0 reason := by
  simp [State.stopQueue, h]

theorem State.queueError_queue (s : State) (p num kind reason q : Nat) :
    (s.queueError p num kind reason).queue q = s.queue q := queue_congr ((State.queueError_evolves ..).same .queues rfl) q
theorem State.queueError_rings (s : State) (p num kind reason : Nat) :
    (s.queueError p num kind reason).rings = s.rings := (State.queueError_evolves ..).same .rings rfl
theorem State.queueError_ring (s : State) (p num kind reason c : Nat) :
    (s.queueError p num kind reason).ring c = s.ring c := ring_congr (s.queueError_rings ..) c
theorem State.queueError_head (s : State) (p num kind reason : Nat) :
    Keeps (fun x => x.eq.head) s (s.queueError p num kind reason) := .raise (fun _ _ h => h) s p _ _

/-! ### Doorbells (R433, R434) -/

theorem State.stopQueue_effect {s : State} {q : Nat} (h : (s.queue q).stopped = 0) (reason p : Nat) :
    (s.stopQueue q reason).queue q = { s.queue q with stopped := reason } ∧ (s.stopQueue q reason).rings = s.rings ∧
      ((s.stopQueue q reason).part p).eq.head = (s.part p).eq.head := by
  rw [State.stopQueue_run h, State.queueError_queue, State.queue_setQueue, State.queueError_rings]
  exact ⟨rfl, rfl, (State.queueError_head ..).same p⟩

/-- A doorbell's head is bad: its kind names no head, or the ring or queue that it returns room to does not take it. -/
def badDoorbellHead (s : State) (p q v : Nat) : Bool :=
  match bits v 48 2 with
  | 0 => false
  | 1 => !s.ringOk p q || badHead (s.ring (s.queueRing q)).head (s.ring (s.queueRing q)).tail (s.ringSize (s.queueRing q))
      (bits v 32 16)
  | 2 => badHead (s.part p).eq.head (s.part p).eq.tail (s.eqSize p) (bits v 32 16)
  | _ => true

/-- The new tail alone. -/
def State.setTail (s : State) (q v : Nat) : State :=
  if bit v 16 then s.setQueue q { s.queue q with tail := bits v 0 16 } else s

/-- The tail and the head of a doorbell where both are good. -/
def State.applyDoorbell (s : State) (p q v : Nat) : State :=
  if bits v 48 2 = 1 then
    (s.setTail q v).setRing (s.queueRing q) { s.ring (s.queueRing q) with head := bits v 32 16 }
  else if bits v 48 2 = 2 then (s.setTail q v).modPart p fun y => { y with eq := { y.eq with head := bits v 32 16 } }
  else s.setTail q v

theorem State.ringDoorbell_run (s : State) (p q v : Nat) : s.ringDoorbell p q v =
    if badDoorbellHead s p q v || (bit v 16 && badTail (s.queue q) (s.queueSize q) (bits v 0 16)) then s.stopQueue q 1
    else s.applyDoorbell p q v := by
  unfold State.ringDoorbell State.applyDoorbell State.setTail badDoorbellHead
  cases bit v 16 <;> rfl

theorem State.setTail_effect (s : State) (q v : Nat) :
    (s.setTail q v).queue q = { s.queue q with tail := if bit v 16 then bits v 0 16 else (s.queue q).tail } ∧
      (s.setTail q v).rings = s.rings ∧ (s.setTail q v).parts = s.parts ∧ (s.setTail q v).out = s.out := by
  unfold State.setTail
  split
  · exact ⟨State.queue_setQueue .., rfl, rfl, rfl⟩
  · exact ⟨rfl, rfl, rfl, rfl⟩

theorem State.applyDoorbell_effect (s : State) (p q v : Nat) :
    (s.applyDoorbell p q v).queue q = { s.queue q with tail := if bit v 16 then bits v 0 16 else (s.queue q).tail } ∧
    (s.applyDoorbell p q v).ring (s.queueRing q) =
      { s.ring (s.queueRing q) with head := if bits v 48 2 = 1 then bits v 32 16 else (s.ring (s.queueRing q)).head } ∧
    ((s.applyDoorbell p q v).part p).eq =
      { (s.part p).eq with head := if bits v 48 2 = 2 then bits v 32 16 else (s.part p).eq.head } ∧
    (s.applyDoorbell p q v).out = s.out := by
  obtain ⟨hqueue, hrings, hparts, hout⟩ := s.setTail_effect q v
  unfold State.applyDoorbell
  split
  · next h1 =>
    simp only [h1, State.setRing_queue, hqueue, State.ring_setRing, State.setRing_part, part_congr hparts, State.setRing_out, hout]
    exact ⟨trivial, trivial, rfl, trivial⟩
  · split
    · next h1 h2 =>
      simp only [h2, State.modPart, State.setPart_queue, hqueue, State.part_setPart, part_congr hparts, State.setPart_out, hout]
      exact ⟨trivial, ring_congr hrings _, trivial, trivial⟩
    · next h1 h2 =>
      simp only [h1, h2, hqueue, ring_congr hrings, part_congr hparts, hout, if_false, and_self]

/-- A doorbell is good just when its tail and its head each are. -/
theorem doorbell_good_iff (s : State) (p q v : Nat) :
    (badDoorbellHead s p q v || (bit v 16 && badTail (s.queue q) (s.queueSize q) (bits v 0 16))) = false ↔
    (bit v 16 = false ∨ badTail (s.queue q) (s.queueSize q) (bits v 0 16) = false) ∧
    (bits v 48 2 = 0 ∨
      (bits v 48 2 = 1 ∧ s.ringOk p q = true ∧ badHead (s.ring (s.queueRing q)).head (s.ring (s.queueRing q)).tail
        (s.ringSize (s.queueRing q)) (bits v 32 16) = false) ∨
      (bits v 48 2 = 2 ∧ badHead (s.part p).eq.head (s.part p).eq.tail (s.eqSize p) (bits v 32 16) = false)) := by
  rw [Bool.or_eq_false_iff, Bool.and_eq_false_iff, and_comm]
  refine and_congr_right fun _ => ?_
  unfold badDoorbellHead
  split <;> simp_all

/-- Settles O10: the doorbell applies both or stops the queue. -/
theorem doorbellAppliesTailAndHeadOrStopsQueue : Obligations.DoorbellAppliesTailAndHeadOrStopsQueue := by
  unfold Obligations.DoorbellAppliesTailAndHeadOrStopsQueue
  intro s fn slot v hfn hin hhub hon
  dsimp only
  have hexec : exec (.doorbell fn slot 8 v) s = .next (s.ringDoorbell fn slot v.toNat) := by
    change execDoorbell fn slot 8 v s = _
    simp [execDoorbell, onFunction, hfn, hin, hhub, hon]
  rw [State.ringDoorbell_run] at hexec
  have hgood := doorbell_good_iff s fn slot v.toNat
  refine ⟨fun htail hhead => ?_, fun hbad hrun => ?_⟩
  · rw [hgood.2 ⟨htail, hhead⟩, if_neg Bool.false_ne_true] at hexec
    exact ⟨_, hexec, s.applyDoorbell_effect fn slot v.toNat⟩
  · rw [if_pos (Bool.not_eq_false _ ▸ mt hgood.1 hbad)] at hexec
    exact ⟨_, hexec, State.stopQueue_effect hrun 1 fn⟩

end Sys2Proof.Machine
end

section
/-! Completion entries and EQ_OVERFLOW (R431, R432, R444, R445, R449). -/

namespace Sys2Proof.Machine

open Sys2Proof Sys2Proof.Safety

/-! ### A descriptor leaves its queue -/

theorem State.retireDesc_ring (s : State) (p q : Nat) (r : Running) (st c : Nat) :
    (s.retireDesc p q r st).ring c = s.ring c := ring_congr ((State.retireDesc_evolves ..).same .rings rfl) c

/-- A descriptor that succeeded leaves without output. -/
theorem State.retireDesc_out {s : State} {st : Nat} (h : success st = true) (p q : Nat) (r : Running) :
    (s.retireDesc p q r st).out = s.out := by
  have hsettle (t : State) : (t.settleAll p).out = t.out := (State.settleAll_evolves ..).same .out rfl
  simp only [State.retireDesc, h, Bool.not_true, Bool.and_false, Bool.false_and, Bool.false_eq_true, if_false, hsettle,
    State.setQueue_out]

/-! ### Its entry -/

section
variable (s : State) (p q : Nat) (r : Running) (st : Nat) (res : List Byte)

theorem State.writeCompletion_ring : (s.writeCompletion p q r st res).ring (s.queueRing q) =
    { s.ring (s.queueRing q) with
      tail := if (s.ring (s.queueRing q)).tail + 1 = s.ringSize (s.queueRing q) then 0 else (s.ring (s.queueRing q)).tail + 1
      tag := if (s.ring (s.queueRing q)).tail + 1 = s.ringSize (s.queueRing q) then !(s.ring (s.queueRing q)).tag
        else (s.ring (s.queueRing q)).tag } := by
  have hemit (t : State) (o : Output) : (t.emit o).ring (s.queueRing q) = t.ring (s.queueRing q) := rfl
  unfold State.writeCompletion
  dsimp only
  split <;> simp only [hemit, State.ring_setRing, beq_iff_eq]

theorem State.writeCompletion_out (h : success st = true) : (s.writeCompletion p q r st res).out =
    s.out ++ [.hostWrite p (s.ringBase (s.queueRing q) + 32 * (s.ring (s.queueRing q)).tail)
      (completionEntry r.desc q (s.headAfter q) st (s.ring (s.queueRing q)).tag r.work.skewed res)] ++
      if dIrq r.desc = true ∨ s.ccfg (s.queueRing q) 16 1 = 1 then [.msix p (s.ccfg (s.queueRing q) 4 11)] else [] := by
  simp only [State.writeCompletion, h, Bool.not_true, Bool.or_false, Bool.or_eq_true, beq_iff_eq]
  split <;> simp [State.emit]

end

/-- What posting a completion does once its ring takes entries. -/
theorem execCompletionPost_run {s : State} {q st : Nat} {res : List Byte} {r : Running} (hq : q < 65536)
    (hrun : (s.queue q).running = some r) (hdone : r.done = some (st, res)) (hcomp : ¬ (dNocomp r.desc = true ∧ st = stOk))
    (hring : s.ringOk (s.queuePart q) q = true) (hlater : s.postsLater (s.queuePart q) q r = false)
    (hopen : (s.ring (s.queueRing q)).stopped = false) (hroom : s.ringFull (s.queueRing q) = false) (ok : Bool) :
    exec (.completionPost q ok) s = .next (
      if ok then (s.writeCompletion (s.queuePart q) q r st res).retireDesc (s.queuePart q) q r st
      else ((s.setRing (s.queueRing q) { s.ring (s.queueRing q) with stopped := true }).queueError (s.queuePart q)
        (s.queueRing q) 1 3).retireDesc (s.queuePart q) q r st) := by
  have hcomp' : (dNocomp r.desc && st == stOk) = false := by simpa using hcomp
  change execCompletionPost q ok s = _
  cases ok <;>
    simp only [execCompletionPost, onQueue, hq, hrun, hdone, hcomp', hring, hlater, hopen, hroom, if_true, if_false,
      Bool.false_eq_true, Bool.not_true, Bool.not_false, Bool.or_self]

/-! ### Lost events -/

theorem State.eqRefused_effect {s : State} {p : Nat} (hon : s.eqOn p = true) :
    ((s.eqRefused p).part p).eq = { (s.part p).eq with stopped := true } ∧ (s.eqRefused p).out = s.out ++ [.aer p] := by
  rw [State.eqRefused, if_pos hon]
  refine ⟨?_, rfl⟩
  rw [State.emit_part, State.modPart, State.part_setPart]

theorem State.eqFlush_effect {s : State} {p : Nat} (hlost : (s.part p).eq.lost ≠ 0) (hon : s.eqOn p = true)
    (hroom : s.eqRoom p = true) : ((s.eqFlush p).part p).eq.lost = 0 ∧ (s.eqFlush p).out = s.out ++
      [.hostWrite p (s.ppair p 2 0x328 + 64 * (s.part p).eq.tail)
        (eventRecord evEqOverflow (s.part p).eq.tag false (s.part p).eq.seq s.ltime (s.part p).milestone.toNat
          [(24, 4, (s.part p).eq.lost)]), .msix p (s.pregf p 2 eqCfg 4 11)] := by
  have hrun : s.eqFlush p = (s.eqPut p evEqOverflow [(24, 4, (s.part p).eq.lost)]).modPart p
      fun x => { x with eq := { x.eq with lost := 0 } } := by
    simp [State.eqFlush, hlost, hon, hroom]
  rw [hrun]
  refine ⟨?_, ?_⟩
  · rw [State.modPart, State.part_setPart]
  · simp only [State.modPart, State.setPart_out, State.eqPut, State.emit, List.append_assoc, List.cons_append, List.nil_append]

/-- Settles O12: the entry and the ring's move are `State.writeCompletion`; EQ_OVERFLOW is `State.eqFlush`. -/
theorem completionsAndLostEventsAreReported : Obligations.CompletionsAndLostEventsAreReported := by
  unfold Obligations.CompletionsAndLostEventsAreReported
  refine ⟨fun s q st res r hq hrun hdone hcomp hring => ?_, fun s p hp hlost hon hroom => ⟨?_, ?_⟩⟩
  · dsimp only
    intro hlater hopen hroom
    have hexec := execCompletionPost_run hq hrun hdone hcomp hring hlater hopen hroom
    refine ⟨⟨_, hexec true, ?_, fun hst => ?_⟩, _, hexec false, ?_⟩
    · rw [if_pos rfl, State.retireDesc_ring, State.writeCompletion_ring]
    · rw [if_pos rfl, State.retireDesc_out hst, State.writeCompletion_out _ _ _ _ _ _ hst]
    · dsimp only
      rw [if_neg Bool.false_ne_true, State.retireDesc_ring, State.queueError_ring, State.ring_setRing]
      exact ⟨rfl, rfl⟩
  · have hexec : exec (.eqOverflow ⟨p, false⟩) s = .next (s.eqRefused p) := if_pos hp
    exact ⟨_, hexec, State.eqRefused_effect hon⟩
  · have hexec : exec (.eqOverflow ⟨p, true⟩) s = .next (s.eqFlush p) := if_pos hp
    exact ⟨_, hexec, State.eqFlush_effect hlost hon hroom⟩

end Sys2Proof.Machine
end

section
/-! Fetch, beginning and budget hand-over (R36, R38, R428 to R430). -/

namespace Sys2Proof.Machine

open Sys2Proof Sys2Proof.Safety

/-! ### Settling the head of a queue -/

/-- Putting back what is listed changes nothing. -/
theorem tput_same {α : Type} {i : Nat} {v : α} : ∀ {m : SMap α}, tfind m i = some v → tput m i v = m
  | (k, w) :: m, h => by
    unfold tfind at h
    unfold tput
    split at h
    · next e => simp_all
    · next e =>
      rw [if_neg e]
      split at h
      · contradiction
      · next hlt => rw [if_neg hlt, tput_same h]

/-- A queue that holds a descriptor is listed, and setting it to what it is changes nothing. -/
theorem State.setQueue_same {s : State} {q : Nat} {f : Slot} {rest : List Slot} (h : (s.queue q).fetched = f :: rest) :
    s.setQueue q (s.queue q) = s := by
  cases hq : tfind s.queues q with
  | none =>
    rw [State.queue, tget, hq] at h
    contradiction
  | some x =>
    have hx : s.queue q = x := by rw [State.queue, tget, hq, Option.getD_some]
    rw [State.setQueue, hx, tput_same hq]

/-- A queue that runs a descriptor has no head to settle. -/
theorem State.settle_of_running {s : State} {q : Nat} (h : (s.queue q).running.isSome = true) : s.settle q = s := by
  obtain ⟨r, hr⟩ := Option.isSome_iff_exists.1 h
  simp only [State.settle, hr]

/-- A head that fails no check, is not passed over and has met its wait stays as it is. -/
theorem State.settle_of_ready {s : State} {q : Nat} {f : Slot} {rest : List Slot} (hrun : (s.queue q).running = none)
    (hf : (s.queue q).fetched = f :: rest) (hfate : f.fate = none) (hmet : f.met = true)
    (hpend : pendCheck (s.part (s.queuePart q)) f.desc = none) (hgo : s.verdict (s.queuePart q) (dPhase f.desc) = .go) :
    s.settle q = s := by
  obtain ⟨desc, fate, met⟩ := f
  subst hfate hmet
  simp only [State.settle, hrun, hf, hpend, hgo, reduceCtorEq, if_false, Bool.true_or]
  refine (congrArg (s.setQueue q) ?_).trans (State.setQueue_same hf)
  cases hx : s.queue q
  simp_all

theorem State.finish_ends (s : State) (q st : Nat) (res : List Byte) :
    ((s.finish q st res).queue q).head = (s.queue q).head ∧ ((s.finish q st res).queue q).tail = (s.queue q).tail := by
  unfold State.finish
  dsimp only
  split
  · exact ⟨rfl, rfl⟩
  · next r hr =>
    split
    · exact ⟨rfl, rfl⟩
    · split
      · refine State.queue_modQueues (P := fun x => x.head = (s.queue q).head ∧ x.tail = (s.queue q).tail) _ _ q _ ?_
          fun x h => by simpa using h
        rw [State.setWaypost_queue, State.queue_setQueue]
        exact ⟨rfl, rfl⟩
      · rw [State.queue_setQueue]
        exact ⟨rfl, rfl⟩

/-- Settling a head moves neither end of the queue. -/
theorem State.settle_ends (s : State) (q : Nat) :
    ((s.settle q).queue q).head = (s.queue q).head ∧ ((s.settle q).queue q).tail = (s.queue q).tail := by
  have hfail (f : Slot) (rest : List Slot) (st : Nat) (res : List Byte) :
      ((s.failHead q f rest st res).queue q).head = (s.queue q).head ∧
        ((s.failHead q f rest st res).queue q).tail = (s.queue q).tail := by
    obtain ⟨hhead, htail⟩ := (s.setQueue q { s.queue q with
      fetched := rest
      running := some ⟨f.desc, [], false, none, Work.none⟩ }).finish_ends q st res
    rw [State.queue_setQueue] at hhead htail
    exact ⟨hhead, htail⟩
  unfold State.settle
  dsimp only
  split
  · split
    · exact hfail ..
    · split
      · exact hfail ..
      · split
        · exact hfail ..
        · rw [State.queue_setQueue]
          exact ⟨rfl, rfl⟩
  · exact ⟨rfl, rfl⟩

/-! ### Beginning -/

/-- What a descriptor's beginning does to its partition and to the turns of its engine, before the queue runs it. -/
def State.enterDesc (s : State) (p q : Nat) (f : Slot) : State :=
  let c := dPhase f.desc
  let x := s.part p
  let s := if c = 1 && x.abandoned.isSome then s.clearStash p else s
  let s := s.modPart p fun y => { (y.holdBlocks q f.desc).beginPhase c with
    applyBegun := y.applyBegun || dOpcode f.desc == 0x29
    begun := y.begun + 1 }
  let s := if x.phase < 2 && 2 ≤ c then s.enterBackward p else s
  { s with turns := tset 0 s.turns (queueHub q * 8 + engineKind (dOpcode f.desc)) q }

theorem State.enterDesc_same (s : State) (p q : Nat) (f : Slot) (c : Comp) (h : c = .regs ∨ c = .calUser) :
    c.same s (s.enterDesc p q f) := by
  have hclear : c.same s (if dPhase f.desc = 1 && (s.part p).abandoned.isSome then s.clearStash p else s) := by
    split
    · rcases h with rfl | rfl <;> exact (State.clearStash_evolves ..).same _ rfl
    · rcases h with rfl | rfl <;> rfl
  have henter (t : State) (b : Bool) : c.same t (if b then t.enterBackward p else t) := by
    split
    · rcases h with rfl | rfl <;> exact (State.enterBackward_evolves ..).same _ rfl
    · rcases h with rfl | rfl <;> rfl
  have hmod (t : State) (g : Part → Part) : c.same t (t.modPart p g) := by rcases h with rfl | rfl <;> rfl
  have hturns (t : State) (m : SMap Nat) : c.same t { t with turns := m } := by rcases h with rfl | rfl <;> rfl
  exact same_trans (same_trans (same_trans hclear (hmod _ _)) (henter _ _)) (hturns _ _)

/-- The descriptor runs with the settings of its beginning. -/
theorem State.beginDesc_running (s : State) (p q : Nat) (f : Slot) (rest : List Slot) (args : List Byte) :
    ((s.beginDesc p q f rest (.inr args)).queue q).running =
      some ⟨f.desc, args, true, none, (s.part p).workAt f.desc args s.regs s.calUser⟩ := by
  have hbegin : s.beginDesc p q f rest (.inr args) = (s.enterDesc p q f).setQueue q { (s.enterDesc p q f).queue q with
      fetched := rest
      running := some ⟨f.desc, args, true, none,
        (s.part p).workAt f.desc args (s.enterDesc p q f).regs (s.enterDesc p q f).calUser⟩ } := rfl
  have hregs : (s.enterDesc p q f).regs = s.regs := s.enterDesc_same p q f .regs (.inl rfl)
  have hcal : (s.enterDesc p q f).calUser = s.calUser := s.enterDesc_same p q f .calUser (.inr rfl)
  rw [hbegin, State.queue_setQueue, hregs, hcal]

theorem Part.workAt_settings (x : Part) (d args : List Byte) (regs : SMap Nat) (cal : SMap Int) :
    (x.workAt d args regs cal).layers = x.layers ∧ (x.workAt d args regs cal).regs = regs ∧
      (x.workAt d args regs cal).cal = cal := by
  unfold Part.workAt
  dsimp only
  split <;> exact ⟨rfl, rfl, rfl⟩

/-- What an eligible queue is. -/
theorem State.eligible_parts {s : State} {p q : Nat} {f : Slot} {rest : List Slot} (h : s.eligible p q (s.queue q) = true)
    (hf : (s.queue q).fetched = f :: rest) : ((s.queue q).stopped == 4) = false ∧ s.queueOn q = true ∧
      s.verdict p (dPhase f.desc) = .go ∧ s.ringOk p q = true := by
  simp only [State.eligible, hf, Bool.and_eq_true, bne_iff_ne, beq_iff_eq] at h
  obtain ⟨⟨⟨⟨⟨⟨-, hstop⟩, hon⟩, -, hgo⟩, hring⟩, -⟩, -⟩ := h
  exact ⟨beq_eq_false_iff_ne.2 hstop, hon, hgo, hring⟩

/-- Settles O11: an eligible head begins as it is, since settling it changes nothing. -/
theorem descriptorsAreFetchedBegunAndGrantedBudget : Obligations.DescriptorsAreFetchedBegunAndGrantedBudget := by
  unfold Obligations.DescriptorsAreFetchedBegunAndGrantedBudget
  refine ⟨fun s q bs hq hin hon hstop hne hlen => ?_, fun s q r f rest args hq => ?_, fun s p c hp hin => ?_⟩
  · obtain ⟨u, hu⟩ : ∃ u, u = s.setQueue q { s.queue q with
        head := ((s.queue q).head + 1) % s.queueSize q
        fetched := (s.queue q).fetched ++ [⟨bs, none, false⟩] } := ⟨_, rfl⟩
    have hexec : exec (.descriptorFetch q (.data bs)) s = .next (u.settle q) := by
      change execDescriptorFetch q (.data bs) s = _
      simp [execDescriptorFetch, onQueue, hq, hin, hon, hstop, hne, hlen, hu]
    obtain ⟨hhead, htail⟩ := u.settle_ends q
    have huq := congrArg (State.queue · q) hu
    simp only [State.queue_setQueue] at huq
    refine ⟨_, hexec, by rw [hhead, huq], by rw [htail, huq], fun hrun => ?_⟩
    have hurun : (u.queue q).running.isSome = true := by rw [huq]; exact hrun
    rw [State.settle_of_running hurun, huq]
  · dsimp only
    intro hin hrun hf hfate hmet hpend helig hturn hargs
    obtain ⟨hstop, hon, hgo, hring⟩ := State.eligible_parts helig hf
    have hsettle := State.settle_of_ready hrun hf hfate hmet hpend hgo
    obtain ⟨u, hu⟩ : ∃ u, u = s.countArgs (s.queuePart q) f.desc := ⟨_, rfl⟩
    have hexec : exec (.descriptorBegin q r) s =
        .next ((u.beginDesc (s.queuePart q) q f rest (.inr args)).settleAll (s.queuePart q)) := by
      change execDescriptorBegin q r s = _
      simp [execDescriptorBegin, onQueue, hq, hin, hsettle, hrun, hf, hon, hmet, hgo, hstop, hring, helig, hturn, hargs, hu]
    have hcount := State.countArgs_evolves s (s.queuePart q) f.desc
    rw [← hu] at hcount
    have hbegun := u.beginDesc_running (s.queuePart q) q f rest args
    rw [part_congr (hcount.same .parts rfl), hcount.same .regs rfl, hcount.same .calUser rfl] at hbegun
    obtain ⟨hlayers, hregs, hcal⟩ := (s.part (s.queuePart q)).workAt_settings f.desc args s.regs s.calUser
    exact ⟨_, hexec, _, running_settleAll _ _ hbegun, rfl, rfl, rfl, rfl, hlayers, hregs, hcal⟩
  · change execBudgetHandover p s = _
    simp only [execBudgetHandover, onQuad, hp, hin, if_true]
    rfl

end Sys2Proof.Machine
end

section
/-! Tiles that sleep, wake and take a vector (R41, R57, R60, R489). -/

namespace Sys2Proof.Machine

open Sys2Proof Sys2Proof.Safety

/-! ### Reading a tile after another changed -/

/-- What a tile holds depends on the tables of tiles alone. -/
theorem tile_congr {s t : State} (h : t.tiles = s.tiles) (hd : t.tileDef = s.tileDef) (i : Nat) : t.tile i = s.tile i := by
  simp only [State.tile, h, hd]

theorem State.tile_modTile (s : State) (t : Nat) (f : Tile → Tile) : (s.modTile t f).tile t = f (s.tile t) :=
  State.tile_setTile ..

/-- A change of one tile that keeps a projection keeps it of every tile. -/
theorem State.modTile_keeps {β : Type} {π : Tile → β} {f : Tile → Tile} (s : State) (t i : Nat) (h : ∀ x, π (f x) = π x) :
    π ((s.modTile t f).tile i) = π (s.tile i) := by
  by_cases e : i = t
  · rw [e, State.tile_modTile, h]
  · exact congrArg π (State.tile_setTile_other _ _ _ _ e)

/-! ### A latched vector -/

section
variable (s : State) (t : Nat) (l : Layer) (load : Nat) (v : Vec)

/-- A latch changes its tile's state and products. -/
theorem State.latch_tile (i : Nat) : (s.latch t l load v).tile i = (s.modTile t fun y =>
    { y with st := .active, prods := y.prods ++ [newProd l v (s.tile t).trim ((s.asBegan v.tok.q).adcUser t)] }).tile i := by
  unfold State.latch
  have hcount := State.countLatch_evolves s t l v
  have hask (u : State) (p : Prod) := State.askSegment_evolves u t l load p
  rw [tile_congr ((hask _ _).same .tiles rfl) ((hask _ _).same .tileDef rfl)]
  refine tile_congr ?_ ?_ i
  · simp only [State.modTile, State.setTile, tile_congr (hcount.same .tiles rfl) (hcount.same .tileDef rfl),
      (show _ = s.tiles from hcount.same .tiles rfl)]
  · exact hcount.same .tileDef rfl

end

/-- The vector that waits longest at a tile, once the tile may latch it or not. -/
theorem execVectorLatch_run {s : State} {t p i : Nat} {l0 l : Layer} {e : TileEntry} {v : Vec} {rest : List Vec}
    (ht : tileExists t = true) (hrole : s.role t = some (p, l0, i, e)) (hphys : s.physTile e.tile = t)
    (hslots : (s.tile e.tile).slots = v :: rest) (htok : s.tokLayer v.tok = some l) :
    exec (.vectorLatch t) s = .next (if s.mayLatch l e then
      (State.assemble ((((s.popSlot e.tile).latch t l e.load v).tile e.tile).pieces.length) e.tile
        ((s.popSlot e.tile).latch t l e.load v)).settleRoads.settleTile t else s) := by
  change execVectorLatch t s = _
  have hhead : (s.slotsOf t).head? = some v := by simp [State.slotsOf, hrole, hphys, hslots]
  simp only [execVectorLatch, onTile, ht, if_true, hrole, hhead, htok]
  split <;> rfl

/-- Settles O19: the latch is `State.latch` of the state without the vector. -/
theorem latchedVectorEntersRowDriversOrWaits : Obligations.LatchedVectorEntersRowDriversOrWaits := by
  unfold Obligations.LatchedVectorEntersRowDriversOrWaits
  intro s t p i l0 l e v rest
  dsimp only
  intro ht hrole hphys hslots htok
  have hexec := execVectorLatch_run ht hrole hphys hslots htok
  have hmay : s.mayLatch l e = true ↔
      ((s.tile t).st = .idle ∨ (s.tile t).st = .active) ∧ (s.tile t).driving = false ∧ s.outRoom l e = true := by
    simp [State.mayLatch, hphys, and_assoc]
  refine ⟨fun h => ?_, fun h => ?_⟩
  · rw [if_pos (hmay.2 h)] at hexec
    refine ⟨_, hexec, _, rfl, ?_, ?_, ?_⟩
    · rw [State.latch_tile, State.tile_modTile]
    · refine (congrArg Tile.slots (State.latch_tile ..)).trans ((State.modTile_keeps (π := Tile.slots) _ _ _ ?_).trans ?_)
      · exact fun _ => rfl
      rw [State.popSlot, State.tile_modTile, hslots]
      rfl
    · rw [State.latch_tile, State.tile_modTile]
      have hprods : ((s.popSlot e.tile).tile t).prods = (s.tile t).prods := State.modTile_keeps _ _ _ fun _ => rfl
      have htrim : ((s.popSlot e.tile).tile t).trim = (s.tile t).trim := State.modTile_keeps _ _ _ fun _ => rfl
      have huser : ((s.popSlot e.tile).asBegan v.tok.q).adcUser t = (s.asBegan v.tok.q).adcUser t := by
        unfold State.asBegan
        change State.adcUser (match (s.queue v.tok.q).running with | some r => _ | none => _) t = _
        cases (s.queue v.tok.q).running with
        | none => rfl
        | some r => cases hb : r.began <;> simp only [hb] <;> rfl
      rw [hprods, htrim, huser]
  · rw [if_neg (mt hmay.1 h)] at hexec
    exact hexec

/-! ### Sleeping and waking -/

theorem exec_idleTimeout {s : State} {t : Nat} (ht : tileExists t = true) : exec (.idleTimeout t) s =
    .next (if s.tileFree t = true ∧ s.regf 0 (tileDie t) 0x40 0 16 ≠ 0 ∧ s.regf 0 (tileDie t) 0x40 16 1 = 1
      then s.modTile t fun y => { y with st := .sleep } else s) := by
  change execIdleTimeout t s = _
  simp only [execIdleTimeout, onTile, ht, if_true, Bool.and_eq_true, bne_iff_ne, beq_iff_eq, and_assoc]
  split <;> rfl

/-- A refresh that may begin keeps its tile from being free. -/
theorem State.tileFree_of_refreshMay {s : State} {t : Nat} (h : s.refreshMay t = true) : s.tileFree t = false := by
  simp [State.tileFree, h]

/-- Something is to be written at a tile. -/
def State.writeWaits (s : State) (t : Nat) : Bool :=
  (s.tile t).programWork || ((s.role t).map fun r => !(s.tile r.2.2.2.tile).orders.isEmpty).getD false

theorem State.writeWaits_iff (s : State) (t : Nat) : s.writeWaits t = true ↔
    ((s.tile t).programWork = true ∨ ∃ r, s.role t = some r ∧ (s.tile r.2.2.2.tile).orders ≠ []) := by
  unfold State.writeWaits
  cases s.role t <;> simp

theorem exec_tileWakeDone {s : State} {t : Nat} (ht : tileExists t = true) : exec (.tileWakeDone t) s =
    .next (if (s.tile t).waking && ((s.tile t).st == .sleep || (s.tile t).st == .off) then
      (s.setTile t { s.tile t with
        st := if s.writeWaits t && (s.slotsOf t).isEmpty then .program else .idle
        waking := false }).settleRoads else s) := by
  change execTileWakeDone t s = _
  simp only [execTileWakeDone, onTile, ht, if_true]
  split <;> rfl

/-- The wake that a die admits next is of the first class that waits (R489). -/
theorem Gate.nextWake_first {g : Gate} {w : WakeReq} (h : g.nextWake = some w) : ∀ v ∈ g.wakes,
    (v.cls = 1 → w.cls = 1) ∧ (v.cls = 2 → w.cls = 1 ∨ w.cls = 2) := by
  intro v hv
  unfold Gate.nextWake at h
  cases h1 : g.wakes.find? (·.cls == 1) with
  | some a =>
    rw [h1] at h
    cases h
    have ha : w.cls = 1 := by simpa using List.find?_some h1
    exact ⟨fun _ => ha, fun _ => .inl ha⟩
  | none =>
    rw [h1] at h
    have hnone : v.cls ≠ 1 := by simpa using List.find?_eq_none.1 h1 v hv
    refine ⟨fun e => absurd e hnone, fun e => ?_⟩
    cases h2 : g.wakes.find? (·.cls == 2) with
    | some a =>
      rw [h2] at h
      cases h
      exact .inr (by simpa using List.find?_some h2)
    | none => exact absurd e (by simpa using List.find?_eq_none.1 h2 v hv)

/-- A die's gate in the current microsecond: another one counts its wakes afresh. -/
def State.wakeGate (s : State) (d : Nat) : Gate :=
  if (s.gate d).wakeAt = s.ltime / 1000 then s.gate d else { s.gate d with wakeAt := s.ltime / 1000, wakeN := 0 }

theorem exec_wakeAdmit {s : State} {d : Nat} {w : WakeReq} (hd : d < 8) (hnext : (s.wakeGate d).nextWake = some w) :
    exec (.wakeAdmit d) s = .next (
      if (s.wakeGate d).wakeN < 256 then
        (s.setGate d { s.wakeGate d with
          wakes := removeFirst w (s.wakeGate d).wakes
          wakeN := (s.wakeGate d).wakeN + 1 }).modTile w.tile fun t => { t with waking := true, wake := 0 }
      else (s.setGate d { s.wakeGate d with wakes := (s.wakeGate d).wakes.map fun r => { r with waited := true } }).count 0 d
        0xB8 16 ((s.wakeGate d).wakes.filter fun r => !r.waited).length) := by
  change execWakeAdmit d s = _
  rw [execWakeAdmit, onDie, if_pos hd]
  change (match (s.wakeGate d).nextWake with | none => _ | some w => _) = _
  rw [hnext]
  exact (apply_ite Host.Outcome.next _ _ _).symm

/-- Settles O23: each clause is a branch of its command, and `Gate.nextWake` takes the classes in order. -/
theorem tilesSleepAndWakeInOrder : Obligations.TilesSleepAndWakeInOrder := by
  unfold Obligations.TilesSleepAndWakeInOrder
  refine ⟨fun s t ht => ⟨exec_idleTimeout ht, State.tileFree_of_refreshMay, ?_⟩, fun s d w hd => ?_⟩
  · dsimp only
    rw [exec_tileWakeDone ht]
    simp only [← State.writeWaits_iff]
    refine ⟨fun hwake hst => ⟨fun hwork hslots => ?_, fun hno => ?_⟩, fun h => ?_⟩
    · simp [hwake, hst, hwork, hslots]
    · have hno' : (s.writeWaits t && (s.slotsOf t).isEmpty) = false := by
        simpa [Bool.and_eq_false_iff] using hno
      simp [hwake, hst, hno']
    · rw [if_neg]
      simpa [Decidable.imp_iff_not_or, not_or] using h
  · dsimp only
    intro hnext
    have hexec := exec_wakeAdmit hd hnext
    refine ⟨Gate.nextWake_first hnext, fun hn => ?_, fun hn => ?_⟩
    · rw [if_pos (show (s.wakeGate d).wakeN < 256 from hn)] at hexec
      refine ⟨_, hexec, ?_, State.gate_setGate .., State.tile_modTile ..⟩
      intro c hc
      revert hc
      cases c <;> first | exact fun _ => rfl | simp
    · rw [if_neg (Nat.not_lt.2 (show 256 ≤ (s.wakeGate d).wakeN from hn))] at hexec
      exact hexec

end Sys2Proof.Machine
end

section
/-! Rail budgets and the power brake (R480, R491, R516). -/

namespace Sys2Proof.Machine

open Sys2Proof Sys2Proof.Safety

/-! ### Changing the listed entries of a table -/

/-- The listed entries of a table changed in turn, each at its key. -/
def tchange {α : Type} (d : α) (f : α → α) (key : Nat → Nat) (l : List Nat) (m : SMap α) : SMap α :=
  l.foldl (fun m i => tput m (key i) (f (tget d m (key i)))) m

/-- A change that is the same done twice, applied to listed entries: each of them takes it, and no other. -/
theorem tget_tchange {α : Type} (d : α) {f : α → α} (hf : ∀ x, f (f x) = f x) (key : Nat → Nat) (n : Nat) (l : List Nat)
    (m : SMap α) : tget d (tchange d f key l m) n = if n ∈ l.map key then f (tget d m n) else tget d m n := by
  unfold tchange
  induction l generalizing m with
  | nil => simp
  | cons i l ih =>
    rw [List.foldl_cons, ih]
    by_cases e : n = key i
    · simp only [e, tget_tput_self, hf, List.map_cons, List.mem_cons, true_or, if_true, ite_self]
    · simp only [tget_tput_other _ _ e, List.map_cons, List.mem_cons, e, false_or]

/-- A die whose clock skip follows from its share of power. -/
def Die.skipBy (g : Nat → Nat) (x : Die) : Die := { x with skip := g x.share }
/-- A stack that is slowed or not. -/
def Stack.slowBy (b : Bool) (x : Stack) : Stack := { x with slowed := b }
theorem Die.skipBy_twice (g : Nat → Nat) (x : Die) : (x.skipBy g).skipBy g = x.skipBy g := rfl
theorem Stack.slowBy_twice (b : Bool) (x : Stack) : (x.slowBy b).slowBy b = x.slowBy b := rfl

/-- Setting the clock skip of each listed die by its share of power changes the table of dies alone. -/
theorem State.foldl_skip (g : Nat → Nat) (kind : Nat) (l : List Nat) (s : State) :
    l.foldl (fun t d => t.setDie kind d { t.die kind d with skip := g (t.die kind d).share }) s =
      { s with dies := tchange Die.reset (Die.skipBy g) (kind * 8 + ·) l s.dies } := by
  induction l generalizing s with
  | nil => rfl
  | cons d l ih => exact ih _

theorem State.foldl_slowed (b : Bool) (l : List Nat) (s : State) :
    l.foldl (fun t m => t.setStack m { t.stack m with slowed := b }) s =
      { s with hbm := tchange Stack.reset (Stack.slowBy b) id l s.hbm } := by
  induction l generalizing s with
  | nil => rfl
  | cons m l ih => exact ih _

/-! ### The clock skip of a budget (R480) -/

/-- The skip is the least of 0 to 12 that brings the draw within the budget, or 12. -/
theorem skipFor_least (drawn budget : Nat) : skipFor drawn budget ≤ 12 ∧
    (skipFor drawn budget < 12 → drawn * (16 - skipFor drawn budget) ≤ 16 * budget) ∧
    ∀ j, j < skipFor drawn budget → 16 * budget < drawn * (16 - j) := by
  unfold skipFor
  cases h : (List.range 13).find? fun k => drawn * (16 - k) ≤ 16 * budget with
  | none =>
    refine ⟨Nat.le_refl _, fun h12 => absurd h12 (Nat.lt_irrefl _), fun j hj => ?_⟩
    have hno := List.find?_eq_none.1 h j (List.mem_range.2 (Nat.lt_trans hj (by decide)))
    simpa using hno
  | some k =>
    obtain ⟨hk, hmem, hbefore⟩ := List.find?_range_eq_some.1 h
    refine ⟨Nat.le_of_lt_succ (List.mem_range.1 hmem), fun _ => by simpa using hk, fun j hj => ?_⟩
    simpa using hbefore j hj

/-! ### RAIL_MEASURE -/

/-- A partition's part of a whole module's power in mW, halved under the brake. -/
def State.railShare (s : State) (p w : Nat) : Nat := w * 1000 * (s.part p).quads.length / 4 / (if s.brake then 2 else 1)

/-- The dies after a measurement, and the stacks of the partition. -/
def State.railDies (s : State) (p gw mw : Nat) : SMap Die :=
  tchange Die.reset (Die.skipBy fun sh => if sh < 320 then skipFor mw (s.railShare p (s.part p).budget.2.2 * sh / 320) else 0)
    (2 * 8 + ·) ((s.part p).dies 2)
    (tchange Die.reset (Die.skipBy fun sh => skipFor gw (s.railShare p (s.part p).budget.2.1 * sh / 320)) (1 * 8 + ·)
      ((s.part p).dies 1) s.dies)
def State.railStacks (s : State) (p : Nat) (slow : Bool) : SMap Stack :=
  tchange Stack.reset (Stack.slowBy slow) id ((s.part p).quads.flatMap fun q => (List.range 6).map (6 * q + ·)) s.hbm
/-- What the array tolls of the partition's dies amount to in the last window. -/
def State.railArray (s : State) (p : Nat) : Nat := (((s.part p).dies 0).map fun d => (s.gate d).prev / 1000).sum

theorem exec_railMeasure {s : State} {p : Nat} (hp : p < 4) (hst : (s.part p).st ≠ .absent) (gw mw : Nat) :
    exec (.railMeasure p gw mw) s = .next (
      let scrubs := (s.part p).st == .scrubbing
      let slow : Bool := s.railShare p (s.part p).budget.2.2 < (if scrubs then gw + mw + s.railArray p else mw)
      let drawn := if scrubs then s.railShare p scrubCap * (950 + s.freeVal.toNat % 101) / 1000 else gw + mw + s.railArray p
      State.modPart { (if scrubs then s.useFree else s) with dies := s.railDies p gw mw, hbm := s.railStacks p slow } p
        fun y => { y with powerMw := drawn }) := by
  change execRailMeasure p gw mw s = _
  simp only [execRailMeasure, onQuad, if_pos hp, if_neg hst]
  cases hs : (s.part p).st == .scrubbing
  all_goals
    simp only [if_true, if_false, Bool.false_eq_true, State.dieShare]
    rw [State.foldl_skip (fun sh => skipFor gw (_ * sh / 320)), State.foldl_skip fun sh => if sh < 320 then skipFor mw (_ * sh / 320) else 0,
      State.foldl_slowed]
    rfl

/-- A gradient die of the partition skips as its share of the gradient budget asks. -/
theorem State.railDies_gradient {s : State} {p gw mw d : Nat} (hd : d < 8) (hmem : d ∈ (s.part p).dies 1) :
    tget Die.reset (s.railDies p gw mw) (1 * 8 + d) =
      { s.die 1 d with skip := skipFor gw (s.dieShare 1 d (s.railShare p (s.part p).budget.2.1)) } := by
  have hhub : 1 * 8 + d ∉ ((s.part p).dies 2).map (2 * 8 + ·) := by
    intro hin
    obtain ⟨i, -, hi⟩ := List.mem_map.1 hin
    omega
  rw [State.railDies, tget_tchange _ (Die.skipBy_twice _), if_neg hhub, tget_tchange _ (Die.skipBy_twice _),
    if_pos (List.mem_map.2 ⟨d, hmem, rfl⟩)]
  rfl

/-- A hub die of the partition skips as its share of the memory budget asks, but only while it is throttled. -/
theorem State.railDies_hub {s : State} {p gw mw d : Nat} (hmem : d ∈ (s.part p).dies 2) :
    tget Die.reset (s.railDies p gw mw) (2 * 8 + d) = { s.die 2 d with
      skip := if (s.die 2 d).share < 320 then skipFor mw (s.dieShare 2 d (s.railShare p (s.part p).budget.2.2)) else 0 } := by
  rw [State.railDies, tget_tchange _ (Die.skipBy_twice _), if_pos (List.mem_map.2 ⟨d, hmem, rfl⟩), tget_tchange _ (Die.skipBy_twice _)]
  split <;> rfl

theorem State.railStacks_of_mem {s : State} {p m : Nat} (hm : m / 6 ∈ (s.part p).quads) (slow : Bool) :
    tget Stack.reset (s.railStacks p slow) m = { s.stack m with slowed := slow } := by
  rw [State.railStacks, tget_tchange _ (Stack.slowBy_twice _), if_pos]
  · rfl
  · rw [List.map_id, List.mem_flatMap]
    exact ⟨m / 6, hm, List.mem_map.2 ⟨m % 6, List.mem_range.2 (Nat.mod_lt m (by decide)), Nat.div_add_mod m 6⟩⟩

/-! ### The power brake -/

theorem exec_powerBrakeAssert (s : State) : exec .powerBrakeAssert s = .next (if s.brake then s
    else ({ s.emptyBuckets with brake := true }).raiseAll allQuads evPowerBrake [(24, 1, 1)]) :=
  (apply_ite Host.Outcome.next _ _ _).symm
theorem exec_powerBrakeRelease (s : State) : exec .powerBrakeRelease s = .next (if s.brake then
    ({ s.emptyBuckets with brake := false }).raiseAll allQuads evPowerBrake [(24, 1, 0)] else s) :=
  (apply_ite Host.Outcome.next _ _ _).symm
theorem State.raiseAll_brake (s : State) (qs : List Nat) (code : Nat) (fs : List (Nat × Nat × Nat)) :
    (s.raiseAll qs code fs).brake = s.brake := (State.raiseAll_evolves ..).same .brake rfl
theorem State.raiseAll_gates (s : State) (qs : List Nat) (code : Nat) (fs : List (Nat × Nat × Nat)) :
    (s.raiseAll qs code fs).gates = s.gates := (State.raiseAll_evolves ..).same .gates rfl

/-- Settles O25: the measurement is a change of the tables of dies and stacks, whose skips are `skipFor`. -/
theorem railBudgetsAndBrakeHold : Obligations.RailBudgetsAndBrakeHold := by
  unfold Obligations.RailBudgetsAndBrakeHold
  refine ⟨fun s p gw mw d m hp hst => ?_, fun s => ⟨fun h => ?_, fun h => ?_, fun h => ?_, fun h => ?_⟩⟩
  · obtain ⟨hmax, hfits, hleast⟩ := skipFor_least gw (s.dieShare 1 d (s.railShare p (s.part p).budget.2.1))
    refine ⟨hmax, hfits, hleast, _, exec_railMeasure hp hst gw mw, fun hd hmem => State.railDies_gradient hd hmem,
      fun hmem => State.railDies_hub hmem, fun _ hm => ?_, fun hno => ?_, fun hyes => ?_⟩
    · refine (State.railStacks_of_mem hm _).trans ?_
      simp only [beq_iff_eq]
      rfl
    · have hno' : ((s.part p).st == .scrubbing) = false := by simpa using hno
      refine ⟨?_, fun c hc => ?_⟩
      · rw [State.modPart, State.part_setPart, hno']
        rfl
      · rw [hno']
        revert hc
        cases c <;> first | exact fun _ => rfl | simp
    · have hyes' : ((s.part p).st == .scrubbing) = true := by simpa using hyes
      have hpower : ∀ r, r < 101 → s.railShare p scrubCap * 950 / 1000 ≤ s.railShare p scrubCap * (950 + r) / 1000 ∧
          s.railShare p scrubCap * (950 + r) / 1000 ≤ s.railShare p scrubCap * 1050 / 1000 := fun r hr =>
        ⟨Nat.div_le_div_right (Nat.mul_le_mul_left _ (by omega)), Nat.div_le_div_right (Nat.mul_le_mul_left _ (by omega))⟩
      obtain ⟨hlo, hhi⟩ := hpower (s.freeVal.toNat % 101) (Nat.mod_lt _ (by decide))
      dsimp only
      rw [State.modPart, State.part_setPart, hyes']
      refine ⟨hlo, hhi, fun c hc => ?_⟩
      revert hc
      cases c <;> first | exact fun _ => rfl | simp
  · rw [Answers, exec_powerBrakeAssert, if_neg (by simp [h])]
    exact ⟨_, rfl, State.raiseAll_brake .., State.raiseAll_gates ..⟩
  · rw [Answers, exec_powerBrakeRelease, if_pos h]
    exact ⟨_, rfl, State.raiseAll_brake .., State.raiseAll_gates ..⟩
  · rw [exec_powerBrakeAssert, if_pos h]
  · rw [exec_powerBrakeRelease, if_neg (by simp [h])]

end Sys2Proof.Machine
end

section
/-! Heat and faults that take the power away (R491, R492, R496). -/

namespace Sys2Proof.Machine

open Sys2Proof Sys2Proof.Safety

/-! ### A die below the trip (R491) -/

theorem State.die_setDie (s : State) (kind d : Nat) (x : Die) : (s.setDie kind d x).die kind d = x := by
  simp [State.die, State.setDie]

theorem State.throttleEvent_die (s : State) (kind d : Nat) (on : Bool) (k j : Nat) :
    (s.throttleEvent kind d on).die k j = s.die k j :=
  congrArg (tget Die.reset · (k * 8 + j)) ((State.throttleEvent_evolves ..).same .dies rfl)

/-- A sample leaves the die with the reading and the share of power of that temperature. -/
theorem State.dieSample_die (s : State) (kind d : Nat) (t : Int) :
    ((s.dieSample kind d t).die kind d).temp = t ∧ ((s.dieSample kind d t).die kind d).share = shareOf t := by
  unfold State.dieSample
  dsimp only
  generalize (if 1472 ≤ t then s.ltime else (s.die kind d).hotAt) = hot
  split
  · rw [State.throttleEvent_die, State.die_setDie]
    exact ⟨rfl, rfl⟩
  · split
    · rw [State.throttleEvent_die, State.die_setDie]
      exact ⟨rfl, rfl⟩
    · split
      · rw [State.throttleEvent_die, State.die_setDie]
        exact ⟨rfl, rfl⟩
      · rw [State.die_setDie]
        exact ⟨rfl, rfl⟩

theorem shareOf_cast (t : Int) : (shareOf t : Int) = if t < 1520 then 320 else if t ≤ 1680 then 320 - (t - 1520) else 80 := by
  unfold shareOf
  split
  · rfl
  · split
    · omega
    · rfl

theorem exec_dieTempSample {s : State} {k : DieKind} {d i : Nat} {t : Int} {sensors : List Int} (hd : d < dieCount k)
    (hp : s.powered = true) (hhot : s.hottest (kindCode k) d sensors 0 = some (t, i)) :
    exec (.dieTempSample k d sensors) s =
      .next (if 1760 ≤ t then s.trip (kindCode k) d i t else s.dieSample (kindCode k) d t) := by
  change execDieTempSample k d sensors s = _
  simp only [execDieTempSample, onDie, hd, if_true, hhot, hp, Bool.not_true, Bool.false_eq_true, if_false]
  split <;> rfl

/-! ### What a fault takes (R496) -/

/-- The volatile state is lost; the far tier, the fuses, the calibration and what is kept of tiles and scrubs stay. -/
structure PoweredDown (s t : State) : Prop where
  powered : t.powered = false
  parts : t.parts = []
  queues : t.queues = []
  wayposts : t.wayposts = []
  slab : t.slab = []
  mem : ∀ a, memByte t.mem a = if farBase ≤ a then memByte s.mem a else 0
  sec : t.sec = s.sec
  calUser : t.calUser = s.calUser
  calFactory : t.calFactory = s.calFactory
  retire : t.retire = s.retire
  scrubs : t.scrubs = s.scrubs

/-- Only the far tier's bytes are left. -/
theorem memByte_farTier {m : List Host.Cell} (h : Memory.wf m = true) (a : Nat) :
    memByte (m.filter fun c => farBase ≤ c.1) a = if farBase ≤ a then memByte m a else 0 := by
  have hsorted := (Bool.and_eq_true_iff.1 h).1
  rw [memByte, tget, tfind_filter (fun i => decide (farBase ≤ i)) a hsorted]
  by_cases ha : farBase ≤ a
  · simp [ha, memByte, tget]
  · simp [ha, memDefault]

theorem State.mgmtRecord_same (s : State) (code : Nat) (fs : List (Nat × Nat × Nat)) (c : Comp) (hf : c ≠ .free)
    (hm : c ≠ .mgmt) : c.same s (s.mgmtRecord code fs) := by
  refine (State.mgmtRecord_evolves s code fs).same c ?_
  revert hf hm
  cases c <;> decide

/-- The data plane goes down after the record of why. -/
theorem poweredDown_mgmtRecord {s : State} (h : MemoryOk s) (code : Nat) (fs : List (Nat × Nat × Nat)) :
    PoweredDown s (s.mgmtRecord code fs).powerDown where
  powered := rfl
  parts := rfl
  queues := rfl
  wayposts := rfl
  slab := rfl
  mem a := by
    have hmem : (s.mgmtRecord code fs).mem = s.mem := s.mgmtRecord_same code fs .mem nofun nofun
    exact hmem ▸ memByte_farTier (hmem.symm ▸ h.1) a
  sec := s.mgmtRecord_same code fs .sec nofun nofun
  calUser := s.mgmtRecord_same code fs .calUser nofun nofun
  calFactory := s.mgmtRecord_same code fs .calFactory nofun nofun
  retire := s.mgmtRecord_same code fs .retire nofun nofun
  scrubs := s.mgmtRecord_same code fs .scrubs nofun nofun

theorem exec_clockFault {s : State} {k : DieKind} {d : Nat} (hd : d < dieCount k) (hi : s.input = true) (hp : s.powered = true)
    (hr : s.mgmt.recovery = false) (source : Nat) (ppm : Int) : ∃ code fs, ∃ m : Mgmt, m.tripped = true ∧
      exec (.clockFault k d source ppm) s = .next { (s.mgmtRecord code fs).powerDown with mgmt := m } := by
  have hp' (code : Nat) (fs : List (Nat × Nat × Nat)) : (s.mgmtRecord code fs).powered = true :=
    (s.mgmtRecord_same code fs .powered nofun nofun).trans hp
  obtain ⟨fs, hfs⟩ : ∃ fs, fs = [(24, 1, if source = 1 then 0xFF else dieByte (kindCode k) d), (25, 1, source),
    (28, 4, if source = 1 then unsigned 32 ppm else 0)] := ⟨_, rfl⟩
  refine ⟨evClockFault, fs, { (s.mgmtRecord evClockFault fs).powerDown.mgmt with
    clockAt := some s.stbyNs, tripped := true, booting := false, bootFrom := 0 }, rfl, ?_⟩
  change execClockFault k d source ppm s = _
  rw [execClockFault, onDie, if_pos hd]
  simp only [← hfs, if_true, hi, hr, hp', Bool.not_true, Bool.or_self, Bool.false_eq_true, if_false]

theorem exec_inputFault {s : State} (hi : s.input = true) (hp : s.powered = true) (above : Bool) (centivolts : Nat) :
    ∃ code fs, exec (.inputFault above centivolts) s =
      .next { (s.mgmtRecord code fs).powerDown with input := false } := by
  have hp' (code : Nat) (fs : List (Nat × Nat × Nat)) : (s.mgmtRecord code fs).powered = true :=
    (s.mgmtRecord_same code fs .powered nofun nofun).trans hp
  refine ⟨evInputFault, [(24, 1, b2n above), (26, 2, centivolts)], ?_⟩
  change execInputFault above centivolts s = _
  simp only [execInputFault, hi, hp', Bool.not_true, Bool.false_eq_true, if_false, if_true]

/-- Settles O26: the die's sample and the loss of power are `State.dieSample` and `State.powerDown`. -/
theorem heatAndFaultsTakePowerAway : Obligations.HeatAndFaultsTakePowerAway := by
  unfold Obligations.HeatAndFaultsTakePowerAway
  refine ⟨fun s k d i t sensors hd hp hhot => ⟨fun hcool => ?_, fun hhigh => ?_⟩,
    fun s k d source centivolts ppm above hd hi hp hmem => ?_⟩
  · obtain ⟨htemp, hshare⟩ := s.dieSample_die (kindCode k) d t
    have hexec := exec_dieTempSample hd hp hhot
    rw [if_neg (show ¬ 1760 ≤ t by omega)] at hexec
    exact ⟨_, hexec, htemp, ((State.dieSample_evolves ..).same .powered rfl).trans hp, hshare ▸ shareOf_cast t⟩
  · refine ⟨_, exec_dieTempSample hd hp hhot, ?_⟩
    rw [if_pos hhigh]
    exact ⟨rfl, rfl, rfl, rfl⟩
  · dsimp only
    have hdown (code fs) := poweredDown_mgmtRecord hmem code fs
    refine ⟨fun hr => ?_, ?_⟩
    · obtain ⟨code, fs, m, htrip, hexec⟩ := exec_clockFault hd hi hp hr source ppm
      obtain ⟨h1, h2, h3, h4, h5, h6, h7, h8, h9, h10, h11⟩ := hdown code fs
      exact ⟨_, hexec, ⟨h1, h2, h3, h4, h5, h6, h7, h8, h9, h10, h11⟩,
        (s.mgmtRecord_same code fs .input nofun nofun).trans hi, htrip⟩
    · obtain ⟨code, fs, hexec⟩ := exec_inputFault hi hp above centivolts
      obtain ⟨h1, h2, h3, h4, h5, h6, h7, h8, h9, h10, h11⟩ := hdown code fs
      exact ⟨_, hexec, ⟨h1, h2, h3, h4, h5, h6, h7, h8, h9, h10, h11⟩, rfl⟩

end Sys2Proof.Machine
end

section
/-! What is stored at a place: the bytes of separate writes, and the rows of a tensor (R11, R272, R301). -/

namespace Sys2Proof.Machine

open Sys2Proof Sys2Proof.Safety

/-! ### Bytes at offsets from a place -/

/-- The byte at an offset from a place of device memory or slab. -/
def State.byteAt (s : State) (pl : Place) (i : Nat) : Byte :=
  match pl with
  | .dev a => memByte s.mem (a + i)
  | .slab a => memByte s.slab (a + i)
  | .host _ => 0

/-- The bytes at an offset from a place. -/
def State.bytesAt (s : State) (pl : Place) (o n : Nat) : List Byte := (List.range n).map fun i => s.byteAt pl (o + i)

theorem State.readAt_eq_bytesAt (s : State) (pl : Place) (n : Nat) : s.readAt pl n = s.bytesAt pl 0 n := by
  cases pl <;> simp [State.readAt, State.bytesAt, State.byteAt, memRead, List.map_const']

theorem State.readAt_plus (s : State) (pl : Place) (o n : Nat) : s.readAt (pl.plus o) n = s.bytesAt pl o n := by
  cases pl <;> simp [State.readAt, State.bytesAt, State.byteAt, memRead, Place.plus, Nat.add_assoc, List.map_const']

theorem State.bytesAt_add (s : State) (pl : Place) (o m n : Nat) :
    s.bytesAt pl o (m + n) = s.bytesAt pl o m ++ s.bytesAt pl (o + m) n := by
  simp [State.bytesAt, List.range_add, Nat.add_assoc, Function.comp_def]

theorem State.bytesAt_congr {s t : State} {pl : Place} {o n : Nat} (h : ∀ i, i < n → t.byteAt pl (o + i) = s.byteAt pl (o + i)) :
    t.bytesAt pl o n = s.bytesAt pl o n := List.map_congr_left fun i hi => h i (List.mem_range.1 hi)

theorem State.byteAt_congr {s t : State} (hmem : t.mem = s.mem) (hslab : t.slab = s.slab) (pl : Place) (i : Nat) :
    t.byteAt pl i = s.byteAt pl i := by cases pl <;> simp only [State.byteAt, hmem, hslab]

/-! ### Separate writes -/

/-- Two writes at offsets that share no byte. -/
def Apart (v w : Nat × List Byte) : Prop := v.1 + v.2.length ≤ w.1 ∨ w.1 + w.2.length ≤ v.1

/-- A place of device memory or slab whose stacks are online over `n` bytes. -/
structure Open (s : State) (pl : Place) (n : Nat) : Prop where
  local_ : pl.isHost = false
  online : ∀ a, pl = .dev a → s.offline a n = false

/-- From `s`, the writes `ws` at offsets within `n` bytes of a place have been made, and nothing else was written. -/
structure Scattered (s t : State) (pl : Place) (n : Nat) (ws : List (Nat × List Byte)) : Prop where
  ok : MemoryOk t
  hbm : t.hbm = s.hbm
  outside : Outside s t pl n
  holds : ∀ w ∈ ws, t.bytesAt pl w.1 w.2.length = w.2

theorem outside_refl (s : State) (pl : Place) (n : Nat) : Outside s s pl n := by
  cases pl
  · exact ⟨fun _ _ => rfl, rfl, rfl⟩
  · exact ⟨fun _ _ => rfl, rfl, rfl⟩
  · exact ⟨rfl, rfl⟩

theorem outside_trans {s t u : State} {pl : Place} {n : Nat} (h : Outside s t pl n) (k : Outside t u pl n) :
    Outside s u pl n := by
  cases pl with
  | dev a =>
    obtain ⟨h1, h2, h3⟩ := h
    obtain ⟨k1, k2, k3⟩ := k
    exact ⟨fun b hb => (k1 b hb).trans (h1 b hb), k2.trans h2, k3.trans h3⟩
  | slab a =>
    obtain ⟨h1, h2, h3⟩ := h
    obtain ⟨k1, k2, k3⟩ := k
    exact ⟨fun b hb => (k1 b hb).trans (h1 b hb), k2.trans h2, k3.trans h3⟩
  | host a =>
    obtain ⟨h1, h2⟩ := h
    obtain ⟨k1, k2⟩ := k
    exact ⟨k1.trans h1, k2.trans h2⟩

theorem outside_of_untouched {s t : State} (h : Untouched s t) (pl : Place) (n : Nat) : Outside s t pl n := by
  obtain ⟨hm, hl, ho⟩ := h
  cases pl
  · exact ⟨fun b _ => congrArg (memByte · b) hm, hl, ho⟩
  · exact ⟨fun b _ => congrArg (memByte · b) hl, hm, ho⟩
  · exact ⟨hm, hl⟩

/-- A write to device memory or slab at an offset. -/
theorem State.writeAt_effect {s : State} (hok : MemoryOk s) (fn : Nat) {pl : Place} {n o : Nat} {bs : List Byte}
    (hopen : Open s pl n) (hin : o + bs.length ≤ n) :
    MemoryOk (s.writeAt fn (pl.plus o) bs) ∧ Outside s (s.writeAt fn (pl.plus o) bs) pl n ∧
      (s.writeAt fn (pl.plus o) bs).bytesAt pl o bs.length = bs ∧
      ∀ i, i < o ∨ o + bs.length ≤ i → (s.writeAt fn (pl.plus o) bs).byteAt pl i = s.byteAt pl i := by
  have hev := State.writeAt_evolves s fn (pl.plus o) bs
  have hwrote : Wrote s (s.writeAt fn (pl.plus o) bs) fn (pl.plus o) bs := by
    refine State.wrote_writeAt hok fn fun a ha => ?_
    cases pl with
    | dev b =>
      cases ha
      exact rangeStacks_sub (hopen.online b rfl) (by omega) (by omega)
    | slab b => cases ha
    | host b => cases ha
  obtain ⟨hout, hread⟩ := hwrote
  refine ⟨hev.memory hok, ?_⟩
  have hlocal := hopen.local_
  cases pl with
  | dev b =>
    obtain ⟨hbytes, hslab, hemit⟩ := hout
    refine ⟨⟨fun c hc => hbytes c (by omega), hslab, hemit⟩, ?_, fun i hi => hbytes _ (by omega)⟩
    rw [← State.readAt_plus]
    exact hread
  | slab b =>
    obtain ⟨hbytes, hmem, hemit⟩ := hout
    refine ⟨⟨fun c hc => hbytes c (by omega), hmem, hemit⟩, ?_, fun i hi => hbytes _ (by omega)⟩
    rw [← State.readAt_plus]
    exact hread
  | host b => contradiction

namespace Scattered

theorem refl {s : State} (h : MemoryOk s) (pl : Place) (n : Nat) : Scattered s s pl n [] :=
  ⟨h, rfl, outside_refl s pl n, nofun⟩

/-- What leaves memory, slab, outputs and stacks alone leaves the writes standing. -/
theorem untouched {s t u : State} {pl : Place} {n : Nat} {ws : List (Nat × List Byte)} (h : Scattered s t pl n ws)
    (hu : Untouched t u) (hhbm : u.hbm = t.hbm) : Scattered s u pl n ws := by
  refine ⟨memoryOk_of_untouched hu h.ok, hhbm.trans h.hbm, outside_trans h.outside (outside_of_untouched hu pl n), fun w hw => ?_⟩
  obtain ⟨hm, hl, -⟩ := hu
  rw [State.bytesAt_congr fun i _ => State.byteAt_congr hm hl pl _]
  exact h.holds w hw

/-- One more write, apart from those made. -/
theorem writeAt {s t : State} {pl : Place} {n : Nat} {ws : List (Nat × List Byte)} (h : Scattered s t pl n ws) (fn : Nat)
    (hopen : Open s pl n) {w : Nat × List Byte} (hin : w.1 + w.2.length ≤ n) (hapart : ∀ v ∈ ws, Apart v w) :
    Scattered s (t.writeAt fn (pl.plus w.1) w.2) pl n (ws ++ [w]) := by
  have hopen' : Open t pl n := ⟨hopen.local_, fun a ha => (offline_congr h.hbm a n).trans (hopen.online a ha)⟩
  obtain ⟨hok, hout, hnew, hold⟩ := State.writeAt_effect h.ok fn hopen' hin
  refine ⟨hok, ((State.writeAt_evolves ..).same .hbm rfl).trans h.hbm, outside_trans h.outside hout, fun v hv => ?_⟩
  rcases List.mem_append.1 hv with hv | hv
  · rw [State.bytesAt_congr fun i hi => hold _ ?_]
    · exact h.holds v hv
    · rcases hapart v hv with ha | ha <;> omega
  · cases List.mem_singleton.1 hv
    exact hnew

theorem writeAll {s : State} {pl : Place} {n : Nat} (fn : Nat) (hopen : Open s pl n) {vs : List (Nat × List Byte)} :
    ∀ {ws : List (Nat × List Byte)} {t : State}, Scattered s t pl n ws → (∀ v ∈ vs, v.1 + v.2.length ≤ n) →
      (ws ++ vs).Pairwise Apart → Scattered s (t.writeAll fn pl vs) pl n (ws ++ vs) := by
  induction vs with
  | nil =>
    intro ws t h _ _
    rw [List.append_nil]
    exact h
  | cons v vs ih =>
    intro ws t h hin hpair
    have hnew : Scattered s (t.writeAt fn (pl.plus v.1) v.2) pl n (ws ++ [v]) := by
      refine h.writeAt fn hopen (hin v List.mem_cons_self) fun w hw => ?_
      exact (List.pairwise_append.1 hpair).2.2 w hw v List.mem_cons_self
    change Scattered s ((t.writeAt fn (pl.plus v.1) v.2).writeAll fn pl vs) pl n (ws ++ v :: vs)
    have hrest := ih hnew (fun w hw => hin w (List.mem_cons_of_mem _ hw)) (by simpa using hpair)
    simpa using hrest

end Scattered

/-! ### The bytes of a row (R272) -/

theorem length_natLe (n v : Nat) : (natLe n v).length = n := by
  induction n generalizing v with
  | zero => rfl
  | succ n ih => rw [natLe, List.length_cons, ih]

theorem length_flatMap_of_length {α β : Type} {f : α → List β} {k : Nat} (h : ∀ x, (f x).length = k) (l : List α) :
    (l.flatMap f).length = l.length * k := by
  induction l with
  | nil => simp
  | cons x l ih => rw [List.flatMap_cons, List.length_append, h, ih, List.length_cons, Nat.succ_mul, Nat.add_comm]

theorem chunks_flatten {α : Type} (n : Nat) : ∀ {k : Nat} {xs : List α}, 0 < n → xs.length ≤ k → (chunks n k xs).flatten = xs
  | 0, xs, _, h => by
    rw [List.length_eq_zero_iff.1 (Nat.le_zero.1 h)]
    rfl
  | k + 1, [], _, _ => rfl
  | k + 1, x :: xs, hn, h => by
    have hrest : ((x :: xs).drop n).length ≤ k := by
      rw [List.length_drop]
      omega
    rw [chunks, if_neg (by simp), List.flatten_cons, chunks_flatten n hn hrest, List.take_append_drop]

theorem chunks_length {α : Type} : ∀ {k : Nat} {xs : List α}, xs.length ≤ k → (chunks 32 k xs).length = ceilDiv xs.length 32
  | 0, xs, h => by
    rw [List.length_eq_zero_iff.1 (Nat.le_zero.1 h)]
    simp [chunks, ceilDiv]
  | k + 1, [], _ => by simp [chunks, ceilDiv]
  | k + 1, x :: xs, h => by
    have hrest : ((x :: xs).drop 32).length ≤ k := by
      rw [List.length_drop]
      omega
    rw [chunks, if_neg (by simp), List.length_cons, chunks_length hrest, List.length_drop, ceilDiv, ceilDiv, List.length_cons]
    omega

theorem convBlock_elems_length (five : Bool) (vs : List Word) : (convBlock five vs).elems.length = vs.length := by
  simp [convBlock]

theorem blocks_elems_length (five : Bool) (bs : List (List Word)) :
    ((bs.map (convBlock five)).flatMap (·.elems)).length = bs.flatten.length := by
  induction bs with
  | nil => rfl
  | cons b bs ih =>
    rw [List.map_cons, List.flatMap_cons, List.length_append, ih, convBlock_elems_length, List.flatten_cons, List.length_append]

theorem convRow_elems_length (f : TFmt) (vs : List Word) : (convRow f vs).elems.length = vs.length * f.size := by
  have hblocks (five : Bool) : (((chunk 32 vs).map (convBlock five)).flatMap (·.elems)).length = vs.length * 1 := by
    rw [blocks_elems_length, chunk, chunks_flatten 32 (by decide) (Nat.le_refl _), Nat.mul_one]
  cases f with
  | f32 => exact (length_flatMap_of_length (fun w => length_natLe 4 _) _).trans (by rw [List.length_map, TFmt.size])
  | bf16 => exact length_flatMap_of_length (fun w => length_natLe 2 _) _
  | e4m3 => exact hblocks _
  | e5m2 => exact hblocks _

theorem convRow_scales_length (f : TFmt) (vs : List Word) :
    (convRow f vs).scales.length = if f.blocked then ceilDiv vs.length 32 else 0 := by
  have hblocks (five : Bool) : (((chunk 32 vs).map (convBlock five)).flatMap (·.scales)).length = ceilDiv vs.length 32 := by
    rw [List.flatMap_map, length_flatMap_of_length (k := 1) (fun _ => rfl), Nat.mul_one, chunk, chunks_length (Nat.le_refl _)]
  cases f with
  | f32 => rfl
  | bf16 => rfl
  | e4m3 => exact hblocks _
  | e5m2 => exact hblocks _

/-! ### The rows of a tensor (R272, R301) -/

theorem rowWrites_length {f : TFmt} {rows stride r : Nat} {y : List Word} (hy : y.length = stride) {w : Nat × List Byte}
    (hw : w ∈ rowWrites f rows stride r (convRow f y)) :
    w.1 = r * (stride * f.size) ∧ w.2.length = stride * f.size ∧ w.2 = (convRow f y).elems ∨
      f.blocked = true ∧ w.1 = roadUp (rows * stride) + r * ceilDiv stride 32 ∧ w.2.length = ceilDiv stride 32 ∧
        w.2 = (convRow f y).scales := by
  have helems := convRow_elems_length f y
  have hscales := convRow_scales_length f y
  have hsize : f.blocked = true → f.size = 1 := by cases f <;> simp [TFmt.blocked, TFmt.size]
  unfold rowWrites at hw
  rw [hy] at helems hscales
  split at hw
  · next hb =>
    rw [if_pos hb] at hscales
    rcases List.mem_cons.1 hw with rfl | hw
    · exact .inl ⟨by rw [hsize hb, Nat.mul_one], helems, rfl⟩
    · cases List.mem_singleton.1 hw
      exact .inr ⟨hb, rfl, hscales, rfl⟩
  · cases List.mem_singleton.1 hw
    exact .inl ⟨Nat.mul_assoc .., helems, rfl⟩

theorem le_roadUp (a : Nat) : a ≤ roadUp a := by
  unfold roadUp ceilDiv
  omega

/-- A row's writes lie within its tensor. -/
theorem rowWrites_within {f : TFmt} {rows stride r : Nat} {y : List Word} (hy : y.length = stride) (hr : r < rows)
    {w : Nat × List Byte} (hw : w ∈ rowWrites f rows stride r (convRow f y)) :
    w.1 + w.2.length ≤ tensorBytes f rows stride := by
  have hmul (k : Nat) : r * k + k ≤ rows * k := by
    rw [← Nat.succ_mul]
    exact Nat.mul_le_mul_right k hr
  have hsize : f.blocked = true → f.size = 1 := by cases f <;> simp [TFmt.blocked, TFmt.size]
  rcases rowWrites_length hy hw with ⟨ho, hlen, -⟩ | ⟨hb, ho, hlen, -⟩
  · rw [ho, hlen]
    refine Nat.le_trans (hmul _) ?_
    unfold tensorBytes
    split
    · next hb =>
      rw [hsize hb, Nat.mul_one]
      exact Nat.le_trans (le_roadUp _) (Nat.le_add_right _ _)
    · exact Nat.le_of_eq (Nat.mul_assoc ..).symm
  · rw [ho, hlen, tensorBytes, if_pos hb, Nat.add_assoc]
    exact Nat.add_le_add_left (hmul _) _

/-- Writes of two rows share no byte. -/
theorem rowWrites_apart {f : TFmt} {rows stride r r' : Nat} {y y' : List Word} (hy : y.length = stride)
    (hy' : y'.length = stride) (hlt : r < r') (hr' : r' < rows) {v w : Nat × List Byte}
    (hv : v ∈ rowWrites f rows stride r (convRow f y)) (hw : w ∈ rowWrites f rows stride r' (convRow f y')) : Apart v w := by
  have hmul {i j : Nat} (h : i < j) (k : Nat) : i * k + k ≤ j * k := by
    rw [← Nat.succ_mul]
    exact Nat.mul_le_mul_right k h
  have hsize : f.blocked = true → stride * f.size = stride := by cases f <;> simp [TFmt.blocked, TFmt.size]
  have hroad := le_roadUp (rows * stride)
  unfold Apart
  rcases rowWrites_length hy hv with ⟨ho, hlen, -⟩ | ⟨hb, ho, hlen, -⟩ <;>
    rcases rowWrites_length hy' hw with ⟨ho', hlen', -⟩ | ⟨hb', ho', hlen', -⟩
  · rw [ho, ho', hlen]
    exact .inl (hmul hlt _)
  · rw [ho, ho', hlen, hsize hb']
    have := hmul (Nat.lt_trans hlt hr') stride
    exact .inl (by omega)
  · rw [ho, ho', hlen', hsize hb]
    have := hmul hr' stride
    exact .inr (by omega)
  · rw [ho, ho', hlen]
    have := hmul hlt (ceilDiv stride 32)
    exact .inl (by omega)

/-- A row's own writes share no byte. -/
theorem rowWrites_pairwise {f : TFmt} {rows stride r : Nat} {y : List Word} (hy : y.length = stride) (hr : r < rows) :
    (rowWrites f rows stride r (convRow f y)).Pairwise Apart := by
  have helems := convRow_elems_length f y
  have hmul : r * stride + stride ≤ rows * stride := by
    rw [← Nat.succ_mul]
    exact Nat.mul_le_mul_right stride hr
  have hroad := le_roadUp (rows * stride)
  have hsize : f.blocked = true → stride * f.size = stride := by cases f <;> simp [TFmt.blocked, TFmt.size]
  unfold rowWrites
  split
  · next hb =>
    refine List.pairwise_pair.2 (.inl ?_)
    rw [helems, hy, hsize hb]
    dsimp only
    omega
  · exact List.pairwise_singleton _ _

/-- The writes of all rows from a row number on. -/
def tensorWrites (f : TFmt) (rows stride : Nat) (ys : List (List Word)) (k : Nat) : List (Nat × List Byte) :=
  (ys.zipIdx k).flatMap fun e => rowWrites f rows stride e.2 (convRow f e.1)

theorem tensorWrites_cons (f : TFmt) (rows stride : Nat) (y : List Word) (ys : List (List Word)) (k : Nat) :
    tensorWrites f rows stride (y :: ys) k = rowWrites f rows stride k (convRow f y) ++ tensorWrites f rows stride ys (k + 1) := by
  rw [tensorWrites, List.zipIdx_cons, List.flatMap_cons]
  rfl

/-- A write of the rows from a row number on is one of a row of that number or above. -/
theorem mem_tensorWrites {f : TFmt} {rows stride : Nat} {ys : List (List Word)} {k : Nat} {w : Nat × List Byte}
    (hw : w ∈ tensorWrites f rows stride ys k) :
    ∃ y r, y ∈ ys ∧ k ≤ r ∧ r < k + ys.length ∧ w ∈ rowWrites f rows stride r (convRow f y) := by
  obtain ⟨⟨y, r⟩, he, hw⟩ := List.mem_flatMap.1 hw
  obtain ⟨hlo, hhi, hy⟩ := List.mem_zipIdx he
  exact ⟨y, r, hy ▸ List.getElem_mem _, hlo, hhi, hw⟩

theorem tensorWrites_pairwise {f : TFmt} {rows stride : Nat} {ys : List (List Word)} : ∀ {k : Nat},
    (∀ y ∈ ys, y.length = stride) → k + ys.length ≤ rows → (tensorWrites f rows stride ys k).Pairwise Apart := by
  induction ys with
  | nil => exact fun _ _ => .nil
  | cons y ys ih =>
    intro k hys hk
    rw [List.length_cons] at hk
    have hy := hys y List.mem_cons_self
    have hrest := fun z hz => hys z (List.mem_cons_of_mem y hz)
    rw [tensorWrites_cons]
    refine List.pairwise_append.2 ⟨rowWrites_pairwise hy (by omega), ih hrest (by omega), fun v hv w hw => ?_⟩
    obtain ⟨z, r, hz, hlo, hhi, hw⟩ := mem_tensorWrites hw
    exact rowWrites_apart hy (hrest z hz) (by omega) (by omega) hv hw

theorem elems_mem_rowWrites (f : TFmt) (rows stride r : Nat) (c : Conv) :
    (r * (stride * f.size), c.elems) ∈ rowWrites f rows stride r c := by
  cases f <;> simp [rowWrites, TFmt.blocked, TFmt.size, Nat.mul_assoc]

theorem scales_mem_rowWrites {f : TFmt} (h : f.blocked = true) (rows stride r : Nat) (c : Conv) :
    (roadUp (rows * stride) + r * ceilDiv stride 32, c.scales) ∈ rowWrites f rows stride r c := by
  simp [rowWrites, h]

/-- Rows from a row number on are stored one after the other, with steps in between that write nothing. -/
theorem Scattered.rows {s : State} {pl : Place} {f : TFmt} {rows stride : Nat} (fn : Nat) {g : State → Conv → State}
    (hg : ∀ t c, Untouched t (g t c) ∧ (g t c).hbm = t.hbm) (hopen : Open s pl (tensorBytes f rows stride))
    {ys : List (List Word)} : ∀ {k : Nat} {ws : List (Nat × List Byte)} {t : State},
      Scattered s t pl (tensorBytes f rows stride) ws →
      (∀ y ∈ ys, y.length = stride) → k + ys.length ≤ rows →
      (ws ++ tensorWrites f rows stride ys k).Pairwise Apart →
      Scattered s ((ys.zipIdx k).foldl (fun t e =>
          g (t.writeAll fn pl (rowWrites f rows stride e.2 (convRow f e.1))) (convRow f e.1)) t)
        pl (tensorBytes f rows stride) (ws ++ tensorWrites f rows stride ys k) := by
  induction ys with
  | nil =>
    intro k ws t h _ _ _
    rw [tensorWrites, List.zipIdx_nil, List.flatMap_nil, List.append_nil]
    exact h
  | cons y ys ih =>
    intro k ws t h hys hk hpair
    rw [List.length_cons] at hk
    rw [tensorWrites_cons, ← List.append_assoc] at hpair ⊢
    rw [List.zipIdx_cons, List.foldl_cons]
    have hrow := h.writeAll fn hopen (fun v hv => rowWrites_within (hys y List.mem_cons_self) (by omega) hv)
      (List.pairwise_append.1 hpair).1
    obtain ⟨hu, hhbm⟩ := hg (t.writeAll fn pl (rowWrites f rows stride k (convRow f y))) (convRow f y)
    exact ih (hrow.untouched hu hhbm) (fun z hz => hys z (List.mem_cons_of_mem y hz)) (by omega) hpair

/-- Equal lengths laid end to end read back as what was written to each. -/
theorem State.bytesAt_flatMap {α : Type} (t : State) (pl : Place) (base len : Nat) (g : α → List Byte) :
    ∀ (l : List α) (k : Nat), (∀ x r, (x, r) ∈ l.zipIdx k → (g x).length = len ∧ t.bytesAt pl (base + r * len) len = g x) →
      t.bytesAt pl (base + k * len) (l.flatMap g).length = l.flatMap g
  | [], _, _ => rfl
  | x :: l, k, h => by
    have hlist : (x :: l).zipIdx k = (x, k) :: l.zipIdx (k + 1) := rfl
    obtain ⟨hlen, hx⟩ := h x k (hlist ▸ List.mem_cons_self)
    have hrest := State.bytesAt_flatMap t pl base len g l (k + 1) fun z r hz => h z r (hlist ▸ List.mem_cons_of_mem _ hz)
    rw [List.flatMap_cons, List.length_append, State.bytesAt_add, hlen, hx, Nat.add_assoc, ← Nat.succ_mul]
    exact congrArg _ hrest

/-- A tensor of rows of one length whose rows were written at their places reads back as its rows. -/
theorem Scattered.stored {s t : State} {f : TFmt} {pl : Place} {ys : List (List Word)}
    (hrect : ∀ y ∈ ys, y.length = (ys.headD []).length)
    (hall : Scattered s t pl (tensorBytes f ys.length (ys.headD []).length)
      (tensorWrites f ys.length (ys.headD []).length ys 0)) : Stored s t f pl ys := by
  obtain ⟨stride, hstride⟩ : ∃ n, n = (ys.headD []).length := ⟨_, rfl⟩
  rw [← hstride] at hrect hall
  have hread {y : List Word} {r : Nat} (he : (y, r) ∈ ys.zipIdx 0) {w : Nat × List Byte}
      (hw : w ∈ rowWrites f ys.length stride r (convRow f y)) : t.bytesAt pl w.1 w.2.length = w.2 :=
    hall.holds w (List.mem_flatMap.2 ⟨(y, r), he, hw⟩)
  have hlen {y : List Word} {r : Nat} (he : (y, r) ∈ ys.zipIdx 0) : y.length = stride := by
    obtain ⟨-, -, hy⟩ := List.mem_zipIdx he
    exact hy ▸ hrect _ (List.getElem_mem _)
  refine ⟨hstride ▸ hall.outside, ?_, ?_⟩
  · have helems := State.bytesAt_flatMap t pl 0 (stride * f.size) (fun y => (convRow f y).elems) ys 0 fun y r he => by
      have hl : (convRow f y).elems.length = stride * f.size := by rw [convRow_elems_length, hlen he]
      refine ⟨hl, ?_⟩
      have := hread he (elems_mem_rowWrites f ys.length stride r (convRow f y))
      rwa [hl, ← Nat.zero_add (r * _)] at this
    rw [State.readAt_eq_bytesAt]
    simpa using helems
  · rw [State.readAt_plus]
    cases hb : f.blocked with
    | false =>
      have hnone : (ys.flatMap fun y => (convRow f y).scales) = [] :=
        List.flatMap_eq_nil_iff.2 fun y _ => List.length_eq_zero_iff.1 (by rw [convRow_scales_length, hb]; rfl)
      rw [hnone]
      rfl
    | true =>
      have hsl {y : List Word} {r : Nat} (he : (y, r) ∈ ys.zipIdx 0) : (convRow f y).scales.length = ceilDiv stride 32 := by
        rw [convRow_scales_length, if_pos hb, hlen he]
      have hscales := State.bytesAt_flatMap t pl (roadUp (ys.length * stride)) (ceilDiv stride 32)
        (fun y => (convRow f y).scales) ys 0 fun y r he => by
          refine ⟨hsl he, ?_⟩
          have := hread he (scales_mem_rowWrites hb ys.length stride r (convRow f y))
          rwa [hsl he] at this
      have hn : tensorBytes f ys.length (ys.headD []).length - (ys.flatMap fun y => (convRow f y).scales).length =
          roadUp (ys.length * stride) := by
        have hcount : (ys.flatMap fun y => (convRow f y).scales).length = ys.length * ceilDiv stride 32 := by
          have hconst : (ys.map fun y => (convRow f y).scales.length) = ys.map fun _ => ceilDiv stride 32 :=
            List.map_congr_left fun y hy => by rw [convRow_scales_length, if_pos hb, hrect y hy]
          rw [List.length_flatMap, hconst, List.map_const', List.sum_replicate_nat]
        rw [hcount, ← hstride, tensorBytes, if_pos hb, Nat.add_sub_cancel]
      rw [hn]
      simpa using hscales

section
variable {s : State} (hok : MemoryOk s) (fn : Nat) {f : TFmt} {pl : Place} {ys : List (List Word)}
  (hrect : ∀ y ∈ ys, y.length = (ys.headD []).length)
  (hopen : Open s pl (tensorBytes f ys.length (ys.headD []).length))
include hok hrect hopen

theorem State.stored_foldl {g : State → Conv → State} (hg : ∀ t c, Untouched t (g t c) ∧ (g t c).hbm = t.hbm) :
    Stored s (ys.zipIdx.foldl (fun t e =>
      g (t.writeAll fn pl (rowWrites f ys.length (ys.headD []).length e.2 (convRow f e.1))) (convRow f e.1)) s) f pl ys := by
  refine Scattered.stored hrect ?_
  simpa using Scattered.rows fn hg hopen (Scattered.refl hok pl _) hrect (k := 0) (by omega)
    (by simpa using tensorWrites_pairwise hrect (by omega))

theorem State.stored_storeRows (d : Nat) : Stored s (s.storeRows fn d f pl ys) f pl ys :=
  State.stored_foldl hok fn hrect hopen (g := fun t c => (t.count 1 d 0x144 24 c.sat).count 1 d 0x148 0 c.nonfin) fun t c => by
    have hev := (State.count_evolves (t.count 1 d 0x144 24 c.sat) 1 d 0x148 0 c.nonfin 0).app
      (State.count_evolves t 1 d 0x144 24 c.sat 0) rfl
    exact ⟨⟨hev.same .mem rfl, hev.same .slab rfl, hev.same .out rfl⟩, hev.same .hbm rfl⟩

theorem State.stored_writeRows : Stored s (s.writeRows fn f pl ys) f pl ys :=
  State.stored_foldl hok fn hrect hopen (g := fun t _ => t) fun _ _ => ⟨⟨rfl, rfl, rfl⟩, rfl⟩

end

end Sys2Proof.Machine
end

section
/-! The ranges of an operation that passes its checks (R255, R256, R263), and operands as rows and columns. -/

namespace Sys2Proof.Machine

open Sys2Proof Sys2Proof.Safety

/-! ### Checks that pass -/

theorem firstFail_eq_none {l : List (Option (Nat × List Byte))} (h : firstFail l = none) : ∀ e ∈ l, e = none := by
  induction l with
  | nil => nofun
  | cons e l ih =>
    cases e with
    | some e => contradiction
    | none => exact List.forall_mem_cons.2 ⟨rfl, ih h⟩

/-- Ranges that pass their checks are all reached. -/
theorem Part.reach_of_badRange {x : Part} : ∀ {l : List (Nat × Nat × Nat × Nat × Bool)}, x.badRange l = none →
    ∀ e ∈ l, (x.reach e.2.1 e.1 e.2.2.1).isSome = true
  | [], _, _, he => nomatch he
  | (v, allow, n, off, arg) :: l, h, e, he => by
    unfold Part.badRange at h
    split at h
    · next hv =>
      rcases List.mem_cons.1 he with rfl | he
      · exact hv
      · exact Part.reach_of_badRange h e he
    · contradiction

/-- What is reached without the host is of device memory or slab. -/
theorem Part.isHost_of_reach {x : Part} {v n : Nat} {pl : Place} (h : x.reach 3 v n = some pl) : pl.isHost = false := by
  have hplace := Part.place_of_reach h
  cases pl with
  | dev a => rfl
  | slab a => rfl
  | host a =>
    rw [Part.reach, hplace] at h
    simp [bit, show Nat.testBit 3 2 = false from rfl] at h

section
variable {x : Part} {sp : List Span} {arg : Bool} (h : x.badRange (sp.map fun a => (a.v, 3, a.n, a.off, arg)) = none) {a : Span}
  (ha : a ∈ sp)
include h ha

/-- A span that passes the range check has a place, in device memory or slab. -/
theorem place_of_rangeCheck : place a.v = some (placeOf a.v) ∧ (placeOf a.v).isHost = false := by
  obtain ⟨pl, hpl⟩ := Option.isSome_iff_exists.1
    (Part.reach_of_badRange h (a.v, 3, a.n, a.off, arg) (List.mem_map.2 ⟨a, ha, rfl⟩))
  have hplace := Part.place_of_reach hpl
  have heq : placeOf a.v = pl := by rw [placeOf, hplace, Option.getD_some]
  rw [heq]
  exact ⟨hplace, Part.isHost_of_reach hpl⟩

/-- A span that passes the range check and whose accesses pass is open over its extent. -/
theorem open_of_spans {s : State} {xs : List (Bool × Place × Nat)} (hacc : s.badAccess (spanAccess sp ++ xs) = none) :
    Open s (placeOf a.v) a.n := by
  obtain ⟨hplace, hlocal⟩ := place_of_rangeCheck h ha
  refine ⟨hlocal, fun b hb => ?_⟩
  refine State.offline_of_badAccess hacc (w := a.out) (List.mem_append_left _ ?_)
  exact List.mem_filterMap.2 ⟨a, ha, by rw [hplace, hb]; rfl⟩

end

/-! ### Words of a range -/

/-- The first words of a range are those of its first bytes. -/
theorem wordsOf_take (w : Nat) : ∀ {n m : Nat}, n ≤ m → ∀ bs : List Byte, wordsOf w n (bs.take (w * n)) = (wordsOf w m bs).take n
  | 0, m, _, bs => by rw [List.take_zero]; rfl
  | n + 1, m + 1, h, bs => by
    have hhead : slice (bs.take (w * (n + 1))) 0 w = slice bs 0 w := by
      simp only [slice, List.drop_zero, List.take_take, Nat.min_eq_left (Nat.le_mul_of_pos_right w n.succ_pos)]
    rw [wordsOf, wordsOf, List.take_succ_cons, hhead, List.drop_take, ← wordsOf_take w (Nat.le_of_succ_le_succ h),
      Nat.mul_succ, Nat.add_sub_cancel]

theorem State.readAt_take (s : State) (pl : Place) {n m : Nat} (h : n ≤ m) : (s.readAt pl m).take n = s.readAt pl n := by
  rw [State.readAt_eq_bytesAt, State.readAt_eq_bytesAt, State.bytesAt, State.bytesAt, ← List.map_take, List.take_range,
    Nat.min_eq_left h]

/-- The first binary32 words at a place do not depend on how many are read. -/
theorem words32_readAt_take (s : State) (pl : Place) {n m : Nat} (h : n ≤ m) :
    words32 n (s.readAt pl (4 * n)) = (words32 m (s.readAt pl (4 * m))).take n := by
  rw [words32, words32, ← List.map_take, ← wordsOf_take 4 h, State.readAt_take s pl (Nat.mul_le_mul_left 4 h)]

/-! ### Rows and columns -/

/-- A list with its places is the list of its places. -/
theorem map_zipIdx_eq_map_range {α β : Type} (l : List α) (d : α) (f : α × Nat → β) :
    l.zipIdx.map f = (List.range l.length).map fun i => f (l.getD i d, i) := by
  refine List.ext_getElem (by simp) fun i h1 h2 => ?_
  have hi : i < l.length := by simpa using h1
  simp [List.getElem?_eq_getElem hi]

/-- An operand has as many rows as its operation asks for. -/
theorem State.loadOperand_length (s : State) (fmt : Nat) (mode : LoadMode) (rows k : Nat) (trans : Bool) (pl spl : Place) :
    (s.loadOperand fmt mode rows k trans pl spl).vals.length = rows := by
  cases trans <;> simp [State.loadOperand, storedShape, transpose]

theorem State.loadOperand_congr {s t : State} (hmem : t.mem = s.mem) (hslab : t.slab = s.slab) (fmt : Nat) (mode : LoadMode)
    (rows k : Nat) (trans : Bool) (pl spl : Place) :
    t.loadOperand fmt mode rows k trans pl spl = s.loadOperand fmt mode rows k trans pl spl := by
  simp only [State.loadOperand, readAt_congr hmem hslab]

/-- A place is open in a state in which no stack changed. -/
theorem open_congr {s t : State} (h : t.hbm = s.hbm) {pl : Place} {n : Nat} (ho : Open s pl n) : Open t pl n :=
  ⟨ho.local_, fun a ha => (offline_congr h a n).trans (ho.online a ha)⟩

/-- Storing rows changes no queue, partition or stack. -/
theorem State.storeRows_same (s : State) (fn d : Nat) (f : TFmt) (pl : Place) (ys : List (List Word)) :
    (s.storeRows fn d f pl ys).queues = s.queues ∧ (s.storeRows fn d f pl ys).hbm = s.hbm :=
  ⟨(State.storeRows_evolves ..).same .queues rfl, (State.storeRows_evolves ..).same .hbm rfl⟩

/-- What was stored from a state was stored from every state with the same memory, slab and outputs. -/
theorem stored_congr {s t s' t' : State} {f : TFmt} {pl : Place} {ys : List (List Word)} (h : Stored s t f pl ys)
    (hs : Untouched s s') (ht : Untouched t t') : Stored s' t' f pl ys := by
  obtain ⟨hout, helems, hscales⟩ := h
  have hread (n : Nat) (p : Place) : t'.readAt p n = t.readAt p n := by
    obtain ⟨hm, hl, -⟩ := ht
    exact readAt_congr hm hl p n
  refine ⟨outside_trans (outside_of_untouched (untouched_symm hs) _ _) (outside_trans hout (outside_of_untouched ht _ _)), ?_, ?_⟩
  · rw [hread, helems]
  · rw [hread, hscales]

end Sys2Proof.Machine
end

section
/-! MATMUL (R255 to R273). -/

namespace Sys2Proof.Machine

open Sys2Proof Sys2Proof.Safety

/-! ### What its outputs are -/

section
variable (s : State) (a : ProductArgs)

/-- The operands of a MATMUL: A by rows and B by columns. -/
def State.matmulA : Operand :=
  s.loadOperand a.aFmt (if fp8Rate a then .unscaled else .toBf16) a.m a.k a.aTrans (placeOf a.a) (placeOf a.aScales)
def State.matmulB : Operand :=
  s.loadOperand a.bFmt (if fp8Rate a then .unscaled else .toBf16) a.n a.k (!a.bTrans) (placeOf a.b) (placeOf a.bScales)
/-- Where the sum of output (i, j) starts. -/
def State.matmulStart (i j : Nat) : Word :=
  let pre := words32 (a.m * a.n) (s.readAt (placeOf a.preAddr) (4 * (a.m * a.n)))
  if a.preload = 1 then pre.getD j 0 else if a.preload = 2 then pre.getD (i * a.n + j) 0 else 0
def State.matmulTotal (i j : Nat) : Total :=
  dotProduct (s.matmulA a |>.vals.getD i []) (s.matmulB a |>.vals.getD j [])
    ((if fp8Rate a then (s.matmulA a).exps else []).getD i []) ((if fp8Rate a then (s.matmulB a).exps else []).getD j [])
    (s.matmulStart a i j) a.split
/-- The pre-activation value of output (i, j), and the output. -/
def State.matmulBefore (i j : Nat) : Word :=
  let bias := words32 a.n (s.readAt (placeOf a.biasAddr) (4 * a.n))
  if a.epiBias then add32 (scaleAlpha (s.matmulTotal a i j).w a.alpha) (bias.getD j 0)
  else scaleAlpha (s.matmulTotal a i j).w a.alpha
def State.matmulOutput (i j : Nat) : Word :=
  activate a.act (if a.act = 2 then s.readAt (placeOf a.actAddr) 528 else []) (s.matmulBefore a i j)
/-- All outputs by rows. -/
def ProductArgs.rows (f : Nat → Nat → Word) : List (List Word) := (List.range a.m).map fun i => (List.range a.n).map fun j => f i j

/-- The operands, preloads, bias and table that a MATMUL loads give these outputs. -/
def State.matmulOuts : List (List Out) :=
  let np := if a.preload = 1 then a.n else if a.preload = 2 then a.m * a.n else 0
  matmulOut a (if fp8Rate a then s.matmulA a else { s.matmulA a with exps := [] })
    (if fp8Rate a then s.matmulB a else { s.matmulB a with exps := [] })
    (words32 np (s.readAt (placeOf a.preAddr) (4 * np)))
    (if a.epiBias then words32 a.n (s.readAt (placeOf a.biasAddr) (4 * a.n)) else [])
    (if a.act = 2 then s.readAt (placeOf a.actAddr) 528 else [])

end

theorem productArgs_pos (bs : List Byte) : 0 < (productArgs bs).m ∧ 0 < (productArgs bs).n := ⟨Nat.succ_pos _, Nat.succ_pos _⟩

theorem getD_take {α : Type} (l : List α) (d : α) {n i : Nat} (h : i < n) : (l.take n).getD i d = l.getD i d := by
  simp [List.getD, h]

/-- The preloads that are loaded start each sum. -/
theorem State.matmulStart_eq (s : State) (a : ProductArgs) {i j : Nat} (hi : i < a.m) (hj : j < a.n) :
    (let np := if a.preload = 1 then a.n else if a.preload = 2 then a.m * a.n else 0
     let pre := words32 np (s.readAt (placeOf a.preAddr) (4 * np))
     if a.preload = 1 then pre.getD j 0 else if a.preload = 2 then pre.getD (i * a.n + j) 0 else 0) = s.matmulStart a i j := by
  unfold State.matmulStart
  dsimp only
  split
  · rw [words32_readAt_take s _ (Nat.le_mul_of_pos_left a.n (by omega : 0 < a.m)), getD_take _ _ hj]
  · by_cases h2 : a.preload = 2 <;> simp only [h2, if_true, if_false]

theorem ite_exps_vals (c : Bool) (m : Operand) : (if c then m else { m with exps := [] }).vals = m.vals := by cases c <;> rfl
theorem ite_exps_exps (c : Bool) (m : Operand) : (if c then m else { m with exps := [] }).exps = if c then m.exps else [] := by
  cases c <;> rfl

theorem State.matmulA_length (s : State) (a : ProductArgs) : (s.matmulA a).vals.length = a.m := State.loadOperand_length ..
theorem State.matmulB_length (s : State) (a : ProductArgs) : (s.matmulB a).vals.length = a.n := State.loadOperand_length ..

/-- The outputs of a MATMUL, by rows, in what a function of each keeps. -/
theorem State.matmulOuts_map (s : State) (a : ProductArgs) {β : Type} (g : Out → β) (f : Nat → Nat → β)
    (h : ∀ i j, ∀ o : Out, o.total = s.matmulTotal a i j → o.p = s.matmulBefore a i j → o.y = s.matmulOutput a i j → g o = f i j) :
    (s.matmulOuts a).map (fun r => r.map g) = (List.range a.m).map fun i => (List.range a.n).map fun j => f i j := by
  unfold State.matmulOuts matmulOut
  simp only [ite_exps_vals, ite_exps_exps]
  rw [List.map_map, map_zipIdx_eq_map_range _ [], State.matmulA_length]
  refine List.map_congr_left fun i hi => ?_
  simp only [Function.comp_apply]
  rw [List.map_map, map_zipIdx_eq_map_range _ [], State.matmulB_length]
  refine List.map_congr_left fun j hj => ?_
  have hstart := s.matmulStart_eq a (List.mem_range.1 hi) (List.mem_range.1 hj)
  dsimp only at hstart
  simp only [Function.comp_apply, hstart]
  have hbias : (if a.epiBias then add32 (scaleAlpha (s.matmulTotal a i j).w a.alpha)
      ((if a.epiBias then words32 a.n (s.readAt (placeOf a.biasAddr) (4 * a.n)) else []).getD j 0)
      else scaleAlpha (s.matmulTotal a i j).w a.alpha) = s.matmulBefore a i j := by
    cases he : a.epiBias <;> simp [State.matmulBefore, he]
  exact h i j _ rfl hbias (congrArg (activate a.act _) hbias)

theorem ProductArgs.rows_rect (a : ProductArgs) (hm : 0 < a.m) (f : Nat → Nat → Word) :
    (a.rows f).length = a.m ∧ ((a.rows f).headD []).length = a.n ∧ ∀ y ∈ a.rows f, y.length = a.n := by
  obtain ⟨m, hm'⟩ : ∃ m, a.m = m + 1 := ⟨a.m - 1, by omega⟩
  refine ⟨by simp [ProductArgs.rows], by simp [ProductArgs.rows, hm', List.range_succ_eq_map], fun y hy => ?_⟩
  obtain ⟨i, -, rfl⟩ := List.mem_map.1 hy
  simp

/-! ### The command -/

/-- What a MATMUL does once every check and access passes: it books its totals and counts, and stores its rows. -/
theorem State.runMatmul_eq (s : State) (q p : Nat) (a : ProductArgs) : ∃ b,
    (s.runMatmul q p a =
      let ys := a.rows (s.matmulOutput a)
      let t := b.storeRows p a.die (outFmtOf a.outFmt) (placeOf a.out) ys
      (if a.preact then t.storeRows p a.die .bf16 (placeOf a.preactAddr) (a.rows (s.matmulBefore a)) else t).finish q stOk
        (sumResult a.sumsq (sumSquares a.shape ys))) ∧ Evolves 4295032832 s b := by
  have hys : (s.matmulOuts a).map (fun r => r.map (·.y)) = a.rows (s.matmulOutput a) :=
    s.matmulOuts_map a _ _ fun _ _ _ _ _ h => h
  have hps : (s.matmulOuts a).map (fun r => r.map (·.p)) = a.rows (s.matmulBefore a) :=
    s.matmulOuts_map a _ _ fun _ _ _ _ h _ => h
  rw [← hys, ← hps]
  exact ⟨_, rfl, (State.countMatrix_evolves ..).app ((State.keepTotals_evolves ..).mono rfl) rfl⟩

/-- The outputs depend on memory and slab alone. -/
theorem State.matmulOutput_congr {s t : State} (hmem : t.mem = s.mem) (hslab : t.slab = s.slab) (a : ProductArgs) :
    t.matmulBefore a = s.matmulBefore a ∧ t.matmulOutput a = s.matmulOutput a := by
  have hread := readAt_congr hmem hslab
  have hload := State.loadOperand_congr hmem hslab
  have htotal : t.matmulTotal a = s.matmulTotal a := by
    funext i j
    simp only [State.matmulTotal, State.matmulA, State.matmulB, State.matmulStart, hread, hload]
  have hbefore : t.matmulBefore a = s.matmulBefore a := by
    funext i j
    simp only [State.matmulBefore, htotal, hread]
  refine ⟨hbefore, ?_⟩
  funext i j
  simp only [State.matmulOutput, hbefore, hread]

theorem rangeCheck_of_matmulCheck {s : State} {x : Part} {args : List Byte} {a : ProductArgs}
    (h : s.matmulCheck x args a = none) : rangeCheck x (matmulSpans a) = none :=
  firstFail_eq_none h _ (by simp)

theorem exec_matmul {s : State} {q : Nat} {r : Running} (hrun : Runs s q 0x12 r)
    (hcheck : s.matmulCheck (s.part (s.queuePart q)) r.args (productArgs r.args) = none)
    (hacc : s.badAccess (spanAccess (matmulSpans (productArgs r.args))) = none) (err : Bool) :
    exec (.matmul q err) s = .next (if err
      then (s.countReads (spanAccess (matmulSpans (productArgs r.args)))).finish q stSlabEcc result0
      else (s.countReads (spanAccess (matmulSpans (productArgs r.args)))).runMatmul q (s.queuePart q) (productArgs r.args)) := by
  change execMatmul q err s = _
  rw [execMatmul, onRunning_run hrun]
  simp only [hcheck]
  rw [State.access_of_pass hacc]

/-- A rectangle of rows stored by an operation that has passed its checks, in terms of the state before it. -/
theorem State.stored_rows {s b : State} (hok : MemoryOk s) (hu : Untouched s b) (hhbm : b.hbm = s.hbm) (fn d : Nat) {f : TFmt}
    {pl : Place} {ys : List (List Word)} {m n : Nat} (hm : ys.length = m) (hn : (ys.headD []).length = n)
    (hrect : ∀ y ∈ ys, y.length = n) (hopen : Open s pl (tensorBytes f m n)) : Stored s (b.storeRows fn d f pl ys) f pl ys := by
  subst hm hn
  exact stored_congr (State.stored_storeRows (memoryOk_of_untouched hu hok) fn hrect (open_congr hhbm hopen) d)
    (untouched_symm hu) ⟨rfl, rfl, rfl⟩

/-- Settles O27: the outputs are `State.matmulOuts`, stored by `State.storeRows`. -/
theorem matmulStoresItsProduct : Obligations.MatmulStoresItsProduct := by
  unfold Obligations.MatmulStoresItsProduct
  intro s q r hmem hrun
  dsimp only
  obtain ⟨a, ha⟩ : ∃ a, a = productArgs r.args := ⟨_, rfl⟩
  rw [← ha]
  intro hcheck hacc
  obtain ⟨hq, -, hdone, -⟩ := runningOp_some hrun.2
  have hexec := exec_matmul hrun (ha ▸ hcheck) (ha ▸ hacc)
  rw [← ha] at hexec
  obtain ⟨u, hu⟩ : ∃ u, u = s.countReads (spanAccess (matmulSpans a)) := ⟨_, rfl⟩
  rw [← hu] at hexec
  have huq : (u.queue q).running = some r := by rw [hu, State.countReads_queue, hq]
  have hsu : Untouched s u := hu ▸ untouched_countReads s _
  refine ⟨⟨_, hexec true, finished_finish huq hdone, untouched_trans hsu (untouched_finish ..)⟩, _, hexec false, ?_⟩
  rw [if_neg Bool.false_ne_true]
  obtain ⟨b, hb, hub⟩ := u.runMatmul_eq q (s.queuePart q) a
  obtain ⟨hbefore, houtput⟩ := State.matmulOutput_congr (hu ▸ s.countReads_mem _) (hu ▸ s.countReads_slab _ : u.slab = s.slab) a
  rw [hb, hbefore, houtput]
  have hsb : Untouched s b := untouched_trans hsu ⟨hub.same .mem rfl, hub.same .slab rfl, hub.same .out rfl⟩
  have hbhbm : b.hbm = s.hbm := (hub.same .hbm rfl).trans (hu ▸ s.countReads_hbm _)
  have hrange := rangeCheck_of_matmulCheck hcheck
  have hrows := a.rows_rect (ha ▸ (productArgs_pos r.args).1)
  have hopen {w : Span} (hw : w ∈ matmulSpans a) : Open s (placeOf w.v) w.n :=
    open_of_spans hrange hw (xs := []) (by rw [List.append_nil]; exact hacc)
  obtain ⟨hm, hn, hrect⟩ := hrows (s.matmulOutput a)
  have hout := State.stored_rows hmem hsb hbhbm (s.queuePart q) a.die hm hn hrect
    (hopen (w := ⟨72, a.out, tensorBytes (outFmtOf a.outFmt) a.m a.n, true⟩) (by simp [matmulSpans]))
  obtain ⟨t, ht⟩ : ∃ t, t = b.storeRows (s.queuePart q) a.die (outFmtOf a.outFmt) (placeOf a.out) (a.rows (s.matmulOutput a)) :=
    ⟨_, rfl⟩
  have hbt := State.storeRows_evolves b (s.queuePart q) a.die (outFmtOf a.outFmt) (placeOf a.out) (a.rows (s.matmulOutput a))
  rw [← ht] at hout hbt
  have htq : (t.queue q).running = some r := by
    rw [queue_congr ((hbt.same .queues rfl).trans (hub.same .queues rfl)), huq]
  dsimp only
  rw [← ht]
  cases hp : a.preact with
  | false => exact ⟨finished_finish htq hdone, t, hout, untouched_finish ..⟩
  | true =>
    obtain ⟨hm', hn', hrect'⟩ := hrows (s.matmulBefore a)
    have hpre : Open s (placeOf a.preactAddr) (tensorBytes .bf16 a.m a.n) := by
      have := hopen (w := ⟨88, a.preactAddr, 2 * a.m * a.n, true⟩) (by simp [matmulSpans, hp])
      rwa [show 2 * a.m * a.n = tensorBytes .bf16 a.m a.n from (Nat.mul_assoc 2 a.m a.n).trans (Nat.mul_comm 2 (a.m * a.n))] at this
    have hok : MemoryOk t := hbt.memory (memoryOk_of_untouched hsb hmem)
    have hthbm : t.hbm = s.hbm := (hbt.same .hbm rfl).trans hbhbm
    have hstored := State.stored_rows hok ⟨rfl, rfl, rfl⟩ rfl (s.queuePart q) a.die hm' hn' hrect' (open_congr hthbm hpre)
    refine ⟨finished_finish (r := r) ?_ hdone, t, hout, stored_congr hstored ⟨rfl, rfl, rfl⟩ (untouched_finish ..)⟩
    rw [if_pos rfl, queue_congr ((State.storeRows_evolves ..).same .queues rfl), htq]

end Sys2Proof.Machine
end

section
/-! INGRAD and WGRAD (R284 to R291). -/

namespace Sys2Proof.Machine

open Sys2Proof Sys2Proof.Safety

/-! ### INGRAD's outputs -/

section
variable (s : State) (a : ProductArgs) (l : Layer)

/-- The gradients that come in, one row for each token. -/
def State.ingradIn : Operand := s.loadOperand a.aFmt .exact a.m l.outputs a.aTrans (placeOf a.a) (placeOf a.aScales)
/-- The weights of each input. -/
def State.ingradCols : List (List Fl) := (List.range l.inputs).map fun i => (List.range l.outputs).map fun o => s.weightOperand l o i
def State.ingradPre : List Word :=
  let np := if a.preload = 1 then l.inputs else if a.preload = 2 then a.m * l.inputs else 0
  words32 np (s.readAt (placeOf a.preAddr) (4 * np))
/-- The input gradient of one token. -/
def State.ingradOut (i : Nat) : List Word :=
  (State.ingradRow a l (s.ingradCols l) (s.ingradPre a l) i
    (List.zipWith (fun y v => toBf (y.mul v)) ((s.ingradIn a l).vals.getD i []) ((List.range l.outputs).map l.sigma))).map (·.y)
def State.ingradOuts : List (List Word) := (List.range a.m).map (s.ingradOut a l)

end

theorem State.ingradRow_length (a : ProductArgs) (l : Layer) (cols : List (List Fl)) (pre : List Word) (i : Nat) (u : List Fl) :
    (State.ingradRow a l cols pre i u).length = cols.length := by simp [State.ingradRow]

theorem State.ingradOuts_rect (s : State) (a : ProductArgs) (l : Layer) (hm : 0 < a.m) :
    (s.ingradOuts a l).length = a.m ∧ ((s.ingradOuts a l).headD []).length = l.inputs ∧
      ∀ y ∈ s.ingradOuts a l, y.length = l.inputs := by
  obtain ⟨m, hm'⟩ : ∃ m, a.m = m + 1 := ⟨a.m - 1, by omega⟩
  have hrow (i : Nat) : (s.ingradOut a l i).length = l.inputs := by
    simp [State.ingradOut, State.ingradRow_length, State.ingradCols]
  refine ⟨by simp [State.ingradOuts], by simp [State.ingradOuts, hm', List.range_succ_eq_map, hrow], fun y hy => ?_⟩
  obtain ⟨i, -, rfl⟩ := List.mem_map.1 hy
  exact hrow i

theorem getD_map_of_nil {α β : Type} (f : List α → List β) (hf : f [] = []) (rows : List (List α)) (i : Nat) :
    (rows.map f).getD i [] = f (rows.getD i []) := by
  rw [List.getD_eq_getElem?_getD, List.getD_eq_getElem?_getD, List.getElem?_map]
  cases rows[i]? with
  | none => exact hf.symm
  | some r => rfl

/-- Pairs of what goes in and what comes out, by rows: the row of what comes out. -/
theorem getD_zipWith_snd {α β γ : Type} (f : α → β → γ) (rows : List (List α)) (sig : List β) (i : Nat) :
    ((rows.map fun r => List.zipWith (fun x v => (x, f x v)) r sig).getD i []).map (·.2) =
      List.zipWith f (rows.getD i []) sig := by
  have hrow : (rows.map fun r => List.zipWith (fun x v => (x, f x v)) r sig).getD i [] =
      List.zipWith (fun x v => (x, f x v)) (rows.getD i []) sig :=
    getD_map_of_nil _ rfl rows i
  rw [hrow, List.map_zipWith]

/-- What an INGRAD does once every check and access passes. -/
theorem State.runIngrad_eq (s : State) (q p : Nat) (a : ProductArgs) (l : Layer) : ∃ b,
    (s.runIngrad q p a l = (b.storeRows p a.die (outFmtOf a.outFmt) (placeOf a.out) (s.ingradOuts a l)).finish q stOk
      (sumResult a.sumsq (sumSquares a.shape (s.ingradOuts a l)))) ∧ Evolves 4295032832 s b := by
  have hys : ((((s.ingradIn a l).vals.map fun r => List.zipWith (fun x v => (x, toBf (x.mul v))) r
      ((List.range l.outputs).map l.sigma)).zipIdx.map fun r =>
        State.ingradRow a l (s.ingradCols l) (s.ingradPre a l) r.2 (r.1.map (·.2))).map fun r => r.map (·.y)) =
      s.ingradOuts a l := by
    rw [List.map_map, map_zipIdx_eq_map_range _ [], List.length_map, State.ingradIn, State.loadOperand_length]
    refine List.map_congr_left fun i _ => ?_
    exact congrArg (fun u => (State.ingradRow a l (s.ingradCols l) (s.ingradPre a l) i u).map (·.y))
      (getD_zipWith_snd (fun x v => toBf (x.mul v)) (s.ingradIn a l).vals ((List.range l.outputs).map l.sigma) i)
  rw [← hys]
  exact ⟨_, rfl, (State.countMatrix_evolves ..).app ((State.keepTotals_evolves ..).mono rfl) rfl⟩

/-! ### WGRAD's outputs -/

section
variable (s : State) (a : ProductArgs) (l : Layer) (at_ tokens : Nat)

/-- The gradients that come in, one row for each output. -/
def State.wgradIn : Operand := s.loadOperand a.aFmt .exact l.outputs a.k a.aTrans (placeOf a.a) (placeOf a.aScales)
/-- The gradient of the weight of output `o` and input `i`. -/
def State.wgradAt (o i : Nat) : Word :=
  let pre := if a.preload = 0 then [] else words32 l.weights (s.readAt (placeOf a.preAddr) (4 * l.weights))
  scaleAlpha (dotProduct (((s.wgradIn a l).vals.getD o []).map toBf) ((s.stashedInputs l at_ a.k tokens).1.getD i []) [] []
    (pre.getD (l.paramIndex o i) 0) a.split).w a.alpha
def State.wgradRows : List (List Word) :=
  (List.range l.outputs).map fun o => (List.range l.inputs).map fun i => s.wgradAt a l at_ tokens o i
/-- The gradients in the order of the parameters. -/
def State.wgradParams : List Word :=
  (paramOrder l).map fun e => if e.1 < l.outputs ∧ e.2 < l.inputs then s.wgradAt a l at_ tokens e.1 e.2 else 0
/-- The bias gradients. -/
def State.wgradBias : List Byte :=
  let old := if a.preload = 0 then [] else words32 l.outputs (s.readAt (placeOf a.biasOut) (4 * l.outputs))
  bytes32 ((s.wgradIn a l).vals.zipIdx.map fun v => biasGrad (old[v.2]?) v.1)

end

theorem getD_map_range {α : Type} (f : Nat → α) (d : α) (n i : Nat) :
    ((List.range n).map f).getD i d = if i < n then f i else d := by
  by_cases h : i < n <;> simp [List.getD, h]

theorem State.wgradParams_eq (s : State) (a : ProductArgs) (l : Layer) (at_ tokens : Nat) :
    (paramOrder l).map (fun e => ((s.wgradRows a l at_ tokens).getD e.1 []).getD e.2 0) = s.wgradParams a l at_ tokens := by
  refine List.map_congr_left fun e _ => ?_
  rw [State.wgradRows, getD_map_range]
  by_cases ho : e.1 < l.outputs <;> by_cases hi : e.2 < l.inputs <;> simp [ho, hi]

/-- As many parameters as weights. -/
theorem paramOrder_length (l : Layer) : (paramOrder l).length = l.weights := by
  have htile (e : TileEntry) : ((List.range 1024).flatMap fun row =>
      (runsOf e.widths).zipIdx.map fun r => (e.outBase + r.2, 1024 * e.pos + row)).length = 1024 * (runsOf e.widths).length := by
    rw [length_flatMap_of_length (k := (runsOf e.widths).length) fun row => by rw [List.length_map, List.length_zipIdx],
      List.length_range]
  rw [paramOrder, List.length_flatMap, Layer.weights, Layer.weightBase, List.take_length]
  exact congrArg List.sum (List.map_congr_left fun e _ => htile e)

theorem getD_map_snd {α β : Type} (f : α → β) (rows : List (List α)) (i : Nat) :
    ((rows.map fun r => r.map fun x => (x, f x)).map fun r => r.map (·.2)).getD i [] = (rows.getD i []).map f := by
  have hrow : (rows.map fun r => (r.map fun x => (x, f x)).map (·.2)).getD i [] =
      ((rows.getD i []).map fun x => (x, f x)).map (·.2) :=
    getD_map_of_nil (fun r => (r.map fun x => (x, f x)).map (·.2)) rfl rows i
  rw [List.map_map]
  refine hrow.trans ?_
  rw [List.map_map]
  rfl

theorem State.keepTotals_gradSq (s : State) (d sp shape m n : Nat) (ts : List (List Total)) :
    ((s.keepTotals d sp shape m n ts).grad d).gradSq = (s.grad d).gradSq := by
  rw [State.keepTotals, State.grad_setGrad]
  rfl

theorem grad_congr {s t : State} (h : t.grads = s.grads) (d : Nat) : t.grad d = s.grad d := congrArg (tget GradDie.reset · d) h

theorem wgradOut_map (s : State) (a : ProductArgs) (l : Layer) (at_ tokens : Nat) :
    (wgradOut a l (((s.wgradIn a l).vals.map fun r => r.map fun x => (x, toBf x)).map fun r => r.map (·.2))
      (s.stashedInputs l at_ a.k tokens).1
      (if a.preload = 0 then [] else words32 l.weights (s.readAt (placeOf a.preAddr) (4 * l.weights)))).map
        (fun r => r.map (·.y)) = s.wgradRows a l at_ tokens := by
  rw [wgradOut, List.map_map, State.wgradRows]
  refine List.map_congr_left fun o _ => ?_
  simp only [Function.comp_apply]
  rw [List.map_map]
  refine List.map_congr_left fun i _ => ?_
  rw [getD_map_snd]
  rfl

/-- What a WGRAD does once every check and access passes. -/
theorem State.runWgrad_eq (s : State) (q p : Nat) (a : ProductArgs) (l : Layer) (at_ tokens : Nat) (release : Bool) : ∃ b,
    (s.runWgrad q p a l at_ tokens release =
      let sq := sumSquares a.shape (s.wgradRows a l at_ tokens)
      let t := b.storeRows p a.die (outFmtOf a.outFmt) (placeOf a.out) [s.wgradParams a l at_ tokens]
      let t := if a.biasOut = 0 then t else t.writeAt p (placeOf a.biasOut) (s.wgradBias a l)
      let t := if a.final then
        t.setGrad a.die { t.grad a.die with
          gradSq := tput (t.grad a.die).gradSq l.num (add64 (tget 0 (t.grad a.die).gradSq l.num) sq) } else t
      (t.finish q stOk (sumResult a.sumsq sq)).releaseSlot p q a.slot release) ∧ Evolves 4295032832 s b ∧
    (b.grad a.die).gradSq = (s.grad a.die).gradSq := by
  rw [← State.wgradParams_eq, ← wgradOut_map]
  refine ⟨_, rfl, (State.countMatrix_evolves ..).app ((State.keepTotals_evolves ..).mono rfl) rfl, ?_⟩
  rw [grad_congr ((State.countMatrix_evolves ..).same .grads rfl), State.keepTotals_gradSq]

/-! ### The commands -/

theorem rangeCheck_of_spanCheck {x : Part} {n : Nat} {sp : List Span} (h : spanCheck x n sp = none) : rangeCheck x sp = none :=
  firstFail_eq_none h _ (by simp)

section
variable {s : State} {q : Nat} {r : Running} {l : Layer} {a : ProductArgs} (ha : a = productArgs r.args)
  (hl : findLayer r.work.layers a.layer = some l)
include ha hl

theorem exec_ingrad (hrun : Runs s q 0x14 r)
    (hgrad : gradCheck (s.part (s.queuePart q)) r.args a (gradStarts a false) = none)
    (hspan : spanCheck (s.part (s.queuePart q)) (a.m * l.inputs * (outFmtOf a.outFmt).size)
      (ingradSpans a l) = none)
    (hacc : s.badAccess (spanAccess (ingradSpans a l) ++ l.copyAccess) = none) (err : Bool) :
    ∃ c, exec (.ingrad q err) s = .next (if err then ({ s with counters := c } : State).finish q stSlabEcc result0
      else ({ s with counters := c } : State).runIngrad q (s.queuePart q) a l) := by
  obtain ⟨c, hc⟩ := s.countReads_eq (spanAccess (ingradSpans a l) ++ l.copyAccess)
  refine ⟨c, ?_⟩
  subst ha
  change execIngrad q err s = _
  rw [execIngrad, onRunning_run hrun]
  simp only [hgrad, hl, hspan]
  rw [State.access_of_pass hacc, hc]

theorem exec_wgrad {at_ len : Nat} (hrun : Runs s q 0x15 r)
    (hgrad : gradCheck (s.part (s.queuePart q)) r.args a (gradStarts a true) = none)
    (hslot : s.readSlot (s.queuePart q) a.slot = .inr (at_, len))
    (hneed : a.k * (l.inputs + 4 * l.blocks) ≤ len)
    (hspan : spanCheck (s.part (s.queuePart q)) (l.weights * (outFmtOf a.outFmt).size)
      (wgradSpans a l at_ len) = none)
    (hacc : s.badAccess (spanAccess (wgradSpans a l at_ len)) = none) (err : Bool) :
    ∃ c, exec (.wgrad q err) s = .next (if err then ({ s with counters := c } : State).finish q stSlabEcc result0
      else ({ s with counters := c } : State).runWgrad q (s.queuePart q) a l at_
        (len / (l.inputs + 4 * l.blocks)) (dFlag r.desc 0)) := by
  obtain ⟨c, hc⟩ := s.countReads_eq (spanAccess (wgradSpans a l at_ len))
  refine ⟨c, ?_⟩
  subst ha
  change execWgrad q err s = _
  rw [execWgrad, onRunning_run hrun]
  simp only [hgrad, hl, hslot, if_neg (Nat.not_lt.2 hneed), hspan]
  rw [State.access_of_pass hacc, hc]

end

/-- A descriptor whose command ends in an uncorrectable slab error writes nothing. -/
theorem finished_slabError {s : State} {q : Nat} {r : Running} (hq : (s.queue q).running = some r) (hdone : r.done = none) (c) :
    Finished (({ s with counters := c } : State).finish q stSlabEcc result0) q stSlabEcc result0 ∧
      Untouched s (({ s with counters := c } : State).finish q stSlabEcc result0) :=
  ⟨finished_finish (r := r) hq hdone, untouched_finish ({ s with counters := c } : State) ..⟩

/-- A slot that nothing asks to release stays. -/
theorem State.releaseSlot_of_kept {s : State} {p q slot : Nat} (h : (s.part p).wantRelease.contains slot = false) :
    s.releaseSlot p q slot false = s := by
  simp only [State.releaseSlot, h, Bool.not_false, Bool.and_self, if_true]

/-- What WGRAD writes to BIAS_OUT, from a state that only memory and slab separate from the one before the command. -/
theorem wgradBias_wrote {s t : State} {a : ProductArgs} {l : Layer} (hok : MemoryOk t) (hhbm : t.hbm = s.hbm) (p : Nat)
    (hopen : a.biasOut ≠ 0 → Open s (placeOf a.biasOut) (4 * l.outputs)) :
    let u := if a.biasOut = 0 then t else t.writeAt p (placeOf a.biasOut) (s.wgradBias a l)
    if a.biasOut = 0 then Untouched t u else Wrote t u p (placeOf a.biasOut) (s.wgradBias a l) := by
  have hlen : (s.wgradBias a l).length = 4 * l.outputs := by
    rw [State.wgradBias, bytes32, length_flatMap_of_length fun w => length_natLe 4 _, List.length_map, List.length_zipIdx,
      State.wgradIn, State.loadOperand_length, Nat.mul_comm]
  by_cases h0 : a.biasOut = 0
  · simp only [h0, if_true]
    exact ⟨rfl, rfl, rfl⟩
  · simp only [h0, if_false]
    exact State.wrote_writeAt hok p fun b hb => hlen ▸ (open_congr hhbm (hopen h0)).online b hb

section
variable {s : State} {q : Nat} {r : Running} {l : Layer} {a : ProductArgs} (hmem : MemoryOk s) (ha : a = productArgs r.args)
  (hl : findLayer r.work.layers a.layer = some l)
include hmem ha hl

/-- INGRAD's outcomes: nothing is written after a slab error, and otherwise the input gradients stand in OUT. -/
theorem ingrad_answers (hrun : Runs s q 0x14 r)
    (hgrad : gradCheck (s.part (s.queuePart q)) r.args a (gradStarts a false) = none)
    (hspan : spanCheck (s.part (s.queuePart q)) (a.m * l.inputs * (outFmtOf a.outFmt).size) (ingradSpans a l) = none)
    (hacc : s.badAccess (spanAccess (ingradSpans a l) ++ l.copyAccess) = none) :
    (Answers (.ingrad q true) s fun t => Finished t q stSlabEcc result0 ∧ Untouched s t) ∧
      Answers (.ingrad q false) s fun t => Finished t q stOk (sumResult a.sumsq (sumSquares a.shape (s.ingradOuts a l))) ∧
        Stored s t (outFmtOf a.outFmt) (placeOf a.out) (s.ingradOuts a l) := by
  obtain ⟨hq, -, hdone, -⟩ := runningOp_some hrun.2
  have hexec := exec_ingrad ha hl hrun hgrad hspan hacc
  obtain ⟨hm, hn, hrect⟩ := s.ingradOuts_rect a l (ha ▸ (productArgs_pos r.args).1)
  obtain ⟨c, herr⟩ := hexec true
  obtain ⟨c', hok⟩ := hexec false
  refine ⟨⟨_, herr, finished_slabError hq hdone c⟩, _, hok, ?_⟩
  rw [if_neg Bool.false_ne_true]
  obtain ⟨b, hb, hub⟩ := ({ s with counters := c' } : State).runIngrad_eq q (s.queuePart q) a l
  rw [hb]
  have hsb : Untouched s b := ⟨hub.same .mem rfl, hub.same .slab rfl, hub.same .out rfl⟩
  have hopen : Open s (placeOf a.out) (tensorBytes (outFmtOf a.outFmt) a.m l.inputs) :=
    open_of_spans (a := ⟨72, a.out, tensorBytes (outFmtOf a.outFmt) a.m l.inputs, true⟩) (rangeCheck_of_spanCheck hspan)
      (by simp [ingradSpans]) hacc
  refine ⟨finished_finish (r := r) ?_ hdone, stored_congr (State.stored_rows hmem hsb (hub.same .hbm rfl) (s.queuePart q) a.die hm hn
    hrect hopen) ⟨rfl, rfl, rfl⟩ (untouched_finish ..)⟩
  rw [queue_congr ((State.storeRows_evolves ..).same .queues rfl), queue_congr (hub.same .queues rfl)]
  exact hq

/-- WGRAD's outcomes: nothing is written after a slab error, and otherwise the gradients stand in OUT and BIAS_OUT. -/
theorem wgrad_answers {at_ len : Nat} (hrun : Runs s q 0x15 r)
    (hgrad : gradCheck (s.part (s.queuePart q)) r.args a (gradStarts a true) = none)
    (hslot : s.readSlot (s.queuePart q) a.slot = .inr (at_, len)) (hneed : a.k * (l.inputs + 4 * l.blocks) ≤ len)
    (hspan : spanCheck (s.part (s.queuePart q)) (l.weights * (outFmtOf a.outFmt).size) (wgradSpans a l at_ len) = none)
    (hacc : s.badAccess (spanAccess (wgradSpans a l at_ len)) = none) (hkeep : dFlag r.desc 0 = false)
    (hwant : (s.part (s.queuePart q)).wantRelease.contains a.slot = false) (tokens : Nat)
    (htokens : tokens = len / (l.inputs + 4 * l.blocks)) :
    (Answers (.wgrad q true) s fun t => Finished t q stSlabEcc result0 ∧ Untouched s t) ∧
      Answers (.wgrad q false) s fun t =>
        Finished t q stOk (sumResult a.sumsq (sumSquares a.shape (s.wgradRows a l at_ tokens))) ∧
        (∃ u, Stored s u (outFmtOf a.outFmt) (placeOf a.out) [s.wgradParams a l at_ tokens] ∧
          if a.biasOut = 0 then Untouched u t else Wrote u t (s.queuePart q) (placeOf a.biasOut) (s.wgradBias a l)) ∧
        tget 0 (t.grad a.die).gradSq l.num =
          if a.final then add64 (tget 0 (s.grad a.die).gradSq l.num) (sumSquares a.shape (s.wgradRows a l at_ tokens))
          else tget 0 (s.grad a.die).gradSq l.num := by
  subst htokens
  obtain ⟨hq, -, hdone, -⟩ := runningOp_some hrun.2
  have hexec := exec_wgrad ha hl hrun hgrad hslot hneed hspan hacc
  obtain ⟨c, herr⟩ := hexec true
  obtain ⟨c', hok⟩ := hexec false
  refine ⟨⟨_, herr, finished_slabError hq hdone c⟩, _, hok, ?_⟩
  rw [if_neg Bool.false_ne_true, hkeep]
  obtain ⟨b, hb, hub, hsum⟩ := ({ s with counters := c' } : State).runWgrad_eq q (s.queuePart q) a l at_
    (len / (l.inputs + 4 * l.blocks)) false
  have hrows : ({ s with counters := c' } : State).wgradRows a l at_ (len / (l.inputs + 4 * l.blocks)) =
    s.wgradRows a l at_ (len / (l.inputs + 4 * l.blocks)) := rfl
  have hparams : ({ s with counters := c' } : State).wgradParams a l at_ (len / (l.inputs + 4 * l.blocks)) =
    s.wgradParams a l at_ (len / (l.inputs + 4 * l.blocks)) := rfl
  have hbias : ({ s with counters := c' } : State).wgradBias a l = s.wgradBias a l := rfl
  rw [hrows, hparams, hbias] at hb
  rw [hb]
  generalize len / (l.inputs + 4 * l.blocks) = tokens at *
  have hsb : Untouched s b := ⟨hub.same .mem rfl, hub.same .slab rfl, hub.same .out rfl⟩
  have hopen {w : Span} (hw : w ∈ wgradSpans a l at_ len) : Open s (placeOf w.v) w.n :=
    open_of_spans (rangeCheck_of_spanCheck hspan) hw (xs := []) (by rw [List.append_nil]; exact hacc)
  have hlen : (s.wgradParams a l at_ tokens).length = l.weights := by
    rw [State.wgradParams, List.length_map, paramOrder_length]
  have hout := State.stored_rows hmem hsb (hub.same .hbm rfl) (s.queuePart q) a.die (m := 1) (ys := [s.wgradParams a l at_ tokens]) rfl hlen
    (fun y hy => List.mem_singleton.1 hy ▸ hlen)
    (hopen (w := ⟨72, a.out, tensorBytes (outFmtOf a.outFmt) 1 l.weights, true⟩) (by simp [wgradSpans]))
  have hbt := State.storeRows_evolves b (s.queuePart q) a.die (outFmtOf a.outFmt) (placeOf a.out) [s.wgradParams a l at_ tokens]
  dsimp only
  generalize b.storeRows (s.queuePart q) a.die (outFmtOf a.outFmt) (placeOf a.out) [s.wgradParams a l at_ tokens] = t at *
  have hwrote := wgradBias_wrote (s := s) (a := a) (l := l) (hbt.memory (memoryOk_of_untouched hsb hmem))
    ((hbt.same .hbm rfl).trans (hub.same .hbm rfl)) (s.queuePart q) fun h0 =>
      hopen (w := ⟨96, a.biasOut, 4 * l.outputs, true⟩) (by simp [wgradSpans, h0])
  have htu : Evolves 62980098 t (if a.biasOut = 0 then t else t.writeAt (s.queuePart q) (placeOf a.biasOut) (s.wgradBias a l)) := by
    split
    · exact .refl
    · exact (State.writeAt_evolves ..).mono rfl
  dsimp only at hwrote
  generalize (if a.biasOut = 0 then t else t.writeAt (s.queuePart q) (placeOf a.biasOut) (s.wgradBias a l)) = u at *
  obtain ⟨v, hv⟩ : ∃ v, v = (if a.final then u.setGrad a.die { u.grad a.die with
      gradSq := tput (u.grad a.die).gradSq l.num (add64 (tget 0 (u.grad a.die).gradSq l.num)
        (sumSquares a.shape (s.wgradRows a l at_ tokens))) } else u) := ⟨_, rfl⟩
  rw [← hv]
  have huv : Evolves 4294967296 u v := by
    rw [hv]
    exact .ite (State.setGrad_evolves ..) .refl
  have hparts : v.parts = s.parts :=
    (huv.same .parts rfl).trans ((htu.same .parts rfl).trans ((hbt.same .parts rfl).trans (hub.same .parts rfl)))
  have hqueues : v.queues = s.queues :=
    (huv.same .queues rfl).trans ((htu.same .queues rfl).trans ((hbt.same .queues rfl).trans (hub.same .queues rfl)))
  have hsums : (u.grad a.die).gradSq = (s.grad a.die).gradSq := by
    rw [grad_congr ((htu.same .grads rfl).trans (hbt.same .grads rfl)), hsum]
    rfl
  have huf : Untouched u (v.finish q stOk (sumResult a.sumsq (sumSquares a.shape (s.wgradRows a l at_ tokens)))) :=
    untouched_trans ⟨huv.same .mem rfl, huv.same .slab rfl, huv.same .out rfl⟩ (untouched_finish ..)
  rw [State.releaseSlot_of_kept (by rw [State.finish_part, part_congr hparts, hwant])]
  refine ⟨finished_finish (r := r) (by rw [queue_congr hqueues, hq]) hdone, ⟨t, hout, ?_⟩, ?_⟩
  · by_cases h0 : a.biasOut = 0
    · simp only [h0, if_true] at hwrote ⊢
      exact untouched_trans hwrote huf
    · simp only [h0, if_false] at hwrote ⊢
      exact wrote_congr hwrote ⟨rfl, rfl, rfl⟩ huf
  · rw [grad_congr ((State.finish_evolves ..).same .grads rfl), hv]
    cases a.final with
    | false => rw [if_neg Bool.false_ne_true, if_neg Bool.false_ne_true, hsums]
    | true => rw [if_pos rfl, if_pos rfl, State.grad_setGrad, tget_tput_self, hsums]

end

/-- Settles O28: the outputs of both are rows that `State.storeRows` stores. -/
theorem gradientsAreStored : Obligations.GradientsAreStored := by
  unfold Obligations.GradientsAreStored
  intro s q r l hmem
  dsimp only
  intro hl
  refine ⟨fun hrun hgrad hspan hacc => ingrad_answers hmem rfl hl hrun hgrad hspan hacc,
    fun at_ len hrun hgrad hslot hneed hspan hacc hkeep hwant => ?_⟩
  exact wgrad_answers hmem rfl hl hrun hgrad hslot hneed hspan hacc hkeep hwant _ rfl

end Sys2Proof.Machine
end

section
/-! Rows that are loaded and stored (R301, R305, R306). -/

namespace Sys2Proof.Machine

open Sys2Proof Sys2Proof.Safety

theorem wordsOf_length (w : Nat) : ∀ (n : Nat) (bs : List Byte), (wordsOf w n bs).length = n
  | 0, _ => rfl
  | n + 1, bs => by rw [wordsOf, List.length_cons, wordsOf_length w n]

theorem words32_length (n : Nat) (bs : List Byte) : (words32 n bs).length = n := by rw [words32, List.length_map, wordsOf_length]

theorem State.loadRow_length (s : State) (f : TFmt) (pl : Place) (rows stride r n : Nat) :
    (s.loadRow f pl rows stride r n).length = n := by
  cases f with
  | f32 => exact words32_length ..
  | bf16 => exact (List.length_map ..).trans (wordsOf_length ..)
  | e4m3 => exact (List.length_map ..).trans List.length_range
  | e5m2 => exact (List.length_map ..).trans List.length_range

/-- Every row of a list has a given length. -/
def Rect (ys : List (List Word)) (m n : Nat) : Prop := ys.length = m ∧ ∀ y ∈ ys, y.length = n

theorem State.loadRows_rect (s : State) (f : TFmt) (pl : Place) (rows d : Nat) : Rect (s.loadRows f pl rows d) rows d := by
  refine ⟨by simp [State.loadRows], fun y hy => ?_⟩
  obtain ⟨r, -, rfl⟩ := List.mem_map.1 hy
  exact s.loadRow_length ..

theorem Rect.flatten_length {ys : List (List Word)} {m n : Nat} (h : Rect ys m n) : ys.flatten.length = m * n := by
  obtain ⟨rfl, hn⟩ := h
  rw [List.length_flatten, List.map_congr_left hn, List.map_const', List.sum_replicate_nat]

/-- The first pieces of a long enough list are whole. -/
theorem chunks_take_rect {d : Nat} (hd : 0 < d) : ∀ {rows k : Nat} {xs : List Word}, xs.length ≤ k → rows * d ≤ xs.length →
    Rect ((chunks d k xs).take rows) rows d
  | 0, _, _, _, _ => ⟨rfl, nofun⟩
  | rows + 1, k, xs, hk, hlen => by
    rw [Nat.succ_mul] at hlen
    cases k with
    | zero => omega
    | succ k =>
      have hne : xs.isEmpty = false := by
        cases xs with
        | nil => simp at hlen; omega
        | cons x xs => rfl
      obtain ⟨hl, hrow⟩ := chunks_take_rect hd (rows := rows) (k := k) (xs := xs.drop d)
        (by rw [List.length_drop]; omega) (by rw [List.length_drop]; omega)
      rw [chunks, hne, if_neg Bool.false_ne_true, List.take_succ_cons]
      refine ⟨by rw [List.length_cons, hl], List.forall_mem_cons.2 ⟨?_, hrow⟩⟩
      rw [List.length_take]
      omega

theorem chunk_take_rect {d rows : Nat} (hd : 0 < d) {xs : List Word} (h : rows * d ≤ xs.length) :
    Rect ((chunk d xs).take rows) rows d := chunks_take_rect hd (Nat.le_refl _) h

/-- A rectangle's first row has the length of its rows. -/
theorem Rect.headD_length {ys : List (List Word)} {m n : Nat} (h : Rect ys m n) (hm : 0 < m) : (ys.headD []).length = n := by
  obtain ⟨hl, hrow⟩ := h
  cases ys with
  | nil => simp only [List.length_nil] at hl; omega
  | cons y ys => exact hrow y List.mem_cons_self

/-- Two rectangles row by row. -/
theorem Rect.map_zip {ys zs : List (List Word)} {m n : Nat} (hy : Rect ys m n) (hz : Rect zs m n)
    {f : List Word × List Word → List Word} (hf : ∀ y z, y.length = n → z.length = n → (f (y, z)).length = n) :
    Rect ((ys.zip zs).map f) m n := by
  obtain ⟨hyl, hyr⟩ := hy
  obtain ⟨hzl, hzr⟩ := hz
  refine ⟨by simp [hyl, hzl], fun v hv => ?_⟩
  obtain ⟨⟨y, z⟩, he, rfl⟩ := List.mem_map.1 hv
  obtain ⟨h1, h2⟩ := List.of_mem_zip he
  exact hf y z (hyr y h1) (hzr z h2)

theorem Rect.map_zip_zipIdx {ys zs : List (List Word)} {m n : Nat} (hy : Rect ys m n) (hz : Rect zs m n)
    {f : (List Word × List Word) × Nat → List Word} (hf : ∀ y z i, y.length = n → z.length = n → (f ((y, z), i)).length = n) :
    Rect ((ys.zip zs).zipIdx.map f) m n := by
  obtain ⟨hyl, hyr⟩ := hy
  obtain ⟨hzl, hzr⟩ := hz
  refine ⟨by simp [hyl, hzl], fun v hv => ?_⟩
  obtain ⟨⟨⟨y, z⟩, i⟩, he, rfl⟩ := List.mem_map.1 hv
  obtain ⟨h1, h2⟩ := List.of_mem_zip (List.fst_mem_of_mem_zipIdx he)
  exact hf y z i (hyr y h1) (hzr z h2)

/-- A rectangle written by a command that has passed its checks, in terms of the state before it. -/
theorem State.stored_rect {s b : State} (hok : MemoryOk s) (hu : Untouched s b) (hhbm : b.hbm = s.hbm) (fn : Nat) {f : TFmt}
    {pl : Place} {ys : List (List Word)} {m n : Nat} (hrect : Rect ys m n) (hopen : Open s pl (tensorBytes f m n)) :
    Stored s (b.writeRows fn f pl ys) f pl ys := by
  have hhead : ∀ y ∈ ys, y.length = (ys.headD []).length := by
    obtain ⟨-, hrow⟩ := hrect
    intro y hy
    cases ys with
    | nil => cases hy
    | cons z ys => rw [hrow y hy, List.headD_cons, hrow z List.mem_cons_self]
  have hbytes : tensorBytes f ys.length (ys.headD []).length = tensorBytes f m n := by
    rcases Nat.eq_zero_or_pos m with h0 | hpos
    · rw [hrect.1, h0]
      simp only [tensorBytes, Nat.zero_mul]
    · rw [hrect.1, hrect.headD_length hpos]
  have hopen' : Open b pl (tensorBytes f ys.length (ys.headD []).length) := by
    rw [hbytes]
    exact open_congr hhbm hopen
  exact stored_congr (State.stored_writeRows (memoryOk_of_untouched hu hok) fn hhead hopen') (untouched_symm hu) ⟨rfl, rfl, rfl⟩

theorem State.writeRows_queues (s : State) (fn : Nat) (f : TFmt) (pl : Place) (ys : List (List Word)) :
    (s.writeRows fn f pl ys).queues = s.queues := (State.writeRows_evolves ..).same .queues rfl
theorem State.writeRows_parts (s : State) (fn : Nat) (f : TFmt) (pl : Place) (ys : List (List Word)) :
    (s.writeRows fn f pl ys).parts = s.parts := (State.writeRows_evolves ..).same .parts rfl

end Sys2Proof.Machine
end

section
/-! ROW backward (R301 to R309). -/

namespace Sys2Proof.Machine

open Sys2Proof Sys2Proof.Safety

/-! ### Lengths -/

theorem softBack_length (a : RowArgs) (mb : List Byte) (r : Nat) (ys dy : List Word) :
    (softBack a mb r ys dy).length = min ys.length dy.length := by simp [softBack]

theorem normBack_length (layer : Bool) (gamma : List Word) (st : Word × Word) (xs dy : List Word) :
    (normBack layer gamma st xs dy).1.length = min dy.length xs.length := by simp [normBack]

theorem RowArgs.forward_length (a : RowArgs) (mb : List Byte) (r : Nat) (st : Word × Word) (xs : List Word) (h : a.fn = 2) :
    (a.forward mb [] [] r st xs).length = xs.length := by
  have hn : a.norm = false := by simp [RowArgs.norm, h]
  unfold RowArgs.forward
  rw [hn, if_neg Bool.false_ne_true, if_pos h]
  split
  · exact List.length_map ..
  · split
    · exact List.length_map ..
    · simp [softRow, RowArgs.scaled]

/-- The rows of the slot that a backward pass reads. -/
theorem State.slotRows_rect {s : State} {p slot rows d at_ : Nat} {f : TFmt × Nat × Nat}
    (h : s.slotTensor p slot rows d = some f) (hd : 0 < d) : Rect (s.slotRows f at_ rows d) rows d := by
  refine chunk_take_rect hd ?_
  rw [(s.loadRows_rect f.1 (.dev at_) f.2.1 f.2.2).flatten_length]
  unfold State.slotTensor at h
  split at h
  · split at h
    · next hle =>
      cases h
      exact hle
    · contradiction
  · contradiction

/-! ### What is stored -/

section
variable (s : State) (a : RowArgs)

/-- The mask's bytes, the gradients that come in, and the gains. -/
def State.rowMask : List Byte :=
  if a.fn = 2 && a.mask = 2 then s.readAt (placeOf a.maskAddr) (ceilDiv (a.rows * a.d) 8) else []
def State.rowDy : List (List Word) := s.loadRows a.inFmt (placeOf a.dy) a.rows a.d
def State.rowGamma : List Word := words32 a.d (s.readAt (placeOf a.gamma) (4 * a.d))
/-- The statistics of a row: its record, or computed. -/
def State.rowStat (rs : Option (List (Word × Word))) (i : Nat) (x : List Word) : Word × Word :=
  match rs with
  | some v => v.getD i (0, 0)
  | none => a.stats (s.rowMask a) i x
/-- The gradient of every row through a normalisation. -/
def State.rowNormOut (rs : Option (List (Word × Word))) (saved : List (List Word)) : List (List Word) :=
  (saved.zip (s.rowDy a)).zipIdx.map fun e =>
    let dx := (normBack (a.fn == 0) (s.rowGamma a) (s.rowStat a rs e.2 e.1.1) e.1.1 e.1.2).1
    if a.resid = 0 then dx else List.zipWith add32 (s.loadRow .f32 (placeOf a.resid) a.rows a.d e.2 a.d) dx
/-- The gradient of every row through a softmax, from its outputs or from its inputs. -/
def State.rowSoftOut (rs : Option (List (Word × Word))) (isY : Bool) (saved : List (List Word)) : List (List Word) :=
  (saved.zip (s.rowDy a)).zipIdx.map fun e =>
    softBack a (s.rowMask a) e.2
      (if isY then e.1.1 else a.forward (s.rowMask a) [] [] e.2 (s.rowStat a rs e.2 e.1.1) e.1.1) e.1.2
/-- The gradient of every row through an activation. -/
def State.rowPointOut (saved : List (List Word)) : List (List Word) :=
  (saved.zip (s.rowDy a)).map fun e => List.zipWith (fun y v => mul32 v (derivOf a.fn y)) e.1 e.2
/-- The gradient of every row through the operation that the arguments name. -/
def State.rowOut (rs : Option (List (Word × Word))) (isY : Bool) (saved : List (List Word)) : List (List Word) :=
  if a.norm then s.rowNormOut a rs saved else if a.fn = 2 then s.rowSoftOut a rs isY saved else s.rowPointOut a saved

end

section
variable {s : State} {a : RowArgs} {rs : Option (List (Word × Word))} {isY : Bool} {saved : List (List Word)}

theorem State.rowOut_norm (h : a.fn < 2) : s.rowOut a rs isY saved = s.rowNormOut a rs saved := by
  simp [State.rowOut, RowArgs.norm, h]
theorem State.rowOut_soft (h : a.fn = 2) : s.rowOut a rs isY saved = s.rowSoftOut a rs isY saved := by
  simp [State.rowOut, RowArgs.norm, h]
theorem State.rowOut_point (h : 2 < a.fn) : s.rowOut a rs isY saved = s.rowPointOut a saved := by
  have h2 : ¬ a.fn < 2 := by omega
  have h3 : a.fn ≠ 2 := by omega
  simp [State.rowOut, RowArgs.norm, h2, h3]

end

theorem State.rowOut_rect (s : State) (a : RowArgs) (rs : Option (List (Word × Word))) (isY : Bool) {saved : List (List Word)}
    (h : Rect saved a.rows a.d) : Rect (s.rowOut a rs isY saved) a.rows a.d := by
  have hdy : Rect (s.rowDy a) a.rows a.d := s.loadRows_rect ..
  unfold State.rowOut
  split
  · refine h.map_zip_zipIdx hdy fun y z i hy hz => ?_
    dsimp only
    split <;> simp [normBack_length, hy, hz, State.loadRow_length]
  · split
    · next h2 =>
      refine h.map_zip_zipIdx hdy fun y z i hy hz => ?_
      rw [softBack_length]
      split <;> simp [RowArgs.forward_length _ _ _ _ _ h2, hy, hz]
    · exact h.map_zip hdy fun y z hy hz => by simp [hy, hz]

/-- Numbering a list of numbered entries again gives the same numbers. -/
theorem zipIdx_map_zipIdx {α β γ : Type} (l : List α) (g : α × Nat → β) (h : β × Nat → γ) :
    (l.zipIdx.map g).zipIdx.map h = l.zipIdx.map fun e => h (g e, e.2) := by
  refine List.ext_getElem (by simp) fun i h1 h2 => ?_
  simp

theorem State.addColumns_zero (s : State) (fn : Nat) (sums : List Word64) : s.addColumns fn 0 sums = s := if_pos rfl

/-- A backward pass stores its gradients; a normalisation adds column sums afterwards. -/
theorem State.runRowBack_eq (s : State) (q p : Nat) (a : RowArgs) (saved : List (List Word)) (isY : Bool)
    (rs : Option (List (Word × Word))) (release : Bool) : ∃ t,
    (s.runRowBack q p a saved isY rs release = (t.finish q stOk result0).releaseSlot p q a.slot release) ∧
      Evolves 62980098 (s.writeRows p a.fmt (placeOf a.out) (s.rowOut a rs isY saved)) t ∧
      ((a.norm = true → a.dgamma = 0 ∧ a.dbeta = 0) → t = s.writeRows p a.fmt (placeOf a.out) (s.rowOut a rs isY saved)) := by
  unfold State.runRowBack State.rowOut
  dsimp only
  split
  · next hn =>
    rw [zipIdx_map_zipIdx]
    refine ⟨_, rfl, (State.addColumns_evolves ..).app (State.addColumns_evolves ..) rfl, fun h => ?_⟩
    obtain ⟨hg, hb⟩ := h hn
    rw [hg, hb, State.addColumns_zero, State.addColumns_zero]
    rfl
  · split
    · exact ⟨_, rfl, .refl, fun _ => rfl⟩
    · exact ⟨_, rfl, .refl, fun _ => rfl⟩

/-! ### The command -/

section
variable {s : State} {q : Nat} {r : Running} {a : RowArgs} (ha : a = rowArgs r.args) (hrun : Runs s q 0x13 r)
  (hback : dFlag r.desc 0 = true) (hphase : dPhase r.desc = 2) (hcheck : rowCheck (s.part (s.queuePart q)) r.args a true = none)
include ha hrun hback hphase hcheck

/-- A backward pass from the slot. -/
theorem exec_rowBack {at_ len : Nat} {f : TFmt × Nat × Nat} (hsoft : a.fn = 2 → a.slot ≠ 0xFFFF)
    (hslot : s.readSlot (s.queuePart q) a.slot = .inr (at_, len))
    (htensor : s.slotTensor (s.queuePart q) a.slot a.rows a.d = some f)
    (hacc : s.badAccess (spanAccess (rowSpans a true) ++ [(false, .dev at_, len)]) = none) :
    ∃ c, exec (.row q) s = .next (({ s with counters := c } : State).runRowBack q (s.queuePart q) a
      (s.slotRows f at_ a.rows a.d) (!a.norm) (s.records a at_ len) (dFlag r.desc 1)) := by
  obtain ⟨c, hc⟩ := s.countReads_eq (spanAccess (rowSpans a true) ++ [(false, .dev at_, len)])
  refine ⟨c, ?_⟩
  subst ha
  change execRow q s = _
  have hs : (decide ((rowArgs r.args).fn = 2) && decide ((rowArgs r.args).slot = 0xFFFF)) = false := by
    simpa [Decidable.imp_iff_not_or] using hsoft
  rw [execRow, onRunning_run hrun]
  simp only [hback, hphase, bne_self_eq_false, Bool.and_false, Bool.false_eq_true, if_false, hcheck, if_true,
    State.startRowBack, hs, hslot, htensor]
  rw [State.access_of_pass hacc, hc]
  rfl

/-- A softmax's backward pass that names no slot. -/
theorem exec_rowBack_unsaved (hsoft : a.fn = 2) (hnone : a.slot = 0xFFFF)
    (hacc : s.badAccess (spanAccess (rowSpans a true)) = none) :
    ∃ c, exec (.row q) s = .next (({ s with counters := c } : State).runRowBack q (s.queuePart q) a
      (s.loadRows a.inFmt (placeOf a.x) a.rows a.d) false none (dFlag r.desc 1)) := by
  obtain ⟨c, hc⟩ := s.countReads_eq (spanAccess (rowSpans a true))
  refine ⟨c, ?_⟩
  subst ha
  change execRow q s = _
  rw [execRow, onRunning_run hrun]
  simp only [hback, hphase, bne_self_eq_false, Bool.and_false, Bool.false_eq_true, if_false, hcheck, if_true,
    State.startRowBack, hsoft, hnone, decide_true, Bool.and_self]
  rw [State.access_of_pass hacc, hc]
  rfl

end

theorem rowArgs_pos (bs : List Byte) : 0 < (rowArgs bs).d := Nat.succ_pos _

/-- A backward pass without a release ends with the gradients stored. -/
theorem runRowBack_stored {s : State} {q : Nat} {r : Running} {a : RowArgs} (hmem : MemoryOk s)
    (hq : (s.queue q).running = some r) (hdone : r.done = none)
    (hwant : (s.part (s.queuePart q)).wantRelease.contains a.slot = false)
    (hcheck : rowCheck (s.part (s.queuePart q)) r.args a true = none) {xs : List (Bool × Place × Nat)}
    (hacc : s.badAccess (spanAccess (rowSpans a true) ++ xs) = none) {saved : List (List Word)} (hsaved : Rect saved a.rows a.d)
    (isY : Bool) (rs : Option (List (Word × Word))) (c) (u : State)
    (hu : u = ({ s with counters := c } : State).runRowBack q (s.queuePart q) a saved isY rs false) :
    Finished u q stOk result0 ∧ ((a.norm = true → a.dgamma = 0 ∧ a.dbeta = 0) →
      Stored s u a.fmt (placeOf a.out) (s.rowOut a rs isY saved)) := by
  obtain ⟨t, ht, hev, hplain⟩ := ({ s with counters := c } : State).runRowBack_eq q (s.queuePart q) a saved isY rs false
  have hw := State.writeRows_evolves { s with counters := c } (s.queuePart q) a.fmt (placeOf a.out)
    (({ s with counters := c } : State).rowOut a rs isY saved)
  have hparts : t.parts = s.parts := (hev.same .parts rfl).trans (hw.same .parts rfl)
  have hqueues : t.queues = s.queues := (hev.same .queues rfl).trans (hw.same .queues rfl)
  rw [State.releaseSlot_of_kept (by rw [State.finish_part, part_congr hparts, hwant])] at ht
  rw [hu, ht]
  refine ⟨finished_finish (r := r) (by rw [queue_congr hqueues, hq]) hdone, fun h => ?_⟩
  have hrange : rangeCheck (s.part (s.queuePart q)) (rowSpans a true) = none := firstFail_eq_none hcheck _ (by simp)
  have hopen : Open s (placeOf a.out) (tensorBytes a.fmt a.rows a.d) :=
    open_of_spans (a := ⟨32, a.out, tensorBytes a.fmt a.rows a.d, true⟩) hrange (by simp [rowSpans]) hacc
  have hstored := State.stored_rect hmem (b := { s with counters := c }) ⟨rfl, rfl, rfl⟩ rfl (s.queuePart q)
    (s.rowOut_rect a rs isY hsaved) hopen
  rw [hplain h]
  exact stored_congr hstored ⟨rfl, rfl, rfl⟩ (untouched_finish ..)

/-- Settles O30: what is stored is `State.rowOut` of the rows that were saved. -/
theorem rowBackwardIsStored : Obligations.RowBackwardIsStored := by
  unfold Obligations.RowBackwardIsStored
  intro s q r hmem hrun hback hphase
  dsimp only
  have hd := rowArgs_pos r.args
  generalize ha : rowArgs r.args = a at *
  intro hrel hwant hcheck
  obtain ⟨hq, -, hdone, -⟩ := runningOp_some hrun.2
  refine ⟨fun at_ len f hne hslot htensor hacc => ?_, fun hsoft hnone hacc => ?_⟩
  · obtain ⟨c, hexec⟩ := exec_rowBack ha.symm hrun hback hphase hcheck (fun _ => hne) hslot htensor hacc
    rw [hrel] at hexec
    obtain ⟨hfin, hstored⟩ := runRowBack_stored hmem hq hdone hwant hcheck hacc
      (State.slotRows_rect htensor hd) (!a.norm) (s.records a at_ len) c _ rfl
    refine ⟨fun h => ⟨_, hexec, hfin, ?_⟩, fun h => ?_, fun h => ⟨_, hexec, hfin, fun hg hb => ?_⟩⟩
    · rw [State.rowOut_point (by omega)] at hstored
      exact hstored (by simp [RowArgs.norm]; omega)
    · have hn : a.norm = false := by simp [RowArgs.norm, h]
      rw [State.rowOut_soft h] at hstored
      rw [hn] at hstored hexec hfin
      exact ⟨_, hexec, hfin, hstored fun hno => absurd hno Bool.false_ne_true⟩
    · rw [State.rowOut_norm h] at hstored
      exact hstored fun _ => ⟨hg, hb⟩
  · obtain ⟨c, hexec⟩ := exec_rowBack_unsaved ha.symm hrun hback hphase hcheck hsoft hnone hacc
    rw [hrel] at hexec
    obtain ⟨hfin, hstored⟩ := runRowBack_stored hmem hq hdone hwant hcheck (xs := []) (by rw [List.append_nil]; exact hacc)
      (s.loadRows_rect a.inFmt (placeOf a.x) a.rows a.d) false none c _ rfl
    rw [State.rowOut_soft hsoft] at hstored
    exact ⟨_, hexec, hfin, hstored (by simp [RowArgs.norm, hsoft])⟩

end Sys2Proof.Machine
end

section
/-! DERIV (R310 to R312). -/

namespace Sys2Proof.Machine

open Sys2Proof Sys2Proof.Safety

theorem derivRows_rect (a : DerivArgs) (l : Option Layer) (dy saved : List (List Word)) :
    Rect (derivRows a l dy saved) a.rows a.cols := by
  refine ⟨by simp [derivRows], fun y hy => ?_⟩
  obtain ⟨r, -, rfl⟩ := List.mem_map.1 hy
  simp

/-- The saved rows that DERIV works on, and the range it reads them from. -/
def State.derivSavedRows (s : State) (a : DerivArgs) (saved : Option Saved) : List (List Word) :=
  match saved with
  | some v => (chunk a.cols (s.loadRows v.fmt v.at_ v.rows v.cols).flatten).take a.rows
  | none => []
def derivReads (saved : Option Saved) : List (Bool × Place × Nat) :=
  match saved with
  | some v => [(false, v.at_, v.len)]
  | none => []

/-- What DERIV stores. -/
def State.derivOut (s : State) (a : DerivArgs) (l : Option Layer) (saved : Option Saved) : List (List Word) :=
  derivRows a l (s.loadRows a.dyFmt (placeOf a.dy) a.dyRows a.cols) (s.derivSavedRows a saved)

theorem State.runDeriv_eq (s : State) (q p : Nat) (a : DerivArgs) (l : Option Layer) (saved : Option Saved) (release : Bool) :
    s.runDeriv q p a l saved release = s.access q (spanAccess (derivSpans a) ++ derivReads saved) fun t =>
      ((t.writeRows p a.outFmt (placeOf a.out) (t.derivOut a l saved)).finish q stOk result0).releaseSlot p q a.slot release := by
  cases saved <;> rfl

theorem exec_deriv {s : State} {q : Nat} {r : Running} {a : DerivArgs} (ha : a = derivArgs r.desc) {saved : Option Saved}
    (hrun : Runs s q 0x16 r) (hcheck : derivCheck (s.part (s.queuePart q)) a = none)
    (hlayer : a.needsLayer = true → (findLayer r.work.layers a.layer).isSome = true)
    (hsaved : s.derivSaved (s.queuePart q) a false = .inr saved) (hacc : s.badAccess (spanAccess (derivSpans a) ++ derivReads saved) = none)
    (hkeep : dFlag r.desc 0 = false) : ∃ c, exec (.deriv q) s = .next
      (((({ s with counters := c } : State).writeRows (s.queuePart q) a.outFmt (placeOf a.out)
        (s.derivOut a (findLayer r.work.layers a.layer) saved)).finish q stOk result0).releaseSlot (s.queuePart q) q a.slot false) := by
  obtain ⟨c, hc⟩ := s.countReads_eq (spanAccess (derivSpans a) ++ derivReads saved)
  refine ⟨c, ?_⟩
  subst ha
  change execDeriv q s = _
  have hl : ((derivArgs r.desc).needsLayer && (findLayer r.work.layers (derivArgs r.desc).layer).isNone) = false := by
    cases hn : (derivArgs r.desc).needsLayer with
    | false => rfl
    | true => simp [Option.isNone_eq_false_iff, hlayer hn]
  rw [execDeriv, onRunning_run hrun]
  simp only [hcheck, hl, Bool.false_eq_true, if_false, hkeep, hsaved]
  rw [State.runDeriv_eq, State.access_of_pass hacc, hc]
  rfl

/-- DERIV without a release stores the gradients. -/
theorem deriv_answers {s : State} {q : Nat} {r : Running} {a : DerivArgs} (hmem : MemoryOk s) (ha : a = derivArgs r.desc)
    {saved : Option Saved} (hrun : Runs s q 0x16 r) (hcheck : derivCheck (s.part (s.queuePart q)) a = none)
    (hlayer : a.needsLayer = true → (findLayer r.work.layers a.layer).isSome = true)
    (hsaved : s.derivSaved (s.queuePart q) a false = .inr saved) (hacc : s.badAccess (spanAccess (derivSpans a) ++ derivReads saved) = none)
    (hkeep : dFlag r.desc 0 = false) (hwant : (s.part (s.queuePart q)).wantRelease.contains a.slot = false) :
    Answers (.deriv q) s fun t => Finished t q stOk result0 ∧
      Stored s t a.outFmt (placeOf a.out) (s.derivOut a (findLayer r.work.layers a.layer) saved) := by
  obtain ⟨hq, -, hdone, -⟩ := runningOp_some hrun.2
  obtain ⟨c, hexec⟩ := exec_deriv ha hrun hcheck hlayer hsaved hacc hkeep
  have hrange := firstFail_eq_none hcheck _ (List.mem_cons_of_mem _ (List.mem_cons_of_mem _ List.mem_cons_self))
  have hopen : Open s (placeOf a.out) (tensorBytes a.outFmt a.rows a.cols) :=
    open_of_spans (a := ⟨56, a.out, tensorBytes a.outFmt a.rows a.cols, true⟩) hrange (by simp [derivSpans]) hacc
  have hstored := State.stored_rect hmem (b := { s with counters := c }) ⟨rfl, rfl, rfl⟩ rfl (s.queuePart q)
    (derivRows_rect a (findLayer r.work.layers a.layer) (s.loadRows a.dyFmt (placeOf a.dy) a.dyRows a.cols)
      (s.derivSavedRows a saved)) hopen
  rw [State.releaseSlot_of_kept (by rw [State.finish_part, part_congr (State.writeRows_parts ..)]; exact hwant)] at hexec
  refine ⟨_, hexec, finished_finish (r := r) ?_ hdone, stored_congr hstored ⟨rfl, rfl, rfl⟩ (untouched_finish ..)⟩
  rw [queue_congr (State.writeRows_queues ..)]
  exact hq

end Sys2Proof.Machine
end

section
/-! VPROG (R347 to R352). -/

namespace Sys2Proof.Machine

open Sys2Proof Sys2Proof.Safety

/-! ### Streams that a program stores to -/

/-- From `m` an instruction has stored to the stream that it names as a STORE, or left the stores as they are. -/
def StoresBy (m : Vm) (i : VIns) (v : Vm) : Prop :=
  v.out = m.out ∨ i.op = 0x1D ∧ ∃ n xs, v.out = m.out ++ [(i.d, n, xs)]

theorem Vm.run_out (ld : Nat → Nat → List Word) (m : Vm) (i : VIns) : StoresBy m i (m.run ld i) := by
  have plain {v : Vm} (h : v.out = m.out) : StoresBy m i v := .inl h
  unfold Vm.run
  refine iteInduction (fun _ => plain rfl) fun _ => iteInduction (fun _ => plain rfl) fun _ => ?_
  refine iteInduction (fun _ => plain rfl) fun _ => iteInduction (fun _ => plain rfl) fun _ => ?_
  refine iteInduction (fun _ => plain rfl) fun _ => iteInduction (fun _ => plain rfl) fun _ => ?_
  refine iteInduction (fun _ => plain rfl) fun _ => iteInduction (fun h => .inr ⟨h, _, _, rfl⟩) fun _ => ?_
  refine iteInduction (fun _ => plain rfl) fun _ => iteInduction (fun _ => ?_) fun _ => plain rfl
  exact iteInduction (fun _ => plain rfl) fun _ => plain rfl

theorem foldl_run_out (ld : Nat → Nat → List Word) : ∀ (is : List VIns) (m : Vm) {o : Nat × Nat × List (Option Word)},
    o ∈ (is.foldl (Vm.run ld) m).out → o ∈ m.out ∨ ∃ i ∈ is, i.op = 0x1D ∧ o.1 = i.d
  | [], _, _, h => .inl h
  | i :: is, m, o, h => by
    rcases foldl_run_out ld is (m.run ld i) h with h | ⟨j, hj, hop, ho⟩
    · rcases m.run_out ld i with e | ⟨hop, n, xs, e⟩
      · exact .inl (e ▸ h)
      · rw [e, List.mem_append, List.mem_singleton] at h
        rcases h with h | rfl
        · exact .inl h
        · exact .inr ⟨i, List.mem_cons_self, hop, rfl⟩
    · exact .inr ⟨j, List.mem_cons_of_mem _ hj, hop, ho⟩

/-- A program without misuse stores to bound output streams alone. -/
theorem customBlock_bound {s : State} {a : VprogArgs} {ws : List Word} (h : customMisuse a ws = false) (k j : Nat)
    {o : Nat × Nat × List (Option Word)} (ho : o ∈ (s.customBlock a ws k j).out) : bit a.outs o.1 = true := by
  rcases foldl_run_out _ _ _ ho with hstart | ⟨i, hi, hop, hd⟩
  · cases hstart
  · have hno := List.any_eq_false.1 h i hi
    rw [hd]
    simpa [hop] using hno

/-- Four bits bind at most four streams. -/
theorem lt_four_of_bit {v : Nat} {i : Nat} (h : bit (bits v 0 4) i = true) : i < 4 := by
  refine Classical.byContradiction fun hi => ?_
  have hle : 2 ^ i ≤ bits v 0 4 := Nat.ge_two_pow_of_testBit h
  have hlt : bits v 0 4 < 2 ^ 4 := Nat.mod_lt _ (by decide)
  exact absurd (Nat.lt_of_lt_of_le hlt (Nat.pow_le_pow_right (by decide) (Nat.le_of_not_lt hi))) (Nat.not_lt.2 hle)

/-! ### Where a block's lanes are written -/

theorem convRow_single_length (f : TFmt) (w : Word) : (convRow f [w]).elems.length = f.size := by
  rw [convRow_elems_length, List.length_singleton, Nat.one_mul]

/-- The writes of a block lie within its stream. -/
theorem blockWrites_within {f : TFmt} {total e : Nat} {xs : List (Option Word)} {w : Nat × List Byte}
    (hw : w ∈ blockWrites f total e xs) : w.1 + w.2.length ≤ tensorBytes f 1 total := by
  unfold blockWrites at hw
  dsimp only at hw
  have hroad := le_roadUp (1 * total)
  unfold tensorBytes
  have hlane {x : Option Word × Nat} (hx : x ∈ (xs.take (total - e)).zipIdx) : e + x.2 + 1 ≤ total := by
    obtain ⟨-, hlt, -⟩ := List.mem_zipIdx hx
    rw [List.length_take] at hlt
    omega
  cases hb : f.blocked with
  | false =>
    rw [hb, if_neg Bool.false_ne_true] at hw
    rw [if_neg Bool.false_ne_true, Nat.one_mul]
    obtain ⟨x, hx, hxw⟩ := List.mem_filterMap.1 hw
    obtain ⟨v, -, rfl⟩ := Option.map_eq_some_iff.1 hxw
    rw [convRow_single_length, ← Nat.succ_mul]
    exact Nat.mul_le_mul_right _ (hlane hx)
  | true =>
    rw [hb, if_pos rfl] at hw
    rw [if_pos rfl, Nat.one_mul, Nat.one_mul] at *
    split at hw
    · cases hw
    · next hne =>
      rcases List.mem_append.1 hw with hw | hw
      · obtain ⟨⟨i, y⟩, hz, rfl⟩ := List.mem_map.1 hw
        obtain ⟨x, hx, rfl⟩ := List.mem_map.1 (List.of_mem_zip hz).1
        have := hlane (List.mem_filter.1 hx).1
        simp only [List.length_singleton]
        omega
      · cases List.mem_singleton.1 hw
        have hpos : e < total := by
          refine Classical.byContradiction fun hle => ?_
          rw [Nat.sub_eq_zero_of_le (Nat.le_of_not_lt hle)] at hne
          simp at hne
        have hscale : (convBlock (f == .e5m2) ((xs.take (total - e)).filterMap id)).scales.length = 1 := rfl
        rw [hscale]
        have : e / 32 + 1 ≤ ceilDiv total 32 := by
          unfold ceilDiv
          omega
        dsimp only
        omega

/-! ### Bytes of device memory outside the writes -/

/-- A write that ends before a byte of device memory, or starts after it, leaves it as it is. -/
theorem memByte_writeAt_out {s : State} (hok : MemoryOk s) (fn : Nat) {pl : Place} {bs : List Byte} {b : Nat}
    (h : ∀ c, pl = .dev c → b < c ∨ c + bs.length ≤ b) : memByte (s.writeAt fn pl bs).mem b = memByte s.mem b := by
  cases pl with
  | dev c =>
    cases hoff : s.offline c bs.length with
    | false =>
      have hm : (s.writeAt fn (.dev c) bs).mem = memWrite s.mem c bs := State.writeMem_mem hoff
      rw [hm]
      exact memByte_memWrite_out bs hok.1 (h c rfl)
    | true =>
      have hm : s.writeAt fn (.dev c) bs = s := if_pos hoff
      rw [hm]
  | slab c => rfl
  | host c => rfl

/-- A byte outside the stream that a block is written to. -/
theorem memByte_writeAll_out (fn : Nat) {pl : Place} {n b : Nat} (hb : ∀ c, pl = .dev c → b < c ∨ c + n ≤ b) :
    ∀ {ws : List (Nat × List Byte)} {t : State}, MemoryOk t → (∀ w ∈ ws, w.1 + w.2.length ≤ n) →
      memByte (t.writeAll fn pl ws).mem b = memByte t.mem b
  | [], _, _, _ => rfl
  | w :: ws, t, hok, hin => by
    have hw := hin w List.mem_cons_self
    have hone : memByte (t.writeAt fn (pl.plus w.1) w.2).mem b = memByte t.mem b := by
      refine memByte_writeAt_out hok fn fun c hc => ?_
      cases pl with
      | dev a =>
        cases hc
        have := hb a rfl
        omega
      | slab a => cases hc
      | host a => cases hc
    have hrest := memByte_writeAll_out fn hb (ws := ws) ((State.writeAt_evolves t fn (pl.plus w.1) w.2).memory hok)
      fun v hv => hin v (List.mem_cons_of_mem _ hv)
    exact hrest.trans hone

/-! ### Bundles -/

/-- Two states with the same memory, slab, stacks and free values: what a bundle reads and writes by. -/
structure SameData (s t : State) : Prop where
  mem : t.mem = s.mem
  slab : t.slab = s.slab
  free : t.free = s.free
  hbm : t.hbm = s.hbm

theorem SameData.writeAt {s t : State} (h : SameData s t) (fn : Nat) (pl : Place) (bs : List Byte) :
    SameData (s.writeAt fn pl bs) (t.writeAt fn pl bs) := by
  have hs := State.writeAt_evolves s fn pl bs
  have ht := State.writeAt_evolves t fn pl bs
  refine ⟨?_, ?_, ((ht.same .free rfl).trans h.free).trans (hs.same .free rfl).symm,
    ((ht.same .hbm rfl).trans h.hbm).trans (hs.same .hbm rfl).symm⟩
  · cases pl with
    | dev c =>
      have hoff := offline_congr h.hbm c bs.length
      cases ho : s.offline c bs.length with
      | false =>
        have h1 : (s.writeAt fn (.dev c) bs).mem = memWrite s.mem c bs := State.writeMem_mem ho
        have h2 : (t.writeAt fn (.dev c) bs).mem = memWrite t.mem c bs := State.writeMem_mem (hoff.trans ho)
        rw [h1, h2, h.mem]
      | true =>
        have h1 : s.writeAt fn (.dev c) bs = s := if_pos ho
        have h2 : t.writeAt fn (.dev c) bs = t := if_pos (hoff.trans ho)
        rw [h1, h2, h.mem]
    | slab c => exact h.mem
    | host c => exact h.mem
  · cases pl with
    | dev c =>
      have h1 : (s.writeAt fn (.dev c) bs).slab = s.slab := (State.writeMem_evolves s c bs).same .slab rfl
      have h2 : (t.writeAt fn (.dev c) bs).slab = t.slab := (State.writeMem_evolves t c bs).same .slab rfl
      rw [h1, h2, h.slab]
    | slab c => exact congrArg (memWrite · c bs) h.slab
    | host c => exact h.slab

theorem SameData.writeAll {s t : State} (h : SameData s t) (fn : Nat) (pl : Place) (ws : List (Nat × List Byte)) :
    SameData (s.writeAll fn pl ws) (t.writeAll fn pl ws) := by
  induction ws generalizing s t with
  | nil => exact h
  | cons w ws ih => exact ih (h.writeAt ..)

theorem SameData.customBlock {s t : State} (h : SameData s t) (a : VprogArgs) (ws : List Word) (k j : Nat) :
    t.customBlock a ws k j = s.customBlock a ws k j := by
  have hload (f : TFmt) (pl : Place) (total e n : Nat) : t.loadBlock f pl total e n = s.loadBlock f pl total e n := by
    cases f <;> simp only [State.loadBlock, readAt_congr h.mem h.slab]
  simp only [State.customBlock, hload, h.free]

/-- The blocks of a bundle and the streams they are stored to. -/
def State.bundleOuts (s : State) (a : VprogArgs) (ws : List Word) (k : Nat) : List (Nat × Nat × Nat × List (Option Word)) :=
  ((List.range 16).filter fun j => (k * 16 + j) * 32 < a.count).flatMap fun j => (s.customBlock a ws k j).out.map fun o => (j, o)
/-- One of them stored. -/
def State.storeBlock (s : State) (p : Nat) (a : VprogArgs) (ws : List Word) (k : Nat)
    (o : Nat × Nat × Nat × List (Option Word)) : State :=
  s.writeAll p (placeOf (a.addr (8 + o.2.1))) (blockWrites (a.fmt (8 + o.2.1)) a.count
    (((k * usesOf ws false o.2.1 + o.2.2.1) * 16 + o.1) * 32) o.2.2.2)

theorem State.customBundle_eq (s : State) (p : Nat) (a : VprogArgs) (ws : List Word) (k : Nat) : s.customBundle p a ws k =
    { (s.bundleOuts a ws k).foldl (fun t o => t.storeBlock p a ws k o) s with free := s.free + 32 } := rfl

theorem SameData.customBundle {s t : State} (h : SameData s t) (p : Nat) (a : VprogArgs) (ws : List Word) (k : Nat) :
    SameData (s.customBundle p a ws k) (t.customBundle p a ws k) := by
  have houts : t.bundleOuts a ws k = s.bundleOuts a ws k := by simp only [State.bundleOuts, h.customBlock]
  have hfold : ∀ (l : List (Nat × Nat × Nat × List (Option Word))) {s t : State}, SameData s t →
      SameData (l.foldl (fun t o => t.storeBlock p a ws k o) s) (l.foldl (fun t o => t.storeBlock p a ws k o) t) := by
    intro l
    induction l with
    | nil => exact id
    | cons o l ih => exact fun h => ih (h.writeAll ..)
  rw [State.customBundle_eq, State.customBundle_eq, houts]
  obtain ⟨hm, hl, -, hh⟩ := hfold (s.bundleOuts a ws k) h
  exact ⟨hm, hl, by rw [h.free], hh⟩

/-- A byte outside the bound output streams. -/
theorem memByte_customBundle_out {p : Nat} {a : VprogArgs} {ws : List Word} {b : Nat} (hmis : customMisuse a ws = false)
    (hfour : ∀ i, bit a.outs i = true → i < 4)
    (hb : ∀ i, i < 4 → bit a.outs i = true → ∀ c, placeOf (a.addr (8 + i)) = .dev c →
      b < c ∨ c + tensorBytes (a.fmt (8 + i)) 1 a.count ≤ b) {s : State} (hok : MemoryOk s) (k : Nat) :
    memByte (s.customBundle p a ws k).mem b = memByte s.mem b := by
  have hbound : ∀ o ∈ s.bundleOuts a ws k, bit a.outs o.2.1 = true := by
    intro o ho
    obtain ⟨j, -, hj⟩ := List.mem_flatMap.1 ho
    obtain ⟨o', ho', rfl⟩ := List.mem_map.1 hj
    exact customBlock_bound hmis k j ho'
  have hfold : ∀ (l : List (Nat × Nat × Nat × List (Option Word))) {t : State}, MemoryOk t → (∀ o ∈ l, bit a.outs o.2.1 = true) →
      memByte (l.foldl (fun t o => t.storeBlock p a ws k o) t).mem b = memByte t.mem b := by
    intro l
    induction l with
    | nil => exact fun _ _ => rfl
    | cons o l ih =>
      intro t hok ho
      have hbit := ho o List.mem_cons_self
      have hone : memByte (t.storeBlock p a ws k o).mem b = memByte t.mem b :=
        memByte_writeAll_out p (hb _ (hfour _ hbit) hbit) hok fun w hw => blockWrites_within hw
      exact (ih ((State.writeAll_evolves ..).memory hok) fun v hv => ho v (List.mem_cons_of_mem _ hv)).trans hone
  rw [State.customBundle_eq]
  exact hfold _ hok hbound

/-- All bundles of a program. -/
def State.runBundles (s : State) (p : Nat) (a : VprogArgs) (ws : List Word) (ks : List Nat) : State :=
  ks.foldl (fun v k => v.customBundle p a ws k) s

theorem SameData.runBundles {s t : State} (h : SameData s t) (p : Nat) (a : VprogArgs) (ws : List Word) (ks : List Nat) :
    SameData (s.runBundles p a ws ks) (t.runBundles p a ws ks) := by
  induction ks generalizing s t with
  | nil => exact h
  | cons k ks ih => exact ih (h.customBundle ..)

theorem State.runBundles_free (s : State) (p : Nat) (a : VprogArgs) (ws : List Word) (ks : List Nat) :
    (s.runBundles p a ws ks).free = s.free + 32 * ks.length := by
  induction ks generalizing s with
  | nil => rfl
  | cons k ks ih =>
    have hone : (s.customBundle p a ws k).free = s.free + 32 := rfl
    refine (ih (s.customBundle p a ws k)).trans ?_
    rw [hone, List.length_cons]
    omega

theorem State.runBundles_queues (s : State) (p : Nat) (a : VprogArgs) (ws : List Word) (ks : List Nat) :
    (s.runBundles p a ws ks).queues = s.queues := by
  induction ks generalizing s with
  | nil => rfl
  | cons k ks ih => exact (ih (s.customBundle p a ws k)).trans ((State.customBundle_evolves s p a ws k).same .queues rfl)

theorem memByte_runBundles_out {p : Nat} {a : VprogArgs} {ws : List Word} {b : Nat} (hmis : customMisuse a ws = false)
    (hfour : ∀ i, bit a.outs i = true → i < 4)
    (hb : ∀ i, i < 4 → bit a.outs i = true → ∀ c, placeOf (a.addr (8 + i)) = .dev c →
      b < c ∨ c + tensorBytes (a.fmt (8 + i)) 1 a.count ≤ b) {s : State} (hok : MemoryOk s) (ks : List Nat) :
    memByte (s.runBundles p a ws ks).mem b = memByte s.mem b := by
  induction ks generalizing s with
  | nil => rfl
  | cons k ks ih =>
    exact (ih ((State.customBundle_evolves s p a ws k).memory hok)).trans (memByte_customBundle_out hmis hfour hb hok k)

theorem misuse_of_vprogCheck {x : Part} {args : List Byte} {a : VprogArgs} {ws : List Word} (h : vprogCheck x args a ws = none) :
    customMisuse a ws = false := by
  have hst : statusIf (ws.isEmpty || customMisuse a ws) stVprogForm = none := firstFail_eq_none h _ (by simp)
  unfold statusIf at hst
  split at hst
  · contradiction
  · next hno => exact (Bool.or_eq_false_iff.1 (Bool.eq_false_iff.2 hno)).2

theorem exec_vprog {s : State} {q : Nat} {r : Running} (hrun : Runs s q 0x17 r)
    (hcheck : vprogCheck (s.part (s.queuePart q)) r.args (vprogArgs r.args) r.work.prog = none)
    (hacc : s.badAccess (spanAccess (vprogArgs r.args).spans) = none) : ∃ c, exec (.vprog q) s = .next
      ((({ s with counters := c } : State).runBundles (s.queuePart q) (vprogArgs r.args) r.work.prog
        (List.range (ceilDiv (vprogArgs r.args).count 512))).finish q stOk result0) := by
  obtain ⟨c, hc⟩ := s.countReads_eq (spanAccess (vprogArgs r.args).spans)
  refine ⟨c, ?_⟩
  change execVprog q s = _
  rw [execVprog, onRunning_run hrun]
  simp only [hcheck]
  rw [State.access_of_pass hacc, hc]
  rfl

/-- Settles O31: DERIV stores a rectangle, VPROG's bundles store to the bound streams. -/
theorem derivativesAndProgramsAreStored : Obligations.DerivativesAndProgramsAreStored := by
  unfold Obligations.DerivativesAndProgramsAreStored
  refine ⟨fun s q r saved hmem hrun => ?_, fun s q r hmem hrun => ?_⟩
  · dsimp only
    intro hcheck hlayer hsaved hacc hkeep hwant
    exact deriv_answers hmem rfl hrun hcheck hlayer hsaved hacc hkeep hwant
  · dsimp only
    intro hcheck hacc
    obtain ⟨hq, -, hdone, -⟩ := runningOp_some hrun.2
    obtain ⟨c, hexec⟩ := exec_vprog hrun hcheck hacc
    have hsame : SameData s { s with counters := c } := ⟨rfl, rfl, rfl, rfl⟩
    have hqueues := ({ s with counters := c } : State).runBundles_queues (s.queuePart q) (vprogArgs r.args) r.work.prog
      (List.range (ceilDiv (vprogArgs r.args).count 512))
    refine ⟨_, hexec, finished_finish (r := r) ?_ hdone, ?_, fun u hu => ?_, fun b hb => ?_⟩
    · rw [queue_congr hqueues]
      exact hq
    · rw [(State.finish_evolves ..).same .free rfl, State.runBundles_free, List.length_range]
    · obtain ⟨hm, hl, -, -⟩ := hsame.runBundles (s.queuePart q) (vprogArgs r.args) r.work.prog
        (List.range (ceilDiv (vprogArgs r.args).count 512))
      rw [State.finish_mem, State.finish_slab, hm, hl, hu]
      exact ⟨rfl, rfl⟩
    · rw [State.finish_mem]
      exact memByte_runBundles_out (misuse_of_vprogCheck hcheck) (fun i => lt_four_of_bit) hb
        (s := { s with counters := c }) hmem _

end Sys2Proof.Machine
end

section
/-! ### Blocks of weights in pass 2 (chapter 10) -/

namespace Sys2Proof.Machine

open Sys2Proof Sys2Proof.Safety

section
variable {s t : State}

theorem SameData.refl (s : State) : SameData s s := ⟨rfl, rfl, rfl, rfl⟩
theorem SameData.trans {u : State} (h : SameData s t) (k : SameData t u) : SameData s u :=
  ⟨k.mem.trans h.mem, k.slab.trans h.slab, k.free.trans h.free, k.hbm.trans h.hbm⟩
theorem SameData.symm (h : SameData s t) : SameData t s := ⟨h.mem.symm, h.slab.symm, h.free.symm, h.hbm.symm⟩
/-- An operation whose mask holds none of the four components keeps the data. -/
theorem SameData.of_evolves {m : Nat} (h : Evolves m s t) (hmem : m.testBit 22 = false) (hslab : m.testBit 25 = false)
    (hfree : m.testBit 2 = false) (hhbm : m.testBit 33 = false) : SameData s t :=
  ⟨h.same .mem hmem, h.same .slab hslab, h.same .free hfree, h.same .hbm hhbm⟩

theorem SameData.writeMem (h : SameData s t) (a : Nat) (bs : List Byte) : SameData (s.writeMem a bs) (t.writeMem a bs) :=
  h.writeAt 0 (.dev a) bs

theorem SameData.writeBlock (h : SameData s t) (g : List Byte) (i : Nat) (b : Blk) :
    SameData (s.writeBlock g i b) (t.writeBlock g i b) := by
  unfold State.writeBlock
  have hm := h.writeMem (recAddr g i) (b.m.flatMap fun v => natLe 4 (unsigned 32 v))
  by_cases e : gStateEn g = true
  · simp only [e, if_true]
    exact (hm.writeMem ..).writeMem ..
  · simp only [e, if_false]
    exact hm.writeMem ..

theorem readBlock_congr (h : t.mem = s.mem) (g : List Byte) (i : Nat) : t.readBlock g i = s.readBlock g i := by
  simp only [State.readBlock, h]
theorem gradBlock_congr (h : t.mem = s.mem) (g : List Byte) (i : Nat) : t.gradBlock g i = s.gradBlock g i := by
  simp only [State.gradBlock, h]

end

section
variable {c : ApplyCtx} {ls : List Layer} {a : Pass2} {i : Nat}

/-- A block whose accesses pass: it has had the step, a reader holds it, or it is updated. -/
theorem Pass2.next_of_pass (hf : a.fail = none) {xs : List (Bool × Place × Nat)}
    (hxs : xs = blockAccess c.g i true (gKind c.g == 1)) (hacc : a.s.badAccess xs = none) :
    Pass2.next c ls a i =
      if c.t.toNat ≤ (a.s.readBlock c.g i).t.toNat then { a with s := a.s.countReads xs }
      else if (a.s.part c.p).heldBlock (blockKey c i) then { a with s := a.s.countReads xs, wait := a.wait ++ [i] }
      else Pass2.block c ls { a with s := a.s.countReads xs } i := by
  subst hxs
  have hblk : (a.s.countReads (blockAccess c.g i true (gKind c.g == 1))).readBlock c.g i = a.s.readBlock c.g i :=
    readBlock_congr (State.countReads_mem ..) ..
  simp only [Pass2.next, hf, Option.isSome_none, Bool.false_eq_true, if_false, hacc, hblk, State.countReads_part]

theorem Pass2.block_none (hp : gPriv c.g = false) (h : c.table (a.s.gradBlock c.g i) (a.s.readBlock c.g i) = none) :
    Pass2.block c ls a i =
      { a with
        s := ((a.s.writeMem (tailAddr c.g i + 35) [1]).writeMem (tailAddr c.g i + 40) (natLe 8 c.t.toNat)).count 1
          (lowDie 1 c.p) 0x1D8 0 1
        nonfin := a.nonfin + 1 } := by
  simp only [Pass2.block, hp, Bool.false_eq_true, if_false, h]

/-- The new contents of a digital group's block go to its working copy and its record. -/
theorem Pass2.block_digital (hp : gPriv c.g = false) (hk : gKind c.g = 1) {v : NewVals}
    (h : c.table (a.s.gradBlock c.g i) (a.s.readBlock c.g i) = some v) :
    let b := a.s.readBlock c.g i
    let n := { (b.update (gStateEn c.g) v).1 with nonfin := false, t := c.t }
    Pass2.block c ls a i =
      { a with
        s := ((a.s.count 1 (lowDie 1 c.p) 0x1D8 8 (b.update (gStateEn c.g) v).2).writeMem (gWork c.g + 128 * (gFirst c.g + i))
          (bytes32 (n.master.map r32))).writeBlock c.g i n
        updated := a.updated + 1
        orders := a.orders + 0 } := by
  simp [Pass2.block, hp, h, State.commitUpdate, State.commitBlock, hk]

end

theorem sameData_count (s : State) (k d off lo n idx : Nat) : SameData s (s.count k d off lo n idx) :=
  .of_evolves (State.count_evolves s k d off lo n idx) rfl rfl rfl rfl

theorem sameData_countReads (s : State) (xs : List (Bool × Place × Nat)) : SameData s (s.countReads xs) :=
  .of_evolves (State.countReads_evolves s xs) rfl rfl rfl rfl

/-- Settles O37: the four ends of a block, on the state in which its reads are counted. -/
theorem blockUpdateIsAtomic : Obligations.BlockUpdateIsAtomic := by
  unfold Obligations.BlockUpdateIsAtomic
  intro c ls a i hf
  dsimp only
  intro hacc
  rw [Pass2.next_of_pass hf rfl hacc]
  generalize blockAccess c.g i true (gKind c.g == 1) = xs at *
  have hdata := sameData_countReads a.s xs
  have hblk := readBlock_congr hdata.mem c.g i
  have hgrad := gradBlock_congr hdata.mem c.g i
  refine ⟨fun h => if_pos h, fun h held => ?_, fun h held hp => ?_⟩
  · rw [if_neg (by omega), if_pos held]
  · rw [if_neg (by omega), if_neg (by simp [held])]
    refine ⟨fun hnone => ?_, fun v hv hk => ?_⟩
    · rw [Pass2.block_none hp (by simpa only [hblk, hgrad] using hnone)]
      refine ⟨rfl, rfl, ((sameData_count ..).mem).trans ?_⟩
      exact ((hdata.writeMem ..).writeMem ..).mem
    · rw [Pass2.block_digital hp hk (v := v) (by simpa only [hblk, hgrad] using hv)]
      refine ⟨rfl, ?_⟩
      simp only [hblk]
      exact (((hdata.trans (sameData_count ..)).writeMem ..).writeBlock ..).mem

end Sys2Proof.Machine
end

section
/-! ### UPDATE_APPLY: what pass 2 keeps, and how it closes -/

namespace Sys2Proof.Machine

open Sys2Proof Sys2Proof.Safety

theorem state_of_inr {s t : State} {n k : Nat} (h : (.inr (s, n) : Nat ⊕ State × Nat) = .inr (t, k)) : s = t := by
  injection h with h
  injection h

namespace Keeps

/-! What the order log and the event queue do not hold stays through pass 2. -/
section
variable {β : Type} {π : Part → β} (hπ : ∀ (x : Part) (e : EventQ), e.head = x.eq.head → π { x with eq := e } = π x)
  (hcount : ∀ (x : Part) n, π { x with logCount := n } = π x) (hfull : ∀ (x : Part) n, π { x with logFull := n } = π x)
include hπ hcount hfull

theorem logOrders (s : State) (p : Nat) (os : List (Nat × Int × Nat)) : Keeps π s (s.logOrders p os) := by
  unfold State.logOrders
  dsimp only
  have hwritten (a : Nat) (bs : List Byte) (n : Nat) :
      Keeps π s ((s.writeMem a bs).modPart p fun x => { x with logCount := n }) :=
    .trans (.of_evolves (State.writeMem_evolves ..) rfl) (.modPart p fun _ => hcount _ _)
  have hlost (u : State) (n m : Nat) : Keeps π u ((u.modPart p fun x => { x with logFull := x.logFull + n }).count 1 (lowDie 1 p) 0x1E0 0 m) :=
    .trans (.modPart p fun _ => hfull _ _) (.of_evolves (State.count_evolves ..) rfl)
  split
  · exact hwritten _ _ _
  · split
    · exact ((hwritten _ _ _).trans (hlost _ _ _)).trans (.raise hπ _ _ _ _)
    · exact (hwritten _ _ _).trans (hlost _ _ _)

/-- A block that is committed, by its old contents or by new ones. -/
theorem logged_block (s : State) (p : Nat) (os : List (Nat × Int × Nat)) (g : List Byte) (i : Nat) (b : Blk) (n : Nat) :
    Keeps π s { (s.logOrders p os).writeBlock g i b with free := n } :=
  .trans (.logOrders hπ hcount hfull s p os) (.trans (.of_evolves (State.writeBlock_evolves ..) rfl) (.of_parts rfl))

theorem commitUpdate {s u : State} {c : ApplyCtx} {ls : List Layer} {i k : Nat} {b : Blk} {v : NewVals}
    (h : s.commitUpdate c ls i b v = .inr (u, k)) : Keeps π s u := by
  unfold State.commitUpdate at h
  split at h
  · next hk =>
    rw [State.commitBlock, if_pos hk] at h
    simp only [Bool.false_eq_true, if_false] at h
    obtain rfl := state_of_inr h
    exact .trans (.of_evolves (State.writeMem_evolves ..) rfl) (.of_evolves (State.writeBlock_evolves ..) rfl)
  · dsimp only at h
    split at h
    · cases h
    · obtain rfl := state_of_inr h
      exact .logged_block hπ hcount hfull ..

theorem pass2Block (c : ApplyCtx) (ls : List Layer) (a : Pass2) (i : Nat) : Keeps π a.s (Pass2.block c ls a i).s := by
  unfold Pass2.block
  dsimp only
  split
  · have hwrite (u : State) (n : Nat) (bs : List Byte) : Keeps π u (u.writeMem n bs) := .of_evolves (State.writeMem_evolves ..) rfl
    have hcounted (u : State) (k d off lo n idx : Nat) : Keeps π u (u.count k d off lo n idx) :=
      .of_evolves (State.count_evolves ..) rfl
    dsimp only
    exact ((hwrite _ _ _).trans (hwrite _ _ _)).trans (hcounted ..)
  · split
    · exact .refl
    · next h => exact .trans (.of_evolves (State.count_evolves ..) rfl) (.commitUpdate hπ hcount hfull h)

theorem pass2Next (c : ApplyCtx) (ls : List Layer) (a : Pass2) (i : Nat) : Keeps π a.s (Pass2.next c ls a i).s := by
  unfold Pass2.next
  have hread (xs : List (Bool × Place × Nat)) : Keeps π a.s (a.s.countReads xs) := .of_evolves (State.countReads_evolves ..) rfl
  split
  · exact .refl
  · dsimp only
    split
    · exact .of_evolves (State.countBad_evolves ..) rfl
    · split
      · exact hread _
      · split
        · exact hread _
        · exact .trans (hread _) (.pass2Block hπ hcount hfull c ls { a with s := a.s.countReads _ } i)

theorem pass2Fold (c : ApplyCtx) (ls : List Layer) (is : List Nat) (a : Pass2) :
    Keeps π a.s (is.foldl (Pass2.next c ls) a).s := by
  induction is generalizing a with
  | nil => exact .refl
  | cons i is ih => exact .trans (.pass2Next hπ hcount hfull c ls a i) (ih _)

end
end Keeps

theorem running_modWork {s : State} {q : Nat} {r : Running} (h : (s.queue q).running = some r) (f : Work → Work) :
    ((s.modWork q f).queue q).running = some { r with work := f r.work } := by
  simp [State.modWork, h]

theorem Keeps.nonfinEvent {β : Type} {π : Part → β}
    (hπ : ∀ (x : Part) (e : EventQ), e.head = x.eq.head → π { x with eq := e } = π x)
    (hn : ∀ (x : Part) l, π { x with nonfinGroups := l } = π x) (s : State) (c : ApplyCtx) (n : Nat) :
    Keeps π s (s.nonfinEvent c n) := .ite .refl (.trans (.modPart c.p fun _ => hn _ _) (.raise hπ ..))

/-- The descriptor records how far pass 2 has come. -/
def Pass2.record (c : ApplyCtx) (a : Pass2) (w : Work) : Work :=
  { w with
    started := true
    n0 := a.updated
    n1 := a.orders
    n2 := a.nonfin
    todo := a.wait
    areas := (groupArrays c.g).map fun e => (e.2.1, e.2.2) }

section
variable {c : ApplyCtx} {q : Nat} {a : Pass2}

theorem Pass2.close_waits (hf : a.fail = none) (hw : a.wait ≠ []) : a.close c q = a.s.modWork q (a.record c) := by
  have hmore : (!a.wait.isEmpty) = true := by simpa using hw
  simp only [Pass2.close, hf, hmore, if_true]
  rfl

/-- With no block left the step is recorded with the group, and the descriptor completes. -/
def Pass2.stepped (c : ApplyCtx) (q : Nat) (a : Pass2) : State :=
  ((a.s.modWork q (a.record c)).modPart c.p fun x =>
    { x with groups := tmod Group.unused x.groups c.k fun g => { g with lastT := c.t } }).nonfinEvent c a.nonfin

theorem Pass2.close_done (hf : a.fail = none) (hw : a.wait = []) : a.close c q = (a.stepped c q).finish q stOk
    (Machine.block 16 [(0, 5, a.updated), (8, 4, a.orders), (12, 2, min a.nonfin 65535)]) := by
  have hnone : (!a.wait.isEmpty) = false := by simp [hw]
  simp only [Pass2.close, hf, hnone, Bool.false_eq_true, if_false]
  rfl

theorem Pass2.stepped_queues : (a.stepped c q).queues = (a.s.modWork q (a.record c)).queues :=
  (State.nonfinEvent_evolves ..).same .queues rfl

theorem Pass2.stepped_mem : (a.stepped c q).mem = a.s.mem :=
  ((State.nonfinEvent_evolves ..).same .mem rfl).trans ((State.modWork_evolves a.s q _).same .mem rfl)

theorem Pass2.finished_close {r : Running} (hf : a.fail = none) (hw : a.wait = []) (hr : (a.s.queue q).running = some r)
    (hd : r.done = none) : Finished (a.close c q) q stOk
      (Machine.block 16 [(0, 5, a.updated), (8, 4, a.orders), (12, 2, min a.nonfin 65535)]) := by
  rw [Pass2.close_done hf hw]
  refine finished_finish (r := { r with work := a.record c r.work }) ?_ hd
  rw [queue_congr Pass2.stepped_queues, running_modWork hr]

theorem Pass2.lastT_close (hf : a.fail = none) (hw : a.wait = []) :
    (tget Group.unused ((a.close c q).part c.p).groups c.k).lastT = c.t := by
  rw [Pass2.close_done hf hw, State.finish_part]
  have hkeep : Keeps Part.groups _ (a.stepped c q) := .nonfinEvent (fun _ _ _ => rfl) (fun _ _ => rfl) _ c a.nonfin
  rw [hkeep.same c.p, State.modPart, State.part_setPart]
  simp [tmod]

/-- What pass 2 leaves running while blocks wait for their readers. -/
theorem Pass2.running_close {r : Running} (hf : a.fail = none) (hw : a.wait ≠ []) (hr : (a.s.queue q).running = some r)
    (hd : r.done = none) : ∃ r', ((a.close c q).queue q).running = some r' ∧ r'.done = none ∧ r'.work.todo = a.wait :=
  ⟨{ r with work := a.record c r.work }, Pass2.close_waits hf hw ▸ running_modWork hr _, hd, rfl⟩

theorem Pass2.mem_close (hf : a.fail = none) : (a.close c q).mem = a.s.mem := by
  by_cases hw : a.wait = []
  · rw [Pass2.close_done hf hw, State.finish_mem, Pass2.stepped_mem]
  · rw [Pass2.close_waits hf hw]
    exact (State.modWork_evolves ..).same .mem rfl

theorem Pass2.readers_close (hf : a.fail = none) (p : Nat) : ((a.close c q).part p).readers = (a.s.part p).readers := by
  have hwork : Keeps Part.readers a.s (a.s.modWork q (a.record c)) := .of_evolves (State.modWork_evolves ..) rfl
  by_cases hw : a.wait = []
  · rw [Pass2.close_done hf hw, State.finish_part]
    have hkeep : Keeps Part.readers a.s (a.stepped c q) :=
      by
      refine hwork.trans (.trans (.modPart c.p ?_) (.nonfinEvent (fun _ _ _ => rfl) (fun _ _ => rfl) _ c a.nonfin))
      exact fun _ => rfl
    exact hkeep.same p
  · rw [Pass2.close_waits hf hw]
    exact hwork.same p

end

theorem Pass2.fold_queues (c : ApplyCtx) (ls : List Layer) (is : List Nat) (a : Pass2) :
    (is.foldl (Pass2.next c ls) a).s.queues = a.s.queues := by
  induction is generalizing a with
  | nil => rfl
  | cons i is ih => exact (ih _).trans ((Pass2.next_evolves c ls a i).same .queues rfl)

/-- A block that its readers give up counts as read by all of them. -/
theorem Part.readBlock_readers (x : Part) (key : Nat) : ∀ d ∈ (x.readBlock key).readers, d.read.contains key = true := by
  simp only [Part.readBlock, List.mem_map]
  rintro d ⟨e, -, rfl⟩
  split
  · assumption
  · simp

theorem Part.usable_eq {x : Part} {k : Nat} {g : Group} (h : x.usable k = some g) : tget Group.unused x.groups k = g := by
  unfold Part.usable at h
  simp only [Option.ite_none_right_eq_some, Option.some.injEq] at h
  exact h.2

section
variable {s : State} {q : Nat} {r : Running} {g : Group}

/-- An UPDATE_APPLY that passes its checks takes its step. -/
theorem execUpdateApply_run (hrun : Runs s q 0x29 r) (hstart : r.work.started = false)
    (hg : (s.part (s.queuePart q)).usable (field r.desc 24 1) = some g) {c : ApplyCtx}
    (hc : c = applyCtx (s.queuePart q) r.desc r.work.record r.work.prog) (heta : fin32 c.eta = true) (hclip : fin32 c.clip = true)
    (hmis : ¬ (gPriv c.g = true ∧ updateMisuse c.prog = true)) (hshard : s.shardHeld (s.queuePart q) r.work.gen c.k = false) :
    exec (.updateApply q) s = .next (s.applyStep q c g.lastT.toNat) := by
  subst hc
  change execUpdateApply q s = _
  rw [execUpdateApply, onRunning_run hrun]
  rw [← Bool.and_eq_true, Bool.not_eq_true] at hmis
  simp only [hstart, Bool.false_eq_true, if_false, hg, heta, hclip, Bool.not_true, hmis, hshard]

theorem exec_pass2BlockResume (hrun : Runs s q 0x29 r) {i : Nat} {c : ApplyCtx}
    (hc : c = applyCtx (s.queuePart q) r.desc r.work.record r.work.prog)
    (hfind : (r.work.todo.find? fun j => (s.part (s.queuePart q)).readers.all fun d => d.begun || d.read.contains (blockKey c j)) =
      some i) :
    exec (.pass2BlockResume q) s = .next ((Pass2.next c (groupLayers (s.part (s.queuePart q)).layers c.g)
      ⟨s.modPart (s.queuePart q) fun y => y.readBlock (blockKey c i), r.work.n0, r.work.n1, r.work.n2,
        r.work.todo.filter (· != i), none⟩ i).close c q) := by
  subst hc
  change execPass2BlockResume q s = _
  rw [execPass2BlockResume, onRunning_run hrun]
  simp only [hfind]

end

/-- Settles O36: the three ends of a step number, and what pass 2 leaves when a block resumes. -/
theorem updateApplyTakesOneStepAndResumes : Obligations.UpdateApplyTakesOneStepAndResumes := by
  unfold Obligations.UpdateApplyTakesOneStepAndResumes
  refine ⟨fun s q r g hrun hstart => ?_, fun s q i r hrun => ?_⟩
  · dsimp only
    intro hg heta hclip hmis hshard
    have hexec := execUpdateApply_run hrun hstart hg rfl heta hclip hmis hshard
    have hlast := Part.usable_eq hg
    obtain ⟨hq, -, hdone, -⟩ := runningOp_some hrun.2
    have hp : (applyCtx (s.queuePart q) r.desc r.work.record r.work.prog).p = s.queuePart q := rfl
    have hk : (applyCtx (s.queuePart q) r.desc r.work.record r.work.prog).k = field r.desc 24 1 := rfl
    generalize applyCtx (s.queuePart q) r.desc r.work.record r.work.prog = c at *
    have counted (k d off lo n st : Nat) : Finished ((s.count k d off lo n).finish q st result0) q st result0 ∧
        Untouched s ((s.count k d off lo n).finish q st result0) ∧
        ((s.count k d off lo n).finish q st result0).parts = s.parts := by
      have hev := State.count_evolves s k d off lo n 0
      refine ⟨finished_finish (queue_congr (hev.same .queues rfl) q ▸ hq) hdone, ?_, ?_⟩
      · exact untouched_trans ⟨hev.same .mem rfl, hev.same .slab rfl, hev.same .out rfl⟩ (untouched_finish ..)
      · exact (State.finish_parts ..).trans (hev.same .parts rfl)
    refine ⟨fun h => ⟨_, hexec, ?_⟩, fun h hskew => ⟨_, hexec, ?_⟩, fun h => ?_⟩
    · rw [State.applyStep, if_pos h]
      exact counted ..
    · rw [State.applyStep, if_neg (by omega), if_neg (by omega)]
      simp only [hskew, Bool.false_eq_true, if_false]
      exact counted ..
    · have hstep : s.applyStep q c g.lastT.toNat = s.startApply q c := by
        rw [State.applyStep, if_neg (by omega), if_pos h]
      rw [hstep, State.startApply, hp] at hexec
      have hqs := Pass2.fold_queues c (groupLayers (s.part (s.queuePart q)).layers c.g) (List.range (gCount c.g)) ⟨s, 0, 0, 0, [], none⟩
      have hgroups := (Keeps.pass2Fold (π := Part.groups) (fun _ _ _ => rfl) (fun _ _ => rfl) (fun _ _ => rfl) c
        (groupLayers (s.part (s.queuePart q)).layers c.g) (List.range (gCount c.g)) ⟨s, 0, 0, 0, [], none⟩).same (s.queuePart q)
      generalize (List.range (gCount c.g)).foldl _ _ = a at *
      have hrun' := queue_congr hqs q ▸ hq
      intro hf
      refine ⟨fun hw => ⟨_, hexec, Pass2.finished_close hf hw hrun' hdone, hp ▸ Pass2.lastT_close hf hw, Pass2.mem_close hf⟩,
        fun hw => ⟨_, hexec, Pass2.running_close hf hw hrun' hdone, ?_⟩⟩
      rw [Pass2.close_waits hf hw, part_congr ((State.modWork_evolves ..).same .parts rfl), hgroups]
      exact congrArg Group.lastT (hk ▸ hlast)
  · dsimp only
    intro hfind hf
    obtain ⟨hq, -, hdone, -⟩ := runningOp_some hrun.2
    have hexec := exec_pass2BlockResume hrun rfl hfind
    have hp : (applyCtx (s.queuePart q) r.desc r.work.record r.work.prog).p = s.queuePart q := rfl
    generalize applyCtx (s.queuePart q) r.desc r.work.record r.work.prog = c at *
    generalize hstart : (⟨s.modPart (s.queuePart q) fun y => y.readBlock (blockKey c i), r.work.n0, r.work.n1, r.work.n2,
        r.work.todo.filter (· != i), none⟩ : Pass2) = a0 at *
    have hqs := (Pass2.next_evolves c (groupLayers (s.part (s.queuePart q)).layers c.g) a0 i).same .queues rfl
    have hreaders := (Keeps.pass2Next (π := Part.readers) (fun _ _ _ => rfl) (fun _ _ => rfl) (fun _ _ => rfl) c
        (groupLayers (s.part (s.queuePart q)).layers c.g) a0 i).same (s.queuePart q)
    generalize Pass2.next c _ a0 i = a at *
    have hrun' : (a.s.queue q).running = some r := by
      rw [queue_congr hqs, ← hstart]
      exact hq
    refine ⟨_, hexec, Pass2.mem_close hf, ?_,
      fun hw => ⟨Pass2.finished_close hf hw hrun' hdone, hp ▸ Pass2.lastT_close hf hw⟩,
      fun hw => Pass2.running_close hf hw hrun' hdone⟩
    rw [Pass2.readers_close hf, hreaders, ← hstart]
    dsimp only
    rw [State.modPart, State.part_setPart]
    exact Part.readBlock_readers _ _

end Sys2Proof.Machine
end

section
/-! ### UPDATE_NORM and UPDATE_INIT (R334, R335, R343) -/

namespace Sys2Proof.Machine

open Sys2Proof Sys2Proof.Safety

section
variable {s : State} {q : Nat} {r : Running}

theorem groupSums_countReads (s : State) (xs : List (Bool × Place × Nat)) (w : Word) (g : List Byte) :
    (s.countReads xs).groupSums w g = s.groupSums w g := by
  obtain ⟨c, h⟩ := s.countReads_eq xs
  rw [h]
  rfl

/-- The sums of one named group stand at its place; every other place is 0. -/
theorem sums_of_one (k : Nat) (v : Word × Word) (π : Word × Word → Word) (hπ : π (0, 0) = 0) :
    ((List.range 256).map fun i => (([(k, v)].find? (·.1 == i)).map (·.2)).getD (0, 0)).map π =
      (List.range 256).map fun i => if i = k then π v else 0 := by
  rw [List.map_map]
  refine List.map_congr_left fun i _ => ?_
  by_cases e : i = k
  · simp [e]
  · simpa [e, Ne.symm e] using hπ

/-- UPDATE_NORM with FINAL 0 of one group. -/
theorem exec_normPartials (hrun : Runs s q 0x28 r) {g : Group} {out : Place} (hfin : dFlag r.desc 1 = false)
    (hall : dFlag r.desc 0 = false) (hg : (s.part (s.queuePart q)).usable (field r.desc 24 1) = some g)
    (hout : (s.part (s.queuePart q)).reach 1 (field r.desc 32 8) 2048 = some out) {xs : List (Bool × Place × Nat)}
    (hxs : xs = ((List.range (gCount g.record)).flatMap fun i => blockAccess g.record i true false) ++ [(true, out, 2048)])
    (hacc : s.badAccess xs = none) {sums : Word × Word}
    (hsums : sums = s.groupSums (BitVec.ofNat 32 (field r.desc 28 4)) g.record) :
    exec (.updateNorm q) s = .next (((s.countReads xs).writeAt (s.queuePart q) out
      (bytes32 (((List.range 256).map fun i => if i = field r.desc 24 1 then sums.1 else 0) ++
        ((List.range 256).map fun i => if i = field r.desc 24 1 then sums.2 else 0)))).finish q stOk result0) := by
  subst hsums hxs
  change execUpdateNorm q s = _
  rw [execUpdateNorm, onRunning_run hrun]
  simp only [hfin, hall, hg, Bool.false_eq_true, if_false, State.normPartials, hout, List.flatMap_cons, List.flatMap_nil,
    List.append_nil, List.map_cons, List.map_nil]
  rw [State.access_of_pass hacc]
  simp only [groupSums_countReads, sums_of_one _ _ Prod.fst rfl, sums_of_one _ _ Prod.snd rfl]

theorem exec_normFinal (hrun : Runs s q 0x28 r) {pl : Place} (hfin : dFlag r.desc 1 = true)
    (hpl : (s.part (s.queuePart q)).reach 1 (field r.desc 40 8) 2048 = some pl)
    (hst : s.placeStatus false pl 2048 = none) {sums : List Word} (hsums : sums = words32 256 (s.readAt pl 1024)) :
    exec (.updateNorm q) s = .next ((s.countReads [(false, pl, 2048)]).finish q stOk
      (block 16 [(0, 4, (r32 (f64 ((((s.part (s.queuePart q)).groups.filter fun e => e.2.used && gNormIn e.2.record).foldl
          (fun t e => add64 t (r64 (f32 (sums.getD e.1 0)))) 0))).sqrt).toNat),
        (4, 2, (sums.filter fun w => !fin32 w).length)])) := by
  subst hsums
  have hacc : s.badAccess [(false, pl, 2048)] = none := by simp [State.badAccess, hst]
  change execUpdateNorm q s = _
  rw [execUpdateNorm, onRunning_run hrun]
  simp only [hfin, if_true, State.normFinal, hpl]
  rw [State.access_of_pass hacc]
  simp only [readAt_congr (State.countReads_mem s _) (State.countReads_slab s _), State.countReads_part]

end

section
variable {s : State} {p : Nat} {ls : List Layer} {g : List Byte} {i : Nat} {b : Blk} {init : Bool} {os : List (Nat × Int × Nat)}

/-- A tile-weight group's block whose orders all fit into the log. -/
theorem State.commitBlock_fits (hk : gKind g = 0) (hos : s.blockOrders p ls g (gFirst g + i) b init = os)
    (hfit : (s.part p).logCount + os.length ≤ s.logCap p) (hst : s.logStatus p os.length = none) :
    s.commitBlock p ls g i b init =
      .inr ({ ((s.writeMem (s.logBase p + 8 * (s.part p).logCount) (os.flatMap fun o => natLe 8 o.2.2)).modPart p
        fun x => { x with logCount := (s.part p).logCount + os.length }).writeBlock g i (b.issue os) with free := s.free + 32 },
        os.length) := by
  have hmin : min os.length (s.logCap p - (s.part p).logCount) = os.length := by omega
  have htake : os.take (s.logCap p - (s.part p).logCount) = os := List.take_of_length_le (by omega)
  have hlost : os.length - (s.logCap p - (s.part p).logCount) = 0 := by omega
  have hkind : (gKind g != 0) = false := by simp [hk]
  simp only [State.commitBlock, hkind, Bool.false_eq_true, if_false, hos, hmin, hst, State.logOrders, htake, hlost, if_true,
    List.take_length]

end

/-- The state in which UPDATE_INIT issues: losses of the log are counted from 0 while it runs. -/
def State.initStart (s : State) (p : Nat) : State := s.modPart p fun x => { x with logFull := 0 }

/-- What UPDATE_INIT leaves of a group that needs no order: the losses of the log as they were. -/
def State.initEnd (s : State) (p kept : Nat) : State := s.modPart p fun x => { x with logFull := kept }

/-- What UPDATE_INIT leaves of a tile-weight group's one block `b` with the orders `os`. -/
def State.initIssued (s : State) (p : Nat) (xs : List (Bool × Place × Nat)) (g : List Byte) (b : Blk)
    (os : List (Nat × Int × Nat)) : State :=
  { ((((s.initStart p).countReads xs).writeMem (s.logBase p + 8 * (s.part p).logCount)
      (os.flatMap fun o => natLe 8 o.2.2)).modPart p fun x => { x with logCount := (s.part p).logCount + os.length }).writeBlock
      g 0 (b.issue os) with free := s.free + 32 }

section
variable (s : State) (p : Nat) (xs : List (Bool × Place × Nat)) (g : List Byte) (b : Blk) (os : List (Nat × Int × Nat))

theorem State.initIssued_queues : (s.initIssued p xs g b os).queues = s.queues := by
  have hblock := (State.writeBlock_evolves ((((s.initStart p).countReads xs).writeMem (s.logBase p + 8 * (s.part p).logCount)
      (os.flatMap fun o => natLe 8 o.2.2)).modPart p fun x => { x with logCount := (s.part p).logCount + os.length })
      g 0 (b.issue os)).same .queues rfl
  have hlog := (State.writeMem_evolves ((s.initStart p).countReads xs) (s.logBase p + 8 * (s.part p).logCount)
    (os.flatMap fun o => natLe 8 o.2.2)).same .queues rfl
  exact hblock.trans (hlog.trans ((s.initStart p).countReads_same xs .queues nofun))

theorem State.initIssued_logCount : ((s.initIssued p xs g b os).part p).logCount = (s.part p).logCount + os.length := by
  have hblock := (State.writeBlock_evolves ((((s.initStart p).countReads xs).writeMem (s.logBase p + 8 * (s.part p).logCount)
      (os.flatMap fun o => natLe 8 o.2.2)).modPart p fun x => { x with logCount := (s.part p).logCount + os.length })
      g 0 (b.issue os)).same .parts rfl
  exact (congrArg Part.logCount (part_congr hblock p)).trans (congrArg Part.logCount (State.part_setPart ..))

theorem State.initIssued_mem : (s.initIssued p xs g b os).mem =
    ((s.writeMem (s.logBase p + 8 * (s.part p).logCount) (os.flatMap fun o => natLe 8 o.2.2)).writeBlock g 0 (b.issue os)).mem := by
  have hread : SameData s ((s.initStart p).countReads xs) :=
    SameData.trans (t := s.initStart p) ⟨rfl, rfl, rfl, rfl⟩ (sameData_countReads ..)
  have hlog := hread.writeMem (s.logBase p + 8 * (s.part p).logCount) (os.flatMap fun o => natLe 8 o.2.2)
  have hmod (u : State) (f : Part → Part) : SameData u (u.modPart p f) := ⟨rfl, rfl, rfl, rfl⟩
  rw [State.initIssued]
  exact ((hlog.trans (hmod _ _)).writeBlock g 0 (b.issue os)).mem

end

section
variable {s : State} {q : Nat} {r : Running} {g : Group}

theorem exec_updateInit (hrun : Runs s q 0x2A r) (hg : (s.part (s.queuePart q)).usable (field r.desc 24 1) = some g)
    (hstep : (s.part (s.queuePart q)).stepOn = false) {a : Pass2}
    (ha : (List.range (if gKind g.record = 0 then gCount g.record else 0)).foldl
      (Pass2.init (s.queuePart q) (groupLayers (s.part (s.queuePart q)).layers g.record) g.record)
      ⟨s.initStart (s.queuePart q), 0, 0, 0, [], none⟩ = a) (hf : a.fail = none) :
    exec (.updateInit q) s =
      .next ((a.s.initEnd (s.queuePart q) (s.part (s.queuePart q)).logFull).finish q stOk result0) := by
  change execUpdateInit q s = _
  rw [execUpdateInit, onRunning_run hrun]
  simp only [State.initStart] at ha
  simp only [hg, hstep, Bool.false_eq_true, if_false, ha, hf]
  rfl

/-- One block: its orders enter the log, its issued values follow. -/
theorem Pass2.init_one {p : Nat} {ls : List Layer} {g : List Byte} (hk : gKind g = 0) {xs : List (Bool × Place × Nat)}
    (hxs : xs = blockAccess g 0 false false) (hacc : s.badAccess xs = none) {b : Blk} (hb : b = s.readBlock g 0)
    {os : List (Nat × Int × Nat)} (hos : os = s.blockOrders p ls g (gFirst g) b true)
    (hfit : (s.part p).logCount + os.length ≤ s.logCap p) (hst : s.logStatus p os.length = none) :
    Pass2.init p ls g ⟨s.initStart p, 0, 0, 0, [], none⟩ 0 =
      ⟨s.initIssued p xs g b os, 0, 0 + os.length, 0, [], none⟩ := by
  subst hxs hb
  have hacc' : (s.initStart p).badAccess (blockAccess g 0 false false) = none := hacc
  obtain ⟨c, hc⟩ := (s.initStart p).countReads_eq (blockAccess g 0 false false)
  have hpart : ({ s.initStart p with counters := c } : State).part p = { s.part p with logFull := 0 } :=
    State.part_setPart ..
  have horders : ({ s.initStart p with counters := c } : State).blockOrders p ls g (gFirst g + 0) (s.readBlock g 0) true = os := by
    rw [hos]
    simp only [State.blockOrders, hpart]
    rfl
  have hlogs : ({ s.initStart p with counters := c } : State).logStatus p os.length = none := by
    rw [← hst]
    simp only [State.logStatus, hpart]
    rfl
  have hcommit := State.commitBlock_fits (init := true) hk horders (by rw [hpart]; exact hfit) hlogs
  rw [hpart] at hcommit
  have hread : ({ s.initStart p with counters := c } : State).readBlock g 0 = s.readBlock g 0 := rfl
  rw [State.initIssued, hc]
  simp only [Pass2.init, Option.isSome_none, Bool.false_eq_true, if_false, hacc', hc, hread, hcommit]
  rfl

end

/-- Settles O35: each command through its equation. -/
theorem normsAreSummedAndInitialValuesIssued : Obligations.NormsAreSummedAndInitialValuesIssued := by
  unfold Obligations.NormsAreSummedAndInitialValuesIssued
  refine ⟨fun s q r hmem hrun => ?_, fun s q r g hrun => ?_⟩
  · dsimp only
    obtain ⟨hq, -, hdone, -⟩ := runningOp_some hrun.2
    refine ⟨fun g out hfin hall hg hout hacc => ⟨_, exec_normPartials hrun hfin hall hg hout rfl hacc rfl, ?_, ?_⟩,
      fun pl hfin hpl hst => ⟨_, exec_normFinal hrun hfin hpl hst rfl, ?_, ?_⟩⟩
    · refine finished_finish (r := r) ?_ hdone
      rw [queue_congr (State.writeAt_queues ..), State.countReads_queue, hq]
    · have hread := untouched_countReads s
        (((List.range (gCount g.record)).flatMap fun i => blockAccess g.record i true false) ++ [(true, out, 2048)])
      refine wrote_congr (State.wrote_writeAt (memoryOk_of_untouched hread hmem) _ ?_) (untouched_symm hread)
        (untouched_finish ..)
      rintro a rfl
      rw [offline_congr (State.countReads_same s _ .hbm nofun)]
      have hlen (w v : List Word) (hw : w.length = 256) (hv : v.length = 256) : (bytes32 (w ++ v)).length = 2048 := by
        rw [bytes32, length_flatMap_of_length fun w => length_natLe 4 _, List.length_append, hw, hv]
      rw [hlen _ _ (by simp) (by simp)]
      exact State.offline_of_badAccess (w := true) hacc (by simp)
    · exact untouched_trans (untouched_countReads ..) (untouched_finish ..)
    · exact finished_finish (by rw [State.countReads_queue, hq]) hdone
  · dsimp only
    intro hg hstep
    obtain ⟨hq, -, hdone, -⟩ := runningOp_some hrun.2
    refine ⟨fun hk => ?_, fun hk hcount hacc hfit hst => ?_⟩
    · have hexec := exec_updateInit hrun hg hstep (congrArg (fun n => (List.range n).foldl _ _) (if_neg hk)) rfl
      exact ⟨_, hexec, finished_finish (r := r) hq hdone, untouched_trans ⟨rfl, rfl, rfl⟩ (untouched_finish ..)⟩
    · have hexec := exec_updateInit hrun hg hstep ((congrArg (fun n => (List.range n).foldl _ _) ((if_pos hk).trans hcount)).trans
        (Pass2.init_one hk rfl hacc rfl rfl hfit hst)) rfl
      generalize blockAccess g.record 0 false false = xs at *
      generalize s.blockOrders _ _ _ _ _ _ = os at *
      refine ⟨_, hexec, finished_finish (r := r) ?_ hdone, ?_, ?_⟩
      · exact (congrArg SubQ.running (queue_congr (State.initIssued_queues ..) q)).trans hq
      · rw [State.finish_part, State.initEnd, State.modPart, State.part_setPart]
        exact State.initIssued_logCount ..
      · rw [State.finish_mem]
        exact State.initIssued_mem ..

end Sys2Proof.Machine
end

section
/-! ### Aborts of a collective (R379, R380) -/

namespace Sys2Proof.Machine

open Sys2Proof Sys2Proof.Safety

/-- The causes are judged by their priority: the first of those of the highest. -/
theorem bestCause_spec : ∀ {cs : List (Nat × Nat)}, cs ≠ [] → ∃ st rank, bestCause cs = some (st, rank) ∧ (st, rank) ∈ cs ∧
    ∀ e ∈ cs, abortPriority st ≤ abortPriority e.1
  | e :: t, _ => by
    rw [bestCause]
    by_cases ht : t = []
    · exact ⟨e.1, e.2, by simp [ht, bestCause], by simp, by simp [ht]⟩
    · obtain ⟨st, rank, hbest, hmem, hmin⟩ := bestCause_spec ht
      simp only [hbest]
      by_cases hlt : abortPriority st < abortPriority e.1
      · refine ⟨st, rank, if_pos hlt, List.mem_cons_of_mem _ hmem, fun f hf => ?_⟩
        rcases List.mem_cons.1 hf with rfl | hf
        · omega
        · exact hmin f hf
      · refine ⟨e.1, e.2, if_neg hlt, by simp, fun f hf => ?_⟩
        rcases List.mem_cons.1 hf with rfl | hf
        · omega
        · have := hmin f hf
          omega

/-- A collective that is put back under its key is found under it. -/
theorem find_replaced {α : Type} {key : α → Nat × Nat} {cs : List α} {c : α} (hc : c ∈ cs) {c' : α} (hkey : key c' = key c) :
    ((cs.map fun d => if key d == key c' then c' else d).find? fun d => key d == key c) = some c' := by
  induction cs with
  | nil => cases hc
  | cons d ds ih =>
    by_cases e : key d = key c
    · simp [e, hkey]
    · have hd : c ∈ ds := (List.mem_cons.1 hc).resolve_left fun h => e (h ▸ rfl)
      have hne : (key d == key c) = false := by simpa using e
      simp only [List.map_cons, hkey, hne, Bool.false_eq_true, if_false, List.find?_cons]
      rw [hkey] at ih
      exact ih hd

theorem Keeps.sendPacket {β : Type} {π : Part → β} (hπ : ∀ (x : Part) l, π { x with delivered := l } = π x) (s : State) (p : Nat)
    (stage : FlitStage) (k : Packet) : Keeps π s (s.sendPacket p stage k).1 := by
  unfold State.sendPacket
  split
  · exact .of_evolves (State.dropDomain_evolves ..) rfl
  · split
    · exact .of_evolves (State.sendOn_evolves ..) rfl
    · exact .ite (.modPart _ fun _ => hπ _ _) .refl
    · exact .of_evolves (State.dropRoute_evolves ..) rfl
    · exact .of_evolves (State.dropRoute_evolves ..) rfl

theorem Keeps.sendAbort {β : Type} {π : Part → β} (hπ : ∀ (x : Part) l, π { x with delivered := l } = π x) (s : State) (p : Nat)
    (c : Coll) (st : Nat) : Keeps π s (s.sendAbort p c st) := .foldl .refl fun t _ => .sendPacket hπ t ..

theorem onQuad_of_lt {p : Nat} (h : p < 4) (k : Result) : onQuad p k = k := if_pos h

/-- An aborted collective ends with the status and rank given, and its key is done. -/
theorem collAborted_ends {s : State} {p : Nat} {c : Coll} {r : Running} (hr : (s.queue c.q).running = some r)
    (hd : r.done = none) (st rank : Nat) : let t := s.collAborted p c st rank
    Finished t c.q st (block 16 [(0, 2, rank % 4096)]) ∧ (t.part p).coll c.key = none ∧
      (t.part p).doneKeys = c.key :: (s.part p).doneKeys := by
  intro t
  have hopen := State.openColl_evolves s c
  have hparts := part_congr (hopen.same .parts rfl) p
  have hdrop : ((s.openColl c).dropColl p c).part p =
      { s.part p with colls := (s.part p).colls.filter fun d => d.key != c.key, doneKeys := c.key :: (s.part p).doneKeys } := by
    rw [State.dropColl, State.modPart, State.part_setPart, hparts]
  generalize hu : ((s.openColl c).dropColl p c).count 2 (lowDie 2 p) 0x230 16 1 = u
  have hcount := hu ▸ State.count_evolves ((s.openColl c).dropColl p c) 2 (lowDie 2 p) 0x230 16 1 0
  have hup := part_congr (hcount.same .parts rfl) p
  generalize hv : u.raise p evCollAborted [(24, 1, c.mine.group), (28, 4, c.mine.tag.toNat), (32, 2, st), (34, 2, rank)] = v
  have ht : t = v.finish c.q st (block 16 [(0, 2, rank % 4096)]) := by rw [← hv, ← hu]; rfl
  have hraise := hv ▸ State.raise_evolves u p evCollAborted
    [(24, 1, c.mine.group), (28, 4, c.mine.tag.toNat), (32, 2, st), (34, 2, rank)]
  have hcolls : (v.part p).colls = (s.part p).colls.filter fun d => d.key != c.key := by
    rw [← hv, (Keeps.raise (π := Part.colls) (fun _ _ _ => rfl) u p evCollAborted _).same p, hup, hdrop]
  have hdone : (v.part p).doneKeys = c.key :: (s.part p).doneKeys := by
    rw [← hv, (Keeps.raise (π := Part.doneKeys) (fun _ _ _ => rfl) u p evCollAborted _).same p, hup, hdrop]
  have hqueues : v.queues = s.queues :=
    ((hraise.same .queues rfl).trans (hcount.same .queues rfl)).trans (hopen.same .queues rfl)
  rw [ht, State.finish_part, Part.coll, hcolls, hdone]
  refine ⟨finished_finish (queue_congr hqueues _ ▸ hr) hd, ?_, rfl⟩
  simp

/-- Settles O34: each command through the case that its hypotheses choose. -/
theorem abortsSettleOnHighestPriority : Obligations.AbortsSettleOnHighestPriority := by
  unfold Obligations.AbortsSettleOnHighestPriority
  intro s p a c r hp
  dsimp only
  have hrecv : exec (.abortReceive p a) s = execAbortReceive p a s := rfl
  refine ⟨fun hin hdom => ?_, fun hin hdom => ⟨fun hc => ?_, fun hc => ?_⟩, fun hfind => ?_, fun hfind hq hdone => ?_⟩
  · simp only [hrecv, execAbortReceive, onQuad_of_lt hp, hin, hdom, Bool.not_true, Bool.false_eq_true, if_false, if_true]
  · simp only [hrecv, execAbortReceive, onQuad_of_lt hp, hin, hdom, hc, Bool.not_true, Bool.false_eq_true, if_false]
  · simp only [hrecv, execAbortReceive, onQuad_of_lt hp, hin, hdom, hc, Bool.not_true, Bool.false_eq_true, if_false]
    split <;> rfl
  · refine ⟨s.collRaise p c stCollTimeout, ?_, { c with causes := c.causes ++ [(stCollTimeout, c.rank)] }, ?_, ?_⟩
    · change execCollWatchdogExpiry p a.group a.tag s = _
      simp only [execCollWatchdogExpiry, onQuad_of_lt hp, hfind]
    · have hkeep : Keeps Part.colls _ (s.collRaise p c stCollTimeout) := .sendAbort (fun _ _ => rfl) _ p c stCollTimeout
      rw [Part.coll, hkeep.same p, State.putColl, State.modPart, State.part_setPart]
      exact find_replaced (key := Coll.key) (List.mem_of_find?_eq_some hfind) rfl
    · have hempty := List.find?_some hfind
      simp only [Bool.and_eq_true, List.isEmpty_iff] at hempty
      simp [hempty.2]
  · have hsome := List.find?_some hfind
    simp only [Bool.and_eq_true, Bool.not_eq_true', List.isEmpty_eq_false_iff] at hsome
    obtain ⟨st, rank, hbest, hmem, hmin⟩ := bestCause_spec hsome.2
    refine ⟨s.collAborted p c st rank, ?_, st, rank, hmem, hmin, collAborted_ends hq hdone st rank⟩
    change execCollSettleExpiry p a.group a.tag s = _
    simp only [execCollSettleExpiry, onQuad_of_lt hp, hfind, hbest]

end Sys2Proof.Machine
end

section
/-! ### The waymark converters (chapter 18) -/

namespace Sys2Proof.Machine

open Sys2Proof Sys2Proof.Safety

section
variable {s : State}

/-! #### The trigger input -/

theorem exec_trigInEdge (rising : Bool) {t : State}
    (h : (if (rising && bit (s.wmCfg 3 2) 0) || (!rising && bit (s.wmCfg 3 2) 1) then s.wmTrigger 1 else s) = t) :
    exec (.trigInEdge rising) s = .next { t with wm := { t.wm with trigLevel := rising } } := by
  subst h
  rfl

/-- An edge of the kind that EDGE selects reaches the trigger. -/
theorem exec_trigInEdge_selected {rising : Bool} (h : bit (s.wmCfg 3 2) (b2n (!rising)) = true) :
    exec (.trigInEdge rising) s = .next { s.wmTrigger 1 with wm := { (s.wmTrigger 1).wm with trigLevel := rising } } := by
  refine exec_trigInEdge rising (if_pos ?_)
  cases rising <;> simpa [b2n] using h

theorem wmTrigger_enabled (hin : s.input = true) (hen : s.wmCfg 0 1 = 1) {src : Nat} (hsrc : s.wmCfg 1 2 = src) :
    s.wmTrigger src = if s.wm.running then s.count 2 0 0x394 16 1
      else { s with wm := { s.wm with running := s.wmSteps != 0, pass := 0, step := 0, trigTime := s.ltime } } := by
  simp [State.wmTrigger, hin, hen, hsrc]

theorem wmTrigger_disabled (hen : s.wmCfg 0 1 = 0) (src : Nat) : s.wmTrigger src = s := by simp [State.wmTrigger, hen]

theorem only_wm (s : State) (w : Waymark) : Only [.wm] s { s with wm := w } := by
  intro c hc
  cases c
  case wm => simp at hc
  all_goals rfl

theorem only_wm_free (s : State) (n : Nat) (w : Waymark) : Only [.wm, .free] s { s with free := n, wm := w } := by
  intro c hc
  cases c
  case wm => simp at hc
  case free => simp at hc
  all_goals rfl

theorem counter_count_same (s : State) {k d off lo n idx : Nat} (hn : n ≠ 0) :
    (s.count k d off lo n idx).counter (counterKey k d off lo idx) = (s.counter (counterKey k d off lo idx)).add s.ltime n := by
  simp only [State.count, if_neg hn, State.counter, tget_tput_self]

/-! #### Steps -/

theorem wmPush_room {v : Word64} (h : s.wm.fifo.length < 4096) :
    s.wmPush v = { s with wm := { s.wm with fifo := s.wm.fifo ++ [v] } } := if_neg (by omega)

/-- Results that fit into the FIFO join it in their order. -/
theorem foldl_wmPush (f : Nat → Word64) : ∀ (cs : List Nat) {u : State}, u.wm.fifo.length + cs.length ≤ 4096 →
    cs.foldl (fun t c => t.wmPush (f c)) u = { u with wm := { u.wm with fifo := u.wm.fifo ++ cs.map f } }
  | [], u, _ => by simp
  | c :: cs, u, h => by
    rw [List.length_cons] at h
    rw [List.foldl_cons, wmPush_room (by omega), foldl_wmPush f cs (by simp only [List.length_append, List.length_singleton]; omega)]
    simp

/-- The converters that have an entry for the step in progress. -/
def State.wmDue (s : State) : List Nat := s.wmEnabled.filter fun c => s.wm.step < s.wmLength c

theorem lt_of_wmDue {c : Nat} (h : c ∈ s.wmDue) : c < 8 ∧ s.wm.step < s.wmLength c := by
  simp only [State.wmDue, State.wmEnabled, List.mem_filter, List.mem_range, decide_eq_true_eq] at h
  exact ⟨h.1.1, h.2⟩

theorem wmDue_length : s.wmDue.length ≤ 8 := by
  have h1 : s.wmDue.length ≤ s.wmEnabled.length := List.length_filter_le ..
  have h2 : s.wmEnabled.length ≤ (List.range 8).length := List.length_filter_le ..
  rw [List.length_range] at h2
  omega

/-- What a step leaves in the waymark before it advances. -/
theorem exec_waymarkStep (hin : s.input = true) (hrun : s.wm.running = true) (hroom : s.wm.fifo.length + 8 ≤ 4096)
    (uv : List Nat) : exec (.waymarkStep uv) s = .next ({ s with
      free := s.free + 8
      wm := { s.wm with fifo := s.wm.fifo ++ s.wmDue.map fun c => s.wmResult c (uv.getD c 0) } } : State).wmAdvance := by
  have hlen := wmDue_length (s := s)
  change execWaymarkStep uv s = _
  rw [execWaymarkStep, if_neg (by simp [hin, hrun])]
  change Host.Outcome.next (State.wmAdvance (s.wmDue.foldl (fun t c => t.wmPush (s.wmResult c (uv.getD c 0))) { s with free := s.free + 8 })) = _
  rw [foldl_wmPush (fun c => s.wmResult c (uv.getD c 0))]
  dsimp only
  omega

theorem wmAdvance_eq (s : State) : s.wmAdvance = { s with
    wm := if s.wm.step + 1 < s.wmSteps then { s.wm with step := s.wm.step + 1 }
    else if s.wm.pass < s.wmCfg 8 8 then { s.wm with step := 0, pass := s.wm.pass + 1 }
    else { s.wm with running := false, step := 0, pass := 0 } } := by
  unfold State.wmAdvance
  dsimp only
  split
  · rfl
  · split <;> rfl

end

/-! #### The fields of a result -/

/-- The places of the fields of a packed result. -/
theorem result_fields {code c step pass time : Nat} (clip : Bool) (hcode : code < 65536) (hc : c < 8) (hstep : step < 16)
    (hpass : pass < 256) (htime : time < 2 ^ 32) {v : Nat}
    (hv : v = (BitVec.ofNat 64 (code + c * 2 ^ 16 + step * 2 ^ 19 + b2n clip * 2 ^ 23 + pass * 2 ^ 24 + time * 2 ^ 32)).toNat) :
    bits v 0 16 = code ∧ bits v 16 3 = c ∧ bits v 19 4 = step ∧ bit v 23 = clip ∧ bits v 24 8 = pass ∧ bits v 32 32 = time := by
  have hclip : b2n clip < 2 := by cases clip <;> decide
  rw [BitVec.toNat_ofNat, Nat.mod_eq_of_lt (by omega)] at hv
  simp only [bits, bit, Nat.shiftRight_eq_div_pow, Nat.testBit_eq_decide_div_mod_eq]
  refine ⟨by omega, by omega, by omega, ?_, by omega, by omega⟩
  have hbit : v / 2 ^ 23 % 2 = b2n clip := by omega
  rw [hbit]
  cases clip <;> rfl

theorem wmLength_le (s : State) (c : Nat) : s.wmLength c ≤ 16 := by
  unfold State.wmLength
  cases h : (List.range 16).find? fun e => s.wmEntry c e 12 1 == 1 with
  | none => simp
  | some e =>
    have := List.mem_range.1 (List.mem_of_find?_eq_some h)
    simp only [Option.map_some, Option.getD_some]
    omega

theorem wmConvert_lt (s : State) (c gain held : Nat) : (s.wmConvert c gain held).1 < 65536 := by
  simp only [State.wmConvert, clampI]
  omega

/-- Settles O60: the edge by what the trigger does, the step by the results that it packs. -/
theorem waymarkConvertsStepByStep : Obligations.WaymarkConvertsStepByStep := by
  unfold Obligations.WaymarkConvertsStepByStep
  intro s rising uv hin
  dsimp only
  refine ⟨fun hen hsrc hedge => ⟨fun hidle hsteps => ?_, fun hrun => ?_⟩, fun hdis => ?_, fun hrun hroom => ?_, fun c hc => ?_⟩
  · have hsteps' : (s.wmSteps != 0) = true := by simpa using hsteps
    refine ⟨_, exec_trigInEdge_selected hedge, ?_⟩
    rw [wmTrigger_enabled hin hen hsrc, hidle]
    simp only [Bool.false_eq_true, if_false, hsteps']
    exact ⟨trivial, only_wm _ _⟩
  · refine ⟨_, exec_trigInEdge_selected hedge, ?_⟩
    rw [wmTrigger_enabled hin hen hsrc, hrun]
    have hwm : (s.count 2 0 0x394 16 1).wm = s.wm := (State.count_evolves ..).same .wm rfl
    have hcount := counter_count_same s (k := 2) (d := 0) (off := 0x394) (lo := 16) (idx := 0) Nat.one_ne_zero
    simp only [if_true, hwm]
    exact ⟨by rw [hrun], congrArg Counter.owner hcount⟩
  · refine ⟨_, exec_trigInEdge rising (t := s) ?_, rfl, only_wm _ _⟩
    rw [wmTrigger_disabled hdis, ite_self]
  · refine ⟨_, exec_waymarkStep hin hrun hroom uv, ?_⟩
    rw [wmAdvance_eq]
    have hsteps : ({ s with
      free := s.free + 8
      wm := { s.wm with fifo := s.wm.fifo ++ s.wmDue.map fun c => s.wmResult c (uv.getD c 0) } } : State).wmSteps = s.wmSteps := rfl
    have hpasses : ({ s with
      free := s.free + 8
      wm := { s.wm with fifo := s.wm.fifo ++ s.wmDue.map fun c => s.wmResult c (uv.getD c 0) } } : State).wmCfg 8 8 = s.wmCfg 8 8 := rfl
    rw [hsteps, hpasses]
    refine ⟨?_, ?_, fun hnext => ?_, fun hlast hpass => ?_, fun hlast hpass => ?_⟩
    · exact only_wm_free _ _ _
    · dsimp only
      split
      · rfl
      · split <;> rfl
    · simp only [if_pos hnext]
      exact ⟨trivial, trivial, hrun⟩
    · simp only [if_neg (Nat.not_lt.2 hlast), if_pos hpass]
      exact ⟨trivial, trivial, hrun⟩
    · simp only [if_neg (Nat.not_lt.2 hlast), if_neg (Nat.not_lt.2 hpass)]
  · obtain ⟨hc8, hstep⟩ := lt_of_wmDue hc
    have hlen := wmLength_le s c
    exact result_fields _ (wmConvert_lt ..) hc8 (by omega) (Nat.mod_lt _ (by decide)) (Nat.mod_lt _ (by decide)) rfl

end Sys2Proof.Machine
end

section
/-! ### Register writes, in the order of their effects (R16, R463, R468, R470) -/

namespace Sys2Proof.Machine

open Sys2Proof Sys2Proof.Safety

/-! #### Fields of a word -/

theorem testBit_bits (v lo w j : Nat) : (bits v lo w).testBit j = (decide (j < w) && v.testBit (lo + j)) := by
  simp only [bits, Nat.testBit_mod_two_pow, Nat.testBit_shiftRight]

/-- A word in which a field is replaced: below it, the field, above it. -/
theorem setBits_eq (v lo w x : Nat) :
    setBits v lo w x = 2 ^ lo * (2 ^ w * (v / 2 ^ lo / 2 ^ w) + x % 2 ^ w) + v % 2 ^ lo := by
  have h1 := Nat.div_add_mod v (2 ^ lo)
  have h2 := Nat.div_add_mod (v / 2 ^ lo) (2 ^ w)
  rw [setBits, bits, Nat.shiftRight_eq_div_pow]
  generalize v / 2 ^ lo / 2 ^ w = c at *
  generalize v / 2 ^ lo % 2 ^ w = b at *
  rw [← h2] at h1
  rw [Nat.mul_add, Nat.mul_comm _ b] at h1
  rw [Nat.mul_add, Nat.mul_comm _ (x % 2 ^ w)]
  omega

theorem testBit_setBits (v lo w x j : Nat) :
    (setBits v lo w x).testBit j = if lo ≤ j ∧ j < lo + w then x.testBit (j - lo) else v.testBit j := by
  rw [setBits_eq, Nat.testBit_two_pow_mul_add _ (Nat.mod_lt _ (Nat.two_pow_pos _)),
    Nat.testBit_two_pow_mul_add _ (Nat.mod_lt _ (Nat.two_pow_pos _))]
  by_cases h1 : j < lo
  · simp [h1, show ¬ (lo ≤ j) by omega]
  · by_cases h2 : j - lo < w
    · simp [h1, h2, show lo ≤ j ∧ j < lo + w by omega]
    · simp only [h1, h2, if_false, show ¬ (lo ≤ j ∧ j < lo + w) by omega, Nat.testBit_div_two_pow]
      congr 1
      omega

/-- `v` agrees with `x` in a field exactly when it agrees in each of its bits. -/
theorem bits_eq_iff {v x lo w : Nat} : bits v lo w = bits x lo w ↔ ∀ j, lo ≤ j → j < lo + w → v.testBit j = x.testBit j := by
  refine ⟨fun h j h1 h2 => ?_, fun h => Nat.eq_of_testBit_eq fun j => ?_⟩
  · have hj := congrArg (Nat.testBit · (j - lo)) h
    simpa only [testBit_bits, show j - lo < w by omega, decide_true, Bool.true_and, show lo + (j - lo) = j by omega] using hj
  · rw [testBit_bits, testBit_bits]
    by_cases hj : j < w
    · rw [h (lo + j) (by omega) (by omega)]
    · simp [hj]

/-- Taking over a field of `x` gives agreement there, and keeps agreement in any other field. -/
theorem bits_setBits_same (v x lo w : Nat) : bits (setBits v lo w (bits x lo w)) lo w = bits x lo w := by
  refine bits_eq_iff.2 fun j h1 h2 => ?_
  rw [testBit_setBits, if_pos ⟨h1, h2⟩, testBit_bits]
  simp [show j - lo < w by omega, show lo + (j - lo) = j by omega]

theorem bits_setBits_keep {v x lo w : Nat} (h : bits v lo w = bits x lo w) (lo' w' : Nat) :
    bits (setBits v lo' w' (bits x lo' w')) lo w = bits x lo w := by
  refine bits_eq_iff.2 fun j h1 h2 => ?_
  rw [testBit_setBits, testBit_bits]
  split
  · simp [show j - lo' < w' by omega, show lo' + (j - lo') = j by omega]
  · exact bits_eq_iff.1 h j h1 h2

/-- The word after taking over the fields `fs` of `x`. -/
def putBits (v x : Nat) (fs : List RegField) : Nat := fs.foldl (fun y f => setBits y f.lo f.width (bits x f.lo f.width)) v

theorem bits_putBits_keep {x lo w : Nat} : ∀ (fs : List RegField) {v : Nat}, bits v lo w = bits x lo w →
    bits (putBits v x fs) lo w = bits x lo w
  | [], _, h => h
  | _ :: fs, _, h => bits_putBits_keep fs (bits_setBits_keep h _ _)

theorem bits_putBits_mem {x : Nat} {f : RegField} : ∀ {fs : List RegField} (v : Nat), f ∈ fs →
    bits (putBits v x fs) f.lo f.width = bits x f.lo f.width
  | g :: fs, v, h => by
    rcases List.mem_cons.1 h with rfl | h
    · exact bits_putBits_keep fs (bits_setBits_same ..)
    · exact bits_putBits_mem (fs := fs) _ h

/-! #### The stages of a write -/

/-- The fields of a register that a write reaches. -/
def State.reached (s : State) (v : Via) (k d off : Nat) : List RegField :=
  (regAt k off).filter fun f => s.reaches v k d f && (viaOwner v || f.view == .tenant)

/-- A held field whose unit works. -/
def State.heldNow (s : State) (k d i : Nat) (f : RegField) : Bool := f.acc == .rwh && s.unitActive k d i f.unit

/-- The fields that take effect at once. -/
def State.liveFields (s : State) (k d i : Nat) (fs : List RegField) : List RegField :=
  fs.filter fun f => f.acc == .rw || (f.acc == .rwh && !s.heldNow k d i f)

def stagedFields (fs : List RegField) : List RegField := fs.filter fun f => f.acc == .rws

def State.putFields (s : State) (k h off i w : Nat) (fs : List RegField) : State :=
  fs.foldl (fun t f => t.setRegf k h off f.lo f.width (bits w f.lo f.width) i) s

/-- Live fields take their bits. -/
def State.storeLive (s : State) (k d off i w : Nat) (fs : List RegField) : State :=
  if k = 2 && off = 0x228 then
    (if (s.liveFields k d i fs).isEmpty then s else s.setRoute (s.ownerD d) i (bits w 0 4))
  else s.putFields k (regHome k d off) off i w (s.liveFields k d i fs)

/-- Staged fields take theirs at rest, and are staged in a step. -/
def State.storeStaged (s o : State) (k d off i w : Nat) (fs : List RegField) : State :=
  if (stagedFields fs).isEmpty then s
  else if o.atRest k d then s.putFields k (regHome k d off) off i w (stagedFields fs)
  else
    let key := regKey k (regHome k d off) off i
    let old := ((tfind s.staged key).map (·.1)).getD (s.reg k (regHome k d off) off i)
    { s with staged := tput s.staged key (putBits old w (stagedFields fs), o.ltime) }

/-- Then flags are cleared and calibration is written. -/
def State.clearAndCal (s : State) (v : Via) (k d off i w : Nat) (fs : List RegField) : State :=
  let t := (fs.filter fun f => f.acc == .w1c && bits w f.lo f.width != 0).foldl (fun t f => t.clearField v k d i w f) s
  if off = 0x18 then t.calWrite v k d w else t

/-- All that a write does before the register acts. -/
def State.beforeAction (s : State) (v : Via) (k d off i w : Nat) : State :=
  let fs := s.reached v k d off
  ((s.storeLive k d off i w fs).storeStaged s k d off i w fs).clearAndCal v k d off i w fs

/-- Whether the write is reported as one that met a held field. -/
def State.meetsHeld (s : State) (v : Via) (k d off i : Nat) : Bool :=
  (off == 0x18 && s.wm.running && ((s.calSelected v k d).elim false fun c => 6 ≤ c.1)) || (s.reached v k d off).any (s.heldNow k d i)

theorem regWrite_stages {s : State} {v : Via} {k d off i w : Nat} (hsel : s.selected v k d off = some i)
    (hne : (s.reached v k d off).isEmpty = false) (hw : w < 2 ^ 32) :
    s.regWrite v k d off w =
      if s.meetsHeld v k d off i then
        ((s.beforeAction v k d off i w).regAction s v k (regHome k d off) off i w).fieldHeld v k d off w
      else (s.beforeAction v k d off i w).regAction s v k (regHome k d off) off i w := by
  have hmod : w % 2 ^ 32 = w := Nat.mod_eq_of_lt hw
  rw [State.reached] at hne
  simp only [State.regWrite, hmod, hsel, hne, Bool.false_eq_true, if_false]
  rfl

/-! #### What the stages leave in the registers -/

section
variable {s : State} {v : Via} {k d off i w : Nat}

theorem reg_putFields (s : State) (k h off i w : Nat) (fs : List RegField) :
    (s.putFields k h off i w fs).reg k h off i = putBits (s.reg k h off i) w fs := by
  induction fs generalizing s with
  | nil => rfl
  | cons f fs ih => exact (ih _).trans (congrArg (putBits · w fs) (State.reg_setReg ..))

theorem putFields_evolves (s : State) (k h off i w : Nat) (fs : List RegField) : Evolves 16384 s (s.putFields k h off i w fs) :=
  .foldl .refl fun _ _ => State.setRegf_evolves ..

theorem reg_congr {s t : State} (h : t.regs = s.regs) (k d off i : Nat) : t.reg k d off i = s.reg k d off i := by
  simp only [State.reg, h]

theorem regf_congr {s t : State} (h : t.regs = s.regs) (k d off lo w i : Nat) : t.regf k d off lo w i = s.regf k d off lo w i := by
  simp only [State.regf, reg_congr h]

theorem clearAndCal_evolves (s : State) (v : Via) (k d off i w : Nat) (fs : List RegField) :
    Evolves 8591835136 s (s.clearAndCal v k d off i w fs) := by
  have hclear : Evolves 8591835136 s
      ((fs.filter fun f => f.acc == .w1c && bits w f.lo f.width != 0).foldl (fun t f => t.clearField v k d i w f) s) :=
    .foldl .refl fun _ _ => (State.clearField_evolves ..).mono rfl
  exact .ite (hclear.trans ((State.calWrite_evolves ..).mono rfl)) hclear

/-- Of the acting registers GD_FPCTL alone is written again, with the same bits. -/
theorem regAction_regs (t s : State) (v : Via) (k h off i w : Nat) : (t.regAction s v k h off i w).regs = t.regs ∨
    (k = 1 ∧ off = 0x260 ∧ (t.regAction s v k h off i w).regs = (t.setRegf 1 h 0x260 1 2 (bits w 1 2)).regs) := by
  unfold State.regAction
  dsimp only
  split
  · left
    split
    · split
      · exact (State.requestRefresh_evolves ..).same .regs rfl
      · rfl
    · split
      · have hprobe (c : Bool) (n : Nat) : (if c = true then t.requestProbe n else t).regs = t.regs := by
          cases c
          · rfl
          · exact (State.requestProbe_evolves ..).same .regs rfl
        split
        · exact ((State.requestRetire_evolves ..).same .regs rfl).trans (hprobe _ _)
        · exact hprobe _ _
      · rfl
  · split
    · next hk =>
      split
      · next hoff =>
        right
        refine ⟨hk, hoff, ?_⟩
        unfold State.fpControl
        dsimp only
        split
        · rfl
        · split <;> rfl
      · exact .inl rfl
    · left
      split
      · split
        · split
          · rfl
          · exact (State.switchPort_evolves ..).same .regs rfl
        · rfl
      · split
        · rfl
        · exact (State.switchQueue_evolves ..).same .regs rfl
      · split <;> rfl
      · split <;> rfl
      · have hlink (b c : Bool) : Evolves 171798757894 t
            (if b then (if c then t else t.announce portT 0).seekTwin else if c then t.unpairTwin else t) :=
          .ite (.trans (.ite .refl ((State.announce_evolves ..).mono rfl)) ((State.seekTwin_evolves ..).mono rfl))
            (.ite ((State.unpairTwin_evolves ..).mono rfl) .refl)
        have hpull (b c e : Bool) : Evolves 171798757894 t
            (if e then (if b then (if c then t else t.announce portT 0).seekTwin else if c then t.unpairTwin else t).pullTwin
              else if b then (if c then t else t.announce portT 0).seekTwin else if c then t.unpairTwin else t) :=
          .ite ((hlink b c).trans ((State.pullTwin_evolves ..).mono rfl)) (hlink b c)
        exact (hpull _ _ _).same .regs rfl
      · exact (State.wmControl_evolves ..).same .regs rfl
      · rfl

theorem beforeAction_regs (s : State) (v : Via) (k d off i w : Nat) : (s.beforeAction v k d off i w).regs =
    ((s.storeLive k d off i w (s.reached v k d off)).storeStaged s k d off i w (s.reached v k d off)).regs :=
  (clearAndCal_evolves ..).same .regs rfl

/-- Agreement with `w` in a field, once reached, stays to the end of the write. -/
theorem agrees_regWrite {lo n : Nat} (hsel : s.selected v k d off = some i) (hne : (s.reached v k d off).isEmpty = false)
    (hw : w < 2 ^ 32) (h : (s.beforeAction v k d off i w).regf k (regHome k d off) off lo n i = bits w lo n) :
    (s.regWrite v k d off w).regf k (regHome k d off) off lo n i = bits w lo n := by
  have hact : ((s.beforeAction v k d off i w).regAction s v k (regHome k d off) off i w).regf k (regHome k d off) off lo n i =
      bits w lo n := by
    rcases regAction_regs (s.beforeAction v k d off i w) s v k (regHome k d off) off i w with hr | ⟨hk, hoff, hr⟩
    · rw [regf_congr hr, h]
    · rw [regf_congr hr]
      subst hk hoff
      by_cases hi : i = 0
      · subst hi
        rw [State.regf, State.setRegf, State.reg_setReg]
        exact bits_setBits_keep h 1 2
      · have hkey : regKey 1 (regHome 1 d 0x260) 0x260 i ≠ regKey 1 (regHome 1 d 0x260) 0x260 0 := by
          unfold regKey
          omega
        rw [← h, State.regf, State.regf, State.reg, State.setRegf, State.setReg, tfind_tput_other hkey, State.reg]
  rw [regWrite_stages hsel hne hw]
  split
  · rw [regf_congr ((State.fieldHeld_evolves ..).same .regs rfl), hact]
  · exact hact

/-- A read-write field that a write reaches takes its bits. -/
theorem regf_regWrite {f : RegField} (hsel : s.selected v k d off = some i) (hf : f ∈ s.reached v k d off) (hw : w < 2 ^ 32)
    (hroute : ¬ (k = 2 ∧ off = 0x228)) (hacc : f.acc = .rw) :
    (s.regWrite v k d off w).regf k (regHome k d off) off f.lo f.width i = bits w f.lo f.width := by
  have hne : (s.reached v k d off).isEmpty = false := by
    rw [List.isEmpty_eq_false_iff]
    exact List.ne_nil_of_mem hf
  refine agrees_regWrite hsel hne hw ?_
  rw [regf_congr (beforeAction_regs ..)]
  have hlive : bits ((s.storeLive k d off i w (s.reached v k d off)).reg k (regHome k d off) off i) f.lo f.width =
      bits w f.lo f.width := by
    rw [State.storeLive, if_neg (by simpa using hroute), reg_putFields]
    exact bits_putBits_mem _ (by simp [State.liveFields, hf, hacc])
  unfold State.storeStaged
  split
  · exact hlive
  · split
    · rw [State.regf, reg_putFields]
      exact bits_putBits_keep _ hlive
    · exact hlive

end

/-- A register of staged fields alone, in a step: its value stays, and what is staged agrees with the write. -/
theorem staged_regWrite {s : State} {v : Via} {k d off i w : Nat} {f : RegField} (hsel : s.selected v k d off = some i)
    (hf : f ∈ s.reached v k d off) (hw : w < 2 ^ 32) (hroute : ¬ (k = 2 ∧ off = 0x228))
    (hall : ∀ g ∈ regAt k off, g.acc = .rws) (hrest : s.atRest k d = false) :
    let t := s.regWrite v k d off w
    t.reg k (regHome k d off) off i = s.reg k (regHome k d off) off i ∧
      ∃ y, tfind t.staged (regKey k (regHome k d off) off i) = some (y, s.ltime) ∧ bits y f.lo f.width = bits w f.lo f.width := by
  have hne : (s.reached v k d off).isEmpty = false := by
    rw [List.isEmpty_eq_false_iff]
    exact List.ne_nil_of_mem hf
  have hacc : ∀ g ∈ s.reached v k d off, g.acc = .rws := fun g hg => hall g (List.mem_filter.1 hg).1
  have hnot : ¬ (k = 1 ∧ off = 0x260) := by
    rintro ⟨rfl, rfl⟩
    have hrw := hall ⟨0x260, 1, 1, .rw, 0x0, .each, .hidden, .free⟩ (by decide)
    cases hrw
  have hlive : s.liveFields k d i (s.reached v k d off) = [] := by
    refine List.filter_eq_nil_iff.2 fun g hg => ?_
    simp [hacc g hg]
  have hstaged : stagedFields (s.reached v k d off) = s.reached v k d off :=
    List.filter_eq_self.2 fun g hg => by simp [hacc g hg]
  have hstore : s.storeLive k d off i w (s.reached v k d off) = s := by
    rw [State.storeLive, if_neg (by simpa using hroute), hlive]
    rfl
  have hbefore := clearAndCal_evolves (s.storeStaged s k d off i w (s.reached v k d off)) v k d off i w (s.reached v k d off)
  have hput : s.storeStaged s k d off i w (s.reached v k d off) = { s with
      staged := tput s.staged (regKey k (regHome k d off) off i)
        (putBits (((tfind s.staged (regKey k (regHome k d off) off i)).map (·.1)).getD (s.reg k (regHome k d off) off i)) w
          (s.reached v k d off), s.ltime) } := by
    simp only [State.storeStaged, hstaged, hne, hrest, Bool.false_eq_true, if_false]
  have hact := (State.regAction_evolves (s.beforeAction v k d off i w) s v k (regHome k d off) off i w)
  have hregs : (s.beforeAction v k d off i w).regs = s.regs := by
    rw [State.beforeAction, hstore]
    exact (hbefore.same .regs rfl).trans (by rw [hput])
  have hst : (s.beforeAction v k d off i w).staged = (s.storeStaged s k d off i w (s.reached v k d off)).staged := by
    rw [State.beforeAction, hstore]
    exact hbefore.same .staged rfl
  have hregs' : ((s.beforeAction v k d off i w).regAction s v k (regHome k d off) off i w).regs = s.regs := by
    rcases regAction_regs (s.beforeAction v k d off i w) s v k (regHome k d off) off i w with hr | ⟨hk, hoff, -⟩
    · exact hr.trans hregs
    · exact absurd ⟨hk, hoff⟩ hnot
  have hst' := (hact.same .staged rfl).trans hst
  have key (t : State) (hr : t.regs = s.regs) (hs : t.staged = (s.storeStaged s k d off i w (s.reached v k d off)).staged) :
      t.reg k (regHome k d off) off i = s.reg k (regHome k d off) off i ∧
        ∃ y, tfind t.staged (regKey k (regHome k d off) off i) = some (y, s.ltime) ∧
          bits y f.lo f.width = bits w f.lo f.width := by
    have hfound : tfind t.staged (regKey k (regHome k d off) off i) =
        some (putBits (((tfind s.staged (regKey k (regHome k d off) off i)).map (·.1)).getD (s.reg k (regHome k d off) off i)) w
          (s.reached v k d off), s.ltime) := by rw [hs, hput, tfind_tput_self]
    exact ⟨reg_congr hr .., _, hfound, bits_putBits_mem _ hf⟩
  intro t
  have ht := regWrite_stages hsel hne hw
  change t = _ at ht
  rw [ht]
  split
  · exact key _ (((State.fieldHeld_evolves ..).same .regs rfl).trans hregs') (((State.fieldHeld_evolves ..).same .staged rfl).trans hst')
  · exact key _ hregs' hst'

/-- Settles O43: both paths end in the same write. -/
theorem registerWritesSetReachedFields : Obligations.RegisterWritesSetReachedFields := by
  unfold Obligations.RegisterWritesSetReachedFields
  intro s fn addr k d off i ctrl v die w f hf
  dsimp only
  refine ⟨fun hfn hopen hal htarget hroute hreach hview hsel => ?_, fun hctrl hin hst hdie hroute hreach hsel => ?_⟩
  · have hexec : exec (.registerWrite fn addr 4 v) s = .next (s.regWrite (.tenant fn) k d off (bits v.toNat 0 32)) := by
      change execRegisterWrite fn addr 4 v s = _
      simp [execRegisterWrite, onFunction, hfn, hopen, hal, State.barWrite, htarget]
    have hmem : f ∈ s.reached (.tenant fn) k d off := List.mem_filter.2 ⟨hf, by simp [hreach, hview]⟩
    have hlt : bits v.toNat 0 32 < 2 ^ 32 := Nat.mod_lt _ (by decide)
    exact ⟨fun hacc => ⟨_, hexec, regf_regWrite hsel hmem hlt hroute hacc⟩,
      fun hall hrest => ⟨_, hexec, staged_regWrite hsel hmem hlt hroute hall hrest⟩⟩
  · have hexec : exec (.registerPathWrite ctrl die off w) s =
        .next ((s.regWrite .owner k d off w.toNat).emit (.regWrite 0)) := by
      change execRegisterPathWrite ctrl die off w s = _
      simp only [execRegisterPathWrite, onController, hctrl, hin, hst, hdie, if_true, Bool.not_true, Bool.false_eq_true, if_false]
    have hmem : f ∈ s.reached .owner k d off := List.mem_filter.2 ⟨hf, by simp [hreach, viaOwner]⟩
    exact ⟨fun hacc => ⟨_, hexec, regf_regWrite hsel hmem w.isLt hroute hacc, by simp [State.emit]⟩,
      fun hall hrest => ⟨_, hexec, staged_regWrite hsel hmem w.isLt hroute hall hrest⟩⟩

end Sys2Proof.Machine
end

section
/-! ### Register reads (R464, R558, R569) -/

namespace Sys2Proof.Machine

open Sys2Proof Sys2Proof.Safety

section
variable {s : State} {v : Via} {k d off : Nat}

/-- A register that is no part of a latched pair is read without effect but for a free value. -/
theorem regRead_plain (hlo : (k, off) ∉ latchPairs) (hhi : (k, off - 4) ∉ latchPairs) :
    (s.regRead v k d off).1 = s.regValue v k d off ∧ Evolves 4 s (s.regRead v k d off).2 := by
  unfold State.regRead
  dsimp only
  rw [if_neg (by simpa using hlo), if_neg (by simpa using hhi)]
  split
  · exact ⟨rfl, .free .refl rfl⟩
  · exact ⟨rfl, .refl⟩

/-- A LO register latches its HI register. -/
theorem regRead_lo (hlo : (k, off) ∈ latchPairs) (hfifo : off ≠ 0x398) :
    s.regRead v k d off = (s.regValue v k d off,
      { s with latches := tput s.latches (latchKey v k d off) (s.regValue v k d (off + 4)) }) := by
  unfold State.regRead
  dsimp only
  rw [if_pos (by simpa using hlo)]
  simp [hfifo]

theorem not_latched_hi (h : (k, off) ∈ latchPairs) : (k, off + 4) ∉ latchPairs := by
  have hpairs : ∀ e ∈ latchPairs, (e.1, e.2 + 4) ∉ latchPairs := by decide
  exact hpairs _ h

/-- A HI register gives what its LO register latched on this path. -/
theorem regRead_hi (h : (k, off) ∈ latchPairs) : s.regRead v k d (off + 4) =
    (if (regAt k off).any (s.reaches v k d) then tget 0 s.latches (latchKey v k d off) else 0, s) := by
  unfold State.regRead
  dsimp only
  rw [if_neg (by simpa using not_latched_hi h), if_pos (by simpa using h), Nat.add_sub_cancel]

/-- The owner's read of WM_FIFO_LO takes the oldest entry and latches its upper half. -/
theorem regRead_fifo {x : Word64} {rest : List Word64} (hfifo : s.wm.fifo = x :: rest) :
    s.regRead .owner 2 0 0x398 = (s.regValue .owner 2 0 0x398,
      { s with
        latches := tput s.latches (latchKey .owner 2 0 0x398) (s.regValue .owner 2 0 0x39C)
        wm := { s.wm with fifo := rest } }) := by
  unfold State.regRead
  dsimp only
  rw [if_pos (by decide)]
  simp [hfifo, viaOwner]

theorem regAt_fifo : regAt 2 0x398 = [⟨0x398, 0, 32, .ro, 0x0, .hd0, .hidden, .free⟩] ∧
    regAt 2 0x39C = [⟨0x39C, 0, 32, .ro, 0x0, .hd0, .hidden, .free⟩] := by decide

theorem regValue_fifo (hlay : s.inLayout 0 = false) : s.regValue .owner 2 0 0x398 = (s.wm.fifo.headD 0).toNat % 2 ^ 32 ∧
    s.regValue .owner 2 0 0x39C = (s.wm.fifo.headD 0).toNat / 2 ^ 32 := by
  have hsel (off : Nat) (h : off = 0x398 ∨ off = 0x39C) : s.selected .owner 2 0 off = some 0 := by
    rcases h with rfl | rfl <;> rfl
  have hquad : dieQuad 2 0 = 0 := rfl
  have hlt := (s.wm.fifo.headD 0).isLt
  constructor
  · simp only [State.regValue, hsel _ (.inl rfl), hquad, hlay, regAt_fifo.1]
    change 0 + (s.wm.fifo.headD 0).toNat % 2 ^ 32 % 2 ^ 32 * 2 ^ 0 = _
    omega
  · simp only [State.regValue, hsel _ (.inr rfl), hquad, hlay, regAt_fifo.2]
    change 0 + (s.wm.fifo.headD 0).toNat / 2 ^ 32 % 2 ^ 32 * 2 ^ 0 = _
    omega

theorem exec_wmFifoRead_owner {x : Word64} {rest : List Word64} (hpow : s.powered = true) (hfifo : s.wm.fifo = x :: rest) :
    exec (.wmFifoRead .owner) s = .next { s with
      out := s.out ++ [.regRead 0 (BitVec.ofNat 32 (s.regValue .owner 2 0 0x398))]
      latches := tput s.latches (latchKey .owner 2 0 0x398) (s.regValue .owner 2 0 0x39C)
      wm := { s.wm with fifo := rest } } := by
  have hopen : s.viaOpen .owner = true := by simp [State.viaOpen, hpow]
  change execWmFifoRead .owner s = _
  rw [execWmFifoRead, onVia, hopen, regRead_fifo hfifo]
  rfl

end

/-- Settles O44: each read through the equation of its register. -/
theorem registerReadsReturnAndLatch : Obligations.RegisterReadsReturnAndLatch := by
  unfold Obligations.RegisterReadsReturnAndLatch
  intro s ctrl off d die kind v hctrl
  refine ⟨fun k d' hin hst hdie hlo hhi => ?_, fun hin hact => ?_, fun hin hact hpow hal hoff hdie => ?_,
    fun hfn hd hopen => ?_, fun x rest hpow hlay hfifo => ?_⟩
  · obtain ⟨hval, hev⟩ := regRead_plain (s := s) (v := .owner) (d := d') hlo hhi
    have hev' := (State.emit_evolves (s.regRead .owner k d' off).2
      (.regRead 0 (BitVec.ofNat 32 (s.regRead .owner k d' off).1))).app (m := 6) (hev.mono rfl) rfl
    refine ⟨_, ?_, only_of_evolves hev' (by decide), ?_⟩
    · change execRegisterPathRead ctrl die off s = _
      simp only [execRegisterPathRead, onController, hctrl, hin, hst, hdie, if_true, Bool.not_true, Bool.false_eq_true, if_false]
    · rw [State.emit, hval, hev.same .out rfl]
  · have hst : s.pathStatus ctrl die off = some 3 := if_pos (by simpa using hact)
    change execRegisterPathRead ctrl die off s = _
    simp [execRegisterPathRead, onController, hctrl, hin, hst]
  · have hst : s.pathStatus ctrl die off = some 2 := by
      have hdie' : (pathDie die).isNone = false := by rw [← Option.not_isSome, hdie]; rfl
      have hoff' : ¬ (0x100000 ≤ off) := Nat.not_le.2 hoff
      simp [State.pathStatus, hact, hdie', hal, hoff', hpow]
    change execRegisterPathRead ctrl die off s = _
    simp [execRegisterPathRead, onController, hctrl, hin, hst]
  · have hexec (o : Nat) : exec (.latchedPairRead v kind d o) s = .next ((s.regRead v (kindCode kind) d o).2.emit
        (.regRead 0 (BitVec.ofNat 32 (s.regRead v (kindCode kind) d o).1))) := by
      change execLatchedPairRead v kind d o s = _
      have hvia (r : Result) : onVia v r = r := by
        cases v with
        | tenant fn => exact if_pos (hfn fn rfl)
        | owner => rfl
      rw [execLatchedPairRead, hvia, if_neg (by omega), hopen]
      rfl
    dsimp only
    refine ⟨fun hlo hne => ⟨_, hexec off, ?_⟩, fun hlo => ⟨_, hexec (off + 4), ?_⟩⟩
    · rw [regRead_lo hlo hne]
      refine ⟨?_, rfl, ?_, fun j hj => ?_⟩
      · refine only_of_evolves (m := 131074) ((State.emit_evolves ..).app (.latches .refl rfl) rfl) (by decide)
      · simp [State.emit]
      · simp only [State.emit]
        exact tget_tput_other _ _ hj _
    · rw [regRead_hi hlo]
      exact ⟨only_of_evolves (State.emit_evolves ..) (by decide), rfl⟩
  · obtain ⟨hval, hhi⟩ := regValue_fifo hlay
    rw [hfifo] at hval hhi
    refine ⟨_, exec_wmFifoRead_owner hpow hfifo, rfl, ?_, ?_⟩
    · have hx : BitVec.ofNat 32 (x.toNat % 2 ^ 32) = x.setWidth 32 := by
        apply BitVec.eq_of_toNat_eq
        simp
      rw [hval, List.headD_cons, hx]
    · rw [hhi, List.headD_cons, tget_tput_self]

end Sys2Proof.Machine
end

section
/-! ### What a register write leaves besides its register -/

namespace Sys2Proof.Machine

open Sys2Proof Sys2Proof.Safety

section
variable {s : State} {v : Via} {k d off i w : Nat}

theorem storeLive_evolves (s : State) (k d off i w : Nat) (fs : List RegField) : Evolves 68719493120 s (s.storeLive k d off i w fs) :=
  .ite (.ite .refl ((State.setRoute_evolves ..).mono rfl)) ((putFields_evolves ..).mono rfl)

theorem storeStaged_evolves (s o : State) (k d off i w : Nat) (fs : List RegField) :
    Evolves 49152 s (s.storeStaged o k d off i w fs) :=
  .ite .refl (.ite ((putFields_evolves ..).mono rfl) (.staged .refl rfl))

/-- Before a register acts, a write changes registers, flags and calibration alone. -/
theorem beforeAction_evolves (s : State) (v : Via) (k d off i w : Nat) : Evolves 77311361024 s (s.beforeAction v k d off i w) :=
  (((storeLive_evolves ..).mono rfl).trans ((storeStaged_evolves ..).mono rfl)).trans ((clearAndCal_evolves ..).mono rfl)

theorem reg_putFields_other {h k' h' off' i' : Nat} (hkey : regKey k' h' off' i' ≠ regKey k h off i) (fs : List RegField)
    (s : State) : (s.putFields k h off i w fs).reg k' h' off' i' = s.reg k' h' off' i' := by
  induction fs generalizing s with
  | nil => rfl
  | cons f fs ih =>
    refine (ih _).trans ?_
    simp only [State.setRegf, State.setReg, State.reg, tfind_tput_other hkey]

theorem reg_beforeAction_other {k' h' off' i' : Nat} (hkey : regKey k' h' off' i' ≠ regKey k (regHome k d off) off i) :
    (s.beforeAction v k d off i w).reg k' h' off' i' = s.reg k' h' off' i' := by
  rw [reg_congr (beforeAction_regs ..)]
  have hlive : (s.storeLive k d off i w (s.reached v k d off)).reg k' h' off' i' = s.reg k' h' off' i' := by
    unfold State.storeLive
    split
    · split <;> rfl
    · exact reg_putFields_other hkey ..
  unfold State.storeStaged
  split
  · exact hlive
  · split
    · exact (reg_putFields_other hkey ..).trans hlive
    · exact hlive

/-- A register without held fields reports none. -/
theorem meetsHeld_of_no_held (hoff : off ≠ 0x18) (h : ∀ f ∈ regAt k off, f.acc ≠ .rwh) : s.meetsHeld v k d off i = false := by
  have hany : (s.reached v k d off).any (s.heldNow k d i) = false := by
    refine List.any_eq_false.2 fun f hf => ?_
    simp [State.heldNow, h f (List.mem_filter.1 hf).1]
  simp [State.meetsHeld, hany, hoff]

/-- A register that has a field the write reaches, and none that is held: the write is its action. -/
theorem regWrite_action (hsel : s.selected v k d off = some i) (hw : w < 2 ^ 32) (hoff : off ≠ 0x18)
    (hheld : ∀ f ∈ regAt k off, f.acc ≠ .rwh) {f : RegField} (hf : f ∈ s.reached v k d off) :
    s.regWrite v k d off w = (s.beforeAction v k d off i w).regAction s v k (regHome k d off) off i w := by
  have hne : (s.reached v k d off).isEmpty = false := by
    rw [List.isEmpty_eq_false_iff]
    exact List.ne_nil_of_mem hf
  rw [regWrite_stages hsel hne hw, meetsHeld_of_no_held hoff hheld]
  exact if_neg Bool.false_ne_true

end

/-! ### The footpath (R403, R405, R418) -/

section
variable {s : State} {d : Nat}

/-- What the footpath holds of an access that begins. -/
def State.fpStarted (s : State) (d : Nat) (write raw : Bool) : GradDie :=
  { s.grad d with
    fpBusy := true
    fpAt := s.fpAddr d
    fpWrite := write
    fpRaw := raw
    fpWord := natLe 4 (s.reg 1 d 0x258) ++ natLe 4 (s.reg 1 d 0x25C) }

theorem grad_fpControl {w : Nat} (hgo : bit w 0 = true) (hidle : (s.grad d).fpBusy = false) : (s.fpControl d w).grad d =
    if s.fpAllowed d then s.fpStarted d (bit w 1) (bit w 2) else { s.grad d with fpResult := 3 } := by
  simp only [State.fpControl, hgo, hidle, Bool.not_true, Bool.or_self, Bool.false_eq_true, if_false]
  split
  · exact State.grad_setGrad ..
  · exact State.grad_setGrad ..

theorem regAction_footpath (s o : State) (v : Via) (h i w : Nat) : s.regAction o v 1 h 0x260 i w = s.fpControl h w := by
  simp only [State.regAction, Nat.one_ne_zero, if_false, if_true]

theorem exec_footpathGo (hd : d < 8) (hpow : s.powered = true) (w : Word) :
    exec (.footpathGo .owner d w) s = .next ((s.beforeAction .owner 1 d 0x260 0 w.toNat).fpControl d w.toNat) := by
  have hopen : s.viaOpen .owner = true := by simp [State.viaOpen, hpow]
  change writeVia .owner .gd d 0x260 w s = _
  rw [writeVia_run (v := .owner) (kind := .gd) (fun _ h => nomatch h) hopen hd]
  have hf : (⟨0x260, 1, 1, .rw, 0x0, .each, .hidden, .free⟩ : RegField) ∈ s.reached .owner 1 d 0x260 :=
    List.mem_filter.2 ⟨by decide, by simp [State.reaches, viaOwner]⟩
  have hwrite := regWrite_action (i := 0) rfl w.isLt (by decide) (by decide) hf
  rw [regAction_footpath] at hwrite
  exact congrArg _ hwrite

/-- The registers that name an access are not the one that starts it. -/
theorem beforeFootpath (s : State) (d w : Nat) : let t := s.beforeAction .owner 1 d 0x260 0 w
    t.grad d = s.grad d ∧ t.fpAllowed d = s.fpAllowed d ∧ t.fpStarted d = s.fpStarted d := by
  intro t
  have hev := beforeAction_evolves s .owner 1 d 0x260 0 w
  have hreg (off : Nat) (h : off < 0x260) : t.reg 1 d off = s.reg 1 d off := by
    refine reg_beforeAction_other ?_
    have hhome : regHome 1 d 0x260 = d := rfl
    rw [hhome]
    unfold regKey
    omega
  have hgrad : t.grad d = s.grad d := congrArg (tget GradDie.reset · d) (hev.same .grads rfl)
  have haddr : t.fpAddr d = s.fpAddr d := by simp only [State.fpAddr, State.regf, hreg 0x250 (by decide), hreg 0x254 (by decide)]
  have hparts := hev.same .parts rfl
  refine ⟨hgrad, ?_, ?_⟩
  · have howner (x : Nat) : t.owner x = s.owner x := by rw [State.owner, State.owner, show t.parts = s.parts from hparts]
    have hpart (p : Nat) : t.part p = s.part p := part_congr hparts p
    simp only [State.fpAllowed, haddr, howner, hpart]
  · funext a b
    simp only [State.fpStarted, hgrad, haddr, hreg 0x258 (by decide), hreg 0x25C (by decide)]

/-! #### The data bits -/

/-- What a RAW write makes of the map of data bits. -/
def rawFold (M : Nat → Byte) (a : Nat) (m : SMap Byte) (es : List (Byte × Nat)) : SMap Byte :=
  es.foldl (fun m e => if e.1 = M (a + e.2) then tdel m (a + e.2) else tput m (a + e.2) e.1) m

/-- One byte: its place holds it, every other place keeps what it had. -/
theorem rawFold_one {M : Nat → Byte} {m : SMap Byte} (hm : tsorted 0 m = true) (j : Nat) (b : Byte) :
    let m' := if b = M j then tdel m j else tput m j b
    tsorted 0 m' = true ∧ (tfind m' j).getD (M j) = b ∧ ∀ i, i ≠ j → tfind m' i = tfind m i := by
  intro m'
  by_cases h : b = M j
  · have e : m' = tdel m j := if_pos h
    rw [e]
    exact ⟨tsorted_tdel _ hm, by rw [tfind_tdel_self _ hm, Option.getD_none, h], fun i hi => tfind_tdel_other hi hm⟩
  · have e : m' = tput m j b := if_neg h
    rw [e]
    exact ⟨tsorted_tput _ hm (Nat.zero_le _), by rw [tfind_tput_self, Option.getD_some], fun i hi => tfind_tput_other hi _ _⟩

theorem tfind_rawFold (M : Nat → Byte) (a : Nat) (bs : List Byte) : ∀ (n : Nat) {m : SMap Byte}, tsorted 0 m = true →
    (∀ j, j < a + n → tfind (rawFold M a m (bs.zipIdx n)) j = tfind m j) ∧
      ∀ i (h : i < bs.length), (tfind (rawFold M a m (bs.zipIdx n)) (a + (n + i))).getD (M (a + (n + i))) = bs[i] := by
  induction bs with
  | nil => exact fun _ _ _ => ⟨fun _ _ => rfl, fun _ h => absurd h (Nat.not_lt_zero _)⟩
  | cons b bs ih =>
    intro n m hm
    obtain ⟨hm1, hself, hother⟩ := rawFold_one (M := M) hm (a + n) b
    obtain ⟨hlow, hin⟩ := ih (n + 1) hm1
    refine ⟨fun j hj => (hlow j (by omega)).trans (hother j (by omega)), fun i hi => ?_⟩
    cases i with
    | zero => exact (congrArg (·.getD (M (a + n))) (hlow (a + n) (by omega))).trans hself
    | succ i =>
      have h := hin i (by simpa using hi)
      rw [show n + 1 + i = n + (i + 1) by omega] at h
      exact h

/-- What is written raw is read raw. -/
theorem rawRead_rawWrite (hraw : tsorted 0 s.raw = true) (a : Nat) (bs : List Byte) :
    (s.rawWrite a bs).rawRead a bs.length = bs := by
  obtain ⟨-, hin⟩ := tfind_rawFold (fun i => memByte s.mem i) a bs 0 hraw
  refine List.ext_getElem (by simp [State.rawRead]) fun i h1 h2 => ?_
  have h := hin i h2
  rw [Nat.zero_add] at h
  simp only [State.rawRead, List.getElem_map, List.getElem_range]
  exact h

/-! #### The access -/

/-- The access ends with the result given. -/
def State.fpDone (s : State) (d r : Nat) : State := s.setGrad d { s.grad d with fpBusy := false, fpResult := r }

theorem fpDone_spec (s : State) (d r : Nat) : Untouched s (s.fpDone d r) ∧ (s.fpDone d r).raw = s.raw ∧ (s.fpDone d r).regs = s.regs ∧
    ((s.fpDone d r).grad d).fpBusy = false ∧ ((s.fpDone d r).grad d).fpResult = r := by
  refine ⟨⟨rfl, rfl, rfl⟩, rfl, rfl, ?_⟩
  rw [State.fpDone, State.grad_setGrad]
  exact ⟨rfl, rfl⟩

theorem fpData_regs (s : State) (d : Nat) (bs : List Byte) : (s.fpData d bs).reg 1 d 0x258 = leNat (bs.take 4) ∧
    (s.fpData d bs).reg 1 d 0x25C = leNat (bs.drop 4) := by
  refine ⟨?_, State.reg_setReg ..⟩
  have hkey : regKey 1 d 0x258 0 ≠ regKey 1 d 0x25C 0 := by
    unfold regKey
    omega
  have hother : (s.fpData d bs).reg 1 d 0x258 = (s.setReg 1 d 0x258 0 (leNat (bs.take 4))).reg 1 d 0x258 := by
    simp only [State.fpData, State.reg, State.setReg, tfind_tput_other hkey]
  exact hother.trans (State.reg_setReg ..)

theorem exec_footpathComplete {d errs : Nat} (hd : d < 8) (hbusy : (s.grad d).fpBusy = true) :
    exec (.footpathComplete d errs) s = .next (s.fpAccess d errs) := by
  change execFootpathComplete d errs s = _
  rw [execFootpathComplete, onDie, if_pos hd, if_pos hbusy]

/-- The block of an access stands in error, or marked by RAW writes. -/
def State.fpFixed (s : State) (d errs : Nat) : Bool := decide (0 < errs) || s.rawBlocks.contains ((s.grad d).fpAt / 256)

theorem fpAccess_offline {errs : Nat} (hoff : s.offline (s.grad d).fpAt 8 = true) : ∃ u, s.fpAccess d errs = u.fpDone d 2 ∧
    Untouched s u ∧ u.raw = s.raw := by
  refine ⟨if (s.grad d).fpWrite then s else s.useFree.fpData d (natLe 8 s.freeVal.toNat), ?_, ?_⟩
  · simp only [State.fpAccess, hoff, if_true]
    rfl
  · split <;> exact ⟨⟨rfl, rfl, rfl⟩, rfl⟩

theorem fpAccess_raw {errs : Nat} (hoff : s.offline (s.grad d).fpAt 8 = false) (hraw : (s.grad d).fpRaw = true) :
    ((s.grad d).fpWrite = true → s.fpAccess d errs = (s.rawWrite (s.grad d).fpAt (s.grad d).fpWord).fpDone d 0) ∧
      ((s.grad d).fpWrite = false → s.fpAccess d 0 = (s.fpData d (s.rawRead (s.grad d).fpAt 8)).fpDone d 0) := by
  refine ⟨fun h => ?_, fun h => ?_⟩
  · simp only [State.fpAccess, hoff, hraw, h, Bool.false_eq_true, if_false, if_true]
    rfl
  · simp only [State.fpAccess, hoff, hraw, h, Bool.false_eq_true, if_false, if_true]
    rfl

/-- An ordinary access of a block that can be corrected, its correction counted. -/
theorem fpAccess_ordinary {errs : Nat} (hoff : s.offline (s.grad d).fpAt 8 = false) (hraw : (s.grad d).fpRaw = false)
    (herrs : errs ≤ 16) (hpois : s.poisoned (s.grad d).fpAt 8 = false) :
    ((s.grad d).fpWrite = true → ∃ u, Evolves 65536 s u ∧
      s.fpAccess d errs = (u.writeMem (s.grad d).fpAt (s.grad d).fpWord).fpDone d (b2n (s.fpFixed d errs))) ∧
    ((s.grad d).fpWrite = false → ∃ u, Evolves 65536 (s.fpData d (memRead s.mem (s.grad d).fpAt 8)) u ∧
      s.fpAccess d errs = u.fpDone d (b2n (s.fpFixed d errs))) := by
  have hbad : (decide (16 < errs) || s.poisoned (s.grad d).fpAt 8) = false := by
    rw [hpois, Bool.or_false]
    exact decide_eq_false (by omega)
  refine ⟨fun h => ⟨if s.rawBlocks.contains ((s.grad d).fpAt / 256) || errs = 0 then s else s.countCorr (s.grad d).fpAt, ?_, ?_⟩,
    fun h => ⟨if s.fpFixed d errs then (s.fpData d (memRead s.mem (s.grad d).fpAt 8)).countCorr (s.grad d).fpAt
      else s.fpData d (memRead s.mem (s.grad d).fpAt 8), ?_, ?_⟩⟩
  · exact .ite .refl (State.countCorr_evolves ..)
  · simp only [State.fpAccess, hoff, hraw, h, hbad, Bool.false_eq_true, if_false, if_true]
    rfl
  · exact .ite (State.countCorr_evolves ..) .refl
  · simp only [State.fpAccess, hoff, hraw, h, hbad, Bool.false_eq_true, if_false]
    rfl

end

/-- Settles O48: the access in each of its cases, then the result. -/
theorem footpathMovesEightBytes : Obligations.FootpathMovesEightBytes := by
  unfold Obligations.FootpathMovesEightBytes
  intro s d errs w hd hmem
  refine ⟨fun hpow hgo hidle => ?_, fun hbusy hoff => ?_, fun hbusy hoff =>
    ⟨fun hraw herrs hpois => ⟨fun hw hlen => ?_, fun hr => ?_⟩, fun hraw => ⟨fun hw hlen hsort => ?_, fun hr => ?_⟩⟩⟩
  · obtain ⟨hgrad, hallow, hstart⟩ := beforeFootpath s d w.toNat
    refine ⟨_, exec_footpathGo hd hpow w, (grad_fpControl hgo (hgrad ▸ hidle)).trans ?_⟩
    rw [hallow, hstart, hgrad, State.fpStarted]
    exact rfl
  · obtain ⟨u, hu, hun, hraw⟩ := fpAccess_offline (errs := errs) hoff
    obtain ⟨hd1, hd2, -, hd3⟩ := fpDone_spec u d 2
    exact ⟨_, exec_footpathComplete hd hbusy, hu ▸ untouched_trans hun hd1, hu ▸ (hd2.trans hraw).symm, hu ▸ hd3⟩
  · obtain ⟨u, hev, hu⟩ := (fpAccess_ordinary hoff hraw herrs hpois).1 hw
    obtain ⟨hd1, -, -, hd3⟩ := fpDone_spec (u.writeMem (s.grad d).fpAt (s.grad d).fpWord) d (b2n (s.fpFixed d errs))
    have hun : Untouched s u := ⟨hev.same .mem rfl, hev.same .slab rfl, hev.same .out rfl⟩
    refine ⟨_, exec_footpathComplete hd hbusy, ?_, hu ▸ hd3⟩
    rw [hu]
    refine wrote_congr (State.wrote_writeAt (memoryOk_of_untouched hun hmem) 0 (pl := .dev (s.grad d).fpAt) ?_)
      (untouched_symm hun) hd1
    rintro a ⟨⟩
    rw [offline_congr (hev.same .hbm rfl), hlen]
    exact hoff
  · obtain ⟨u, hev, hu⟩ := (fpAccess_ordinary hoff hraw herrs hpois).2 hr
    obtain ⟨hd1, -, hd2, hd3⟩ := fpDone_spec u d (b2n (s.fpFixed d errs))
    have hregs := hd2.trans (hev.same .regs rfl)
    obtain ⟨hlo, hhi⟩ := fpData_regs s d (memRead s.mem (s.grad d).fpAt 8)
    refine ⟨_, exec_footpathComplete hd hbusy, ?_, ?_, hu ▸ hd3⟩
    · rw [hu]
      exact untouched_trans ⟨hev.same .mem rfl, hev.same .slab rfl, hev.same .out rfl⟩ hd1
    · rw [hu]
      exact ⟨(reg_congr hregs ..).trans hlo, (reg_congr hregs ..).trans hhi⟩
  · have hu := (fpAccess_raw (errs := errs) hoff hraw).1 hw
    obtain ⟨hd1, hd2, -, hd3⟩ := fpDone_spec (s.rawWrite (s.grad d).fpAt (s.grad d).fpWord) d 0
    refine ⟨_, exec_footpathComplete hd hbusy, hu ▸ untouched_trans ⟨rfl, rfl, rfl⟩ hd1, ?_, hu ▸ hd3⟩
    rw [hu]
    have hread := hlen ▸ rawRead_rawWrite hsort (s.grad d).fpAt (s.grad d).fpWord
    exact hread
  · have hu := (fpAccess_raw (errs := 0) hoff hraw).2 hr
    obtain ⟨hd1, -, hd2, hd3⟩ := fpDone_spec (s.fpData d (s.rawRead (s.grad d).fpAt 8)) d 0
    obtain ⟨hlo, hhi⟩ := fpData_regs s d (s.rawRead (s.grad d).fpAt 8)
    refine ⟨_, exec_footpathComplete hd hbusy, ?_, ?_, hu ▸ hd3⟩
    · rw [hu]
      exact untouched_trans ⟨rfl, rfl, rfl⟩ hd1
    · rw [hu]
      exact ⟨(reg_congr hd2 ..).trans hlo, (reg_congr hd2 ..).trans hhi⟩

end Sys2Proof.Machine
end

section
/-! ### Retirement (R219, R220): what it leaves of a tile's state -/

namespace Sys2Proof.Machine

open Sys2Proof Sys2Proof.Safety

/-- A projection of every tile is the same in two states. -/
structure KeepsTile {β : Type} (π : Tile → β) (s t : State) : Prop where
  same : ∀ i, π (t.tile i) = π (s.tile i)

/-- Where a tile stands: its state, and whether it is scanned. -/
def Tile.phase (x : Tile) : TileState × Bool := (x.st, x.scanning)

namespace KeepsTile

section
variable {β : Type} {π : Tile → β} {s t u : State}

theorem refl : KeepsTile π s s := ⟨fun _ => rfl⟩
theorem trans (h : KeepsTile π s t) (k : KeepsTile π t u) : KeepsTile π s u := ⟨fun i => (k.same i).trans (h.same i)⟩
theorem of_evolves {m : Nat} (h : Evolves m s t) (hm : m.testBit 26 = false) (hd : m.testBit 27 = false) : KeepsTile π s t :=
  ⟨fun i => congrArg π (tile_congr (h.same .tiles hm) (h.same .tileDef hd) i)⟩
theorem modTile (p : Nat) {f : Tile → Tile} (h : ∀ x, π (f x) = π x) : KeepsTile π s (s.modTile p f) :=
  ⟨fun i => s.modTile_keeps p i h⟩
theorem setTile (p : Nat) {x : Tile} (h : π x = π (s.tile p)) : KeepsTile π s (s.setTile p x) := by
  refine ⟨fun i => ?_⟩
  by_cases e : i = p
  · rw [e, State.tile_setTile, h]
  · rw [State.tile_setTile_other _ _ _ _ e]
theorem ite {c : Prop} [Decidable c] (h : KeepsTile π s t) (k : KeepsTile π s u) : KeepsTile π s (if c then t else u) := by
  split <;> assumption
theorem foldl {α : Type} {f : State → α → State} {l : List α} (h : KeepsTile π s t) (k : ∀ v a, KeepsTile π v (f v a)) :
    KeepsTile π s (l.foldl f t) := by
  induction l generalizing t with
  | nil => exact h
  | cons a l ih => exact ih (h.trans (k t a))

end

/-! Orders that are narrowed, programs that end and replacements leave every tile where it stands. -/

theorem narrowOrder (s : State) (l : Layer) (i : Nat) (e : TileEntry) (o : Nat × Nat) :
    KeepsTile Tile.phase s (s.narrowOrder l i e o) := by
  unfold State.narrowOrder
  split
  · exact .refl
  · next r _ =>
    dsimp only
    have hmark (u : State) (pl row col : Nat) : KeepsTile Tile.phase u (u.markKnown pl row col) := .modTile pl fun _ => rfl
    have happlied (u : State) : KeepsTile Tile.phase u (u.applied o) := of_evolves (State.applied_evolves ..) rfl rfl
    have hpre : KeepsTile Tile.phase s (((s.setRunDigits (l.narrowAddr i) (oRow o.1) r (canonDigits r.s (oValue o.1))).markKnown
        e.tile (oRow o.1) r.col).applied o) :=
      (KeepsTile.trans (of_evolves (State.setRunDigits_evolves ..) rfl rfl) (hmark ..)).trans (happlied _)
    split
    · exact hpre
    · refine hpre.trans (.modTile _ fun y => ?_)
      split <;> rfl

theorem narrowAll (s : State) (pl : Nat) : KeepsTile Tile.phase s (s.narrowAll pl) := by
  unfold State.narrowAll
  split
  · exact .modTile pl fun _ => rfl
  · exact .trans (.foldl .refl fun t o => .narrowOrder ..) (.modTile pl fun _ => rfl)

theorem scanCut (s : State) (ls : List Layer) : KeepsTile Tile.phase s (s.scanCut ls) :=
  .foldl .refl fun _ _ => .modTile _ fun y => by split <;> rfl

theorem finishProgram (s : State) (q : Nat) (r : Running) : KeepsTile Tile.phase s (s.finishProgram q r) := by
  unfold State.finishProgram
  dsimp only
  have hread (u : State) (ls : List (Layer × Bool)) :
      KeepsTile Tile.phase u (ls.foldl (fun t l => t.readBackLayer (s.queuePart q) l.1) u) :=
    .foldl .refl fun _ _ => of_evolves (State.readBackLayer_evolves ..) rfl rfl
  have hscan {c : Prop} [Decidable c] (u : State) (ls : List Layer) : KeepsTile Tile.phase u (if c then u.scanCut ls else u) :=
    .ite (.scanCut ..) .refl
  have hlog {c : Prop} [Decidable c] (u : State) : KeepsTile Tile.phase u
      (if c then u.modPart (s.queuePart q) fun x => { x with logCount := 0 } else u) :=
    .ite ⟨fun _ => rfl⟩ .refl
  exact (((hread _ _).trans (hscan _ _)).trans (hlog _)).trans (of_evolves (State.finish_evolves ..) rfl rfl)

theorem finishPrograms (s : State) (p : Nat) : KeepsTile Tile.phase s (s.finishPrograms p) := by
  unfold State.finishPrograms
  refine .foldl .refl fun t e => ?_
  split
  · exact .ite (.finishProgram ..) .refl
  · exact .refl

theorem divertSlots (s : State) (pl : Nat) : KeepsTile Tile.phase s (s.divertSlots pl) := by
  unfold State.divertSlots
  refine .foldl (.modTile pl fun _ => rfl) fun t v => ?_
  split
  · exact of_evolves (State.sendFrom_evolves ..) rfl rfl
  · exact .refl

theorem askWake (s : State) (t cls : Nat) : KeepsTile Tile.phase s (s.askWake t cls) := by
  have hgate (u : State) (d : Nat) (g : Gate) : KeepsTile Tile.phase u (u.setGate d g) := ⟨fun _ => rfl⟩
  unfold State.askWake
  dsimp only
  split
  · exact .refl
  · exact (hgate _ _ _).trans (.modTile t fun _ => rfl)

theorem engageReserve (s : State) (t r : Nat) : KeepsTile Tile.phase s (s.engageReserve t r) := by
  have hset (u : State) (d r pl st : Nat) : KeepsTile Tile.phase u (u.setRetire d r pl st) := ⟨fun _ => rfl⟩
  have hlow (u : State) (d : Nat) : KeepsTile Tile.phase u (u.reserveLow d) := of_evolves (State.reserveLow_evolves ..) rfl rfl
  have hmod (u : State) (x : Nat) (w : List Nat) :
      KeepsTile Tile.phase u (u.modTile x fun y => { y with reserveProg := true, work := w }) := .modTile x fun _ => rfl
  exact (((hset ..).trans (hlow ..)).trans (hmod ..)).trans (.askWake ..)

theorem replaceTile (s : State) (t cause flagTime cols rows : Nat) (silent : Bool) :
    KeepsTile Tile.phase s (s.replaceTile t cause flagTime cols rows silent) := by
  have hreport (u : State) (p l t r c o f k w : Nat) : KeepsTile Tile.phase u (u.reportRetired p l t r c o f k w) :=
    of_evolves (State.reportRetired_evolves ..) rfl rfl
  unfold State.replaceTile
  split
  · exact .ite .refl (hreport ..)
  · next p l i e _ =>
    have hby : KeepsTile Tile.phase s (s.modTile e.tile Tile.bypassedNow) := .modTile _ fun _ => rfl
    dsimp only
    split
    · exact .ite (hby.trans (.engageReserve ..)) ((hby.trans (.engageReserve ..)).trans (hreport ..))
    · have hraise (u : State) (p code : Nat) (fs ms : List (Nat × Nat × Nat)) : KeepsTile Tile.phase u (u.raiseM p code fs ms) :=
        of_evolves (State.raiseM_evolves ..) rfl rfl
      cases silent
      · exact (hby.trans (hreport ..)).trans (hraise ..)
      · exact hby.trans (hraise ..)

end KeepsTile

/-- A tile that is retired is in the retired state, and no scan of it goes on. -/
theorem State.retireTile_phase (s : State) (t cause : Nat) : ((s.retireTile t cause).tile t).phase = (.retired, false) := by
  unfold State.retireTile
  dsimp only
  have hreq (u : State) : KeepsTile Tile.phase u (u.dropRequests t) := .of_evolves (State.dropRequests_evolves ..) rfl rfl
  have hres (u : State) : KeepsTile Tile.phase u (if isReserve t then u.retireReserve t else u) :=
    .ite (.of_evolves (State.retireReserve_evolves ..) rfl rfl) .refl
  have hset : ((s.setTile t (s.tile t).retire).tile t).phase = (.retired, false) := by
    rw [State.tile_setTile]
    rfl
  have hpre := (((hreq _).trans (hres _)).same t).trans hset
  have hreport (u : State) (p l t r c o f k w : Nat) : KeepsTile Tile.phase u (u.reportRetired p l t r c o f k w) :=
    .of_evolves (State.reportRetired_evolves ..) rfl rfl
  have hgive (u : State) (pl : Nat) (os : List (Nat × Nat)) :
      KeepsTile Tile.phase u (u.modTile pl fun y => { y with orders := os ++ y.orders }) := .modTile pl fun _ => rfl
  split
  · exact ((hreport ..).same t).trans hpre
  · exact (((hgive ..).trans ((KeepsTile.divertSlots ..).trans (.replaceTile ..))).same t).trans hpre

theorem State.retireNow_phase (s : State) (p t pl cause : Nat) : ((s.retireNow p t pl cause).tile t).phase = (.retired, false) :=
  (((KeepsTile.narrowAll (s.retireTile t cause) pl).trans (.finishPrograms _ p)).same t).trans (s.retireTile_phase t cause)

end Sys2Proof.Machine
end

section
/-! ### Registers that act when they are written (R187, R219, R383, R452, R455, R458, R561) -/

namespace Sys2Proof.Machine

open Sys2Proof Sys2Proof.Safety

theorem bits_one (v lo : Nat) : bits v lo 1 = b2n (v.testBit lo) := by
  rw [bits, Nat.shiftRight_eq_div_pow, Nat.testBit_eq_decide_div_mod_eq, b2n, Nat.pow_one]
  split <;> simp_all

section
variable {s : State} {v : Via} {k d off i w : Nat}

/-- Every field of the register answers to the path. -/
def State.Whole (s : State) (v : Via) (k d off : Nat) : Prop :=
  ∀ f ∈ regAt k off, s.reaches v k d f = true ∧ (viaOwner v = true ∨ f.view = .tenant)

theorem reached_of_whole (h : s.Whole v k d off) {f : RegField} (hf : f ∈ regAt k off) : f ∈ s.reached v k d off := by
  obtain ⟨hr, hv⟩ := h f hf
  exact List.mem_filter.2 ⟨hf, by simpa [hr] using hv⟩

/-- A write does its action, and may then report held fields. -/
theorem regWrite_acts (hsel : s.selected v k d off = some i) (hw : w < 2 ^ 32) {f : RegField} (hf : f ∈ s.reached v k d off) :
    Evolves 549755879942 ((s.beforeAction v k d off i w).regAction s v k (regHome k d off) off i w) (s.regWrite v k d off w) := by
  have hne : (s.reached v k d off).isEmpty = false := by
    rw [List.isEmpty_eq_false_iff]
    exact List.ne_nil_of_mem hf
  rw [regWrite_stages hsel hne hw]
  exact .ite (State.fieldHeld_evolves ..) .refl

theorem reg_beforeAction {off' i' : Nat} (h : off' < off) (hoff : off < 0x100000) :
    (s.beforeAction v k d off 0 w).reg k (regHome k d off) off' i' = s.reg k (regHome k d off) off' i' := by
  refine reg_beforeAction_other ?_
  unfold regKey
  omega

theorem tile_beforeAction (s : State) (v : Via) (k d off i w t : Nat) : (s.beforeAction v k d off i w).tile t = s.tile t :=
  tile_congr ((beforeAction_evolves ..).same .tiles rfl) ((beforeAction_evolves ..).same .tileDef rfl) t

end

/-! #### Requests to a tile -/

section
variable {s : State} {k : Nat}

theorem requestRefresh_due (hex : tileExists k = true) (hmark : (s.tile k).mark = 0) (hdue : (s.tile k).due = none)
    (hst : (s.tile k).st ≠ .retired) : ((s.requestRefresh k).tile k).due = some 3 := by
  simp [State.requestRefresh, hex, State.tile_modTile, hmark, hdue, hst]

theorem requestProbe_settles (hex : tileExists k = true) (hmark : (s.tile k).mark = 0) (hst : (s.tile k).st ≠ .retired)
    (hprobe : (s.tile k).st ≠ .probe) :
    ∃ t : State, s.requestProbe k = t.settleRoads ∧ (t.tile k).probeReq = true ∧ (t.tile k).st = (s.tile k).st := by
  refine ⟨s.modTile k fun x => { x with probeReq := true, flagTime := if x.called then x.flagTime else s.ltime }, ?_, ?_, ?_⟩
  · simp [State.requestProbe, hex, hmark, hst, hprobe]
  · rw [State.tile_modTile]
  · rw [State.tile_modTile]

/-- A retirement request first notes when it came. -/
def State.requestNoted (s : State) (k : Nat) : State :=
  s.modTile k fun y => { y with flagTime := if (s.tile k).retireReq || (s.tile k).st == .retired || (s.tile k).called ||
    (s.tile k).scanning then y.flagTime else s.ltime }

/-- The request as the tile keeps it. -/
def State.requestKept (s : State) (k : Nat) : State := (s.requestNoted k).modTile k fun y => { y with retireReq := true }

/-- What retires a tile at rest: its orders are narrowed if a layer uses it. -/
def State.retireResting (s : State) (k : Nat) : State :=
  match s.role k with
  | some (p, _, _, e) => s.retireNow p k e.tile 6
  | none => s.retireTile k 6

/-- A tile that was programmed to its end prepares what comes next. -/
def State.retireAfterBatch (s : State) (k : Nat) : State :=
  match (s.requestNoted k).role k with
  | some (p, _, _, _) => (((s.requestKept k).prepare ((s.requestKept k).rowFuel k) k).finishPrograms p).settleRoads
  | none => s.requestKept k

theorem requestRetire_eq (hex : tileExists k = true) : s.requestRetire k =
    match (s.tile k).st with
    | .idle | .sleep | .off => ((s.requestNoted k).retireResting k).settleRoads
    | .retired => s.requestNoted k
    | .active => (s.requestKept k).settleRoads
    | .program | .probe =>
      if (s.tile k).jobs.isEmpty && (s.tile k).batchToll == 0 && (s.tile k).scanToll != 2 then s.retireAfterBatch k
      else (s.requestKept k).settleRoads := by
  rw [State.requestRetire, if_neg (by simp [hex])]
  rfl

theorem requestKept_tile (s : State) (k : Nat) : ((s.requestKept k).tile k).retireReq = true ∧
    ((s.requestKept k).tile k).st = (s.tile k).st := by
  have hnoted : ((s.requestNoted k).tile k).st = (s.tile k).st := by rw [State.requestNoted, State.tile_modTile]
  rw [State.requestKept, State.tile_modTile]
  exact ⟨rfl, hnoted⟩

/-- A tile at work records the request. -/
theorem requestRetire_working (hex : tileExists k = true)
    (hst : (s.tile k).st = .active ∨ (s.tile k).st = .program ∧ (s.tile k).jobs ≠ []) :
    ∃ t : State, s.requestRetire k = t.settleRoads ∧ (t.tile k).retireReq = true ∧ (t.tile k).st = (s.tile k).st := by
  refine ⟨s.requestKept k, ?_, requestKept_tile s k⟩
  rw [requestRetire_eq hex]
  rcases hst with hact | ⟨hprog, hjobs⟩
  · rw [hact]
  · have hnone : (s.tile k).jobs.isEmpty = false := by simpa using hjobs
    simp only [hprog, hnone, Bool.false_and, Bool.false_eq_true, if_false]

theorem retireResting_st (s : State) (k : Nat) : ((s.retireResting k).tile k).st = .retired := by
  unfold State.retireResting
  split
  · exact congrArg (·.1) (s.retireNow_phase ..)
  · exact congrArg (·.1) (s.retireTile_phase ..)

/-- A tile at rest is retired at once. -/
theorem requestRetire_resting (hex : tileExists k = true)
    (hst : (s.tile k).st = .idle ∨ (s.tile k).st = .sleep ∨ (s.tile k).st = .off) :
    ∃ t : State, s.requestRetire k = t.settleRoads ∧ (t.tile k).st = .retired := by
  refine ⟨(s.requestNoted k).retireResting k, ?_, retireResting_st ..⟩
  rw [requestRetire_eq hex]
  rcases hst with h | h | h <;> rw [h]

end

/-! #### Which register a write reaches -/

section
variable {s : State} {v : Via} {d i w : Nat}

theorem selected_queue (s : State) (v : Via) (h : Nat) : s.selected v 2 h 0x30C = some (s.regf 2 h 0x300 0 14 (viaSel v)) := rfl
theorem selected_ring (s : State) (v : Via) (h : Nat) : s.selected v 2 h 0x320 = some (s.regf 2 h 0x314 0 10 (viaSel v)) := rfl
theorem selected_port {h n : Nat} (hn : portOf h (s.regf 2 h 0x200 0 2 (viaSel v)) = some n) :
    s.selected v 2 h 0x204 = some (s.regf 2 h 0x200 0 2 (viaSel v)) := by
  have hsel : s.selected v 2 h 0x204 =
      (portOf h (s.regf 2 h 0x200 0 2 (viaSel v))).map fun _ => s.regf 2 h 0x200 0 2 (viaSel v) := rfl
  rw [hsel, hn, Option.map_some]

theorem queueOn_eq {h i : Nat} (hi : i < 16384) (s : State) : s.queueOn (h * 16384 + i) = (s.regf 2 h 0x30C 18 1 i == 1) := by
  have h1 : (h * 16384 + i) / 16384 = h := by omega
  have h2 : (h * 16384 + i) % 16384 = i := by omega
  rw [State.queueOn, State.qcfg, queueHub, h1, h2]

theorem ringOn_eq {h i : Nat} (hi : i < 1024) (s : State) : s.ringOn (h * 1024 + i) = (s.regf 2 h 0x320 15 1 i == 1) := by
  have h1 : (h * 1024 + i) / 1024 = h := by omega
  have h2 : (h * 1024 + i) % 1024 = i := by omega
  rw [State.ringOn, State.ccfg, h1, h2]

theorem portEn_eq {h i n : Nat} (hh : h < 4) (hn : portOf h i = some n) (s : State) : s.portEn n = (s.regf 2 h 0x204 0 1 i == 1) := by
  have hub : portHub n = h ∧ portSel n = i := by
    unfold portOf at hn
    split at hn
    · cases hn
      unfold portHub portSel
      rw [if_neg (by omega), if_neg (by omega)]
      omega
    · split at hn
      · next hc =>
        cases hn
        simp only [Bool.and_eq_true, decide_eq_true_eq] at hc
        exact ⟨hc.2.symm, hc.1.symm⟩
      · cases hn
  rw [State.portEn, hub.1, hub.2]

/-- The enable bit of a register after a write. -/
theorem enable_regWrite {f : RegField} {off lo : Nat} (hsel : s.selected v 2 d off = some i) (hf : f ∈ s.reached v 2 d off)
    (hw : w < 2 ^ 32) (hoff : off ≠ 0x228) (hhome : off ≠ 0x220) (hacc : f.acc = .rw) (hlo : f.lo = lo) (hone : f.width = 1) :
    (s.regWrite v 2 d off w).regf 2 d off lo 1 i = b2n (w.testBit lo) := by
  have h := regf_regWrite hsel hf hw (by simp [hoff]) hacc
  rwa [hlo, hone, bits_one, regHome, if_neg (by simp [hhome])] at h

end

/-! #### What each register does -/

section
variable {s : State} {v : Via} {d h : Nat} {w : Word}

/-- What a write of a tile request does: its action, on tiles as they were. -/
theorem regWrite_tile {off : Nat} (hwhole : s.Whole v 0 d off) (hoff : off = 0x7C ∨ off = 0x94) :
    ∃ b : State, s.regWrite v 0 d off w.toNat = b.regAction s v 0 d off 0 w.toNat ∧ (∀ t, b.tile t = s.tile t) ∧
      b.selTile (viaSel v) d = s.selTile (viaSel v) d := by
  refine ⟨s.beforeAction v 0 d off 0 w.toNat, ?_, fun t => tile_beforeAction .., ?_⟩
  · rcases hoff with rfl | rfl
    · exact regWrite_action (f := ⟨0x07c, 0, 1, .wo, 0x0, .each, .hidden, .free⟩) rfl w.isLt (by decide) (by decide)
        (reached_of_whole hwhole (by decide))
    · exact regWrite_action (f := ⟨0x094, 0, 1, .wo, 0x0, .each, .hidden, .free⟩) rfl w.isLt (by decide) (by decide)
        (reached_of_whole hwhole (by decide))
  · have hreg : (s.beforeAction v 0 d off 0 w.toNat).reg 0 d 0x44 (viaSel v) = s.reg 0 d 0x44 (viaSel v) :=
      reg_beforeAction (k := 0) (by omega) (by omega)
    simp only [State.selTile, State.regf, hreg]

theorem regAction_refresh (b s : State) (v : Via) (d : Nat) {w : Nat} (hb : w.testBit 0 = true) :
    b.regAction s v 0 d 0x7C 0 w = b.requestRefresh (b.selTile (viaSel v) d) := by
  simp [State.regAction, bit, hb]

theorem regAction_fault (b s : State) (v : Via) (d w : Nat) : b.regAction s v 0 d 0x94 0 w =
    if w.testBit 1 then (if w.testBit 0 then b.requestProbe (b.selTile (viaSel v) d) else b).requestRetire (b.selTile (viaSel v) d)
    else if w.testBit 0 then b.requestProbe (b.selTile (viaSel v) d) else b := by
  simp [State.regAction, bit]

/-- What a write of a host-queue register does to what its action reads and the report of held fields leaves. -/
theorem regWrite_hub {off i : Nat} (hsel : s.selected v 2 h off = some i) {f : RegField} (hf : f ∈ s.reached v 2 h off)
    (hhome : off ≠ 0x220) : ∃ b : State, Evolves 77311361024 s b ∧
      Evolves 549755879942 (b.regAction s v 2 h off i w.toNat) (s.regWrite v 2 h off w.toNat) := by
  have hacts := regWrite_acts hsel w.isLt hf
  rw [regHome, if_neg (by simp [hhome])] at hacts
  exact ⟨_, beforeAction_evolves .., hacts⟩

theorem queueEnable_write (hwhole : s.Whole v 2 h 0x30C) {q : Nat}
    (hq : q = h * 16384 + s.regf 2 h 0x300 0 14 (viaSel v)) (hen : w.toNat.testBit 18 = true) (hoff : s.queueOn q = false) :
    (s.regWrite v 2 h 0x30C w.toNat).queueOn q = true ∧
      (s.regWrite v 2 h 0x30C w.toNat).queue q = { s.queue q with head := 0, tail := 0, stopped := 0 } := by
  have hf := reached_of_whole hwhole (f := ⟨0x30c, 18, 1, .rw, 0x0, .each, .tenant, .free⟩) (by decide)
  have hi : s.regf 2 h 0x300 0 14 (viaSel v) < 16384 := Nat.mod_lt _ (by decide)
  subst hq
  rw [queueOn_eq hi] at hoff ⊢
  refine ⟨?_, ?_⟩
  · rw [enable_regWrite (selected_queue s v h) hf w.isLt (by decide) (by decide) rfl rfl rfl, hen]
    rfl
  · obtain ⟨b, hb, hact⟩ := regWrite_hub (w := w) (selected_queue s v h) hf (by decide)
    have haction : b.regAction s v 2 h 0x30C (s.regf 2 h 0x300 0 14 (viaSel v)) w.toNat =
        b.switchQueue (h * 16384 + s.regf 2 h 0x300 0 14 (viaSel v)) true := by
      simp [State.regAction, bit, hen, hoff]
    rw [queue_congr (hact.same .queues rfl), haction, State.switchQueue]
    simp [queue_congr (hb.same .queues rfl)]

theorem queueDisable_write (hwhole : s.Whole v 2 h 0x30C) {q : Nat}
    (hq : q = h * 16384 + s.regf 2 h 0x300 0 14 (viaSel v)) (hdis : w.toNat.testBit 18 = false) (hon : s.queueOn q = true)
    (hrun : (s.queue q).running.isSome = true) :
    (s.regWrite v 2 h 0x30C w.toNat).queueOn q = false ∧
      ∀ f ∈ ((s.regWrite v 2 h 0x30C w.toNat).queue q).fetched, f.fate.isSome = true := by
  have hf := reached_of_whole hwhole (f := ⟨0x30c, 18, 1, .rw, 0x0, .each, .tenant, .free⟩) (by decide)
  have hi : s.regf 2 h 0x300 0 14 (viaSel v) < 16384 := Nat.mod_lt _ (by decide)
  subst hq
  rw [queueOn_eq hi] at hon ⊢
  refine ⟨?_, ?_⟩
  · rw [enable_regWrite (selected_queue s v h) hf w.isLt (by decide) (by decide) rfl rfl rfl, hdis]
    rfl
  · obtain ⟨b, hb, hact⟩ := regWrite_hub (w := w) (selected_queue s v h) hf (by decide)
    have haction : b.regAction s v 2 h 0x30C (s.regf 2 h 0x300 0 14 (viaSel v)) w.toNat =
        b.switchQueue (h * 16384 + s.regf 2 h 0x300 0 14 (viaSel v)) false := by
      simp [State.regAction, bit, hdis, hon]
    have hbq := queue_congr (hb.same .queues rfl) (h * 16384 + s.regf 2 h 0x300 0 14 (viaSel v))
    rw [queue_congr (hact.same .queues rfl), haction, State.switchQueue]
    simp only [Bool.false_eq_true, if_false]
    rw [State.settle_of_running (by rw [State.queue_setQueue, hbq]; exact hrun), State.queue_setQueue]
    intro f hfm
    obtain ⟨e, -, rfl⟩ := List.mem_map.1 hfm
    rfl

theorem ringEnable_write (hwhole : s.Whole v 2 h 0x320) {r : Nat}
    (hr : r = h * 1024 + s.regf 2 h 0x314 0 10 (viaSel v)) (hen : w.toNat.testBit 15 = true) (hoff : s.ringOn r = false) :
    (s.regWrite v 2 h 0x320 w.toNat).ringOn r = true ∧ (s.regWrite v 2 h 0x320 w.toNat).ring r = Ring.reset := by
  have hf := reached_of_whole hwhole (f := ⟨0x320, 15, 1, .rw, 0x0, .each, .tenant, .free⟩) (by decide)
  have hi : s.regf 2 h 0x314 0 10 (viaSel v) < 1024 := Nat.mod_lt _ (by decide)
  subst hr
  rw [ringOn_eq hi] at hoff ⊢
  refine ⟨?_, ?_⟩
  · rw [enable_regWrite (selected_ring s v h) hf w.isLt (by decide) (by decide) rfl rfl rfl, hen]
    rfl
  · obtain ⟨b, -, hact⟩ := regWrite_hub (w := w) (selected_ring s v h) hf (by decide)
    have haction : b.regAction s v 2 h 0x320 (s.regf 2 h 0x314 0 10 (viaSel v)) w.toNat =
        b.setRing (h * 1024 + s.regf 2 h 0x314 0 10 (viaSel v)) Ring.reset := by
      simp [State.regAction, bit, hen, hoff]
    rw [ring_congr (hact.same .rings rfl), haction, State.ring_setRing]

theorem portEnable_write (hwhole : s.Whole v 2 h 0x204) (hh : h < 4) {n : Nat}
    (hn : portOf h (s.regf 2 h 0x200 0 2 (viaSel v)) = some n) (hen : w.toNat.testBit 0 = true) (hoff : s.portEn n = false)
    (hst : (s.port n).st = 0) (hsig : (s.port n).signal = true) :
    (s.regWrite v 2 h 0x204 w.toNat).portEn n = true ∧ ((s.regWrite v 2 h 0x204 w.toNat).port n).st = 1 := by
  have hf := reached_of_whole hwhole (f := ⟨0x204, 0, 1, .rw, 0x1, .each, .tenant, .free⟩) (by decide)
  rw [portEn_eq hh hn] at hoff ⊢
  refine ⟨?_, ?_⟩
  · rw [enable_regWrite (selected_port hn) hf w.isLt (by decide) (by decide) rfl rfl rfl, hen]
    rfl
  · obtain ⟨b, hb, hact⟩ := regWrite_hub (w := w) (selected_port hn) hf (by decide)
    have haction : b.regAction s v 2 h 0x204 (s.regf 2 h 0x200 0 2 (viaSel v)) w.toNat = b.switchPort n true := by
      simp [State.regAction, bit, hen, hoff, hn]
    have hport (a c : State) (e : c.ports = a.ports) : c.port n = a.port n := by simp only [State.port, e]
    rw [hport _ _ (hact.same .ports rfl), haction, State.switchPort, hport _ _ (hb.same .ports rfl)]
    simp [hst, hsig]

theorem meetsHeld_eventQ (hoff : s.regf 2 h 0x330 15 1 = 0) : s.meetsHeld v 2 h 0x330 0 = false := by
  have hunit : ∀ f ∈ regAt 2 0x330, f.acc = .rwh → f.unit = .eventQ := by decide
  have hany : (s.reached v 2 h 0x330).any (s.heldNow 2 h 0) = false := by
    refine List.any_eq_false.2 fun f hf => ?_
    unfold State.heldNow
    by_cases hacc : f.acc = .rwh
    · have hidle : s.unitActive 2 h 0 .eventQ = false := by simp [State.unitActive, eqCfg, hoff]
      simp [hunit f (List.mem_filter.1 hf).1 hacc, hidle]
    · simp [hacc]
  simp [State.meetsHeld, hany]

theorem eventQueueEnable_write (hwhole : s.Whole v 2 h 0x330) {p : Nat} (hown : s.owner h = some p)
    (hen : w.toNat.testBit 15 = true) (hoff : s.regf 2 h 0x330 15 1 = 0) :
    (s.regWrite v 2 h 0x330 w.toNat).regf 2 h 0x330 15 1 = 1 ∧ ((s.regWrite v 2 h 0x330 w.toNat).part p).eq =
      { (s.part p).eq with head := 0, tail := 0, tag := true, stopped := false } := by
  have hf := reached_of_whole hwhole (f := ⟨0x330, 15, 1, .rw, 0x0, .low, .tenant, .free⟩) (by decide)
  refine ⟨?_, ?_⟩
  · rw [enable_regWrite (i := 0) rfl hf w.isLt (by decide) (by decide) rfl rfl rfl, hen]
    rfl
  · have hne : (s.reached v 2 h 0x330).isEmpty = false := by
      rw [List.isEmpty_eq_false_iff]
      exact List.ne_nil_of_mem hf
    have hwrite := regWrite_stages (i := 0) rfl hne w.isLt
    rw [meetsHeld_eventQ hoff, if_neg Bool.false_ne_true] at hwrite
    have hb := beforeAction_evolves s v 2 h 0x330 0 w.toNat
    generalize s.beforeAction v 2 h 0x330 0 w.toNat = b at *
    have hparts : b.parts = s.parts := hb.same .parts rfl
    have howner : b.ownerD h = p := by rw [State.ownerD, State.owner, hparts, ← State.owner, hown, Option.getD_some]
    have haction : b.regAction s v 2 (regHome 2 h 0x330) 0x330 0 w.toNat = b.modPart p fun x =>
        { x with eq := { x.eq with head := 0, tail := 0, tag := true, stopped := false } } := by
      simp [State.regAction, bit, hen, hoff, regHome, howner]
    rw [hwrite, haction, State.modPart, State.part_setPart, part_congr hparts]

/-- A write of WM_CTRL does what it asks of the waymark as it was. -/
theorem wmControl_write (hwhole : s.Whole v 2 0 0x384) : ∃ b : State, s.regWrite v 2 0 0x384 w.toNat = b.wmControl w.toNat ∧
    Evolves 77311361024 s b ∧ (∀ lo n, b.wmCfg lo n = s.wmCfg lo n) ∧ b.wmSteps = s.wmSteps := by
  have hf := reached_of_whole hwhole (f := ⟨0x384, 0, 1, .wo, 0x0, .hd0, .hidden, .free⟩) (by decide)
  have hwrite := regWrite_action (i := 0) rfl w.isLt (by decide) (by decide) hf
  have haction (b : State) : b.regAction s v 2 (regHome 2 0 0x384) 0x384 0 w.toNat = b.wmControl w.toNat := by
    simp [State.regAction]
  have hreg (off i : Nat) (hoff : off < 0x100000) (hne : off ≠ 0x384) :
      (s.beforeAction v 2 0 0x384 0 w.toNat).reg 2 0 off i = s.reg 2 0 off i := by
    refine reg_beforeAction_other ?_
    rw [show regHome 2 0 0x384 = 0 from rfl]
    unfold regKey
    omega
  have hcfg (lo n : Nat) : (s.beforeAction v 2 0 0x384 0 w.toNat).wmCfg lo n = s.wmCfg lo n := by
    rw [State.wmCfg, State.wmCfg, State.regf, State.regf, hreg _ _ (by decide) (by decide)]
  have hentry (c e lo n : Nat) : (s.beforeAction v 2 0 0x384 0 w.toNat).wmEntry c e lo n = s.wmEntry c e lo n := by
    rw [State.wmEntry, State.wmEntry, State.regf, State.regf, hreg _ _ (by decide) (by decide)]
  refine ⟨_, hwrite.trans (haction _), beforeAction_evolves .., hcfg, ?_⟩
  have hlen (c : Nat) : (s.beforeAction v 2 0 0x384 0 w.toNat).wmLength c = s.wmLength c := by
    simp only [State.wmLength, hentry]
  have hlens : (s.beforeAction v 2 0 0x384 0 w.toNat).wmLength = s.wmLength := funext hlen
  simp only [State.wmSteps, State.wmEnabled, hcfg, hlens]

end

/-- Settles O47: each register through what its action does. -/
theorem controlWritesAct : Obligations.ControlWritesAct := by
  unfold Obligations.ControlWritesAct
  intro s v d h w hv hopen hd hh
  dsimp only
  have hexec {kind : DieKind} {n off : Nat} (hn : n < dieCount kind) :
      writeVia v kind n off w s = .next (s.regWrite v (kindCode kind) n off w.toNat) := writeVia_run hv hopen hn
  refine ⟨fun hex hmark => ⟨fun hwhole hb hdue hst => ?_, fun hwhole => ⟨fun hb0 hb1 hst hpr => ?_, fun hb0 hb1 hst => ?_,
    fun hb0 hb1 hst => ?_⟩⟩, fun hwhole => ⟨fun hb hoff => ?_, fun hb hon hrun => ?_⟩, fun hwhole hb hoff => ?_,
    fun p hwhole hb hown hoff => ?_, fun n hwhole hn hb hoff hst hsig => ?_,
    fun hwhole => ⟨fun hb0 hb1 hb2 hin hen hsrc hidle hsteps => ?_, fun hb1 hb2 => ?_, fun hb2 hb1 hb0 => ?_⟩⟩
  · obtain ⟨b, hwrite, htile, hsel⟩ := regWrite_tile (w := w) hwhole (.inl rfl)
    rw [regAction_refresh _ _ _ _ hb, hsel] at hwrite
    refine ⟨_, (hexec (kind := .ad) hd).trans (congrArg _ hwrite), ?_⟩
    exact requestRefresh_due hex (by rw [htile]; exact hmark) (by rw [htile]; exact hdue) (by rw [htile]; exact hst)
  · obtain ⟨b, hwrite, htile, hsel⟩ := regWrite_tile (w := w) hwhole (.inr rfl)
    rw [regAction_fault, hsel, hb0, hb1] at hwrite
    obtain ⟨t, ht, hreq, hsame⟩ := requestProbe_settles (s := b) hex (by rw [htile]; exact hmark) (by rw [htile]; exact hst)
      (by rw [htile]; exact hpr)
    exact ⟨_, (hexec (kind := .ad) hd).trans (congrArg _ hwrite), t, ht, hreq, by rw [hsame, htile]⟩
  · obtain ⟨b, hwrite, htile, hsel⟩ := regWrite_tile (w := w) hwhole (.inr rfl)
    rw [regAction_fault, hsel, hb0, hb1] at hwrite
    obtain ⟨t, ht, hreq, hsame⟩ := requestRetire_working (s := b) hex (by rw [htile]; exact hst)
    exact ⟨_, (hexec (kind := .ad) hd).trans (congrArg _ hwrite), t, ht, hreq, by rw [hsame, htile]⟩
  · obtain ⟨b, hwrite, htile, hsel⟩ := regWrite_tile (w := w) hwhole (.inr rfl)
    rw [regAction_fault, hsel, hb0, hb1] at hwrite
    obtain ⟨t, ht, hreq⟩ := requestRetire_resting (s := b) hex (by rw [htile]; exact hst)
    exact ⟨_, (hexec (kind := .ad) hd).trans (congrArg _ hwrite), t, ht, hreq⟩
  · exact ⟨_, hexec (kind := .hd) hh, queueEnable_write hwhole rfl hb hoff⟩
  · exact ⟨_, hexec (kind := .hd) hh, queueDisable_write hwhole rfl hb hon hrun⟩
  · exact ⟨_, hexec (kind := .hd) hh, ringEnable_write hwhole rfl hb hoff⟩
  · exact ⟨_, hexec (kind := .hd) hh, eventQueueEnable_write hwhole hown hb hoff⟩
  · exact ⟨_, hexec (kind := .hd) hh, portEnable_write hwhole hh hn hb hoff hst hsig⟩
  · obtain ⟨b, hwrite, hev, hcfg, hlen⟩ := wmControl_write (w := w) hwhole
    refine ⟨_, (hexec (kind := .hd) (by decide)).trans (congrArg _ hwrite), ?_⟩
    have hwm : b.wm = s.wm := hev.same .wm rfl
    have htime : b.ltime = s.ltime := hev.same .ltime rfl
    have hbin : b.input = true := (hev.same .input rfl).trans hin
    have hsteps' : (s.wmSteps != 0) = true := by simpa using hsteps
    simp only [State.wmControl, bit, hb0, hb1, hb2, Bool.false_eq_true, if_false, if_true]
    rw [wmTrigger_enabled hbin (by rw [hcfg, hen]) (by rw [hcfg, hsrc]), hwm, hidle, hlen, hsteps', htime]
    exact ⟨rfl, rfl, rfl, rfl⟩
  · obtain ⟨b, hwrite, hev, -, -⟩ := wmControl_write (w := w) hwhole
    refine ⟨_, (hexec (kind := .hd) (by decide)).trans (congrArg _ hwrite), ?_⟩
    have hwm : b.wm = s.wm := hev.same .wm rfl
    simp only [State.wmControl, bit, hb1, hb2, Bool.false_eq_true, if_false, if_true, hwm, true_and]
  · obtain ⟨b, hwrite, hev, -, -⟩ := wmControl_write (w := w) hwhole
    refine ⟨_, (hexec (kind := .hd) (by decide)).trans (congrArg _ hwrite), ?_⟩
    have hwm : b.wm = s.wm := hev.same .wm rfl
    simp only [State.wmControl, bit, hb0, hb1, hb2, Bool.false_eq_true, if_false, if_true, hwm, true_and]

end Sys2Proof.Machine
end

section
/-! ### The host window and configuration requests (R405, R411, R412, R512) -/

namespace Sys2Proof.Machine

open Sys2Proof Sys2Proof.Safety

section
variable {s : State} {fn off a : Nat}

theorem st_of_inService {x : Part} (h : x.inService = true) : x.st = .inService := by simpa [Part.inService] using h

/-- A read of the window in service is a read of its line. -/
theorem exec_hostWindowRead (hfn : fn < 4) (hin : (s.part fn).inService = true) (hline : s.windowLine fn off = some a) :
    exec (.hostWindowRead fn off) s = .next (
      if s.offline a 64 then s.poisonLine
      else if s.poisoned a 64 then (s.countUncorr a).poisonLine
      else (s.countReads [(false, .dev a, 64)]).emit (.windowData false (memRead s.mem a 64))) := by
  change execHostWindowRead fn off s = _
  simp only [execHostWindowRead, onFunction, hfn, if_true, st_of_inService hin, hline]
  cases s.offline a 64 <;> cases s.poisoned a 64 <;> rfl

theorem exec_hostWindowWrite (hfn : fn < 4) (hin : (s.part fn).inService = true) (hline : s.windowLine fn off = some a)
    (line : List Byte) : exec (.hostWindowWrite fn off line) s = .next (s.writeMem a (slice line 0 64)) := by
  change execHostWindowWrite fn off line s = _
  simp only [execHostWindowWrite, onFunction, hfn, if_true, hin, hline, Bool.not_true, Bool.false_eq_true, if_false]

theorem slice_all {line : List Byte} {n : Nat} (h : line.length = n) : slice line 0 n = line := by
  simp [slice, ← h]

theorem length_slice (line : List Byte) (o n : Nat) : (slice line o n).length = n := by
  simp only [slice, List.length_append, List.length_replicate, List.length_take, List.length_drop]
  omega

/-- An offline stack reads poison. -/
theorem poisonLine_spec (s : State) : Only [.out, .free] s s.poisonLine ∧ ∃ bs, s.poisonLine.out = s.out ++ [.windowData true bs] :=
  ⟨only_of_evolves (m := 6) (State.poisonLine_evolves s) (by decide), _, rfl⟩

end

/-- Settles O49: one equation for each of the host's accesses. -/
theorem hostReachesWindowAndConfiguration : Obligations.HostReachesWindowAndConfiguration := by
  unfold Obligations.HostReachesWindowAndConfiguration
  intro s fn off a addr line c hfn hmem
  refine ⟨fun hin hline hoff hpois => ?_, fun hin hline hoff hlen => ?_, fun hin hline hoff => ⟨?_, ?_⟩, fun hin hwin => ?_,
    fun hpow hx => ?_, fun hpow => ?_⟩
  · rw [exec_hostWindowRead hfn hin hline, hoff, hpois]
    rfl
  · refine ⟨_, exec_hostWindowWrite hfn hin hline line, ?_⟩
    rw [slice_all hlen]
    refine State.wrote_writeAt hmem fn (pl := .dev a) ?_
    rintro b ⟨⟩
    rw [hlen]
    exact hoff
  · rw [exec_hostWindowWrite hfn hin hline]
    refine congrArg _ (if_pos ?_)
    rw [length_slice]
    exact hoff
  · refine ⟨s.poisonLine, ?_, poisonLine_spec s⟩
    rw [exec_hostWindowRead hfn hin hline, hoff]
    rfl
  · refine ⟨_, ?_, State.part_setPart .., only_of_evolves (m := 512) (State.setPart_evolves ..) (by decide)⟩
    change execHdmDecoderCommit fn c s = _
    have hok : (!(s.part fn).inService || (c && decide ((s.hostWindow fn).2 = 0))) = false := by
      cases c
      · simp [hin]
      · simp [hin, hwin rfl]
    simp only [execHdmDecoderCommit, onFunction, hfn, if_true, hok, Bool.false_eq_true, if_false]
    rfl
  · change onFunction fn _ = _
    have hans : s.configAnswer fn =
        if (s.part fn).st = .inService then 0 else if (s.part fn).st = .vacant then 3 else 1 := by
      rw [State.configAnswer, hpow, hx]
      cases hst : (s.part fn).st <;> simp [hst]
    rw [onFunction, if_pos hfn, hans]
  · change Host.Outcome.next (if s.powered then s.emit .snoopMiss else s) = _
    rw [if_pos hpow]

end Sys2Proof.Machine
end

section
/-! ### A function level reset of a partition that names a quadrant beyond the module's (R426) -/

namespace Sys2Proof.Machine

open Sys2Proof Sys2Proof.Safety

/-- A partition in service whose list of quadrants names quadrant 48, with the enable bit of that quadrant's first queue set. -/
def wideQuadrant : State :=
  { State.reset with
    parts := [(0, { Part.absent with st := .inService, quads := [48] })]
    regs := [(regKey 2 48 0x30C 0, 2 ^ 18)] }

/-- The key of that queue's register lies in the block of key 0, so the reset of the quadrant's blocks does not reach it. -/
theorem wideQuadrant_stays_enabled : (match exec (.functionLevelReset 0) wideQuadrant with
    | .next t => t.queueOn (48 * 16384)
    | _ => false) = true := by decide +kernel

/-- Refutes O50: nothing bounds the quadrants of a partition, and the queues of quadrant 48 stay enabled through a function level
reset, since their register keys wrap into another block. -/
theorem not_partitionsLeaveAndEnterService : ¬ Obligations.PartitionsLeaveAndEnterService := by
  unfold Obligations.PartitionsLeaveAndEnterService
  intro h
  obtain ⟨hreset, -⟩ := h wideQuadrant 0 0 0 0
  obtain ⟨t, ht, hqueues, -⟩ := hreset (by decide) (by decide)
  have hstays := wideQuadrant_stays_enabled
  rw [ht] at hstays
  change t.queueOn (48 * 16384) = true at hstays
  have hoff := (hqueues (48 * 16384) (by decide)).2
  rw [hoff] at hstays
  cases hstays

end Sys2Proof.Machine
end

section
/-! ### The SPDM exchange (R524) -/

namespace Sys2Proof.Machine

open Sys2Proof Sys2Proof.Safety

section
variable {s : State} {fn code : Nat} {ok : Part → Bool} {body : List Byte} {f : Part → Part}

/-- A request in its place of the exchange: its response, and what it makes of the exchange. -/
theorem spdm_accepted {c : Instr} (hc : exec c s = spdm fn s ok code body f) (hfn : fn < 4) (hopen : s.spdmOpen fn = true)
    (hok : ok (s.part fn) = true) : Answers c s fun t =>
      (t.out = s.out ++ [.spdm fn code body] ∧ Only [.out, .parts] s t) ∧ t.part fn = f (s.part fn) := by
  refine ⟨(s.modPart fn f).emit (.spdm fn code body), ?_, ⟨rfl, ?_⟩, ?_⟩
  · simp only [hc, spdm, onFunction, hfn, hopen, hok, if_true, Bool.not_true, Bool.false_eq_true, if_false]
  · exact only_of_evolves (m := 514) ((State.emit_evolves ..).app ((State.modPart_evolves ..).mono rfl) rfl) (by decide)
  · exact State.part_setPart ..

/-- The same where the statement leaves the body open. -/
theorem spdm_accepted_some {c : Instr} (hc : exec c s = spdm fn s ok code body f) (hfn : fn < 4) (hopen : s.spdmOpen fn = true)
    (hok : ok (s.part fn) = true) : Answers c s fun t =>
      (∃ y, t.out = s.out ++ [.spdm fn code y] ∧ Only [.out, .parts] s t) ∧ t.part fn = f (s.part fn) := by
  obtain ⟨t, ht, hrep, hpart⟩ := spdm_accepted hc hfn hopen hok
  exact ⟨t, ht, ⟨_, hrep⟩, hpart⟩

/-- A request out of its place is answered with ERROR. -/
theorem spdm_refused {c : Instr} (hc : exec c s = spdm fn s ok code body f) (hfn : fn < 4) (hopen : s.spdmOpen fn = true)
    (hok : ok (s.part fn) = false) : exec c s = .next (s.emit (.spdm fn spdmError [])) := by
  simp only [hc, spdm, onFunction, hfn, hopen, hok, if_true, Bool.not_true, Bool.false_eq_true, if_false]

end

/-- A key set that is programmed stands among the keys. -/
theorem mem_ideKey (x : Part) (stream keySet : Nat) (key : List Byte) :
    (stream, keySet, false, key) ∈ (x.ideKey stream keySet false key).ideKeys := by simp [Part.ideKey]

/-- Activating a key set makes it the one active set of its stream. -/
theorem active_ideKey (x : Part) (stream keySet : Nat) (key : List Byte) :
    ∀ e ∈ (x.ideKey stream keySet true key).ideKeys, e.1 = stream → e.2.2.1 = (e.2.1 == keySet) := by
  simp only [Part.ideKey, if_true, List.mem_map]
  rintro e ⟨e', -, rfl⟩ hs
  split at hs
  · next h => rw [if_pos h]
  · next h => exact absurd hs h

/-- Settles O54: every request is in its place or out of it. -/
theorem spdmExchangeOpensSessions : Obligations.SpdmExchangeOpensSessions := by
  unfold Obligations.SpdmExchangeOpensSessions
  intro s fn a b n bs v hfn hopen
  have hcaps (h : (s.part fn).spdmState = 1) :=
    spdm_accepted_some (c := .getCapabilities fn) (ok := fun x => x.spdmState == 1) rfl hfn hopen (beq_iff_eq.2 h)
  have halgs (h : (s.part fn).spdmState = 2) :=
    spdm_accepted_some (c := .negotiateAlgorithms fn) (ok := fun x => x.spdmState == 2) rfl hfn hopen (beq_iff_eq.2 h)
  have hfinish (h : (s.part fn).spdmState = 4) :=
    spdm_accepted_some (c := .finish fn v) (ok := fun x => x.spdmState == 4) rfl hfn hopen (beq_iff_eq.2 h)
  have hend (h : (s.part fn).session = true) := spdm_accepted_some (c := .endSession fn) rfl hfn hopen h
  have hversion := spdm_accepted_some (c := .getVersion fn) (ok := fun _ => true) rfl hfn hopen rfl
  refine ⟨hversion, hcaps,
    fun h => spdm_refused (c := .getCapabilities fn) (ok := fun x => x.spdmState == 1) rfl hfn hopen (beq_eq_false_iff_ne.2 h), halgs,
    fun h => spdm_refused (c := .negotiateAlgorithms fn) (ok := fun x => x.spdmState == 2) rfl hfn hopen (beq_eq_false_iff_ne.2 h),
    fun h => ?_, fun h => ?_, hfinish,
    fun h => spdm_refused (c := .finish fn v) (ok := fun x => x.spdmState == 4) rfl hfn hopen (beq_eq_false_iff_ne.2 h),
    fun h => ⟨hend h, ?_, ?_⟩, fun h => ⟨spdm_refused rfl hfn hopen h, spdm_refused rfl hfn hopen h⟩⟩
  · have hneg : (s.part fn).negotiated = true := decide_eq_true h
    have hdigests := spdm_accepted (c := .getDigests fn) rfl hfn hopen hneg
    have hcert (ha : a < 2) := spdm_accepted (c := .getCertificate fn a b n) (ok := fun x => x.negotiated && a < 2) rfl hfn hopen
      (by simp [hneg, ha])
    have hchallenge := spdm_accepted_some (c := .challenge fn bs) rfl hfn hopen hneg
    have hreport := spdm_accepted (c := .getMeasurements fn 0xF0 bs) rfl hfn hopen hneg
    have hblocks := spdm_accepted_some (c := .getMeasurements fn a bs) rfl hfn hopen hneg
    have hexchange := spdm_accepted_some (c := .keyExchange fn bs) rfl hfn hopen hneg
    exact ⟨hdigests, hcert, hchallenge, hreport, hblocks, hexchange⟩
  · have hneg : (s.part fn).negotiated = false := decide_eq_false (by omega)
    have hcert := spdm_refused (c := .getCertificate fn a b n) (ok := fun x => x.negotiated && a < 2) rfl hfn hopen (by simp [hneg])
    exact ⟨spdm_refused rfl hfn hopen hneg, hcert, spdm_refused rfl hfn hopen hneg,
      spdm_refused rfl hfn hopen hneg, spdm_refused rfl hfn hopen hneg⟩
  · obtain ⟨t, ht, hrep, hpart⟩ := spdm_accepted_some (c := .ideKeyManagement fn a b false bs) rfl hfn hopen h
    exact ⟨t, ht, hrep, hpart ▸ mem_ideKey ..⟩
  · obtain ⟨t, ht, hrep, hpart⟩ := spdm_accepted_some (c := .ideKeyManagement fn a b true bs) rfl hfn hopen h
    exact ⟨t, ht, hrep, hpart ▸ active_ideKey _ a b bs⟩

end Sys2Proof.Machine
end

section
/-! ### The mailbox (R525, R526, R570, R571) -/

namespace Sys2Proof.Machine

open Sys2Proof Sys2Proof.Safety

/-! #### Answering -/

/-- A response leaves through the mailbox and is kept among the last 16. -/
def State.answered (t : State) (cmd seq : Nat) (r : Reply) : State :=
  ({ t with mgmt := { t.mgmt with resp :=
    (t.mgmt.resp ++ [(cmd, seq, r.1, r.2)]).drop ((t.mgmt.resp ++ [(cmd, seq, r.1, r.2)]).length - 16) } }).emit
      (.mailbox cmd seq r.1 r.2)

section
variable {s t : State} {c : Instr} {ctrl cmd seq : Nat} {early : Bool} {f : State → State × Reply} {r : Reply}

theorem replied_answered (t : State) (cmd seq : Nat) (r : Reply) : Replied (t.answered cmd seq r) cmd seq r.1 r.2 :=
  List.getLast?_concat

theorem answered_evolves (t : State) (cmd seq : Nat) (r : Reply) : Evolves 549755813890 t (t.answered cmd seq r) :=
  (State.emit_evolves ..).app (.mgmt .refl rfl) rfl

/-- A command that is accepted is carried out and answered. -/
theorem mailbox_accepted (hc : exec c s = mailbox ctrl cmd seq early s f) (h : Accepts s ctrl seq) (hf : f s = (t, r)) :
    exec c s = .next (t.answered cmd seq r) := by
  obtain ⟨hctrl, hact, hin, hboot, hseq⟩ := h
  have hfresh : (s.mgmt.resp.find? fun r => r.2.1 == seq) = none := by simpa using hseq
  have hact' : (ctrl != s.activeCtrl) = false := by simpa using hact
  simp only [hc, mailbox, onController, hctrl, if_true, hin, Bool.not_true, hact', hfresh, hboot, Bool.false_and, Bool.false_eq_true,
    if_false, hf]
  rfl

/-- A command that changes nothing but its response. -/
theorem mailbox_only (hc : exec c s = mailbox ctrl cmd seq early s f) (h : Accepts s ctrl seq) (hf : f s = (s, r)) :
    Answers c s fun t => Replied t cmd seq r.1 r.2 ∧ Only [.out, .mgmt] s t :=
  ⟨_, mailbox_accepted hc h hf, replied_answered .., only_of_evolves (answered_evolves ..) (by decide)⟩

/-- A number among the last 16 gets its response again. -/
theorem mailbox_repeated (hc : exec c s = mailbox ctrl cmd seq early s f) (hctrl : ctrl < 2) (hin : s.input = true)
    (hact : ctrl = s.activeCtrl) {e : Nat × Nat × Nat × List Byte} (he : s.mgmt.resp.find? (fun r => r.2.1 == seq) = some e) :
    exec c s = .next (s.emit (.mailbox e.1 seq e.2.2.1 e.2.2.2)) := by
  have hact' : (ctrl != s.activeCtrl) = false := by simpa using hact
  have hseq : e.2.1 = seq := by simpa using List.find?_some he
  simp only [hc, mailbox, onController, hctrl, if_true, hin, Bool.not_true, hact', he, Bool.false_eq_true, if_false, hseq]

theorem mailbox_inactive (hc : exec c s = mailbox ctrl cmd seq early s f) (hctrl : ctrl < 2) (hin : s.input = true)
    (hact : ctrl ≠ s.activeCtrl) : exec c s = .next (s.emit (.mailbox cmd seq stMgmtState [])) := by
  have hact' : (ctrl != s.activeCtrl) = true := by simpa using hact
  simp only [hc, mailbox, onController, hctrl, if_true, hin, Bool.not_true, hact', Bool.false_eq_true, if_false]

end

/-! #### Lengths of what is reported -/

theorem length_patch {bs xs : List Byte} {o : Nat} (h : o + xs.length ≤ bs.length) : (patch bs o xs).length = bs.length := by
  simp only [patch, List.length_append, List.length_take, List.length_drop]
  omega

/-- A block whose fields lie within it has its length. -/
theorem length_block {n : Nat} {fs : List (Nat × Nat × Nat)} (h : ∀ e ∈ fs, e.1 + e.2.1 ≤ n) : (block n fs).length = n := by
  have hfold : ∀ (l : List (Nat × Nat × Nat)) (bs : List Byte), bs.length = n → (∀ e ∈ l, e.1 + e.2.1 ≤ n) →
      (l.foldl (fun bs (e : Nat × Nat × Nat) => patch bs e.1 (natLe e.2.1 e.2.2)) bs).length = n := by
    intro l
    induction l with
    | nil => exact fun _ hb _ => hb
    | cons e l ih =>
      intro bs hb hl
      refine ih _ ?_ fun e' he' => hl e' (List.mem_cons_of_mem _ he')
      rw [length_patch, hb]
      rw [length_natLe, hb]
      exact hl e (List.mem_cons_self ..)
  exact hfold fs _ List.length_replicate h

theorem length_attest (s : State) (p : Nat) (owner : Bool) (nonce : List Byte) (h : s.sec.meas.length = 3) :
    (s.attest p owner nonce).length = 3733 := by
  have hmeas : (s.sec.meas.flatMap fun m => slice m 0 64).length = 192 := by
    rw [length_flatMap_of_length fun m => length_slice m 0 64, h]
  have hbody : (s.reportBody p owner nonce).length = 360 := by
    simp only [State.reportBody, List.length_append, length_slice, hmeas]
    rw [length_block (by simp), length_block (by simp)]
  simp only [State.attest, List.length_append, length_slice, hbody]

/-! #### What the commands find and make -/

theorem slice_append_left {a b : List Byte} {n : Nat} (h : a.length = n) : slice (a ++ b) 0 n = a := by
  subst h
  simp [slice]

theorem slice_bankPatch (old : List Byte) (off : Nat) (bs : List Byte) :
    slice (bankPatch old off bs) off bs.length = bs ∧ slice (bankPatch old off bs) 0 off = slice old 0 off := by
  have hlen := length_slice old 0 off
  refine ⟨?_, ?_⟩
  · have hdrop : (bankPatch old off bs).drop off = bs ++ old.drop (off + bs.length) := by
      rw [bankPatch, List.append_assoc, List.drop_left' hlen]
    simp [slice, hdrop]
  · rw [bankPatch, List.append_assoc]
    exact slice_append_left hlen

theorem bank_setBank (x : Security) (n : Nat) (v : List Byte) : (x.setBank n v).bank n = some v := by
  unfold Security.setBank Security.bank
  split <;> rfl

/-- As many records as fit, up to the number asked for. -/
theorem recordFit_spec : ∀ (n room : Nat) (l : List (List Byte)), recordFit n room l ≤ n ∧
    (l.take (recordFit n room l)).flatten.length ≤ room ∧
      (recordFit n room l = n ∨ l.length ≤ recordFit n room l ∨ room < (l.take (recordFit n room l + 1)).flatten.length)
  | 0, room, l => by simp [recordFit]
  | n + 1, room, [] => by simp [recordFit]
  | n + 1, room, r :: t => by
    unfold recordFit
    split
    · next hr =>
      obtain ⟨h1, h2, h3⟩ := recordFit_spec n (room - r.length) t
      refine ⟨by omega, ?_, ?_⟩
      · simp only [List.take_succ_cons, List.flatten_cons, List.length_append]
        omega
      · simp only [List.take_succ_cons, List.flatten_cons, List.length_append, List.length_cons]
        omega
    · next hr =>
      simp only [Nat.zero_le, List.take_zero, List.flatten_nil, List.length_nil, true_and, Nat.zero_add, List.take_succ_cons,
        List.flatten_cons, List.length_append]
      omega

/-- A change of every tile of a die. -/
theorem tile_modTiles (s : State) (d k : Nat) (g : Tile → Tile) :
    (s.modTiles d fun _ x => g x).tile k = if tileDie k = d then g (s.tile k) else s.tile k := by
  have hmap := tfind_map (fun i x => if tileDie i = d then g x else x) k s.tiles
  have hsame : (s.tiles.map fun e => if tileDie e.1 = d then (e.1, g e.2) else e) =
      s.tiles.map fun e => (e.1, if tileDie e.1 = d then g e.2 else e.2) := by
    refine List.map_congr_left fun e _ => ?_
    split <;> rfl
  simp only [State.tile, State.modTiles, hsame, hmap]
  cases tfind s.tiles k with
  | some x => simp
  | none =>
    by_cases e : tileDie k = d
    · simp [e]
    · simp [e, tget_tput_other _ _ e]

/-- Clearing the marks die by die. -/
def State.clearMarks (s : State) (ds : List Nat) : State :=
  ds.foldl (fun u d => u.modTiles d fun _ x => { x with mark := 0 }) s

theorem mark_clearMarks {k : Nat} : ∀ (ds : List Nat) (s : State), tileDie k ∈ ds ∨ (s.tile k).mark = 0 →
    ((s.clearMarks ds).tile k).mark = 0
  | [], s, h => h.resolve_left (by simp)
  | d :: ds, s, h => by
    refine mark_clearMarks ds _ ?_
    rw [tile_modTiles]
    split
    · exact .inr rfl
    · next hd => exact h.imp_left fun hk => (List.mem_cons.1 hk).resolve_left hd

/-- What flushing the count of lost records leaves where none was lost. -/
theorem flushLost_none {s : State} (h : s.mgmt.lost = 0) : s.flushLost = s := by simp [State.flushLost, h]

theorem tileDie_lt {k : Nat} (h : tileExists k = true) : tileDie k < 8 := by
  simp only [tileExists, Bool.and_eq_true, decide_eq_true_eq] at h
  unfold tileDie
  omega

/-- The outcomes of a die's array check come first in its report. -/
theorem arrayReport_head (a b c : Nat) (bad : List Nat) :
    (((([a, b, c] ++ bad).flatMap (natLe 4))).take 1024).take 12 = natLe 4 a ++ natLe 4 b ++ natLe 4 c := by
  have hlen : (natLe 4 a ++ natLe 4 b ++ natLe 4 c).length = 12 := by simp [length_natLe]
  have hsplit : ([a, b, c] ++ bad).flatMap (natLe 4) = (natLe 4 a ++ natLe 4 b ++ natLe 4 c) ++ bad.flatMap (natLe 4) := by simp
  rw [List.take_take, hsplit]
  exact List.take_left' hlen

/-! #### Key slots -/

section
variable {x : Security} {n p st : Nat} {bs : List Byte}

theorem slotState_setSlot (hn : n < 2) (hp : p < 4) (hlen : x.slotState.length = 8) :
    (x.setSlot n p st bs).slotState.getD (slotIndex n p) 0 = st := by
  have hlt : slotIndex n p < x.slotState.length := by
    unfold slotIndex
    omega
  simp [Security.setSlot, List.getD_eq_getElem?_getD, List.getElem?_set, hlt]

theorem digest_setSlot (hn : n < 2) (hp : p < 4) (hlen : x.slotDigest.length = 8) (hbs : bs.length = 64) :
    (x.setSlot n p 1 bs).digest n p = bs := by
  have hlt : slotIndex n p < x.slotDigest.length := by
    unfold slotIndex
    omega
  have hget : (x.setSlot n p 1 bs).slotDigest.getD (slotIndex n p) [] = bs := by
    simp [Security.setSlot, List.getD_eq_getElem?_getD, List.getElem?_set, hlt, slice_all hbs]
  rw [Security.digest, hget]
  cases bs with
  | nil => cases hbs
  | cons b bs => rfl

end

/-- What a key record does: its signature first, then the slot's state. -/
theorem keyRecord_run {s : State} {ctrl seq n p : Nat} {activate : Bool} {bs rec : List Byte} (h : Accepts s ctrl seq) (hn : n < 2)
    (hp : p < 4) (hbs : bs.length = 64) {t : State} {r : Reply}
    (hf : (if !s.sec.signed s.sec.booted rec then (s, (stImageRejected, []))
      else if activate then
        (if s.sec.slotState.getD (slotIndex n p) 0 = 0 then ({ s with sec := s.sec.setSlot n p 1 bs }, (stOk, []))
          else (s, (stMgmtState, [])))
      else if s.sec.slotState.getD (slotIndex n p) 0 = 1 && !s.sec.lastActive n p then
        ({ s with sec := s.sec.setSlot n p 2 [] }, (stOk, []))
      else (s, (stMgmtState, []))) = (t, r)) :
    exec (.keyRecord ctrl seq n p activate bs rec) s = .next (t.answered 0x22 seq r) := by
  have hexec : exec (.keyRecord ctrl seq n p activate bs rec) s = execKeyRecord ctrl seq n p activate bs rec s := rfl
  unfold execKeyRecord at hexec
  refine mailbox_accepted hexec h ?_
  have hform : (2 ≤ n || 4 ≤ p || bs.length != 64) = false := by
    simp [hbs]
    omega
  rw [← hf]
  dsimp only
  rw [hform]
  rfl

/-- A key record that is rejected changes nothing. -/
theorem keyRecord_rejected {s : State} {ctrl seq n p : Nat} {activate : Bool} {bs rec : List Byte} (h : Accepts s ctrl seq) (hn : n < 2)
    (hp : p < 4) (hbs : bs.length = 64) (hst : if activate then s.sec.slotState.getD (slotIndex n p) 0 ≠ 0
      else s.sec.slotState.getD (slotIndex n p) 0 ≠ 1 ∨ s.sec.lastActive n p = true) :
    Answers (.keyRecord ctrl seq n p activate bs rec) s fun t =>
      Replied t 0x22 seq (if s.sec.signed s.sec.booted rec then stMgmtState else stImageRejected) [] ∧ Only [.out, .mgmt] s t := by
  refine ⟨_, keyRecord_run (t := s) (r := (if s.sec.signed s.sec.booted rec then stMgmtState else stImageRejected, [])) h hn hp hbs ?_,
    replied_answered .., only_of_evolves (answered_evolves ..) (by decide)⟩
  cases s.sec.signed s.sec.booted rec
  · rfl
  · cases activate
    · have hno : (s.sec.slotState.getD (slotIndex n p) 0 = 1 && !s.sec.lastActive n p) = false := by
        rcases hst with h1 | h1 <;> simp_all
      simp only [Bool.not_true, Bool.false_eq_true, if_false, hno, if_true]
    · have hno : ¬ s.sec.slotState.getD (slotIndex n p) 0 = 0 := hst
      simp only [Bool.not_true, Bool.false_eq_true, if_false, hno, if_true]

/-! #### Each command as a mailbox command -/

section
variable {s : State} {ctrl seq : Nat}

/-- A command that changes the components listed: its response changes output and management besides. -/
theorem only_answered {t : State} {cs : List Comp} (h : Only cs s t) (hout : .out ∈ cs) (hmgmt : .mgmt ∈ cs) (cmd : Nat) (r : Reply) :
    Only cs s (t.answered cmd seq r) := by
  intro c hc
  have hans : Only [.out, .mgmt] t (t.answered cmd seq r) := only_of_evolves (answered_evolves ..) (by decide)
  refine same_trans (h c hc) (hans c fun hmem => hc ?_)
  rcases List.mem_cons.1 hmem with rfl | hmem
  · exact hout
  · exact List.mem_singleton.1 hmem ▸ hmgmt

theorem only_with_sec (s : State) (x : Security) : Only [.out, .mgmt, .sec] s { s with sec := x } := by
  intro c hc
  cases c
  case sec => simp at hc
  all_goals rfl

theorem only_with_mgmt (s : State) (m : Mgmt) : Only [.out, .mgmt] s { s with mgmt := m } := by
  intro c hc
  cases c
  case mgmt => simp at hc
  all_goals rfl

theorem fwWrite_only (h : Accepts s ctrl seq) {n off : Nat} {bs : List Byte} (hn : n < 2) (hrun : n = s.sec.runBank)
    (hlen : bs.length ≤ 1016) : Answers (.fwWrite ctrl seq n off bs) s fun t =>
      Replied t 0x20 seq stMgmtState [] ∧ Only [.out, .mgmt] s t := by
  have hexec : exec (.fwWrite ctrl seq n off bs) s = execFwWrite ctrl seq n off bs s := rfl
  unfold execFwWrite at hexec
  refine mailbox_only (r := (stMgmtState, [])) hexec h ?_
  have hform : (2 ≤ n || 1016 < bs.length) = false := by simp; omega
  simp only [hform, Bool.false_eq_true, if_false, if_pos hrun]

theorem fwWrite_writes (h : Accepts s ctrl seq) {n : Nat} (off : Nat) {bs : List Byte} (hn : n < 2) (hrun : n ≠ s.sec.runBank)
    (hlen : bs.length ≤ 1016) : Answers (.fwWrite ctrl seq n off bs) s fun t =>
      Replied t 0x20 seq stOk [] ∧ Only [.out, .mgmt, .sec] s t ∧ ∃ v, t.sec.bank n = some v ∧ slice v off bs.length = bs ∧
        slice v 0 off = slice ((s.sec.bank n).getD (Config.factoryFlash n)) 0 off := by
  have hexec : exec (.fwWrite ctrl seq n off bs) s = execFwWrite ctrl seq n off bs s := rfl
  unfold execFwWrite at hexec
  have hform : (2 ≤ n || 1016 < bs.length) = false := by simp; omega
  refine ⟨_, mailbox_accepted (r := (stOk, []))
    (t := { s with sec := s.sec.setBank n (bankPatch ((s.sec.bank n).getD (Config.factoryFlash n)) off bs) }) hexec h ?_,
    replied_answered .., only_answered (only_with_sec _ _) (by simp) (by simp) _ _, _, bank_setBank .., slice_bankPatch ..⟩
  simp only [hform, Bool.false_eq_true, if_false, if_neg hrun]

theorem fwCommit_answers (h : Accepts s ctrl seq) {n : Nat} (hn : n < 2) : Answers (.fwCommit ctrl seq n) s fun t =>
    if s.sec.setOk s.sec.booted n && s.sec.svnsAgree n then Replied t 0x21 seq stOk [] ∧ t.sec = { s.sec with bootBank := n }
    else Replied t 0x21 seq stImageRejected [] ∧ Only [.out, .mgmt] s t := by
  have hexec : exec (.fwCommit ctrl seq n) s = execFwCommit ctrl seq n s := rfl
  unfold execFwCommit at hexec
  have hform : ¬ 2 ≤ n := by omega
  simp only [hform, if_false] at hexec
  cases hok : s.sec.setOk s.sec.booted n && s.sec.svnsAgree n with
  | true =>
    exact ⟨_, mailbox_accepted (r := (stOk, [])) (t := { s with sec := { s.sec with bootBank := n } }) hexec h
      (by simp only [hok, if_true]), replied_answered .., rfl⟩
  | false => exact mailbox_only (r := (stImageRejected, [])) hexec h (by simp only [hok, Bool.false_eq_true, if_false])

theorem arbRaise_answers (h : Accepts s ctrl seq) (n : Nat) : Answers (.arbRaise ctrl seq n) s fun t =>
    if n ≤ s.sec.svn ∧ n ≤ 63 ∧ s.sec.arb ≤ n then Replied t 0x23 seq stOk [] ∧ t.sec = { s.sec with arb := n }
    else Replied t 0x23 seq stImageRejected [] ∧ Only [.out, .mgmt] s t := by
  have hexec : exec (.arbRaise ctrl seq n) s = execArbRaise ctrl seq n s := rfl
  unfold execArbRaise at hexec
  by_cases hok : n ≤ s.sec.svn ∧ n ≤ 63 ∧ s.sec.arb ≤ n
  · have hall : (n ≤ s.sec.svn && n ≤ 63 && s.sec.arb ≤ n) = true := by simpa [and_assoc] using hok
    simp only [if_pos hok]
    exact ⟨_, mailbox_accepted (r := (stOk, [])) (t := { s with sec := { s.sec with arb := n } }) hexec h
      (by simp only [hall, if_true]), replied_answered .., rfl⟩
  · have hall : (n ≤ s.sec.svn && n ≤ 63 && s.sec.arb ≤ n) = false := by
      simpa [and_assoc] using hok
    simp only [if_neg hok]
    exact mailbox_only (r := (stImageRejected, [])) hexec h (by simp only [hall, Bool.false_eq_true, if_false])

theorem report_answers (h : Accepts s ctrl seq) {n p : Nat} (bs : List Byte) (hpow : s.powered = true) (hp : s.anyPart n = some p) :
    Answers (.report ctrl seq n bs) s fun t => Replied t 0x30 seq stOk (s.attest p true bs) ∧ Only [.out, .mgmt] s t := by
  have hexec : exec (.report ctrl seq n bs) s = execReport ctrl seq n bs s := rfl
  unfold execReport at hexec
  exact mailbox_only (r := (stOk, s.attest p true bs)) hexec h (by simp only [hpow, hp, Bool.not_true, Bool.false_eq_true, if_false])

theorem telemetry_answers (h : Accepts s ctrl seq) {n : Nat} (hn : n ≤ 65535) : Answers (.telemetry ctrl seq n) s fun t =>
    Replied t 0x31 seq stOk [] ∧ t.mgmt.telePeriod = n ∧ Only [.out, .mgmt] s t := by
  have hexec : exec (.telemetry ctrl seq n) s = execTelemetry ctrl seq n s := rfl
  unfold execTelemetry at hexec
  exact ⟨_, mailbox_accepted (r := (stOk, [])) (t := { s with mgmt := { s.mgmt with telePeriod := n } }) hexec h
    (if_neg (by omega)), replied_answered .., rfl, only_answered (only_with_mgmt _ _) (by simp) (by simp) _ _⟩

theorem bootCfg_answers (h : Accepts s ctrl seq) (b : Bool) : Answers (.bootCfg ctrl seq b) s fun t =>
    Replied t 0x40 seq stOk [] ∧ t.mgmt.arrayKeep = b ∧ Only [.out, .mgmt] s t := by
  have hexec : exec (.bootCfg ctrl seq b) s = execBootCfg ctrl seq b s := rfl
  unfold execBootCfg at hexec
  exact ⟨_, mailbox_accepted (r := (stOk, [])) (t := { s with mgmt := { s.mgmt with arrayKeep := b } }) hexec h rfl,
    replied_answered .., rfl, only_answered (only_with_mgmt _ _) (by simp) (by simp) _ _⟩

theorem recordRead_answers (h : Accepts s ctrl seq) (n : Nat) : Answers (.recordRead ctrl seq n) s fun t => ∃ k, k ≤ n ∧
    Replied t 0x32 seq stOk (s.mgmt.records.take k).flatten ∧ (s.mgmt.records.take k).flatten.length ≤ 1024 ∧
    (k = n ∨ s.mgmt.records.length ≤ k ∨ 1024 < (s.mgmt.records.take (k + 1)).flatten.length) ∧
    (s.mgmt.lost = 0 → t.mgmt.records = s.mgmt.records.drop k) := by
  have hexec : exec (.recordRead ctrl seq n) s = execRecordRead ctrl seq n s := rfl
  unfold execRecordRead at hexec
  obtain ⟨hle, hfit, hmore⟩ := recordFit_spec n 1024 s.mgmt.records
  refine ⟨_, mailbox_accepted (r := (stOk, (s.mgmt.records.take (recordFit n 1024 s.mgmt.records)).flatten)) hexec h rfl,
    recordFit n 1024 s.mgmt.records, hle, replied_answered .., hfit, hmore, fun hlost => ?_⟩
  rw [flushLost_none (by exact hlost)]
  rfl

theorem arrayReport_answers (h : Accepts s ctrl seq) {n : Nat} (hn : n < 8) : Answers (.arrayReport ctrl seq n) s fun t =>
    ∃ args, Replied t 0x33 seq stOk args ∧ Only [.out, .mgmt] s t ∧
      args.take 12 = natLe 4 (s.outcomes n 1) ++ natLe 4 (s.outcomes n 2) ++ natLe 4 (s.outcomes n 3) := by
  have hexec : exec (.arrayReport ctrl seq n) s = execArrayReport ctrl seq n s := rfl
  unfold execArrayReport at hexec
  obtain ⟨t, ht, hrep, honly⟩ := mailbox_only (r := (stOk, (([1, 2, 3].map (s.outcomes n) ++
    ((s.tilesOf n).filter fun e => e.2.outcome == 3).map (·.1)).flatMap (natLe 4)).take 1024)) hexec h (if_neg (by omega))
  exact ⟨t, ht, _, hrep, honly, arrayReport_head ..⟩

theorem markClear_one (h : Accepts s ctrl seq) {n : Nat} (hn : tileExists n = true) : Answers (.markClear ctrl seq n) s fun t =>
    Replied t 0x34 seq stOk [] ∧ (t.tile n).mark = 0 ∧ ∀ k, k ≠ n → t.tile k = s.tile k := by
  have hexec : exec (.markClear ctrl seq n) s = execMarkClear ctrl seq n s := rfl
  unfold execMarkClear at hexec
  have hne : n ≠ 0x7FFFF := by
    rintro rfl
    exact absurd hn (by decide)
  have htile (u : State) (k : Nat) : (u.answered 0x34 seq (stOk, [])).tile k = u.tile k := rfl
  refine ⟨_, mailbox_accepted (r := (stOk, [])) (t := s.modTile n fun x => { x with mark := 0 }) hexec h ?_, replied_answered ..,
    ?_, fun k hk => ?_⟩
  · simp only [if_neg hne, hn, Bool.not_true, Bool.false_eq_true, if_false]
  · rw [htile, State.tile_modTile]
  · rw [htile]
    exact State.tile_setTile_other _ _ _ _ hk

theorem markClear_all (h : Accepts s ctrl seq) {n : Nat} (hn : n = 0x7FFFF) : Answers (.markClear ctrl seq n) s fun t =>
    Replied t 0x34 seq stOk [] ∧ ∀ k, tileExists k = true → (t.tile k).mark = 0 := by
  have hexec : exec (.markClear ctrl seq n) s = execMarkClear ctrl seq n s := rfl
  unfold execMarkClear at hexec
  have htile (u : State) (k : Nat) : (u.answered 0x34 seq (stOk, [])).tile k = u.tile k := rfl
  refine ⟨_, mailbox_accepted (r := (stOk, [])) (t := s.clearMarks (List.range 8)) hexec h (by rw [if_pos hn, State.clearMarks]),
    replied_answered .., fun k hk => ?_⟩
  rw [htile]
  exact mark_clearMarks _ _ (.inl (List.mem_range.2 (tileDie_lt hk)))

theorem certRead_answers (h : Accepts s ctrl seq) {n off : Nat} (hn : n < 2) (hoff : off ≤ (s.chain n).length) :
    Answers (.certRead ctrl seq n off) s fun t => Only [.out, .mgmt] s t ∧
      Replied t 0x35 seq stOk (natLe 4 (s.chain n).length ++ ((s.chain n).drop off).take 1016) := by
  have hexec : exec (.certRead ctrl seq n off) s = execCertRead ctrl seq n off s := rfl
  unfold execCertRead at hexec
  have hform : (2 ≤ n || (s.chain n).length < off) = false := by
    rw [Bool.or_eq_false_iff]
    exact ⟨decide_eq_false (by omega), decide_eq_false (by omega)⟩
  obtain ⟨t, ht, hrep, honly⟩ := mailbox_only (r := (stOk, natLe 4 (s.chain n).length ++ ((s.chain n).drop off).take 1016)) hexec h
    (by simp only [hform, Bool.false_eq_true, if_false])
  exact ⟨t, ht, honly, hrep⟩

end

/-- Settles O53: the commands one by one. -/
theorem mailboxCommandsAreAnswered : Obligations.MailboxCommandsAreAnswered := by
  unfold Obligations.MailboxCommandsAreAnswered
  intro s ctrl seq n p off bs rec b
  refine ⟨fun c r hc hctrl hin => ?_, fun h => ⟨fun hn hlen hrun => fwWrite_writes h off hn hrun hlen,
    fun hn hrun hlen => fwWrite_only h hn hrun hlen, fwCommit_answers h, fun hn hp hbs hst hdg => ?_, arbRaise_answers h n,
    fun hpow hpart => ?_, telemetry_answers h, recordRead_answers h n, arrayReport_answers h, markClear_one h, markClear_all h rfl,
    certRead_answers h, bootCfg_answers h b⟩⟩
  · have hbox : ∃ cmd early f, exec c s = mailbox ctrl cmd seq early s f := by
      rcases hc with rfl | rfl | rfl | rfl
      · exact ⟨_, _, _, show execBootCfg ctrl seq b s = _ from rfl⟩
      · exact ⟨_, _, _, show execStop ctrl seq n s = _ from rfl⟩
      · exact ⟨_, _, _, show execReset ctrl seq n s = _ from rfl⟩
      · exact ⟨_, _, _, show execReport ctrl seq n bs s = _ from rfl⟩
    obtain ⟨cmd, early, f, hexec⟩ := hbox
    exact ⟨fun hact he => mailbox_repeated hexec hctrl hin hact he, fun hact => ⟨cmd, mailbox_inactive hexec hctrl hin hact⟩⟩
  · dsimp only
    refine ⟨fun hblank => ?_, fun hact hlast => ?_, fun hact hlast => ?_, fun hne => ?_, fun hne => ?_⟩
    · cases hgood : s.sec.signed s.sec.booted rec with
      | true =>
        refine ⟨_, keyRecord_run (r := (stOk, [])) (t := { s with sec := s.sec.setSlot n p 1 bs }) h hn hp hbs ?_, ?_⟩
        · simp only [hgood, hblank, Bool.not_true, Bool.false_eq_true, if_false, if_true]
        · exact ⟨replied_answered .., slotState_setSlot hn hp hst, digest_setSlot hn hp hdg hbs⟩
      | false =>
        refine ⟨_, keyRecord_run (r := (stImageRejected, [])) (t := s) h hn hp hbs ?_, ?_⟩
        · simp only [hgood, Bool.not_false, if_true]
        · exact ⟨replied_answered .., only_of_evolves (answered_evolves ..) (by decide)⟩
    · cases hgood : s.sec.signed s.sec.booted rec with
      | true =>
        refine ⟨_, keyRecord_run (r := (stOk, [])) (t := { s with sec := s.sec.setSlot n p 2 [] }) h hn hp hbs ?_, ?_⟩
        · simp only [hgood, hact, hlast, Bool.not_true, Bool.not_false, Bool.and_true, decide_true, Bool.false_eq_true, if_false, if_true]
        · exact ⟨replied_answered .., slotState_setSlot hn hp hst⟩
      | false =>
        refine ⟨_, keyRecord_run (r := (stImageRejected, [])) (t := s) h hn hp hbs ?_, ?_⟩
        · simp only [hgood, Bool.not_false, if_true]
        · exact ⟨replied_answered .., only_of_evolves (answered_evolves ..) (by decide)⟩
    · exact keyRecord_rejected h hn hp hbs (.inr hlast)
    · exact keyRecord_rejected h hn hp hbs hne
    · exact keyRecord_rejected h hn hp hbs (.inl hne)
  · obtain ⟨t, ht, hrep, honly⟩ := report_answers h bs hpow hpart
    exact ⟨t, ht, hrep, honly, length_attest s p true bs⟩

end Sys2Proof.Machine
end

section
/-! ### Start-up, RESET and the management plane on its own (R496, R520, R566, R573, R581) -/

namespace Sys2Proof.Machine

open Sys2Proof Sys2Proof.Safety

/-! #### What start-up leaves alone -/

/-- Start-up past step 3 changes neither of these. -/
structure Standing (s t : State) : Prop where
  input : t.input = s.input
  powered : t.powered = s.powered
  ltime : t.ltime = s.ltime
  mem : t.mem = s.mem
  runBank : t.sec.runBank = s.sec.runBank
  recovery : t.mgmt.recovery = s.mgmt.recovery

namespace Standing

variable {s t u : State}

theorem refl (s : State) : Standing s s := ⟨rfl, rfl, rfl, rfl, rfl, rfl⟩

theorem trans (h1 : Standing s t) (h2 : Standing t u) : Standing s u :=
  ⟨h2.input.trans h1.input, h2.powered.trans h1.powered, h2.ltime.trans h1.ltime, h2.mem.trans h1.mem, h2.runBank.trans h1.runBank,
    h2.recovery.trans h1.recovery⟩

theorem foldl {α : Type} {f : State → α → State} (h : ∀ u a, Standing u (f u a)) : ∀ (l : List α) (s : State), Standing s (l.foldl f s)
  | [], s => refl s
  | a :: l, s => (h s a).trans (foldl h l _)

theorem pushRecord (s : State) (r : List Byte) : Standing s (s.pushRecord r) := by
  unfold State.pushRecord
  split
  · exact ⟨rfl, rfl, rfl, rfl, rfl, rfl⟩
  · exact ⟨rfl, rfl, rfl, rfl, rfl, rfl⟩

theorem mgmtRecord (s : State) (code : Nat) (fs : List (Nat × Nat × Nat)) : Standing s (s.mgmtRecord code fs) := by
  obtain ⟨h1, h2, h3, h4, h5, h6⟩ := pushRecord s
    (eventRecord code false (!s.powered) (s.freeVal.toNat % 2 ^ 32) s.recordTime (Config.freeValue (s.free + 1)).toNat fs)
  exact ⟨h1, h2, h3, h4, h5, h6⟩

theorem trainStack (s : State) (failed : List Nat) (lanes : List (Nat × List Nat)) (m : Nat) :
    Standing s (s.trainStack failed lanes m) := by
  have hset (x : Stack) : Standing s (s.setStack m x) := ⟨rfl, rfl, rfl, rfl, rfl, rfl⟩
  unfold State.trainStack
  dsimp only
  split
  · exact (hset _).trans (mgmtRecord ..)
  · exact hset _

theorem trainFar (s : State) (fm gib : Nat) : Standing s (s.trainFar fm gib) := by
  have hset (v : Nat × Nat) : Standing s { s with farPorts := tput s.farPorts fm v } := ⟨rfl, rfl, rfl, rfl, rfl, rfl⟩
  unfold State.trainFar
  split
  · exact (hset _).trans (mgmtRecord ..)
  · exact hset _

theorem setTile (s : State) (i : Nat) (x : Tile) : Standing s (s.setTile i x) := ⟨rfl, rfl, rfl, rfl, rfl, rfl⟩

theorem checkDie (s : State) (x : PowerOnIn) (d : Nat) : Standing s (s.checkDie x d) :=
  (foldl (fun u i => setTile u i _) _ s).trans ⟨rfl, rfl, rfl, rfl, rfl, rfl⟩

/-- Steps 3 to 6 begin with power and local time 0. -/
theorem bringUp (s : State) (x : PowerOnIn) : Standing { s with powered := true, ltime := 0 } (s.bringUp x) := by
  unfold State.bringUp
  refine .trans ?_ (foldl (fun u d => checkDie u x d) _ _)
  refine .trans ?_ (.trans (trainFar _ 0 x.farGiB.1) (.trans (trainFar _ 1 x.farGiB.2) ⟨rfl, rfl, rfl, rfl, rfl, rfl⟩))
  refine .trans ?_ (foldl (fun u m => trainStack u x.failedStacks x.failedLanes m) _ _)
  refine .trans ?_ (foldl (fun u e => mgmtRecord u _ _) _ _)
  exact ⟨rfl, rfl, rfl, rfl, rfl, rfl⟩

theorem bootDone (s : State) : Standing s s.bootDone := by
  have hboot : Standing s { s with mgmt := { s.mgmt with booting := false } } := ⟨rfl, rfl, rfl, rfl, rfl, rfl⟩
  have hrest (u : State) (l : List Long) : Standing u { u with mgmt := { u.mgmt with long := l } } := ⟨rfl, rfl, rfl, rfl, rfl, rfl⟩
  exact ((hboot.trans (mgmtRecord ..)).trans (hrest ..)).trans (foldl (fun u _ => mgmtRecord u _ _) _ _)

theorem with_mgmt (h : Standing s t) {m : Mgmt} (hm : m.recovery = t.mgmt.recovery) : Standing s { t with mgmt := m } :=
  ⟨h.input, h.powered, h.ltime, h.mem, h.runBank, hm.trans h.recovery⟩

/-- The last step: start-up is over, or the scrub of what it found begins. -/
theorem booted (h : Standing s t) {c : Prop} [Decidable c] {l : Long} :
    Standing s (if c then ({ t with mgmt := { t.mgmt with rescrub := [], bootFrom := 0 } }).bootDone
      else ({ t with mgmt := { t.mgmt with rescrub := [], bootFrom := 0 } }).beginLong l) := by
  have hmgmt := h.with_mgmt (m := { t.mgmt with rescrub := [], bootFrom := 0 }) rfl
  split
  · exact hmgmt.trans (bootDone _)
  · exact hmgmt.with_mgmt rfl

theorem handOver (s : State) : Standing s s.handOver := by
  have hlay : Standing s { s with layout := s.mgmt.bootLayout } := ⟨rfl, rfl, rfl, rfl, rfl, rfl⟩
  have hfar (u : State) (e : Nat × Nat × Nat) : Standing u (u.releaseFar e.1) := with_mgmt (refl u) rfl
  have hput (u : State) (p : Nat) (x : Part) : Standing u (u.setPart p x) := ⟨rfl, rfl, rfl, rfl, rfl, rfl⟩
  unfold State.handOver
  dsimp only
  refine booted ?_
  refine .trans (hlay.trans (foldl hfar _ _)) (foldl (fun u qs => ?_) _ _)
  split
  · exact refl u
  · exact hput ..

theorem takeRecord (s : State) (r : Record) : Standing s (s.takeRecord r) :=
  (foldl (fun u (e : Nat × TileRecord) => setTile u e.1 _) _ s).trans ⟨rfl, rfl, rfl, rfl, rfl, rfl⟩

theorem loadRecord (s : State) (ok : Bool × Bool) : Standing s (s.loadRecord ok) := by
  unfold State.loadRecord
  split
  · exact takeRecord ..
  · exact (takeRecord ..).trans (mgmtRecord ..)

/-- The whole of steps 3 to 7. -/
theorem start (s : State) (x : PowerOnIn) : Standing { s with powered := true, ltime := 0 } (s.bringUp x).handOver :=
  (bringUp s x).trans (handOver _)

end Standing

/-! #### Power on -/

theorem runBank_runSet (x : Security) (b : Nat) : (x.runSet b).runBank = b := by
  unfold Security.runSet
  dsimp only
  split <;> rfl

theorem bank_runSet (x : Security) (b c : Nat) : (x.runSet b).bank c = x.bank c := by
  unfold Security.runSet
  dsimp only
  split <;> rfl

theorem tfind_eq_none {α : Type} {a : Nat} : ∀ {m : SMap α}, (∀ e ∈ m, e.1 ≠ a) → tfind m a = none
  | [], _ => rfl
  | (k, v) :: m, h => by
    have hk : a ≠ k := fun e => h (k, v) (List.mem_cons_self ..) e.symm
    rw [tfind, if_neg hk]
    split
    · rfl
    · exact tfind_eq_none fun e he => h e (List.mem_cons_of_mem _ he)

/-- HBM is zero once the power is gone. -/
theorem memByte_powerDown {s : State} {a : Nat} (ha : a < hbmEnd) : memByte s.powerDown.mem a = 0 := by
  have hnone : tfind s.powerDown.mem a = none := tfind_eq_none fun e he => by
    have hfar : farBase ≤ e.1 := of_decide_eq_true (List.mem_filter.1 he).2
    have hend : hbmEnd < farBase := by decide
    omega
  rw [memByte, tget, hnone]
  rfl

section
variable {s : State} {x : PowerOnIn}

theorem powerOn_cold (hin : s.input = false) (hlow : 44000 ≤ x.millivolts) (hhigh : x.millivolts ≤ 60000) :
    exec (.powerOn x) s = .next ((s.cold x.straps).startUp x) := by
  change execPowerOn x s = _
  simp [execPowerOn, hin, hlow, hhigh]

/-- From the cold state a bank that verifies runs. -/
theorem startUp_cold {b : Nat} (hb : s.sec.pickBank ((s.mgmt.holding x.recordOk).elim 0 (·.select)) = some b) :
    (s.cold x.straps).startUp x =
      ((({ s.cold x.straps with sec := s.sec.runSet b }).loadRecord x.recordOk).bringUp x).handOver := by
  have hpick : (s.cold x.straps).sec.pickBank (((s.cold x.straps).mgmt.holding x.recordOk).elim 0 (·.select)) = some b := hb
  have hboot : (s.cold x.straps).mgmt.bootFrom = 2 := rfl
  unfold State.startUp
  simp only [hboot, hpick]
  rfl

theorem startUp_recovery (hb : s.sec.pickBank ((s.mgmt.holding x.recordOk).elim 0 (·.select)) = none) :
    (s.cold x.straps).startUp x = { s.cold x.straps with mgmt := { (s.cold x.straps).mgmt with recovery := true } } := by
  have hpick : (s.cold x.straps).sec.pickBank (((s.cold x.straps).mgmt.holding x.recordOk).elim 0 (·.select)) = none := hb
  have hboot : (s.cold x.straps).mgmt.bootFrom = 2 := rfl
  unfold State.startUp
  simp only [hboot, hpick]

theorem powerOn_starts {b : Nat} (hin : s.input = false) (hlow : 44000 ≤ x.millivolts) (hhigh : x.millivolts ≤ 60000)
    (hb : s.sec.pickBank ((s.mgmt.holding x.recordOk).elim 0 (·.select)) = some b) :
    Answers (.powerOn x) s fun t => t.input = true ∧ t.powered = true ∧ t.ltime = 0 ∧ t.sec.runBank = b ∧ t.mgmt.recovery = false ∧
      ∀ a, a < hbmEnd → memByte t.mem a = 0 := by
  have hload := Standing.loadRecord { s.cold x.straps with sec := s.sec.runSet b } x.recordOk
  have hup := Standing.start (({ s.cold x.straps with sec := s.sec.runSet b }).loadRecord x.recordOk) x
  refine ⟨_, powerOn_cold hin hlow hhigh, ?_⟩
  rw [startUp_cold hb]
  refine ⟨hup.input.trans hload.input, hup.powered, hup.ltime, (hup.runBank.trans hload.runBank).trans (runBank_runSet ..),
    hup.recovery.trans hload.recovery, fun a ha => ?_⟩
  rw [hup.mem.trans hload.mem]
  exact memByte_powerDown ha

theorem powerOn_again (hin : s.input = true) (hpow : s.powered = false) (hrec : s.mgmt.recovery = false) (hboot : s.mgmt.bootFrom = 1) :
    Answers (.powerOn x) s fun t => t.powered = true ∧ t.ltime = 0 ∧ t.sec.runBank = s.sec.runBank := by
  have hup := Standing.start s x
  refine ⟨(s.bringUp x).handOver, ?_, hup.powered, hup.ltime, hup.runBank⟩
  change execPowerOn x s = _
  simp [execPowerOn, hin, hpow, hrec, hboot, State.startUp]

theorem powerOn_outOfRange (hin : s.input = false) (hx : x.millivolts < 44000 ∨ 60000 < x.millivolts) :
    exec (.powerOn x) s = .next s := by
  have hno : (44000 ≤ x.millivolts && x.millivolts ≤ 60000) = false := by
    rw [Bool.and_eq_false_iff]
    exact hx.imp (fun h => decide_eq_false (by omega)) fun h => decide_eq_false (by omega)
  change execPowerOn x s = _
  simp only [execPowerOn, hin, Bool.not_false, if_true, hno, Bool.false_eq_true, if_false]

/-! #### Recovery and RESET -/

theorem recoveryImage_answers {bank : Nat} {images : List (List Byte)} (hin : s.input = true) (hrec : s.mgmt.recovery = true)
    (hb : bank < 2) : Answers (.recoveryImage bank images) s fun t => t.sec.bank bank = some images.flatten ∧
      if (s.sec.setBank bank images.flatten).setOk (s.sec.setBank bank images.flatten).blown bank then
        t.mgmt.recovery = false ∧ t.sec.runBank = bank
      else t.mgmt = s.mgmt ∧ t.sec.runBank = s.sec.runBank := by
  have hform : (!s.input || !s.mgmt.recovery || 2 ≤ bank) = false := by
    simp [hin, hrec]
    omega
  have hexec : exec (.recoveryImage bank images) s = execRecoveryImage bank images s := rfl
  unfold execRecoveryImage at hexec
  simp only [hform, Bool.false_eq_true, if_false] at hexec
  split at hexec
  · next hok =>
    refine ⟨_, hexec, (bank_runSet ..).trans (bank_setBank ..), ?_⟩
    rw [if_pos hok]
    exact ⟨rfl, runBank_runSet ..⟩
  · next hok =>
    refine ⟨_, hexec, bank_setBank .., ?_⟩
    rw [if_neg hok]
    refine ⟨rfl, ?_⟩
    unfold Security.setBank
    split <;> rfl

/-- The newer copy of the record is what the module holds now. -/
theorem newest_writeRecord (s : State) : s.writeRecord.mgmt.newest = s.record := by
  unfold State.writeRecord
  dsimp only
  split
  · next h => exact h.symm
  · split
    · simp [Mgmt.newest, Mgmt.firstNewer, Nat.not_succ_le_self]
    · simp [Mgmt.newest, Mgmt.firstNewer]

/-- A RESET waits for start-up with the data plane down. -/
def State.resetDown (s : State) (seq scope : Nat) : State :=
  { s.powerDown with
    mgmt := { s.powerDown.mgmt with
      booting := true
      bootFrom := if scope = 0 then 2 else 1
      standbyActive := if scope = 0 then false else s.powerDown.mgmt.standbyActive
      long := [⟨cmdReset, seq, allQuads, [], scope⟩] } }

theorem reset_answers {ctrl seq scope : Nat} (h : Accepts s ctrl seq) (hscope : scope < 2) (hlong : s.mgmt.long = [])
    (hup : s.powered = true ∨ s.mgmt.tripped = false ∨ s.coolEnough = true) :
    Answers (.reset ctrl seq scope) s fun t => Replied t cmdReset seq stOk [] ∧ t.powered = false ∧ t.mgmt.booting = true ∧
      t.mgmt.newest = s.record ∧ t.parts = [] ∧ t.mgmt.long = [⟨cmdReset, seq, allQuads, [], scope⟩] := by
  have hexec : exec (.reset ctrl seq scope) s = execReset ctrl seq scope s := rfl
  unfold execReset at hexec
  have hgo : (!s.powered && s.mgmt.tripped && !s.coolEnough) = false := by
    rcases hup with h1 | h1 | h1 <;> simp [h1]
  refine ⟨_, mailbox_accepted (t := s.writeRecord.resetDown seq scope) (r := (stOk, [])) hexec h ?_, replied_answered .., rfl, rfl,
    newest_writeRecord s, rfl, rfl⟩
  simp only [if_neg (show ¬ 2 ≤ scope by omega), hlong, List.isEmpty_nil, Bool.not_true, Bool.false_eq_true, if_false, hgo]
  rfl

/-! #### The management plane on its own -/

theorem mgmtRecordWrite_answers (hrun : s.mgmtRuns = true) :
    Answers .mgmtRecordWrite s fun t => t.mgmt.newest = s.record ∧ Only [.mgmt] s t := by
  have hexec : exec .mgmtRecordWrite s = execMgmtRecordWrite s := rfl
  rw [execMgmtRecordWrite, if_pos hrun] at hexec
  exact ⟨_, hexec, newest_writeRecord s, only_of_evolves (State.writeRecord_evolves s) (by decide)⟩

theorem only_mgmt (s : State) (m : Mgmt) : Only [.mgmt] s { s with mgmt := m } := by
  intro c hc
  cases c
  case mgmt => simp at hc
  all_goals rfl

theorem standbyCopy_answers (hrun : s.mgmtRuns = true) (hact : s.mgmt.standbyActive = false) :
    Answers .standbyCopy s fun t => Only [.mgmt] s t ∧ t.mgmt.copyResp = s.mgmt.resp ∧ t.mgmt.copyRecords = s.mgmt.records := by
  have hexec : exec .standbyCopy s = execStandbyCopy s := rfl
  rw [execStandbyCopy, if_pos (by simp [hrun, hact])] at hexec
  exact ⟨_, hexec, only_mgmt _ _, rfl, rfl⟩

/-- A record joins those that are unread, or is lost; the rest of the mailbox stays. -/
theorem mgmtRecord_mailbox (s : State) (code : Nat) (fs : List (Nat × Nat × Nat)) :
    (s.mgmtRecord code fs).mgmt.standbyActive = s.mgmt.standbyActive ∧ (s.mgmtRecord code fs).mgmt.resp = s.mgmt.resp ∧
      s.mgmt.records <+: (s.mgmtRecord code fs).mgmt.records := by
  unfold State.mgmtRecord State.pushRecord
  dsimp only
  split
  · exact ⟨rfl, rfl, List.prefix_rfl⟩
  · exact ⟨rfl, rfl, List.prefix_append ..⟩

theorem mgmtFailover_answers {reason : Nat} (hrun : s.mgmtRuns = true) (hact : s.mgmt.standbyActive = false) :
    Answers (.mgmtFailover reason) s fun t => Only [.mgmt, .free] s t ∧ t.activeCtrl = 1 ∧ t.mgmt.resp = s.mgmt.copyResp ∧
      s.mgmt.copyRecords <+: t.mgmt.records := by
  have hexec : exec (.mgmtFailover reason) s = execMgmtFailover reason s := rfl
  rw [execMgmtFailover, if_neg (by simp [hrun, hact])] at hexec
  obtain ⟨hstby, hresp, hrec⟩ := mgmtRecord_mailbox { s with mgmt := { s.mgmt with
    standbyActive := true, resp := s.mgmt.copyResp, records := s.mgmt.copyRecords } } evMgmtFailover [(24, 1, reason)]
  refine ⟨_, hexec, only_of_evolves (m := 549755813892)
    ((State.mgmtRecord_evolves ..).app (.mgmt .refl rfl) rfl) (by decide), ?_, hresp, hrec⟩
  rw [State.activeCtrl, hstby]
  rfl

theorem length_dieOrder : dieOrder.length = 20 := by decide

theorem length_telemetry (s : State) (x : TelemetryIn) : (s.telemetry x).length = 256 := by
  unfold State.telemetry
  refine length_block fun e he => ?_
  have hzip : ∀ d ∈ dieOrder.zipIdx, d.2 < 20 := fun d hd => by
    simpa [length_dieOrder] using List.snd_lt_of_mem_zipIdx hd
  have htab (g : Nat → Nat × Nat × Nat) (n : Nat) (hg : ∀ i, i < n → (g i).1 + (g i).2.1 ≤ 256) : ∀ e ∈ (List.range n).map g,
      e.1 + e.2.1 ≤ 256 := fun e he => by
    obtain ⟨i, hi, rfl⟩ := List.mem_map.1 he
    exact hg i (List.mem_range.1 hi)
  simp only [List.mem_append] at he
  rcases he with (((((((he | he) | he) | he) | he) | he) | he) | he) | he
  · revert e
    simp
  · exact htab _ 6 (fun i hi => by dsimp only; omega) e he
  · revert e
    simp
  · obtain ⟨d, hd, rfl⟩ := List.mem_map.1 he
    have := hzip d hd
    dsimp only
    omega
  · exact htab _ 24 (fun i hi => by dsimp only; omega) e he
  · revert e
    simp
  · exact htab _ 4 (fun i hi => by dsimp only; omega) e he
  · exact htab _ 4 (fun i hi => by dsimp only; omega) e he
  · exact htab _ 8 (fun i hi => by dsimp only; omega) e he

theorem telemetryRecord_answers {x : TelemetryIn} (hrun : s.mgmtRuns = true) (hper : s.mgmt.telePeriod ≠ 0)
    (hroom : s.mgmt.records.length < 1024) : Answers (.telemetryRecord x) s fun t => Only [.mgmt] s t ∧
      t.mgmt.records = s.mgmt.records ++ [s.telemetry x] ∧ (s.telemetry x).length = 256 ∧ t.mgmt.teleSeq = s.mgmt.teleSeq + 1 := by
  have hexec : exec (.telemetryRecord x) s = execTelemetryRecord x s := rfl
  have hpush : s.pushRecord (s.telemetry x) = { s with mgmt := { s.mgmt with records := s.mgmt.records ++ [s.telemetry x] } } :=
    if_neg (by omega)
  rw [execTelemetryRecord, if_neg (by simp [hrun, hper]), hpush] at hexec
  exact ⟨_, hexec, only_mgmt _ _, rfl, length_telemetry s x, rfl⟩

theorem standbyTempSample_answers {temps : List Int} (hin : s.input = true) (hpow : s.powered = false) :
    Answers (.standbyTempSample temps) s fun t => Only [.mgmt] s t ∧ t.mgmt.stbyTemps = temps := by
  have hexec : exec (.standbyTempSample temps) s = execStandbyTempSample temps s := rfl
  rw [execStandbyTempSample, if_pos (by simp [hin, hpow])] at hexec
  exact ⟨_, hexec, only_mgmt _ _, rfl⟩

end

/-- Settles O52: the data plane's start, recovery, RESET, and what the management plane does by itself. -/
theorem startUpAndManagementKeepTheRecord : Obligations.StartUpAndManagementKeepTheRecord := by
  unfold Obligations.StartUpAndManagementKeepTheRecord
  refine ⟨fun s x ctrl seq scope bank images => ⟨fun hin hlow hhigh => ⟨fun b hb => powerOn_starts hin hlow hhigh hb, fun hb => ?_⟩,
    fun hin hx => powerOn_outOfRange hin hx, fun hin hpow hrec hboot => powerOn_again hin hpow hrec hboot,
    fun hin hrec hbank => recoveryImage_answers hin hrec hbank,
    fun h hscope hlong hup => reset_answers h hscope hlong hup⟩,
    fun s reason x temps => ⟨mgmtRecordWrite_answers, standbyCopy_answers, mgmtFailover_answers, telemetryRecord_answers,
      standbyTempSample_answers⟩⟩
  refine ⟨_, powerOn_cold hin hlow hhigh, ?_⟩
  rw [startUp_recovery hb]
  exact ⟨rfl, rfl, rfl⟩

end Sys2Proof.Machine
end

section
/-! ### Stacks, patrol, far tier and spill copies (R297, R399 to R406) -/

namespace Sys2Proof.Machine

open Sys2Proof Sys2Proof.Safety

section
variable {s t : State} {k : Nat}

/-- A change that leaves the stacks' own record alone. -/
theorem stack_of_evolves (h : Evolves k s t) (hk : k.testBit (compBit .hbm) = false) (m : Nat) : t.stack m = s.stack m :=
  congrArg (tget Stack.reset · m) (h.same .hbm hk)

theorem stackEvent_stack (s : State) (m code : Nat) (fs : List (Nat × Nat × Nat)) (j : Nat) :
    (s.stackEvent m code fs).stack j = s.stack j :=
  congrArg (tget Stack.reset · j) ((State.stackEvent_evolves ..).same .hbm rfl)

theorem stackEvent_mem (s : State) (m code : Nat) (fs : List (Nat × Nat × Nat)) : (s.stackEvent m code fs).mem = s.mem :=
  (State.stackEvent_evolves ..).same .mem rfl

end

/-! #### Thermal states (R404 to R406) -/

theorem thermalOf_lt {tc : Int} (h : tc < 1680) : thermalOf tc < 3 := by
  rw [thermalOf, if_neg (by omega)]
  split
  · decide
  · split <;> decide

/-- Below critical no sample makes a stack critical. -/
theorem thermalNext_ne_critical {st : Nat} {tc : Int} (h : tc < 1680) (hst : thermalNext st tc ≠ st) : thermalNext st tc ≠ 3 := by
  intro h3
  have hof := thermalOf_lt h
  refine hst (h3.trans ?_)
  unfold thermalNext at h3
  split at h3
  · omega
  · dsimp only at h3
    split at h3
    · split at h3 <;> omega
    · split at h3
      · omega
      · exact h3.symm

/-- Nothing of a stack's contents is left. -/
theorem memByte_loseStack (s : State) {m b : Nat} (hb : b < hbmEnd) (hm : stackOf b = m) : memByte (s.loseStack m).mem b = 0 := by
  have hnone : tfind (s.loseStack m).mem b = none := tfind_eq_none fun e he hk => by
    obtain ⟨_, hout⟩ := List.mem_filter.1 he
    rw [hk] at hout
    simp [hm] at hout
    omega
  rw [memByte, tget, hnone]
  rfl

section
variable {s : State} {m : Nat} {tc : Int}

theorem exec_stackTempSample (hm : m < 24) (hp : s.powered = true) (hon : (s.stack m).online = true)
    {st : Nat} (hst : thermalNext (s.stack m).thermal tc = st) (hne : st ≠ (s.stack m).thermal) :
    exec (.stackTempSample m tc) s = .next
      (if st = 3 then ((s.setStack m { s.stack m with temp := tc, thermal := st }).stackEvent m evMemThermal [(25, 1, st)]).stackOffline m
        else (s.setStack m { s.stack m with temp := tc, thermal := st }).stackEvent m evMemThermal [(25, 1, st)]) := by
  change execStackTempSample m tc s = _
  simp only [execStackTempSample, onStack, hm, if_true, hp, hon, Bool.not_true, Bool.false_eq_true, if_false, hst, if_neg hne]

theorem stackTempSample_below (hm : m < 24) (hp : s.powered = true) (hon : (s.stack m).online = true) (ht : tc < 1680) :
    Answers (.stackTempSample m tc) s fun t =>
      t.stack m = { s.stack m with temp := tc, thermal := thermalNext (s.stack m).thermal tc } ∧ t.mem = s.mem := by
  by_cases hst : thermalNext (s.stack m).thermal tc = (s.stack m).thermal
  · refine ⟨s.setStack m { s.stack m with temp := tc }, ?_, ?_, rfl⟩
    · change execStackTempSample m tc s = _
      simp only [execStackTempSample, onStack, hm, if_true, hp, hon, Bool.not_true, Bool.false_eq_true, if_false, hst]
    · rw [State.stack_setStack, hst]
  · refine ⟨_, exec_stackTempSample hm hp hon rfl hst, ?_⟩
    rw [if_neg (thermalNext_ne_critical ht hst)]
    exact ⟨(stackEvent_stack ..).trans (State.stack_setStack ..), stackEvent_mem ..⟩

/-- What a stack is left as when it goes offline. -/
theorem stackOffline_spec (s : State) (m : Nat) : (s.stackOffline m).stack m = { s.stack m with online := false } ∧
    ∀ b, b < hbmEnd → stackOf b = m → memByte (s.stackOffline m).mem b = 0 := by
  have hlost (u : State) : (u.loseMirrors m).mem = u.mem ∧ (u.loseMirrors m).hbm = u.hbm :=
    ⟨(State.loseMirrors_evolves u m).same .mem rfl, (State.loseMirrors_evolves u m).same .hbm rfl⟩
  unfold State.stackOffline
  dsimp only
  constructor
  · rw [stackEvent_stack, State.stack, (hlost _).2]
    split
    · exact (congrArg (tget Stack.reset · m) (((State.settleAll_evolves ..).same .hbm rfl).trans
        (((State.collOffline_evolves ..).same .hbm rfl).trans ((State.failRunning_evolves ..).same .hbm rfl)))).trans
          (State.stack_setStack ..)
    · exact State.stack_setStack ..
  · intro b hb hm
    rw [stackEvent_mem, (hlost _).1]
    exact memByte_loseStack _ hb hm

theorem stackTempSample_critical (hm : m < 24) (hp : s.powered = true) (hon : (s.stack m).online = true) (ht : 1680 ≤ tc)
    (hlt : (s.stack m).thermal < 3) : Answers (.stackTempSample m tc) s fun t => (t.stack m).online = false ∧
      (t.stack m).thermal = 3 ∧ ∀ b, b < hbmEnd → stackOf b = m → memByte t.mem b = 0 := by
  have hof : thermalOf tc = 3 := if_pos ht
  have hst : thermalNext (s.stack m).thermal tc = 3 := by rw [thermalNext, hof, if_pos hlt]
  obtain ⟨hstack, hlost⟩ := stackOffline_spec
    ((s.setStack m { s.stack m with temp := tc, thermal := 3 }).stackEvent m evMemThermal [(25, 1, 3)]) m
  refine ⟨_, exec_stackTempSample hm hp hon hst (by omega), ?_⟩
  have hset := (stackEvent_stack (s.setStack m { s.stack m with temp := tc, thermal := 3 }) m evMemThermal [(25, 1, 3)] m).trans
    (State.stack_setStack ..)
  rw [if_pos rfl]
  exact ⟨congrArg Stack.online hstack, congrArg Stack.thermal (hstack.trans (by rw [hset])), hlost⟩

section
variable {lanes : List Nat} (hm : m < 24) (hp : s.powered = true) (hoff : (s.stack m).online = false) (hcrit : (s.stack m).thermal = 3)
  (hcool : (s.stack m).temp ≤ 1472)
include hm hp hoff hcrit hcool

theorem stackReturn_trained (hls : sparesOk (spareLanes (s.stack m) lanes) = true) :
    Answers (.stackReturn m lanes) s fun t => (t.stack m).online = true ∧ (t.stack m).lost = true ∧
      (t.stack m).thermal = thermalOf (s.stack m).temp ∧ (t.stack m).spared = spareLanes (s.stack m) lanes ∧
      ∀ b, b < hbmEnd → stackOf b = m → memByte t.mem b = 0 := by
  have hexec : exec (.stackReturn m lanes) s = execStackReturn m lanes s := rfl
  have hgo : (!s.powered || (s.stack m).online || (s.stack m).thermal != 3 || 1472 < (s.stack m).temp) = false := by
    simp [hp, hoff, hcrit, hcool]
  simp only [execStackReturn, onStack, hm, if_true, hgo, Bool.false_eq_true, if_false, hls, Bool.not_true] at hexec
  refine ⟨_, hexec, ?_⟩
  simp only [stackEvent_stack, stackEvent_mem, State.stack_setStack, true_and]
  exact fun b hb hs => memByte_loseStack s hb hs

theorem stackReturn_untrained (hls : sparesOk (spareLanes (s.stack m) lanes) = false) :
    Answers (.stackReturn m lanes) s fun t => (t.stack m).online = false ∧ (t.stack m).failed = true := by
  have hexec : exec (.stackReturn m lanes) s = execStackReturn m lanes s := rfl
  have hgo : (!s.powered || (s.stack m).online || (s.stack m).thermal != 3 || 1472 < (s.stack m).temp) = false := by
    simp [hp, hoff, hcrit, hcool]
  simp only [execStackReturn, onStack, hm, if_true, hgo, Bool.false_eq_true, if_false, hls, Bool.not_false] at hexec
  refine ⟨_, hexec, ?_⟩
  have hstack := (stack_of_evolves (State.mgmtRecord_evolves
    { s.setStack m { s.stack m with failed := true, spared := spareLanes (s.stack m) lanes, toSpare := [] } with
      mgmt := { s.mgmt with badQuads := if s.mgmt.badQuads.contains (m / 6) then s.mgmt.badQuads else m / 6 :: s.mgmt.badQuads } }
    evStackFail [(24, 1, m)]) rfl m).trans (State.stack_setStack ..)
  exact ⟨(congrArg Stack.online hstack).trans hoff, congrArg Stack.failed hstack⟩

end

/-! #### Patrol (R399, R400, R402) -/

theorem mem_tput_self {α : Type} (i : Nat) (v : α) : ∀ m : SMap α, (i, v) ∈ tput m i v
  | [] => List.mem_singleton.2 rfl
  | (k, w) :: m => by
    unfold tput
    split
    · exact List.mem_cons_self ..
    · split
      · exact List.mem_cons_self ..
      · exact List.mem_cons_of_mem _ (mem_tput_self i v m)

/-- A block that is marked is poisoned. -/
theorem poisoned_poisonBlock (s : State) (a : Nat) : (s.poisonBlock a).poisoned a 256 = true := by
  have hmark : a / 256 ∈ ((s.poisonBlock a).poison.map (·.1)) ++ (s.poisonBlock a).rawBlocks.filter (s.poisonBlock a).rawBad :=
    List.mem_append_left _ (List.mem_map.2 ⟨_, mem_tput_self (a / 256) true s.poison, rfl⟩)
  have hrange : (roadFirst a ≤ a / 256 && a / 256 ≤ roadLast a 256) = true := by
    have hlast : a / 256 ≤ (a + 256 - 1) / 256 := Nat.div_le_div_right (by omega)
    rw [roadFirst, roadLast, decide_eq_true hlast, decide_eq_true (Nat.le_refl _)]
    rfl
  have hbad : a / 256 ∈ (s.poisonBlock a).badBlocks a 256 := List.mem_filter.2 ⟨hmark, hrange⟩
  rw [State.poisoned, Bool.not_eq_true', List.isEmpty_eq_false_iff]
  exact List.ne_nil_of_mem hbad

/-- What is poisoned depends on the marks, the RAW writes and the memory alone. -/
theorem poisoned_congr {s t : State} (hp : t.poison = s.poison) (hr : t.raw = s.raw) (hm : t.mem = s.mem) (a n : Nat) :
    t.poisoned a n = s.poisoned a n := by
  have hdiff : t.rawDiff = s.rawDiff := by
    funext rb
    simp only [State.rawDiff, hr, hm]
  have hbad : t.rawBad = s.rawBad := by
    funext rb
    rw [State.rawBad, State.rawBad, hdiff]
  simp only [State.poisoned, State.badBlocks, State.rawBlocks, hp, hr, hbad]

/-- Counting the lanes that erred leaves the pass. -/
theorem countLanes_pass (m ch : Nat) : ∀ (ls : List Nat) (s : State), ((s.countLanes m ch ls).stack m).pass = (s.stack m).pass
  | [], _ => rfl
  | l :: ls, s => by
    refine (countLanes_pass m ch ls _).trans ?_
    dsimp only
    split
    · rw [stackEvent_stack, State.stack_setStack]
    · rw [State.stack_setStack]

/-- A block is corrected, before a weak row is reported. -/
def State.patrolled (s : State) (m rb : Nat) (ls : List Nat) : State :=
  ((({ s with raw := s.raw.filter fun c => c.1 / 256 != stackAddr m rb / 256 }).setStack m { s.stack m with
    pass := if (s.stack m).pass.contains rb then (s.stack m).pass else rb :: (s.stack m).pass }).count 1 (m / 3) 0x248 0 1
      (m % 3)).countLanes m (rb % 32) ls

/-- A row that erred in the pass before as well is reported and awaits repair; nothing of memory changes by it. -/
theorem patrolCorrect_evolves_patrolled (s : State) (m rb : Nat) (ls : List Nat) :
    Evolves 549755879938 (s.patrolled m rb ls) (s.patrolCorrect m rb ls) := by
  unfold State.patrolCorrect
  refine .ite ?_ ?_
  · exact .mgmt (State.stackEvent_evolves ..) rfl
  · exact .refl

/-- A block that is corrected joins the pass, and nothing of it stays in the data bits alone. -/
theorem patrolCorrect_spec (s : State) (m rb : Nat) (ls : List Nat) : (s.patrolCorrect m rb ls).mem = s.mem ∧
    (s.patrolCorrect m rb ls).poison = s.poison ∧ rb ∈ ((s.patrolCorrect m rb ls).stack m).pass ∧
    ∀ c ∈ (s.patrolCorrect m rb ls).raw, c.1 / 256 ≠ stackAddr m rb / 256 := by
  have hrep := patrolCorrect_evolves_patrolled s m rb ls
  have hlanes (u : State) := State.countLanes_evolves u m (rb % 32) ls
  have hcount (u : State) := State.count_evolves u 1 (m / 3) 0x248 0 1 (m % 3)
  refine ⟨(hrep.same .mem rfl).trans (((hlanes _).same .mem rfl).trans ((hcount _).same .mem rfl)),
    (hrep.same .poison rfl).trans (((hlanes _).same .poison rfl).trans ((hcount _).same .poison rfl)), ?_, fun c hc => ?_⟩
  · rw [stack_of_evolves hrep rfl, State.patrolled, countLanes_pass, stack_of_evolves (hcount _) rfl, State.stack_setStack]
    dsimp only
    split
    · next hin => simpa using hin
    · exact List.mem_cons_self ..
  · rw [(hrep.same .raw rfl).trans (((hlanes _).same .raw rfl).trans ((hcount _).same .raw rfl))] at hc
    simpa using (List.mem_filter.1 hc).2

section
variable {rb errs : Nat} {lanes : List Nat} (hm : m < 24) (hp : s.powered = true) (hon : (s.stack m).online = true)
  (hreg : s.regf 1 (m / 3) 0x24C 0 8 ≠ 0) (hrb : rb < 2 ^ 28)
include hm hp hon hreg hrb

theorem exec_patrolRead : exec (.patrolRead m rb errs lanes) s =
    if 16 < errs || (s.setStack m ((s.stack m).newPass rb)).poisoned (stackAddr m rb) 256 then
      .next ((((s.setStack m ((s.stack m).newPass rb)).poisonBlock (stackAddr m rb)).countUncorr (stackAddr m rb)).stackEvent m
        evMemUncorr [(32, 8, stackAddr m rb)])
    else if 0 < errs || (s.raw.any fun c => c.1 / 256 == stackAddr m rb / 256) then
      .next ((s.setStack m ((s.stack m).newPass rb)).patrolCorrect m rb lanes)
    else .next (s.setStack m ((s.stack m).newPass rb)) := by
  have hgo : (!s.powered || !(s.stack m).online || s.regf 1 (m / 3) 0x24C 0 8 = 0 || 2 ^ 28 ≤ rb) = false := by
    simp only [hp, hon, hreg, Bool.not_true, Bool.false_or, decide_false, decide_eq_false_iff_not]
    omega
  change execPatrolRead m rb errs lanes s = _
  simp only [execPatrolRead, onStack, hm, if_true, hgo, Bool.false_eq_true, if_false]
  rfl

theorem patrolRead_uncorrectable (he : 16 < errs) : Answers (.patrolRead m rb errs lanes) s fun t =>
    t.poisoned (stackAddr m rb) 256 = true ∧ t.mem = s.mem := by
  have hexec := exec_patrolRead (lanes := lanes) (errs := errs) hm hp hon hreg hrb
  rw [if_pos (by simp [he])] at hexec
  have hev : Evolves 549755879938 ((s.setStack m ((s.stack m).newPass rb)).poisonBlock (stackAddr m rb)) _ :=
    (State.stackEvent_evolves _ m evMemUncorr [(32, 8, stackAddr m rb)]).app
      ((State.countUncorr_evolves _ (stackAddr m rb)).mono rfl) rfl
  exact ⟨_, hexec, (poisoned_congr (hev.same .poison rfl) (hev.same .raw rfl) (hev.same .mem rfl) ..).trans
    (poisoned_poisonBlock ..), hev.same .mem rfl⟩

theorem patrolRead_corrected (he : 0 < errs) (hle : errs ≤ 16) (hclean : s.poisoned (stackAddr m rb) 256 = false) :
    Answers (.patrolRead m rb errs lanes) s fun t => t.mem = s.mem ∧ t.poison = s.poison ∧ rb ∈ (t.stack m).pass ∧
      ∀ c ∈ t.raw, c.1 / 256 ≠ stackAddr m rb / 256 := by
  have hexec := exec_patrolRead (lanes := lanes) (errs := errs) hm hp hon hreg hrb
  have hset : (s.setStack m ((s.stack m).newPass rb)).poisoned (stackAddr m rb) 256 = false := hclean
  rw [hset, if_neg (by simp; omega), if_pos (by simp [he])] at hexec
  exact ⟨_, hexec, patrolCorrect_spec ..⟩

theorem patrolRead_clean (he : errs = 0) (hclean : s.poisoned (stackAddr m rb) 256 = false)
    (hraw : ∀ c ∈ s.raw, c.1 / 256 ≠ stackAddr m rb / 256) : Answers (.patrolRead m rb errs lanes) s fun t =>
      Only [.hbm] s t ∧ t.stack m = (s.stack m).newPass rb := by
  have hexec := exec_patrolRead (lanes := lanes) (errs := errs) hm hp hon hreg hrb
  have hset : (s.setStack m ((s.stack m).newPass rb)).poisoned (stackAddr m rb) 256 = false := hclean
  rw [hset, if_neg (by simp [he]), if_neg (by simpa [he] using hraw)] at hexec
  exact ⟨_, hexec, only_of_evolves (State.setStack_evolves ..) (by decide), State.stack_setStack ..⟩

end

end

/-! #### The far tier (R407 to R410) -/

section
variable {s : State} {fm : Nat}

theorem farLinkDown_answers (hfm : fm < 2) (hup : (tget (0, 0) s.farPorts fm).2 ≠ 0) : Answers (.farLinkDown fm) s fun t =>
    tget (0, 0) t.farPorts fm = ((tget (0, 0) s.farPorts fm).1, 0) ∧
      tget (0, 0) t.farPorts (1 - fm) = tget (0, 0) s.farPorts (1 - fm) ∧ t.mem = s.mem := by
  have hexec : exec (.farLinkDown fm) s = execFarLinkDown fm s := rfl
  simp only [execFarLinkDown, onFarPort, if_pos hfm, if_neg hup] at hexec
  have hev (u : State) (ps : List Nat) : Evolves 549755879938 u (ps.foldl (fun u p => u.raise p evFarDown [(24, 1, fm)]) u) :=
    .foldl .refl fun v a => State.raise_evolves ..
  refine ⟨_, hexec, ?_, ?_, (hev _ _).same .mem rfl⟩
  · rw [(hev _ _).same .farPorts rfl]
    exact tget_tput_self ..
  · rw [(hev _ _).same .farPorts rfl]
    exact tget_tput_other _ _ (by omega) _

theorem farLinkTrained_answers (hfm : fm < 2) (hp : s.powered = true) (hcap : (tget (0, 0) s.farPorts fm).1 ≠ 0) :
    Answers (.farLinkTrained fm) s fun t => tget (0, 0) t.farPorts fm = ((tget (0, 0) s.farPorts fm).1, 2) ∧ Only [.farPorts] s t := by
  have hexec : exec (.farLinkTrained fm) s = execFarLinkTrained fm s := rfl
  have hgo : ¬ (!s.powered || (tget (0, 0) s.farPorts fm).1 = 0) = true := by simp [hp, hcap]
  simp only [execFarLinkTrained, onFarPort, if_pos hfm, if_neg hgo] at hexec
  refine ⟨_, hexec, tget_tput_self .., fun c hc => ?_⟩
  cases c
  case farPorts => simp at hc
  all_goals rfl

end

/-! #### An access that stands unanswered (R407) -/

/-- A forward or backward product that ends early reports the counts of its work. -/
theorem finished_endProducts {s : State} {q st : Nat} {r : Running} (hr : (s.queue q).running = some r) (hb : r.began = true)
    (hd : r.done = none) (hop : dOpcode r.desc = 0x10 ∨ dOpcode r.desc = 0x11) :
    Finished (s.endProducts q st) q st (productResult r.work) := by
  have hprod : s.runningProduct q = some r := by
    rcases hop with hop | hop <;> simp [State.runningProduct, State.runningOp, hr, hb, hd, hop]
  have hnorms (c : Prop) [Decidable c] : (if c then s.collectNorms r.work else s).queues = s.queues := by
    split
    · exact (State.collectNorms_evolves ..).same .queues rfl
    · rfl
  have hsettle (l : List Nat) (u : State) (hu : u.queues = s.queues) :
      ((l.foldl (fun t x => t.settleTile x) u).queue q).running = some r := by
    have hev : Evolves 551702036998 u (l.foldl (fun t x => t.settleTile x) u) := .foldl .refl fun v a => State.settleTile_evolves ..
    rw [queue_congr ((hev.same .queues rfl).trans hu), hr]
  unfold State.endProducts
  rw [hprod]
  dsimp only
  exact finished_finish (hsettle _ _ (hnorms _)) hd

/-- A PROGRAM that fails gives up its orders and finishes. -/
theorem finished_failProgram {s : State} {p q st : Nat} {r : Running} (hr : (s.queue q).running = some r) (hd : r.done = none) :
    Finished (s.failProgram p q st) q st result0 := by
  unfold State.failProgram
  dsimp only
  refine finished_finish ((congrArg SubQ.running (queue_congr ?_ q)).trans hr) hd
  split
  · rfl
  · exact (State.setDeferList_evolves ..).same .queues rfl

/-- What a descriptor without a collective finishes with when it fails. -/
theorem finished_failDesc {s : State} {q st : Nat} {r : Running} (hr : (s.queue q).running = some r) (hb : r.began = true)
    (hd : r.done = none) (hcolls : ∀ c ∈ (s.part (s.queuePart q)).colls, c.q ≠ q) : Finished (s.failDesc q st) q st
      (if r.work.started = true ∧ (dOpcode r.desc = 0x10 ∨ dOpcode r.desc = 0x11) then productResult r.work else result0) := by
  have hnone : ((s.part (s.queuePart q)).colls.find? fun c => c.q == q) = none := by
    simpa [List.find?_eq_none] using hcolls
  unfold State.failDesc
  simp only [hr, hnone]
  split
  · next hprog =>
    rw [if_neg fun h => by omega]
    exact finished_failProgram hr hd
  · split
    · next hprod =>
      have hprod' : r.work.started = true ∧ (dOpcode r.desc = 0x10 ∨ dOpcode r.desc = 0x11) := by simpa using hprod
      rw [if_pos hprod']
      exact finished_endProducts hr hb hd hprod'.2
    · next hprod =>
      have hprod' : ¬ (r.work.started = true ∧ (dOpcode r.desc = 0x10 ∨ dOpcode r.desc = 0x11)) := by simpa using hprod
      rw [if_neg hprod']
      exact finished_finish hr hd

theorem farTimeout_answers {s : State} {fm q : Nat} {poison : Bool} {r : Running} (hfm : fm < 2) (hq : q < 65536)
    (hr : (s.queue q).running = some r) (hb : r.began = true) (hd : r.done = none)
    (hcolls : ∀ c ∈ (s.part (s.queuePart q)).colls, c.q ≠ q) : Answers (.farTimeout fm ⟨q, poison⟩) s fun t =>
      Finished t q stFarError (if r.work.started = true ∧ (dOpcode r.desc = 0x10 ∨ dOpcode r.desc = 0x11) then productResult r.work
        else result0) := by
  have hexec : exec (.farTimeout fm ⟨q, poison⟩) s = execFarTimeout fm ⟨q, poison⟩ s := rfl
  simp only [execFarTimeout, onFarPort, if_pos hfm, onQueue, if_pos hq, hr, hb, hd, Option.isNone_none, Bool.and_self, if_true] at hexec
  have hcount := State.count_evolves s 2 (1 + fm) 0x280 (if poison = true then 16 else 24) 1
  have hparts := hcount 0 |>.same .parts rfl
  have howner : (s.count 2 (1 + fm) 0x280 (if poison = true then 16 else 24) 1).queuePart q = s.queuePart q := by
    rw [State.queuePart, State.queuePart, State.ownerD, State.ownerD, State.owner, State.owner,
      show (State.count ..).parts = s.parts from hparts]
  refine ⟨_, hexec, finished_failDesc ?_ hb hd ?_⟩
  · rw [queue_congr ((hcount 0).same .queues rfl)]
    exact hr
  · rw [howner, part_congr hparts]
    exact hcolls

/-! #### A spill copy that is done (R297) -/

/-- Where the directory lies does not depend on the partition's slots. -/
theorem dirAddr_congr {s t : State} (hregs : t.regs = s.regs) {p : Nat} (hquads : (t.part p).quads = (s.part p).quads) (slot : Nat) :
    t.dirAddr p slot = s.dirAddr p slot := by
  have hreg (off lo w : Nat) : t.pregf p 1 off lo w = s.pregf p 1 off lo w := by
    rw [State.pregf, State.pregf, State.regf, State.regf, State.reg, State.reg, hregs]
  have hrange : (t.part p).hbmRange = (s.part p).hbmRange := by
    rw [Part.hbmRange, Part.hbmRange, hquads]
  have hgeom : t.stashGeom p = s.stashGeom p := by
    unfold State.stashGeom
    rw [hreg, hreg, hreg, hreg, hrange]
  rw [State.dirAddr, State.dirAddr, hgeom]

theorem mkEntry_lt (addr : Nat) (far : Bool) {st : Nat} (hst : st < 16) (ckpt : Bool) (len : Nat) :
    mkEntry addr far st ckpt len < 256 ^ 16 := by
  have hfar : b2n far ≤ 1 := by cases far <;> decide
  have hckpt : b2n ckpt ≤ 1 := by cases ckpt <;> decide
  unfold mkEntry
  omega

section
variable {s : State} {p slot b fa n : Nat}

/-- A slot's entry is written over what its place held, and nothing else. -/
theorem setEntry_mem {e : Nat} (h : s.offline (s.dirAddr p slot) 16 = false) :
    (s.setEntry p slot e).mem = memWrite s.mem (s.dirAddr p slot) (natLe 16 e) :=
  State.writeMem_mem (by rw [length_natLe]; exact h)

theorem modPart_mem (s : State) (p : Nat) (f : Part → Part) : (s.modPart p f).mem = s.mem := rfl

theorem modPart_regs (s : State) (p : Nat) (f : Part → Part) : (s.modPart p f).regs = s.regs := rfl

/-- The copy is no longer one that waits. -/
def State.unqueueSpill (s : State) (p slot : Nat) : State :=
  s.modPart p fun y => { y with
    spills := y.spills.filter fun e => e.1 != slot }

/-- The bytes in the far tier. -/
def State.spillBytes (s : State) (p slot b fa n : Nat) : State := (s.unqueueSpill p slot).writeMem fa (memRead s.mem b n)

/-- The state with the copy in the far tier and the slot's entry changed. -/
def State.spilled (s : State) (p slot b fa n e : Nat) : State :=
  ((s.spillBytes p slot b fa n).setEntry p slot e).modPart p
    fun y => { y with
      live := y.live.filter fun e => e.1 != slot }

theorem spillBytes_same (s : State) (p slot b fa n : Nat) : (s.spillBytes p slot b fa n).regs = s.regs ∧
    (s.spillBytes p slot b fa n).hbm = s.hbm ∧ (s.spillBytes p slot b fa n).part p = { s.part p with
      spills := (s.part p).spills.filter fun e => e.1 != slot } := by
  have hw := State.writeMem_evolves (s.unqueueSpill p slot) fa (memRead s.mem b n)
  exact ⟨hw.same .regs rfl, hw.same .hbm rfl, (part_congr (hw.same .parts rfl) p).trans (State.part_setPart ..)⟩

theorem spillBytes_dirAddr (s : State) (p slot b fa n : Nat) : (s.spillBytes p slot b fa n).dirAddr p slot = s.dirAddr p slot := by
  obtain ⟨hregs, _, hpart⟩ := spillBytes_same s p slot b fa n
  exact dirAddr_congr hregs (by rw [hpart]) slot

theorem spilled_part (s : State) (p slot b fa n e : Nat) : (s.spilled p slot b fa n e).part p = { s.part p with
    spills := (s.part p).spills.filter fun e => e.1 != slot
    live := (s.part p).live.filter fun e => e.1 != slot } := by
  obtain ⟨_, _, hpart⟩ := spillBytes_same s p slot b fa n
  have hentry := part_congr ((State.setEntry_evolves (s.spillBytes p slot b fa n) p slot
    e).same .parts rfl) p
  rw [State.spilled, State.modPart, State.part_setPart, hentry, hpart]

theorem spilled_mem (e : Nat) (hdir : s.offline (s.dirAddr p slot) 16 = false) (hfa : s.offline fa n = false) :
    (s.spilled p slot b fa n e).mem = memWrite (memWrite s.mem fa (memRead s.mem b n)) (s.dirAddr p slot) (natLe 16 e) := by
  obtain ⟨_, hhbm, _⟩ := spillBytes_same s p slot b fa n
  have haddr := spillBytes_dirAddr s p slot b fa n
  have hfa' : (s.unqueueSpill p slot).offline fa (memRead s.mem b n).length = false := by
    rw [memRead_length]
    exact hfa
  have hbytes : (s.spillBytes p slot b fa n).mem = memWrite s.mem fa (memRead s.mem b n) := State.writeMem_mem hfa'
  have hoff : (s.spillBytes p slot b fa n).offline ((s.spillBytes p slot b fa n).dirAddr p slot) 16 = false := by
    rw [haddr, offline_congr hhbm]
    exact hdir
  have hentry := setEntry_mem (e := e) hoff
  rw [haddr, hbytes] at hentry
  rw [State.spilled, modPart_mem, hentry]

theorem leNat_natLe (n v : Nat) : leNat (natLe n v) = v % 256 ^ n := by
  induction n generalizing v with
  | zero => rw [Nat.pow_zero, Nat.mod_one, natLe, leNat]
  | succ n ih =>
    have hpow : 256 ^ (n + 1) = 256 * 256 ^ n := Nat.pow_succ'
    rw [natLe, leNat, ih, BitVec.toNat_ofNat, hpow, Nat.mod_mul]
    simp

theorem spilled_dirEntry {e : Nat} (hlt : e < 256 ^ 16) (hm : MemoryOk s) (hdir : s.offline (s.dirAddr p slot) 16 = false)
    (hfa : s.offline fa n = false) : (s.spilled p slot b fa n e).dirEntry p slot = e := by
  have hentry : ((s.spillBytes p slot b fa n).setEntry p slot e).regs = (s.spillBytes p slot b fa n).regs :=
    (State.setEntry_evolves (s.spillBytes p slot b fa n) p slot e).same .regs rfl
  have hregs : (s.spilled p slot b fa n e).regs = s.regs := by
    rw [State.spilled, modPart_regs, hentry, (spillBytes_same s p slot b fa n).1]
  have haddr : (s.spilled p slot b fa n e).dirAddr p slot = s.dirAddr p slot := dirAddr_congr hregs (by rw [spilled_part]) slot
  have hread := memRead_memWrite (natLe 16 e) (memWrite_wf (memRead s.mem b n) fa hm.1) (s.dirAddr p slot)
  rw [length_natLe] at hread
  rw [State.dirEntry, haddr, spilled_mem e hdir hfa, hread, leNat_natLe, Nat.mod_eq_of_lt hlt]

/-- The entry of a slot whose bytes lie in the far tier. -/
def State.spillEntry (s : State) (p slot fa n : Nat) : Nat := mkEntry fa true slSpilled (entryCkpt (s.dirEntry p slot)) n

theorem exec_spillCopyDone (hp : p < 4) {i : Nat} (hfind : (s.part p).spills.find? (fun e => e.1 == slot) = some (i, b, fa, n))
    (hw : s.memStatus true fa n = none) (hr : s.memStatus false b n = none) :
    exec (.spillCopyDone p slot true) s = .next (s.spilled p slot b fa n (s.spillEntry p slot fa n)) := by
  have hstat (w : Bool) (a : Nat) (f : Part → Part) : (s.modPart p f).memStatus w a n = s.memStatus w a n := rfl
  change execSpillCopyDone p slot true s = _
  simp only [execSpillCopyDone, onQuad, if_pos hp, hfind, hstat, hw, hr, Option.isNone_none, Bool.and_self, if_true]
  rfl

theorem spillCopyDone_answers (hm : MemoryOk s) (hp : p < 4) {i : Nat}
    (hfind : (s.part p).spills.find? (fun e => e.1 == slot) = some (i, b, fa, n)) (hdir : s.offline (s.dirAddr p slot) 16 = false)
    (hw : s.memStatus true fa n = none) (hr : s.memStatus false b n = none)
    (hdis : s.dirAddr p slot + 16 ≤ fa ∨ fa + n ≤ s.dirAddr p slot) : Answers (.spillCopyDone p slot true) s fun t =>
      memRead t.mem fa n = memRead s.mem b n ∧ t.dirEntry p slot = mkEntry fa true slSpilled (entryCkpt (s.dirEntry p slot)) n ∧
      (∀ e ∈ (t.part p).live, e.1 ≠ slot) ∧ (∀ e ∈ (t.part p).spills, e.1 ≠ slot) ∧
      ∀ c, (c < s.dirAddr p slot ∨ s.dirAddr p slot + 16 ≤ c) → (c < fa ∨ fa + n ≤ c) → memByte t.mem c = memByte s.mem c := by
  have hfa := State.offline_of_memStatus hw
  have hwf := memWrite_wf (memRead s.mem b n) fa hm.1
  have hmem := spilled_mem (b := b) (s.spillEntry p slot fa n) hdir hfa
  have hdirs (c : Nat) (hc : c < s.dirAddr p slot ∨ s.dirAddr p slot + 16 ≤ c) : memByte (s.spilled p slot b fa n (s.spillEntry p slot fa n)).mem c =
      memByte (memWrite s.mem fa (memRead s.mem b n)) c := by
    rw [hmem]
    exact memByte_memWrite_out _ hwf (by rwa [length_natLe])
  refine ⟨_, exec_spillCopyDone hp hfind hw hr, ?_, spilled_dirEntry (mkEntry_lt _ _ (by decide) _ _) hm hdir hfa, ?_, ?_, fun c hc hf => ?_⟩
  · have hread := memRead_memWrite (memRead s.mem b n) hm.1 fa
    rw [memRead_length] at hread
    refine Eq.trans (List.map_congr_left fun j hj => hdirs _ ?_) hread
    have hlt := List.mem_range.1 hj
    omega
  · rw [spilled_part]
    exact fun e he => by simpa using (List.mem_filter.1 he).2
  · rw [spilled_part]
    exact fun e he => by simpa using (List.mem_filter.1 he).2
  · rw [hdirs c hc]
    exact memByte_memWrite_out _ hm.1 (by rwa [memRead_length])

end

/-- Settles O57: a sample or a return of a stack, a patrol read, the far links and a spill copy that is done. -/
theorem stacksFollowTemperatureAndFarTierItsLinks : Obligations.StacksFollowTemperatureAndFarTierItsLinks := by
  unfold Obligations.StacksFollowTemperatureAndFarTierItsLinks
  refine ⟨fun s m rb errs tc lanes hm hp => ⟨fun hon ht => stackTempSample_below hm hp hon ht,
    fun hon ht hlt => stackTempSample_critical hm hp hon ht hlt, fun hoff hcrit hcool =>
      ⟨stackReturn_trained hm hp hoff hcrit hcool, stackReturn_untrained hm hp hoff hcrit hcool⟩, fun hon hreg hrb =>
      ⟨patrolRead_uncorrectable hm hp hon hreg hrb, patrolRead_corrected hm hp hon hreg hrb, patrolRead_clean hm hp hon hreg hrb⟩⟩,
    fun s fm q p slot poison hmem hfm => ⟨fun r hq hr hb hd hcolls => farTimeout_answers hfm hq hr hb hd hcolls,
      farLinkDown_answers hfm, farLinkTrained_answers hfm, fun i b fa n hp hfind hdir hw hr hdis =>
        spillCopyDone_answers hmem hp hfind hdir hw hr hdis⟩⟩

end Sys2Proof.Machine
end

section
/-! ### Link flits (R361 to R365) -/

namespace Sys2Proof.Machine

open Sys2Proof Sys2Proof.Safety

section
variable {s t : State} {n : Nat}

theorem speaks_congr (hparts : t.parts = s.parts) (htwin : t.twin = s.twin) (n : Nat) : t.speaks n = s.speaks n := by
  have howner : t.portOwner n = s.portOwner n := by rw [State.portOwner, State.portOwner, State.owner, State.owner, hparts]
  rw [State.speaks, State.speaks, howner, htwin]
  simp only [part_congr hparts]

/-- Counting changes no port. -/
theorem port_count (s : State) (kind d off lo k idx j : Nat) : (s.count kind d off lo k idx).port j = s.port j :=
  congrArg (tget Port.down · j) ((State.count_evolves s kind d off lo k idx).same .ports rfl)

/-! #### Sending what may be sent -/

/-- A port has sent: what it receives is as before, and nothing that was sent is taken back. -/
structure SentBy (n : Nat) (s t : State) : Prop where
  out : s.out <+: t.out
  st : (t.port n).st = (s.port n).st
  neighbour : (t.port n).neighbour = (s.port n).neighbour
  unavail : (t.port n).unavail = (s.port n).unavail
  rxSeq : (t.port n).rxSeq = (s.port n).rxSeq
  asked : (t.port n).asked = (s.port n).asked
  rxq : (t.port n).rxq = (s.port n).rxq
  freed : (t.port n).freed = (s.port n).freed
  other : ∀ j, j ≠ n → t.port j = s.port j

theorem SentBy.refl (n : Nat) (s : State) : SentBy n s s := ⟨List.prefix_rfl, rfl, rfl, rfl, rfl, rfl, rfl, rfl, fun _ _ => rfl⟩

theorem SentBy.trans {u : State} (h1 : SentBy n s t) (h2 : SentBy n t u) : SentBy n s u :=
  ⟨h1.out.trans h2.out, h2.st.trans h1.st, h2.neighbour.trans h1.neighbour,
    h2.unavail.trans h1.unavail, h2.rxSeq.trans h1.rxSeq, h2.asked.trans h1.asked, h2.rxq.trans h1.rxq,
    h2.freed.trans h1.freed, fun j hj => (h2.other j hj).trans (h1.other j hj)⟩

theorem sendFlit_sent (s : State) (n vc : Nat) : SentBy n s (s.sendFlit n vc) := by
  unfold State.sendFlit
  dsimp only
  split
  · exact .refl n s
  · have hport (x : Port) (o : Output) : ((s.setPort n x).emit o).port n = x := State.port_setPort ..
    refine ⟨List.prefix_append .., ?_, ?_, ?_, ?_, ?_, ?_, ?_, fun j hj => State.port_setPort_other _ _ _ _ hj⟩
    all_goals rw [hport]

theorem pumpLoop_sent (n : Nat) : ∀ (k : Nat) (s : State), SentBy n s (s.pumpLoop n k)
  | 0, s => .refl n s
  | k + 1, s => by
    unfold State.pumpLoop
    split
    · exact .refl n s
    · split
      · exact .refl n s
      · next vc _ => exact (sendFlit_sent s n vc).trans (pumpLoop_sent n k _)

theorem pumpPort_sent (s : State) (n : Nat) : SentBy n s (s.pumpPort n) := pumpLoop_sent n _ s

/-! #### Asking for a replay -/

theorem askReplay_first (hs : s.speaks n = true) (ha : (s.port n).asked = false) :
    (s.askReplay n).out = s.out ++ [.flit n ((s.port n).plainFlit 2)] ∧
      (s.askReplay n).port n = { s.port n with asked := true } := by
  have hask : s.askReplay n = (s.setPort n { s.port n with asked := true }).emit (.flit n ((s.port n).plainFlit 2)) :=
    if_neg (by simp [hs, ha])
  rw [hask]
  exact ⟨rfl, State.port_setPort ..⟩

theorem askReplay_again (ha : (s.port n).asked = true) : s.askReplay n = s := if_pos (by simp [ha])

/-! #### Resending -/

theorem emitAll_out {α : Type} (f : α → Output) : ∀ (l : List α) (s : State),
    (l.foldl (fun t e => t.emit (f e)) s).out = s.out ++ l.map f
  | [], s => by simp
  | e :: l, s => by
    have hout : (s.emit (f e)).out = s.out ++ [f e] := rfl
    rw [List.foldl_cons, emitAll_out f l, hout, List.map_cons, List.append_assoc, List.singleton_append]

/-- A replay sends everything that is unacknowledged. -/
theorem replayPort_resends (hlive : (s.port n).live = true) (hs : s.speaks n = true) (hr : (s.port n).replay ≠ [])
    (ht : (s.port n).tries < 8) : ∀ e ∈ (s.port n).replay, .flit n ((s.port n).restamp e.2.2) ∈ (s.replayPort n).out := by
  obtain ⟨u, hu⟩ : ∃ u, u = (s.setPort n { s.port n with tries := (s.port n).tries + 1 }).countPort n 0x20C 16 := ⟨_, rfl⟩
  have hport : u.port n = { s.port n with tries := (s.port n).tries + 1 } := by
    rw [hu]
    exact (port_count ..).trans (State.port_setPort ..)
  have hev : Evolves 65536 (s.setPort n { s.port n with tries := (s.port n).tries + 1 }) u := hu ▸ State.count_evolves ..
  have hspeaks : u.speaks n = true := (speaks_congr (hev.same .parts rfl) (hev.same .twin rfl) n).trans hs
  have hgo : s.replayPort n = u.resend n := by
    unfold State.replayPort
    dsimp only
    rw [hlive, if_neg (by simpa using hr), if_neg (by omega), hu]
  intro e he
  rw [hgo, State.resend, if_pos hspeaks, emitAll_out, hport]
  exact List.mem_append_right _ (List.mem_map.2 ⟨e, he, rfl⟩)

/-- After eight replays in a row the port trains again with its replay buffer kept. -/
theorem replayPort_retrains (hlive : (s.port n).live = true) (hr : (s.port n).replay ≠ []) (ht : 8 ≤ (s.port n).tries) :
    ((s.replayPort n).port n).st = 4 ∧ ((s.replayPort n).port n).replay = (s.port n).replay := by
  have hgo : s.replayPort n = s.portRetrain n := by
    unfold State.replayPort
    dsimp only
    rw [hlive, if_neg (by simpa using hr), if_pos ht]
  have hport : (s.portRetrain n).port n = { s.port n with
      st := 4
      tries := 0
      asked := false } := (port_count ..).trans (State.port_setPort ..)
  rw [hgo, hport]
  exact ⟨rfl, rfl⟩

theorem replayPort_empty (hr : (s.port n).replay = []) : s.replayPort n = s := if_pos (by simp [hr])

/-! #### Each command -/

section
variable (hn : n < 9) (hp : s.powered = true) (hlive : (s.port n).live = true)
include hn hp hlive

theorem exec_linkFlitReceive (f : List Byte) : exec (.linkFlitReceive n f none) s =
    .next (if flitOk f then (s.goodFlit n f).pumpPort n else s.askReplay n) := by
  have hgo : ¬ (!s.powered || !(s.port n).live) = true := by simp [hp, hlive]
  change execLinkFlitReceive n f none s = _
  simp only [execLinkFlitReceive, onPort, if_pos hn, if_neg hgo]
  split <;> rfl

theorem exec_linkFlitReceive_uncorrectable (f : List Byte) (k : Nat) : exec (.linkFlitReceive n f (some k)) s =
    .next ((s.count 2 (portHub n) 0x20C 0 k (portSel n)).askReplay n) := by
  have hgo : ¬ (!s.powered || !(s.port n).live) = true := by simp [hp, hlive]
  change execLinkFlitReceive n f (some k) s = _
  simp only [execLinkFlitReceive, onPort, if_pos hn, if_neg hgo]

omit hn hp hlive in
/-- A flit that is damaged is asked for once. -/
theorem asks_of_askReplay {c : Instr} {u : State} (hc : exec c s = .next (u.askReplay n)) (hs : s.speaks n = true)
    (hu : Evolves 65536 s u) :
    ((s.port n).asked = false → Answers c s fun t => t.out = s.out ++ [.flit n ((s.port n).plainFlit 2)] ∧
      t.port n = { s.port n with asked := true }) ∧
    ((s.port n).asked = true → Answers c s fun t => t.out = s.out ∧ t.port n = s.port n) := by
  have hport : u.port n = s.port n := congrArg (tget Port.down · n) (hu.same .ports rfl)
  have hspeaks : u.speaks n = true := (speaks_congr (hu.same .parts rfl) (hu.same .twin rfl) n).trans hs
  have hout : u.out = s.out := hu.same .out rfl
  refine ⟨fun ha => ⟨_, hc, ?_⟩, fun ha => ⟨_, hc, ?_⟩⟩
  · rw [← hport, ← hout]
    exact askReplay_first hspeaks (hport ▸ ha)
  · rw [askReplay_again (hport ▸ ha)]
    exact ⟨hout, hport⟩

/-- The port once a data flit in order has joined its packet. -/
theorem linkFlitReceive_accepts {f : List Byte} (hok : flitOk f = true) (hty : bits (field f 0 8) 0 4 = 1)
    (hseq : bits (field f 0 8) 8 12 = (s.port n).rxSeq) : Answers (.linkFlitReceive n f none) s fun t =>
      (t.port n).rxSeq = ((s.port n).rxSeq + 1) % 4096 ∧ (t.port n).asked = false ∧
      (bit (field f 0 8) 6 = true → bit (field f 0 8) 7 = true →
        (t.port n).rxq = (s.port n).rxq ++ [(bits (field f 0 8) 4 2, slice f 8 240)]) ∧
      (bit (field f 0 8) 6 = false → bit (field f 0 8) 7 = true → (t.port n).rxq =
        (s.port n).rxq ++ [(bits (field f 0 8) 4 2, ((s.port n).part (bits (field f 0 8) 4 2)).flatten ++ slice f 8 240)]) ∧
      (bit (field f 0 8) 7 = false → (t.port n).rxq = (s.port n).rxq) := by
  have hexec := exec_linkFlitReceive hn hp hlive f
  simp only [hok, if_true] at hexec
  generalize hw : field f 0 8 = w at *
  obtain ⟨y, hy⟩ : ∃ y, y = ((s.port n).acked (bits w 20 12)).credited (bits w 32 32) := ⟨_, rfl⟩
  have hrx : y.rxSeq = (s.port n).rxSeq := hy ▸ rfl
  have hgood : (s.goodFlit n f).port n = y.accept (bits w 4 2) (bit w 6) (bit w 7) (slice f 8 240) := by
    unfold State.goodFlit
    simp only [hw, hty, ← hy, if_true]
    rw [if_neg (by decide), if_pos (hseq.trans hrx.symm)]
    exact State.port_setPort ..
  have hsent := pumpPort_sent (s.goodFlit n f) n
  refine ⟨_, hexec, ?_⟩
  dsimp only
  rw [hsent.rxSeq, hsent.asked, hsent.rxq, hgood]
  have hpart : y.part = (s.port n).part := hy ▸ rfl
  have hrxq : y.rxq = (s.port n).rxq := hy ▸ rfl
  cases hsop : bit w 6 <;> cases heop : bit w 7 <;> simp [Port.accept, hrx, hpart, hrxq]

theorem replayRequest_exec (ack : Nat) : exec (.replayRequest n ack) s =
    .next (((s.setPort n ((s.port n).acked ack)).replayPort n).pumpPort n) := by
  change execReplayRequest n ack s = _
  rw [execReplayRequest, onPort, if_pos hn, if_neg (by simp [hlive])]

end

end

/-- Settles O55: a flit in order, a damaged one, and replays. -/
theorem linkFlitsArriveInOrder : Obligations.LinkFlitsArriveInOrder := by
  unfold Obligations.LinkFlitsArriveInOrder
  intro s n ack k f hn hp hlive hs
  dsimp only
  have hset : (s.setPort n ((s.port n).acked ack)).port n = (s.port n).acked ack := State.port_setPort ..
  have hreq := replayRequest_exec hn hp hlive ack
  have htime : exec (.replayTimeout n) s = .next (s.replayPort n) := if_pos hn
  refine ⟨linkFlitReceive_accepts hn hp hlive, fun hbad => ?_, ?_, fun hnil => ?_, fun hne ht => ⟨_, hreq, fun e he => ?_⟩,
    fun hne ht => ⟨_, htime, replayPort_resends hlive hs hne ht⟩, fun hne ht => ⟨_, htime, replayPort_retrains hlive hne ht⟩⟩
  · have hexec := exec_linkFlitReceive hn hp hlive f
    simp only [hbad, Bool.false_eq_true, if_false] at hexec
    exact asks_of_askReplay hexec hs .refl
  · exact asks_of_askReplay (exec_linkFlitReceive_uncorrectable hn hp hlive f k) hs (State.count_evolves ..)
  · rw [hreq, replayPort_empty (by rw [hset]; exact hnil)]
  · refine (pumpPort_sent _ n).out.subset ?_
    have hmem := replayPort_resends (s := s.setPort n ((s.port n).acked ack)) (n := n) (by rw [hset]; exact hlive)
      ((speaks_congr rfl rfl n).trans hs) (by rw [hset]; exact hne) (by rw [hset]; exact ht) e (by rw [hset]; exact he)
    rw [hset] at hmem
    exact hmem

end Sys2Proof.Machine
end

section
/-! ### Ports train, and packets are routed (R364 to R368, R535, R540) -/

namespace Sys2Proof.Machine

open Sys2Proof Sys2Proof.Safety

section
variable {s t : State} {n : Nat}

/-! #### What goes out by a port -/

theorem SentBy.of_ports (hout : s.out <+: t.out) (hports : t.ports = s.ports) : SentBy n s t := by
  have hport (j : Nat) : t.port j = s.port j := congrArg (tget Port.down · j) hports
  exact ⟨hout, by rw [hport], by rw [hport], by rw [hport], by rw [hport], by rw [hport], by rw [hport], by rw [hport],
    fun j _ => hport j⟩

theorem count_sent (s : State) (n kind d off lo k idx : Nat) : SentBy n s (s.count kind d off lo k idx) := by
  have hev := State.count_evolves s kind d off lo k idx
  exact .of_ports ((show s.out = _ from (hev.same .out rfl).symm) ▸ List.prefix_rfl) (hev.same .ports rfl)

theorem resend_sent (s : State) (n : Nat) : SentBy n s (s.resend n) := by
  unfold State.resend
  split
  · refine .of_ports ?_ ((show Evolves 2 s _ from .foldl .refl fun v a => State.emit_evolves ..).same .ports rfl)
    rw [emitAll_out]
    exact List.prefix_append ..
  · exact .refl n s

theorem setPort_txq_sent (s : State) (n : Nat) (q : List TxFlit) : SentBy n s (s.setPort n { s.port n with txq := q }) := by
  refine ⟨List.prefix_rfl, ?_, ?_, ?_, ?_, ?_, ?_, ?_, fun j hj => State.port_setPort_other _ _ _ _ hj⟩
  all_goals rw [State.port_setPort]

theorem sendOn_sent (s : State) (n vc i : Nat) (stage : FlitStage) (bs : List Byte) : SentBy n s (s.sendOn n vc i stage bs) :=
  (setPort_txq_sent s n _).trans (pumpPort_sent _ n)

theorem twinSend_sent (s : State) (kind vc tag : Nat) (msg : List Byte) : SentBy portT s (s.twinSend kind vc tag msg) := by
  have hchunks (l : List (List Byte × Nat)) : ∀ u : State, SentBy portT u (l.foldl (fun t e =>
      t.sendOn portT vc ownInput none (s.twinPacket kind vc tag (4096 * e.2, e.1)).bytes) u) := by
    induction l with
    | nil => exact fun u => .refl portT u
    | cons e l ih => exact fun u => (sendOn_sent ..).trans (ih _)
  unfold State.twinSend
  split
  · exact .refl portT s
  · split
    · exact count_sent s portT 2 (portHub portT) 0x210 0 1 (portSel portT)
    · exact hchunks _ s

theorem seekTwin_sent (s : State) : SentBy portT s s.seekTwin := by
  unfold State.seekTwin
  split
  · exact .refl portT s
  · dsimp only
    split
    · exact .refl portT s
    · exact SentBy.trans (t := { s with
        free := s.free + 4
        twin := { s.twin with
          st := .pairing, from_ := s.twin.st, progress := 0, nonceOwn := s.nonce, noncePeer := [], peerChains := ([], []),
          detaching := false } }) (.of_ports List.prefix_rfl rfl) (twinSend_sent ..)

/-- A port that is up sends again what is unacknowledged and then what waits; at port T the twin seeks its peer. -/
theorem up_sent (s : State) (n : Nat) :
    SentBy n s (if n = portT then ((s.resend n).pumpPort n).seekTwin else (s.resend n).pumpPort n) := by
  have hpump := (resend_sent s n).trans (pumpPort_sent _ n)
  split
  · next hn =>
    subst hn
    exact hpump.trans (seekTwin_sent _)
  · exact hpump

/-! #### Training (R365) -/

section
variable {r : TrainResult} (hn : n < 9) (hst : (s.port n).st = 1 ∨ (s.port n).st = 4)
include hn hst

theorem trainComplete_up (h8 : 8 ≤ r.lanes) : Answers (.trainComplete n r) s fun t =>
    (t.port n).st = 2 ∧ (t.port n).neighbour = r.neighbour % 4096 := by
  have hexec : exec (.trainComplete n r) s = execTrainComplete n r s := rfl
  have hgo : ((s.port n).st != 1 && (s.port n).st != 4) = false := by rcases hst with h | h <;> simp [h]
  simp only [execTrainComplete, onPort, if_pos hn, hgo, Bool.false_eq_true, if_false, if_pos h8] at hexec
  have hup := up_sent (s.trained n 2 r) n
  have hport : (s.trained n 2 r).port n = _ := State.port_setPort s n _
  refine ⟨_, hexec, hup.st.trans ?_, hup.neighbour.trans ?_⟩
  · rw [hport]
  · rw [hport]

theorem trainComplete_degraded (h4 : r.lanes = 4) (hx : s.portX4 n = true) :
    Answers (.trainComplete n r) s fun t => (t.port n).st = 3 := by
  have hexec : exec (.trainComplete n r) s = execTrainComplete n r s := rfl
  have hgo : ((s.port n).st != 1 && (s.port n).st != 4) = false := by rcases hst with h | h <;> simp [h]
  simp only [execTrainComplete, onPort, if_pos hn, hgo, Bool.false_eq_true, if_false, if_neg (show ¬ 8 ≤ r.lanes by omega), h4, hx,
    decide_true, Bool.and_self, if_true] at hexec
  have hup := up_sent ((s.trained n 3 r).portEvent n evLinkDegraded) n
  have hport : ((s.trained n 3 r).portEvent n evLinkDegraded).port n = _ :=
    (congrArg (tget Port.down · n) ((State.portEvent_evolves ..).same .ports rfl)).trans (State.port_setPort s n _)
  refine ⟨_, hexec, hup.st.trans ?_⟩
  rw [hport]

theorem trainComplete_fails (h8 : r.lanes < 8) (h4 : r.lanes ≠ 4 ∨ s.portX4 n = false) :
    exec (.trainComplete n r) s = .next s := by
  change execTrainComplete n r s = _
  have hgo : ((s.port n).st != 1 && (s.port n).st != 4) = false := by rcases hst with h | h <;> simp [h]
  have hno : (r.lanes = 4 && s.portX4 n) = false := by rcases h4 with h | h <;> simp [h]
  simp only [execTrainComplete, onPort, if_pos hn, hgo, Bool.false_eq_true, if_false, if_neg (show ¬ 8 ≤ r.lanes by omega), hno]

end

/-- What a port that goes down is left as. -/
theorem portDown_spec (s : State) (n : Nat) (signal : Bool) :
    ((s.portDown n signal).port n).st = (if signal && s.portEn n then 1 else 0) ∧ ((s.portDown n signal).port n).signal = signal ∧
      ((s.portDown n signal).port n).replay = [] ∧ ((s.portDown n signal).port n).rxq = [] := by
  obtain ⟨x, hx⟩ : ∃ x, x = { Port.down with
    signal := signal
    neighbour := (s.port n).neighbour
    nport := (s.port n).nport
    foreign := (s.port n).foreign } := ⟨_, rfl⟩
  have hevent : ((s.setPort n x).portEvent n evLinkDown).port n = x :=
    (congrArg (tget Port.down · n) ((State.portEvent_evolves ..).same .ports rfl)).trans (State.port_setPort s n x)
  obtain ⟨u, hu⟩ : ∃ u, u = if n = portT then ((s.setPort n x).portEvent n evLinkDown).twinLost 1
    else (s.setPort n x).portEvent n evLinkDown := ⟨_, rfl⟩
  have hport : u.port n = x := by
    rw [hu]
    split
    · exact (congrArg (tget Port.down · n) ((State.twinLost_evolves ..).same .ports rfl)).trans hevent
    · exact hevent
  have hdown : s.portDown n signal = if signal && s.portEn n then u.setPort n { u.port n with st := 1 } else u := by
    rw [hu, hx]
    rfl
  rw [hdown]
  split
  · rw [State.port_setPort, hport, hx]
    exact ⟨rfl, rfl, rfl, rfl⟩
  · rw [hport, hx]
    exact ⟨rfl, rfl, rfl, rfl⟩

theorem signalPresent_trains (hn : n < 9) (hp : s.powered = true) (hst : (s.port n).st = 0) (hen : s.portEn n = true) :
    Answers (.signalPresent n) s fun t => t.port n = { s.port n with
      signal := true
      st := 1 } := by
  have hexec : exec (.signalPresent n) s = execSignalPresent n s := rfl
  simp only [execSignalPresent, onPort, if_pos hn, hp, hst, hen, Bool.not_true, Bool.false_eq_true, if_false, decide_true,
    Bool.and_self, if_true] at hexec
  exact ⟨_, hexec, State.port_setPort ..⟩

theorem trainTimeout_downs (hn : n < 9) (hst : (s.port n).st = 1 ∨ (s.port n).st = 4) : Answers (.trainTimeout n) s fun t =>
    (t.port n).st = (if (s.port n).signal && s.portEn n then 1 else 0) ∧ (t.port n).replay = [] ∧ (t.port n).rxq = [] := by
  have hexec : exec (.trainTimeout n) s = execTrainTimeout n s := rfl
  have hgo : ((s.port n).st = 1 || (s.port n).st = 4) = true := by rcases hst with h | h <;> simp [h]
  simp only [execTrainTimeout, onPort, if_pos hn, hgo, if_true] at hexec
  obtain ⟨hst', _, hreplay, hrxq⟩ := portDown_spec s n (s.port n).signal
  exact ⟨_, hexec, hst', hreplay, hrxq⟩

theorem linkSignalLoss_downs (hn : n < 9) (hst : (s.port n).st ≠ 0) : Answers (.linkSignalLoss n) s fun t =>
    (t.port n).st = 0 ∧ (t.port n).signal = false ∧ (t.port n).replay = [] := by
  have hexec : exec (.linkSignalLoss n) s = execLinkSignalLoss n s := rfl
  simp only [execLinkSignalLoss, onPort, if_pos hn, if_neg hst] at hexec
  obtain ⟨hst', hsignal, hreplay, _⟩ := portDown_spec s n false
  exact ⟨_, hexec, hst', hsignal, hreplay⟩

/-! #### A packet that was received (R366 to R368) -/

/-- A port gives up the oldest packet that it has received, and its buffers are free again. -/
def State.takeRx (s : State) (n vc : Nat) (bs : List Byte) (rest : List (Nat × List Byte)) : State :=
  s.setPort n { s.port n with
    rxq := rest
    freed := (s.port n).freed.set vc ((s.port n).freed.getD vc 0 + ceilDiv bs.length 240) }

section
variable {vc p : Nat} {bs : List Byte} {rest : List (Nat × List Byte)}

theorem exec_packetReceive (hn : n < 9) (hrx : (s.port n).rxq = (vc, bs) :: rest) (hp : s.portOwner n = some p)
    (hserve : (s.part p).inService = true) :
    exec (.packetReceive n) s = .next ((s.takeRx n vc bs rest).routePacket n p vc bs) := by
  change execPacketReceive n s = _
  simp only [execPacketReceive, onPort, if_pos hn, hrx, hp, hserve, if_true]
  rfl

theorem takeRx_port (s : State) (n vc : Nat) (bs : List Byte) (rest : List (Nat × List Byte)) :
    (s.takeRx n vc bs rest).port n = { s.port n with
      rxq := rest
      freed := (s.port n).freed.set vc ((s.port n).freed.getD vc 0 + ceilDiv bs.length 240) } := State.port_setPort ..

theorem takeRx_st (s : State) (n vc : Nat) (bs : List Byte) (rest : List (Nat × List Byte)) (j : Nat) :
    ((s.takeRx n vc bs rest).port j).st = (s.port j).st ∧ ((s.takeRx n vc bs rest).port j).unavail = (s.port j).unavail ∧
      ((s.takeRx n vc bs rest).port j).txq = (s.port j).txq := by
  by_cases h : j = n
  · subst h
    rw [takeRx_port]
    exact ⟨rfl, rfl, rfl⟩
  · rw [State.takeRx, State.port_setPort_other _ _ _ _ h]
    exact ⟨rfl, rfl, rfl⟩

/-- Routing does not look at what a port has received. -/
theorem takeRx_hopOf (s : State) (n vc : Nat) (bs : List Byte) (rest : List (Nat × List Byte)) (p dst dstPart hops : Nat) :
    (s.takeRx n vc bs rest).hopOf p dst dstPart hops = s.hopOf p dst dstPart hops := by
  have hst (j : Nat) := (takeRx_st s n vc bs rest j).1
  have hun (j : Nat) := (takeRx_st s n vc bs rest j).2.1
  have hend : (s.takeRx n vc bs rest).endpoint = s.endpoint := rfl
  have hroutes : (s.takeRx n vc bs rest).routes = s.routes := rfl
  have hpart : (s.takeRx n vc bs rest).part p = s.part p := rfl
  unfold State.hopOf
  rw [hend, hroutes, hpart]
  simp only [hst, hun]

/-- What the port is left as when its oldest packet has been taken. -/
structure TookRx (n vc : Nat) (bs : List Byte) (rest : List (Nat × List Byte)) (s t : State) : Prop where
  rxq : (t.port n).rxq = rest
  freed : (t.port n).freed.getD vc 0 = (s.port n).freed.getD vc 0 + ceilDiv bs.length 240

theorem takeRx_took (hvc : vc < 4) (hlen : (s.port n).freed.length = 4) (hrxq : (t.port n).rxq = ((s.takeRx n vc bs rest).port n).rxq)
    (hfreed : (t.port n).freed = ((s.takeRx n vc bs rest).port n).freed) : TookRx n vc bs rest s t := by
  have hlt : vc < (s.port n).freed.length := by omega
  refine ⟨hrxq.trans (by rw [takeRx_port]), ?_⟩
  rw [hfreed, takeRx_port]
  simp [List.getD_eq_getElem?_getD, List.getElem?_set, hlt]

/-- A packet that is dropped is counted at the port, and no partition sees it. -/
theorem countPort_drops (hvc : vc < 4) (hlen : (s.port n).freed.length = 4) (lo : Nat) :
    TookRx n vc bs rest s ((s.takeRx n vc bs rest).countPort n 0x210 lo) ∧
      (((s.takeRx n vc bs rest).countPort n 0x210 lo).counter (counterKey 2 (portHub n) 0x210 lo (portSel n))).owner =
        (s.counter (counterKey 2 (portHub n) 0x210 lo (portSel n))).owner + 1 ∧
      ((s.takeRx n vc bs rest).countPort n 0x210 lo).parts = s.parts := by
  have hev := State.count_evolves (s.takeRx n vc bs rest) 2 (portHub n) 0x210 lo 1 (portSel n)
  have hsent := count_sent (s.takeRx n vc bs rest) n 2 (portHub n) 0x210 lo 1 (portSel n)
  refine ⟨takeRx_took hvc hlen hsent.rxq hsent.freed, ?_, hev.same .parts rfl⟩
  have hcount : ((s.takeRx n vc bs rest).countPort n 0x210 lo).counter (counterKey 2 (portHub n) 0x210 lo (portSel n)) =
      ((s.takeRx n vc bs rest).counter (counterKey 2 (portHub n) 0x210 lo (portSel n))).add s.ltime 1 := tget_tput_self ..
  rw [hcount]
  rfl

/-! What `State.routePacket` does in each case. -/

theorem routePacket_foreign (h : s.domain = 0 ∨ field bs 0 2 ≠ s.domain) :
    s.routePacket n p vc bs = s.countPort n 0x210 0 := if_pos (by simpa using h)

section
variable (hdom : s.domain ≠ 0) (hown : field bs 0 2 = s.domain)
include hdom hown

theorem routePacket_unparsed (hparse : parsePacket vc bs = none) : s.routePacket n p vc bs = s.countPort n 0x210 16 := by
  simp only [State.routePacket, hown, hdom, decide_false, bne_self_eq_false, Bool.or_self, Bool.false_eq_true, if_false, hparse]
  rfl

variable {k : Packet} (hparse : parsePacket vc bs = some k) (hport : n ≠ portT)
include hparse hport

theorem routePacket_drop (hhop : s.hopOf p k.dst k.dstPart k.hops = .drop) :
    s.routePacket n p vc bs = s.countPort n 0x210 16 := by
  simp only [State.routePacket, hown, hdom, decide_false, bne_self_eq_false, Bool.or_self, Bool.false_eq_true, if_false, hparse,
    if_neg hport, hhop]
  rfl

theorem routePacket_unavailable (hhop : s.hopOf p k.dst k.dstPart k.hops = .unavailable) (hk : 2 ≤ k.kind) :
    s.routePacket n p vc bs = s.countPort n 0x210 16 := by
  simp only [State.routePacket, hown, hdom, decide_false, bne_self_eq_false, Bool.or_self, Bool.false_eq_true, if_false, hparse,
    if_neg hport, hhop, State.returnAbort, if_neg (show ¬ k.kind ≤ 1 by omega)]
  rfl

theorem routePacket_deliver (hhop : s.hopOf p k.dst k.dstPart k.hops = .deliver) (hk : k.kind = 0) :
    s.routePacket n p vc bs = s.modPart p fun x => { x with
      delivered := x.delivered ++ [k] } := by
  simp only [State.routePacket, hown, hdom, decide_false, bne_self_eq_false, Bool.or_self, Bool.false_eq_true, if_false, hparse,
    if_neg hport, hhop, State.deliverPacket, if_pos hk]

theorem routePacket_out {m : Nat} (hhop : s.hopOf p k.dst k.dstPart k.hops = .out m) :
    s.routePacket n p vc bs = s.sendOn m vc n none { k with hops := k.hops - 1 }.bytes := by
  simp only [State.routePacket, hown, hdom, decide_false, bne_self_eq_false, Bool.or_self, Bool.false_eq_true, if_false, hparse,
    if_neg hport, hhop]

end

/-- Over a port that carries no traffic nothing leaves. -/
theorem pumpPort_down (hlive : (s.port n).live = false) : s.pumpPort n = s := by
  unfold State.pumpPort
  cases (s.port n).txq.length with
  | zero => rfl
  | succ k => simp [State.pumpLoop, hlive]

/-- A packet that goes on by a port that carries no traffic waits there. -/
theorem sendOn_waits {i : Nat} {stage : FlitStage} (hlive : (s.port n).live = false) :
    (s.sendOn n vc i stage bs).port n = { s.port n with txq := (s.port n).txq ++ packetFlits vc i stage bs } := by
  have hset := State.port_setPort s n { s.port n with txq := (s.port n).txq ++ packetFlits vc i stage bs }
  have hdown : ((s.setPort n { s.port n with txq := (s.port n).txq ++ packetFlits vc i stage bs }).port n).live = false := by
    rw [hset]
    exact hlive
  unfold State.sendOn
  dsimp only
  rw [pumpPort_down hdown, hset]

end

end

/-- Settles O56: training, loss of the signal, and the routing of a received packet. -/
theorem portsTrainAndPacketsAreRouted : Obligations.PortsTrainAndPacketsAreRouted := by
  unfold Obligations.PortsTrainAndPacketsAreRouted
  intro s n r hn hp
  refine ⟨fun hst hen => signalPresent_trains hn hp hst hen, fun hst => ⟨trainComplete_up hn hst, trainComplete_degraded hn hst,
    trainComplete_fails hn hst, trainTimeout_downs hn hst⟩, linkSignalLoss_downs hn, fun vc bs rest p hrx hvc hlen hpo hserve => ?_⟩
  have hexec := exec_packetReceive hn hrx hpo hserve
  have hdrop (lo : Nat) (h : (s.takeRx n vc bs rest).routePacket n p vc bs = (s.takeRx n vc bs rest).countPort n 0x210 lo) :
      Answers (.packetReceive n) s fun t => ((t.port n).rxq = rest ∧
        (t.port n).freed.getD vc 0 = (s.port n).freed.getD vc 0 + ceilDiv bs.length 240) ∧
        (t.counter (counterKey 2 (portHub n) 0x210 lo (portSel n))).owner =
          (s.counter (counterKey 2 (portHub n) 0x210 lo (portSel n))).owner + 1 ∧ t.parts = s.parts := by
    obtain ⟨⟨hrxq, hfreed⟩, hcount, hparts⟩ := countPort_drops (bs := bs) (rest := rest) hvc hlen lo
    exact ⟨_, hexec.trans (congrArg _ h), ⟨hrxq, hfreed⟩, hcount, hparts⟩
  have hhop (dst dstPart hops : Nat) := takeRx_hopOf s n vc bs rest p dst dstPart hops
  refine ⟨fun h => hdrop 0 (routePacket_foreign h), fun hdom hown hparse => hdrop 16 (routePacket_unparsed hdom hown hparse),
    fun k hdom hown hparse h8 => ⟨fun h => hdrop 16 (routePacket_drop hdom hown hparse h8 ((hhop ..).trans h)),
      fun h hk => hdrop 16 (routePacket_unavailable hdom hown hparse h8 ((hhop ..).trans h) hk), fun h hk => ?_, fun m h hlive => ?_⟩⟩
  · have hroute := routePacket_deliver (s := s.takeRx n vc bs rest) (n := n) hdom hown hparse h8 ((hhop ..).trans h) hk
    obtain ⟨hrxq, hfreed⟩ := takeRx_took (t := (s.takeRx n vc bs rest).modPart p fun x => { x with
      delivered := x.delivered ++ [k] }) hvc hlen rfl rfl
    exact ⟨_, hexec.trans (congrArg _ hroute), ⟨hrxq, hfreed⟩, congrArg Part.delivered (State.part_setPart ..)⟩
  · have hroute := routePacket_out (s := s.takeRx n vc bs rest) (n := n) hdom hown hparse h8 ((hhop ..).trans h)
    obtain ⟨hst, _, htxq⟩ := takeRx_st s n vc bs rest m
    have hlive' : ((s.takeRx n vc bs rest).port m).live = false := by
      rw [Port.live, hst]
      exact hlive
    refine ⟨_, hexec.trans (congrArg _ hroute), ?_, ?_⟩
    · have hother : m ≠ n → ((s.takeRx n vc bs rest).sendOn m vc n none { k with hops := k.hops - 1 }.bytes).port n =
          (s.takeRx n vc bs rest).port n := fun hm => (sendOn_sent ..).other n hm.symm
      by_cases hm : m = n
      · subst hm
        have hsent := sendOn_sent (s.takeRx m vc bs rest) m vc m none { k with hops := k.hops - 1 }.bytes
        obtain ⟨hrxq, hfreed⟩ := takeRx_took hvc hlen hsent.rxq hsent.freed
        exact ⟨hrxq, hfreed⟩
      · obtain ⟨hrxq, hfreed⟩ := takeRx_took hvc hlen (congrArg Port.rxq (hother hm)) (congrArg Port.freed (hother hm))
        exact ⟨hrxq, hfreed⟩
    · rw [sendOn_waits hlive', htxq]

end Sys2Proof.Machine
end

section
/-! ### SNAPSHOT and RESTORE (R344 to R346) -/

namespace Sys2Proof.Machine

open Sys2Proof Sys2Proof.Safety

/-! #### A partition that is changed keeps its quadrants -/

/-- A put that changes nothing the search looks at finds what it found. -/
theorem find_tput {α : Type} {P : Nat × α → Bool} {i : Nat} {w : α} : ∀ {m : SMap α},
    (∀ v, tfind m i = some v → P (i, w) = P (i, v)) → (tfind m i = none → P (i, w) = false) →
      ((tput m i w).find? P).map (·.1) = (m.find? P).map (·.1)
  | [], _, h => by
    rw [tput, List.find?_cons, h rfl]
  | (k, v) :: m, hs, hn => by
    unfold tput
    split
    · next e =>
      subst e
      have hp := hs v (by simp [tfind])
      rw [List.find?_cons, List.find?_cons, hp]
      split <;> rfl
    · next hne =>
      split
      · next hlt =>
        have hp := hn (by rw [tfind, if_neg hne, if_pos hlt])
        rw [List.find?_cons, hp]
      · next hge =>
        have htail : tfind ((k, v) :: m) i = tfind m i := by rw [tfind, if_neg hne, if_neg hge]
        have ih := find_tput (P := P) (w := w) (m := m) (fun v hv => hs v (htail.trans hv)) fun hv => hn (htail.trans hv)
        rw [List.find?_cons, List.find?_cons]
        split
        · rfl
        · exact ih

/-- A change of a partition that keeps its state and quadrants leaves every hub with its owner. -/
theorem queuePart_modPart (s : State) (p : Nat) {f : Part → Part} (hst : ∀ x, (f x).st = x.st) (hq : ∀ x, (f x).quads = x.quads)
    (q : Nat) : (s.modPart p f).queuePart q = s.queuePart q := by
  have hfind : (((s.modPart p f).parts).find? fun e => e.2.st != .absent && e.2.quads.contains (queueHub q)).map (·.1) =
      (s.parts.find? fun e => e.2.st != .absent && e.2.quads.contains (queueHub q)).map (·.1) := by
    refine find_tput (fun v hv => ?_) fun hv => ?_
    · have hpart : s.part p = v := by rw [State.part, tget, hv]; rfl
      dsimp only
      rw [hst, hq, hpart]
    · have hpart : s.part p = Part.absent := by rw [State.part, tget, hv]; rfl
      dsimp only
      rw [hst, hpart]
      rfl
  rw [State.queuePart, State.queuePart, State.ownerD, State.ownerD, State.owner, State.owner, hfind]

/-! #### How long a snapshot is -/

theorem length_round {x : ShaState} (k : Nat) (h : x.work.length = 8) : (x.round k).work.length = 8 := by
  simp only [ShaState.round, List.length_cons, List.length_append, List.length_take, List.length_drop, h]
  rfl

theorem length_shaBlock (ks : List Nat) {hash : List Nat} (blk : List Byte) (h : hash.length = 8) :
    (shaBlock ks hash blk).length = 8 := by
  have hrounds : ∀ (l : List Nat) (x : ShaState), x.work.length = 8 → (l.foldl ShaState.round x).work.length = 8 := by
    intro l
    induction l with
    | nil => exact fun _ hx => hx
    | cons k l ih => exact fun x hx => ih _ (length_round k hx)
  unfold shaBlock
  dsimp only
  rw [List.length_zipWith, h, hrounds ks _ (by exact h), Nat.min_self]

theorem length_sha512 (m : List Byte) : (sha512 m).length = 64 := by
  have hblocks (ks : List Nat) : ∀ (l : List (List Byte)) (hash : List Nat), hash.length = 8 →
      (l.foldl (shaBlock ks) hash).length = 8 := by
    intro l
    induction l with
    | nil => exact fun _ h => h
    | cons b l ih => exact fun hash h => ih _ (length_shaBlock ks b h)
  have hprimes : (primes 8).length = 8 := by decide
  unfold sha512
  dsimp only
  rw [length_flatMap_of_length (k := 8) fun x => by rw [List.length_reverse, length_natLe],
    hblocks _ _ _ (by rw [List.length_map, hprimes])]

theorem length_sectionOffs (state : Bool) : ∀ (l : List (Nat × Group)) (o : Nat), (sectionOffs state o l).length = l.length
  | [], _ => rfl
  | (k, g) :: l, o => by rw [sectionOffs, List.length_cons, length_sectionOffs state l, List.length_cons]

theorem length_sectionBytes (s : State) (state : Bool) (g : List Byte) :
    (s.sectionBytes state g).length = sectionLen state (gCount g) := by
  rw [State.sectionBytes, List.length_append, memRead_length, length_flatMap_of_length fun i => memRead_length _ _ _, List.length_range,
    sectionLen]

/-- A snapshot is as long as its partition's groups say. -/
theorem length_image (s : State) (p : Nat) (state : Bool) (ms : Nat) : (s.image p state ms).length = (s.part p).imageLen state := by
  have hdir : (((s.part p).sections state).flatMap (dirBytes state)).length = 64 * (s.part p).owned.length := by
    rw [length_flatMap_of_length (k := 64) fun e => by rw [dirBytes, length_block (by simp)], Part.sections, length_sectionOffs, Nat.mul_comm]
  have hbody : ((s.part p).owned.flatMap fun e => s.sectionBytes state e.2.record).length =
      ((s.part p).owned.map fun e => sectionLen state (gCount e.2.record)).sum := by
    rw [List.length_flatMap]
    simp only [length_sectionBytes]
  simp only [State.image, List.length_append, length_sha512, hdir, hbody, Part.imageLen]
  rw [length_block (by simp)]

/-! #### SNAPSHOT (R344) -/

section
variable {s t : State} {q : Nat} {ok : Bool} {r : Running} {pl : Place} {e : Reader}

/-- What a snapshot shows depends on memory, registers and the partition's groups alone. -/
theorem image_congr (hmem : t.mem = s.mem) (hregs : t.regs = s.regs) {p : Nat} (hgroups : (t.part p).groups = (s.part p).groups)
    (state : Bool) (ms : Nat) : t.image p state ms = s.image p state ms := by
  have howned : (t.part p).owned = (s.part p).owned := by rw [Part.owned, Part.owned, hgroups]
  have hlen : (t.part p).imageLen state = (s.part p).imageLen state := by rw [Part.imageLen, Part.imageLen, howned]
  have hsec : (t.part p).sections state = (s.part p).sections state := by rw [Part.sections, Part.sections, howned]
  have hbytes (g : List Byte) : t.sectionBytes state g = s.sectionBytes state g := by rw [State.sectionBytes, State.sectionBytes, hmem]
  have hreg (lo : Nat) : t.regf 2 0 0x220 lo 16 = s.regf 2 0 0x220 lo 16 := by
    rw [State.regf, State.regf, State.reg, State.reg, hregs]
  have hreg' (lo : Nat) : t.regf 2 0 0x220 lo 12 = s.regf 2 0 0x220 lo 12 := by
    rw [State.regf, State.regf, State.reg, State.reg, hregs]
  simp only [State.image, howned, hlen, hsec, hbytes, hreg, hreg']

/-- The image is written once its range and its accesses pass. -/
theorem takeSnapshot_run {d : List Byte} {ms n p : Nat} (hp : s.queuePart q = p) (hN : (s.part p).imageLen (dFlag d 0) = n)
    (hn : n ≤ field d 32 8) (hpl : (s.part p).reach 5 (field d 24 8) n = some pl)
    (hacc : s.badAccess ((s.part p).imageAccess ++ [(true, pl, n)]) = none) (hok : pl.isHost = true → ok = true) :
    s.takeSnapshot q d ok ms = ((s.countReads ((s.part p).imageAccess ++ [(true, pl, n)])).writeAt p pl
      (s.image p (dFlag d 0) ms)).finish q stOk (block 16 [(0, 8, ms), (8, 8, n)]) := by
  have hhost : (pl.isHost && !ok) = false := by
    cases h : pl.isHost with
    | false => rfl
    | true => rw [hok h]; rfl
  have himage := image_congr (State.countReads_mem s ((s.part p).imageAccess ++ [(true, pl, n)]))
    ((State.countReads_evolves ..).same .regs rfl) (p := p) (by rw [State.countReads_part]) (dFlag d 0) ms
  unfold State.takeSnapshot
  simp only [hp, hN, if_neg (show ¬ field d 32 8 < n by omega), hpl, State.access_of_pass hacc, hhost, Bool.false_eq_true, if_false,
    himage]

/-- The blocks that a queue's SNAPSHOT held are let go. -/
def State.letGo (s : State) (q : Nat) : State := s.modPart (s.queuePart q) fun x => { x with
  readers := x.readers.filter fun e => e.owner != q }

theorem letGo_part (s : State) (q : Nat) : (s.letGo q).part (s.queuePart q) = { s.part (s.queuePart q) with
    readers := (s.part (s.queuePart q)).readers.filter fun e => e.owner != q } := State.part_setPart ..

theorem letGo_queuePart (s : State) (q : Nat) : (s.letGo q).queuePart q = s.queuePart q :=
  queuePart_modPart s (s.queuePart q) (f := fun x => { x with
    readers := x.readers.filter fun e => e.owner != q }) (fun _ => rfl) (fun _ => rfl) q

section
variable (hm : MemoryOk s) (hrun : Runs s q 0x38 r)
  (he : (s.part (s.queuePart q)).readers.find? (fun f => f.owner == q) = some e)
  (hearly : s.earlier (s.queuePart q) 0x39 r.work.gen (fun _ => true) = false)
  (hn : (s.part (s.queuePart q)).imageLen (dFlag r.desc 0) ≤ field r.desc 32 8)
  (hpl : (s.part (s.queuePart q)).reach 5 (field r.desc 24 8) ((s.part (s.queuePart q)).imageLen (dFlag r.desc 0)) = some pl)
  (hacc : s.badAccess ((s.part (s.queuePart q)).imageAccess ++
    [(true, pl, (s.part (s.queuePart q)).imageLen (dFlag r.desc 0))]) = none)
  (hok : pl.isHost = true → ok = true)
include hm hrun he hearly hn hpl hacc hok

/-- A SNAPSHOT whose blocks are held writes the image, lets the blocks go and finishes. -/
theorem readSnapshot_spec : Finished (s.readSnapshot q r ok) q stOk (block 16 [(0, 8, e.milestone),
      (8, 8, (s.part (s.queuePart q)).imageLen (dFlag r.desc 0))]) ∧
    Wrote s (s.readSnapshot q r ok) (s.queuePart q) pl (s.image (s.queuePart q) (dFlag r.desc 0) e.milestone) ∧
    ∀ f ∈ ((s.readSnapshot q r ok).part (s.queuePart q)).readers, f.owner ≠ q := by
  obtain ⟨hrunning, _, hdone, _⟩ := runningOp_some hrun.2
  have hpart := letGo_part s q
  generalize hN : (s.part (s.queuePart q)).imageLen (dFlag r.desc 0) = n at *
  have hlen := length_image s (s.queuePart q) (dFlag r.desc 0) e.milestone
  have himage := image_congr (s := s) (t := s.letGo q) rfl rfl (p := s.queuePart q) (by rw [hpart]) (dFlag r.desc 0) e.milestone
  have hread : s.readSnapshot q r ok = (s.letGo q).takeSnapshot q r.desc ok e.milestone := by
    simp only [State.readSnapshot, hearly, Bool.false_eq_true, if_false, he]
    rfl
  have htake := takeSnapshot_run (s := s.letGo q) (ms := e.milestone) (letGo_queuePart s q) (n := n) (d := r.desc)
    (by rw [hpart]; exact hN) hn (by rw [hpart]; exact hpl) (by rw [hpart]; exact hacc) hok
  rw [himage] at htake
  generalize s.image (s.queuePart q) (dFlag r.desc 0) e.milestone = bs at htake hlen ⊢
  rw [hread, htake]
  generalize hu : (s.letGo q).countReads _ = u
  have hsame : Untouched s u := hu ▸ untouched_trans (t := s.letGo q) ⟨rfl, rfl, rfl⟩ (untouched_countReads ..)
  have hhbm : u.hbm = s.hbm := hu ▸ (State.countReads_evolves ..).same .hbm rfl
  have hqueues : (u.writeAt (s.queuePart q) pl bs).queues = s.queues :=
    (State.writeAt_queues ..).trans (hu ▸ (State.countReads_evolves ..).same .queues rfl)
  refine ⟨finished_finish ((congrArg SubQ.running (queue_congr hqueues q)).trans hrunning) hdone,
    wrote_congr (State.wrote_writeAt (memoryOk_of_untouched hsame hm) _ fun a ha => ?_) (untouched_symm hsame) (untouched_finish ..), ?_⟩
  · subst ha
    rw [offline_congr hhbm, hlen, hN]
    exact State.offline_of_badAccess hacc (List.mem_append_right _ (List.mem_singleton.2 rfl))
  · rw [State.finish_part, part_congr ((State.writeAt_evolves ..).same .parts rfl), ← hu, State.countReads_part, hpart]
    exact fun f hf => by simpa using (List.mem_filter.1 hf).2

end

theorem exec_snapshot (hrun : Runs s q 0x38 r) : exec (.snapshot q ok) s =
    .next (if r.work.deferred then s else s.readSnapshot q r ok) := by
  change execSnapshot q ok s = _
  simp only [execSnapshot, onRunning, onQueue, if_pos hrun.1, hrun.2]

theorem exec_snapshotDeferredStart (hrun : Runs s q 0x38 r) : exec (.snapshotDeferredStart q ok) s =
    .next (if r.work.deferred then s.readSnapshot q r ok else s) := by
  change execSnapshotDeferredStart q ok s = _
  simp only [execSnapshotDeferredStart, onRunning, onQueue, if_pos hrun.1, hrun.2]

end

/-! #### RESTORE (R346) -/

/-- The groups of a snapshot, one by one. -/
def State.restored (s : State) (p : Nat) (bs : List Byte) (es : List RestoreItem) : State :=
  es.foldl (fun t e => t.restoreGroup p bs (bit (field bs 6 2) 0) e) s

section
variable {s t : State} {p : Nat}

/-- The blocks of a group that a snapshot brings. -/
theorem restoreGroup_part (s : State) (p : Nat) (bs : List Byte) (state : Bool) (e : RestoreItem) :
    (s.restoreGroup p bs state e).part p = { s.part p with
      groups := tmod Group.unused (s.part p).groups e.k fun y => { y with
        lastT := e.lastT } } := by
  have hwrites {α : Type} (f : State → α → State) (hf : ∀ v a, (f v a).parts = v.parts) (l : List α) (u : State) :
      (l.foldl f u).parts = u.parts := by
    induction l generalizing u with
    | nil => rfl
    | cons a l ih => exact (ih _).trans (hf u a)
  unfold State.restoreGroup
  dsimp only
  rw [State.modPart, State.part_setPart, part_congr (hwrites _ (fun v a => ?_) _ s)]
  exact ((State.writeMem_evolves ..).same .parts rfl).trans ((State.writeMem_evolves ..).same .parts rfl)

theorem restored_part (bs : List Byte) : ∀ (es : List RestoreItem) (s : State),
    ((s.restored p bs es).part p).milestone = (s.part p).milestone
  | [], _ => rfl
  | e :: es, s => by
    refine (restored_part bs es _).trans ?_
    rw [restoreGroup_part]

/-- What a RESTORE writes does not depend on what was counted. -/
theorem restoreGroup_mem (h : SameData s t) (hparts : t.parts = s.parts) (bs : List Byte) (state : Bool) (e : RestoreItem) :
    SameData (s.restoreGroup p bs state e) (t.restoreGroup p bs state e) ∧
      (t.restoreGroup p bs state e).parts = (s.restoreGroup p bs state e).parts := by
  have hwrites {α : Type} (f : State → α → State) (hf : ∀ u v a, SameData u v → v.parts = u.parts →
      SameData (f u a) (f v a) ∧ (f v a).parts = (f u a).parts) (l : List α) : ∀ u v : State, SameData u v → v.parts = u.parts →
        SameData (l.foldl f u) (l.foldl f v) ∧ (l.foldl f v).parts = (l.foldl f u).parts := by
    induction l with
    | nil => exact fun _ _ hd hp => ⟨hd, hp⟩
    | cons a l ih =>
      intro u v hd hp
      obtain ⟨hd', hp'⟩ := hf u v a hd hp
      exact ih _ _ hd' hp'
  have hparts2 (u : State) (a b : Nat) (xs ys : List Byte) : ((u.writeMem a xs).writeMem b ys).parts = u.parts :=
    ((State.writeMem_evolves ..).same .parts rfl).trans ((State.writeMem_evolves ..).same .parts rfl)
  have hpart : t.part p = s.part p := part_congr hparts p
  unfold State.restoreGroup
  dsimp only
  rw [hpart]
  generalize hf : List.foldl _ s _ = u
  generalize hg : List.foldl _ t _ = v
  have huv : SameData u v ∧ v.parts = u.parts := by
    rw [← hf, ← hg]
    refine hwrites _ (fun a b i hd hp => ⟨?_, ?_⟩) _ s t h hparts
    · exact (hd.writeMem ..).writeMem ..
    · rw [hparts2, hparts2, hp]
  obtain ⟨hd, hp⟩ := huv
  refine ⟨⟨hd.mem, hd.slab, hd.free, hd.hbm⟩, ?_⟩
  rw [State.modPart, State.modPart, part_congr hp p]
  exact congrArg (tput · p _) hp

theorem restored_mem (bs : List Byte) : ∀ (es : List RestoreItem) (s t : State), SameData s t → t.parts = s.parts →
    (t.restored p bs es).mem = (s.restored p bs es).mem
  | [], _, _, h, _ => h.mem
  | e :: es, s, t, h, hparts => by
    obtain ⟨hd, hp⟩ := restoreGroup_mem h hparts bs (bit (field bs 6 2) 0) e
    exact restored_mem bs es _ _ hd hp

theorem restored_queues (bs : List Byte) (es : List RestoreItem) (s : State) : (s.restored p bs es).queues = s.queues :=
  (show Evolves 29426176 s _ from .foldl .refl fun v a => State.restoreGroup_evolves ..).same .queues rfl

/-- What setting the milestone leaves. -/
theorem setMilestone_part (s : State) (p ms : Nat) : ((s.setMilestone p ms).part p).milestone = BitVec.ofNat 64 ms ∧
    ((s.setMilestone p ms).part p).logCount = 0 ∧ ((s.setMilestone p ms).part p).groups = (s.part p).groups := by
  have hzero : Keeps Part.groups s (if s.stashInside p then s.zeroMem (s.stashGeom p).base mib else s) :=
    .ite (.of_parts rfl) .refl
  have hgroups : Keeps Part.groups s (s.clearStash p) := by
    unfold State.clearStash
    exact (hzero.trans (.of_evolves (State.clearSide_evolves _ p) rfl)).trans (.modPart p fun _ => rfl)
  rw [State.setMilestone, State.modPart, State.part_setPart]
  exact ⟨rfl, rfl, hgroups.same p⟩

end

section
variable {s : State} {q : Nat} {reply : HostReply} {r : Running} {bs : List Byte} (hrun : Runs s q 0x39 r)
  (hstep : (s.part (s.queuePart q)).stepOn = false) (hearly : s.earlier (s.queuePart q) 0x38 r.work.gen (fun _ => true) = false)
  (hdel : Delivers s q (field r.desc 24 8) (field r.desc 32 8) reply bs)
include hrun hstep hearly hdel

/-- What RESTORE does with the bytes that were read. -/
theorem exec_restore : ∃ xs, exec (.restore q reply) s = .next
    (((s.part (s.queuePart q)).restoreItems bs (field r.desc 32 8)).elim ((s.countReads xs).finish q stSnapshotForm result0) fun es =>
      (s.countReads xs).access q (es.flatMap (s.part (s.queuePart q)).restoreAccess) fun u =>
        (if dFlag r.desc 0 then (u.restored (s.queuePart q) bs es).setMilestone (s.queuePart q) (field r.desc 40 8)
          else u.restored (s.queuePart q) bs es).finish q stOk (block 16 [(0, 8, field r.desc 32 8)])) := by
  obtain ⟨pl, hpl, hst, hsrc⟩ := hdel
  refine ⟨[(false, pl, field r.desc 32 8)], ?_⟩
  change execRestore q reply s = _
  simp only [execRestore, onRunning, onQueue, if_pos hrun.1, hrun.2, hstep, Bool.false_eq_true, if_false, hearly, hpl,
    State.fetch_of_delivered hst hsrc]
  cases (s.part (s.queuePart q)).restoreItems bs (field r.desc 32 8) <;> rfl

theorem restore_refused (hitems : (s.part (s.queuePart q)).restoreItems bs (field r.desc 32 8) = none) :
    Answers (.restore q reply) s fun t => Finished t q stSnapshotForm result0 ∧ Untouched s t ∧ t.parts = s.parts := by
  obtain ⟨xs, hexec⟩ := exec_restore hrun hstep hearly hdel
  obtain ⟨hrunning, _, hdone, _⟩ := runningOp_some hrun.2
  rw [hitems, Option.elim_none] at hexec
  have hcount := State.countReads_evolves s xs
  refine ⟨_, hexec, finished_finish ((congrArg SubQ.running (queue_congr (hcount.same .queues rfl) q)).trans hrunning) hdone,
    untouched_trans (untouched_countReads s xs) (untouched_finish ..), ?_⟩
  rw [State.finish_parts]
  exact hcount.same .parts rfl

theorem restore_writes {es : List RestoreItem} (hitems : (s.part (s.queuePart q)).restoreItems bs (field r.desc 32 8) = some es)
    (hacc : s.badAccess (es.flatMap (s.part (s.queuePart q)).restoreAccess) = none) :
    Answers (.restore q reply) s fun t => Finished t q stOk (block 16 [(0, 8, field r.desc 32 8)]) ∧
      (dFlag r.desc 0 = false → t.mem = (s.restored (s.queuePart q) bs es).mem ∧
        (t.part (s.queuePart q)).milestone = (s.part (s.queuePart q)).milestone) ∧
      (dFlag r.desc 0 = true → (t.part (s.queuePart q)).milestone = BitVec.ofNat 64 (field r.desc 40 8) ∧
        (t.part (s.queuePart q)).logCount = 0) ∧
      ∀ e, es = [e] → (tget Group.unused (t.part (s.queuePart q)).groups e.k).lastT = e.lastT := by
  obtain ⟨xs, hexec⟩ := exec_restore hrun hstep hearly hdel
  obtain ⟨hrunning, _, hdone, _⟩ := runningOp_some hrun.2
  have hacc' : (s.countReads xs).badAccess (es.flatMap (s.part (s.queuePart q)).restoreAccess) = none := by
    obtain ⟨c, hc⟩ := s.countReads_eq xs
    rw [hc]
    exact hacc
  rw [hitems, Option.elim_some, State.access_of_pass hacc'] at hexec
  generalize hu : (s.countReads xs).countReads (es.flatMap (s.part (s.queuePart q)).restoreAccess) = u at hexec
  have hcount : Evolves 65536 s u := hu ▸ (State.countReads_evolves ..).app (State.countReads_evolves ..) rfl
  generalize s.queuePart q = p at hexec ⊢
  have hqueues (c : Prop) [Decidable c] (ms : Nat) :
      ((if c then (u.restored p bs es).setMilestone p ms else u.restored p bs es).queue q).running = some r := by
    split
    · rw [queue_congr ((State.setMilestone_evolves ..).same .queues rfl), queue_congr (restored_queues bs es u),
        queue_congr (hcount.same .queues rfl), hrunning]
    · rw [queue_congr (restored_queues bs es u), queue_congr (hcount.same .queues rfl), hrunning]
  refine ⟨_, hexec, finished_finish (hqueues _ _) hdone, fun hflag => ?_, fun hflag => ?_, ?_⟩
  · have hdata : SameData s u := .of_evolves hcount rfl rfl rfl rfl
    rw [hflag, if_neg Bool.false_ne_true, State.finish_mem, State.finish_part, restored_part, part_congr (hcount.same .parts rfl)]
    exact ⟨restored_mem bs es s u hdata (hcount.same .parts rfl), rfl⟩
  · obtain ⟨hms, hlog, _⟩ := setMilestone_part (u.restored p bs es) p (field r.desc 40 8)
    rw [hflag, if_pos rfl, State.finish_part]
    exact ⟨hms, hlog⟩
  · rintro e rfl
    have hone : ((u.restored p bs [e]).part p).groups = tmod Group.unused (u.part p).groups e.k fun y => { y with
        lastT := e.lastT } := congrArg Part.groups (restoreGroup_part u p bs _ e)
    have hgroups (c : Prop) [Decidable c] (ms : Nat) :
        ((if c then (u.restored p bs [e]).setMilestone p ms else u.restored p bs [e]).part p).groups =
          ((u.restored p bs [e]).part p).groups := by
      split
      · exact (setMilestone_part ..).2.2
      · rfl
    rw [State.finish_part, hgroups, hone, tmod, tget_tput_self]

end

/-- Settles O42: SNAPSHOT writes the image, now or at the closure; RESTORE writes back what agrees with the partition. -/
theorem snapshotsAreWrittenAndRestored : Obligations.SnapshotsAreWrittenAndRestored := by
  unfold Obligations.SnapshotsAreWrittenAndRestored
  refine ⟨fun s q ok r pl e hm hrun => ?_, fun s q reply r bs hrun => ?_⟩
  · intro d p x n took he hearly hn hpl hacc hok
    have hread := readSnapshot_spec hm hrun he hearly hn hpl hacc hok
    have hsnap := exec_snapshot (ok := ok) hrun
    have hstart := exec_snapshotDeferredStart (ok := ok) hrun
    refine ⟨fun hdef => ⟨_, ?_, hread⟩, fun hdef => ⟨?_, _, ?_, hread⟩⟩
    · rw [hsnap, hdef, if_neg Bool.false_ne_true]
    · rw [hsnap, hdef, if_pos rfl]
    · rw [hstart, hdef, if_pos rfl]
  · intro d p x n back hstep hearly hdel
    exact ⟨restore_refused hrun hstep hearly hdel, fun es hitems hacc => restore_writes hrun hstep hearly hdel hitems hacc⟩

end Sys2Proof.Machine
end

section
/-! ### Packets on their way: a flit waits at its port until it is put out there (R362 to R368) -/

namespace Sys2Proof.Machine

open Sys2Proof Sys2Proof.Safety

/-! #### What a data flit shows -/

section
variable {ty vc : Nat} {sop eop : Bool} {seq ack : Nat} {credit : List Nat} {pay : List Byte}

theorem mkFlit_vc (hvc : vc < 4) : bits (field (mkFlit ty vc sop eop seq ack credit pay) 0 8) 4 2 = vc := by
  have hword : ∀ w rest, field (natLe 8 w ++ rest) 0 8 = w % 256 ^ 8 := fun w rest => by
    rw [field, slice_append_left (length_natLe 8 w), leNat_natLe]
  have hsop : b2n sop ≤ 1 := by cases sop <;> decide
  have heop : b2n eop ≤ 1 := by cases eop <;> decide
  unfold mkFlit
  dsimp only
  rw [List.append_assoc, hword, bits, Nat.shiftRight_eq_div_pow]
  omega

theorem mkFlit_payload (hpay : pay.length = 240) : slice (mkFlit ty vc sop eop seq ack credit pay) 8 240 = pay := by
  have hdrop : ∀ w rest, ((natLe 8 w ++ pay) ++ rest).drop 8 = pay ++ rest := fun w rest => by
    rw [List.append_assoc, List.drop_left' (length_natLe 8 w)]
  unfold mkFlit
  dsimp only
  rw [slice_all hpay, slice, hdrop]
  simp [hpay]

end

/-! #### Flits that are under way -/

/-- A flit waits at a port, or has been put out there. -/
def Underway (t : State) (n : Nat) (f : TxFlit) : Prop :=
  f ∈ (t.port n).txq ∨ ∃ b, Output.flit n b ∈ t.out ∧ bits (field b 0 8) 4 2 = f.vc ∧ slice b 8 240 = f.payload

/-- What was put out stays put out, and a flit that waited waits on or is put out. -/
structure Flows (s t : State) : Prop where
  out : s.out ⊆ t.out
  txq : ∀ n, ∀ f ∈ (s.port n).txq, f.vc < 4 → f.payload.length = 240 → Underway t n f

section
variable {s t u : State} {n : Nat}

theorem Underway.flows {f : TxFlit} (h : Underway s n f) (ht : Flows s t) (hvc : f.vc < 4) (hpay : f.payload.length = 240) :
    Underway t n f := by
  rcases h with h | ⟨b, hb, hv, hp⟩
  · exact ht.txq n f h hvc hpay
  · exact .inr ⟨b, ht.out hb, hv, hp⟩

theorem Flows.refl (s : State) : Flows s s := ⟨fun _ h => h, fun _ _ h _ _ => .inl h⟩

theorem Flows.trans (h1 : Flows s t) (h2 : Flows t u) : Flows s u :=
  ⟨fun _ h => h2.out (h1.out h), fun n f hf hvc hpay => (h1.txq n f hf hvc hpay).flows h2 hvc hpay⟩

/-- A change that leaves the ports alone and takes back no output. -/
theorem Flows.of_ports (hout : s.out ⊆ t.out) (hports : t.ports = s.ports) : Flows s t :=
  by
  have hport (n : Nat) : t.port n = s.port n := congrArg (tget Port.down · n) hports
  exact ⟨hout, fun n f hf _ _ => .inl (hport n ▸ hf)⟩

theorem Flows.of_same (hout : t.out = s.out) (hports : t.ports = s.ports) : Flows s t := .of_ports (fun _ h => hout ▸ h) hports

theorem Flows.of_evolves {m : Nat} (h : Evolves m s t) (hout : m.testBit 1 = false) (hports : m.testBit 35 = false) : Flows s t :=
  .of_same (h.same .out hout) (h.same .ports hports)

/-- A port that sends a flit puts it out. -/
theorem sendFlit_flows (s : State) (n vc : Nat) : Flows s (s.sendFlit n vc) := by
  unfold State.sendFlit
  dsimp only
  split
  · exact .refl s
  · next e he =>
    refine ⟨fun o ho => List.mem_append_left _ ho, fun j f hf hvc hpay => ?_⟩
    by_cases hj : j = n
    · subst hj
      have hport (x : Port) (o : Output) : ((s.setPort j x).emit o).port j = x := State.port_setPort ..
      by_cases hfe : f = e
      · subst hfe
        exact .inr ⟨_, List.mem_append_right _ (List.mem_singleton.2 rfl), mkFlit_vc hvc, mkFlit_payload hpay⟩
      · refine .inl ?_
        rw [hport]
        obtain ⟨_, as, bs, hsplit, hnot⟩ := List.find?_eq_some_iff_append.1 he
        have herase : (s.port j).txq.eraseP (fun e => e.vc == vc && e.input == (s.port j).nextInput vc) = as ++ bs := by
          rw [hsplit, List.eraseP_append_right _ (fun a ha => by simpa [Decidable.imp_iff_not_or] using hnot a ha), List.eraseP_cons_of_pos (by assumption)]
        dsimp only
        rw [herase]
        rw [hsplit] at hf
        simpa [hfe] using hf
    · exact .inl ((State.port_setPort_other s _ _ _ hj : ((s.setPort n _).emit _).port j = s.port j) ▸ hf)

theorem pumpLoop_flows (n : Nat) : ∀ (k : Nat) (s : State), Flows s (s.pumpLoop n k)
  | 0, s => .refl s
  | k + 1, s => by
    unfold State.pumpLoop
    split
    · exact .refl s
    · split
      · exact .refl s
      · next vc _ => exact (sendFlit_flows s n vc).trans (pumpLoop_flows n k _)

theorem pumpPort_flows (s : State) (n : Nat) : Flows s (s.pumpPort n) := pumpLoop_flows n _ s

theorem packetFlits_spec {vc i : Nat} {stage : FlitStage} {bs : List Byte} {f : TxFlit} (h : f ∈ packetFlits vc i stage bs) :
    f.vc = vc ∧ f.payload.length = 240 := by
  obtain ⟨k, _, rfl⟩ := List.mem_map.1 h
  exact ⟨rfl, length_slice ..⟩

/-- More waits at a port. -/
theorem setPort_txq_flows (s : State) (n : Nat) (q : List TxFlit) :
    Flows s (s.setPort n { s.port n with txq := (s.port n).txq ++ q }) := by
  refine ⟨fun _ h => h, fun j f hf _ _ => .inl ?_⟩
  by_cases hj : j = n
  · subst hj
    rw [State.port_setPort]
    exact List.mem_append_left _ hf
  · rw [State.port_setPort_other _ _ _ _ hj]
    exact hf

theorem sendOn_flows (s : State) (n vc i : Nat) (stage : FlitStage) (bs : List Byte) : Flows s (s.sendOn n vc i stage bs) :=
  (setPort_txq_flows s n _).trans (pumpPort_flows _ n)

/-- The flits of a packet that is sent are under way. -/
theorem sendOn_underway (s : State) (n : Nat) {vc i : Nat} {stage : FlitStage} {bs : List Byte} {f : TxFlit} (hvc : vc < 4)
    (h : f ∈ packetFlits vc i stage bs) : Underway (s.sendOn n vc i stage bs) n f := by
  obtain ⟨hv, hp⟩ := packetFlits_spec h
  have hset : Underway (s.setPort n { s.port n with txq := (s.port n).txq ++ packetFlits vc i stage bs }) n f := by
    refine .inl ?_
    rw [State.port_setPort]
    exact List.mem_append_right _ h
  exact hset.flows (pumpPort_flows _ n) (hv ▸ hvc) hp

/-! #### Packets of the module's own -/

theorem carried_of_underway {k : Packet} (h : ∀ f ∈ packetFlits k.vc ownInput none k.bytes, Underway t n f) : Carried t n k := by
  intro f hf
  obtain ⟨hv, _⟩ := packetFlits_spec hf
  rcases h f hf with hw | ⟨b, hb, hbv, hp⟩
  · exact .inl hw
  · exact .inr ⟨b, hb, hbv.trans hv, hp⟩

theorem Carried.flows {k : Packet} (h : Carried s n k) (ht : Flows s t) (hvc : k.vc < 4) : Carried t n k := by
  refine carried_of_underway fun f hf => ?_
  obtain ⟨hv, hp⟩ := packetFlits_spec hf
  refine Underway.flows ?_ ht (hv ▸ hvc) hp
  rcases h f hf with hw | ⟨b, hb, hbv, hbp⟩
  · exact .inl hw
  · exact .inr ⟨b, hb, hbv.trans hv.symm, hbp⟩

theorem sendOn_carried (s : State) (n : Nat) {k : Packet} (hvc : k.vc < 4) : Carried (s.sendOn n k.vc ownInput none k.bytes) n k :=
  carried_of_underway fun _ hf => sendOn_underway s n hvc hf

/-! #### Routing -/

/-- Nothing that routing looks at has changed. -/
structure SameRoutes (s t : State) : Prop where
  regs : t.regs = s.regs
  routes : t.routes = s.routes
  quads : ∀ p, (t.part p).quads = (s.part p).quads
  st : ∀ j, (t.port j).st = (s.port j).st
  unavail : ∀ j, (t.port j).unavail = (s.port j).unavail

theorem SameRoutes.refl (s : State) : SameRoutes s s := ⟨rfl, rfl, fun _ => rfl, fun _ => rfl, fun _ => rfl⟩

theorem SameRoutes.trans (h1 : SameRoutes s t) (h2 : SameRoutes t u) : SameRoutes s u :=
  ⟨h2.regs.trans h1.regs, h2.routes.trans h1.routes, fun p => (h2.quads p).trans (h1.quads p), fun j => (h2.st j).trans (h1.st j),
    fun j => (h2.unavail j).trans (h1.unavail j)⟩

theorem SameRoutes.of_ports (hregs : t.regs = s.regs) (hroutes : t.routes = s.routes) (hquads : Keeps Part.quads s t)
    (hports : t.ports = s.ports) : SameRoutes s t := by
  have hport (j : Nat) : t.port j = s.port j := congrArg (tget Port.down · j) hports
  exact ⟨hregs, hroutes, hquads.same, fun j => by rw [hport], fun j => by rw [hport]⟩

theorem SameRoutes.of_sentBy (h : SentBy n s t) (hev : Evolves 34359738370 s t) : SameRoutes s t := by
  refine ⟨hev.same .regs rfl, hev.same .routes rfl, fun p => by rw [part_congr (hev.same .parts rfl)], fun j => ?_, fun j => ?_⟩
  · by_cases hj : j = n
    · exact hj ▸ h.st
    · rw [h.other j hj]
  · by_cases hj : j = n
    · exact hj ▸ h.unavail
    · rw [h.other j hj]

theorem SameRoutes.domain (h : SameRoutes s t) : t.domain = s.domain := by
  rw [State.domain, State.domain, State.regf, State.regf, State.reg, State.reg, h.regs]

theorem SameRoutes.endpoint (h : SameRoutes s t) : t.endpoint = s.endpoint := by
  rw [State.endpoint, State.endpoint, State.regf, State.regf, State.reg, State.reg, h.regs]

theorem SameRoutes.hopOf (h : SameRoutes s t) (p dst dstPart hops : Nat) : t.hopOf p dst dstPart hops = s.hopOf p dst dstPart hops := by
  have hholds : (t.part p).holds = (s.part p).holds := by
    funext j
    rw [Part.holds, Part.holds, h.quads]
  unfold State.hopOf
  rw [h.endpoint, h.routes, hholds]
  simp only [h.st, h.unavail]

end

end Sys2Proof.Machine
end

section
/-! ### A collective begins (R371 to R373) -/

namespace Sys2Proof.Machine

open Sys2Proof Sys2Proof.Safety

section
variable {s t : State} {p n : Nat}

/-! #### Packets with a route -/

theorem sendPacket_routed {k : Packet} (hdom : s.domain ≠ 0) (hhop : s.hopOf p k.dst k.dstPart k.hops = .out n) (stage : FlitStage) :
    s.sendPacket p stage k = (s.sendOn n k.vc ownInput stage { k with hops := k.hops - 1 }.bytes, false) := by
  simp only [State.sendPacket, if_neg hdom, hhop]

theorem sendOn_routes (s : State) (n vc i : Nat) (stage : FlitStage) (bs : List Byte) : SameRoutes s (s.sendOn n vc i stage bs) :=
  .of_sentBy (sendOn_sent ..) (State.sendOn_evolves ..)

/-- A READY reads the module's endpoint and domain. -/
theorem readyPacket_congr (h : SameRoutes s t) (p ep part : Nat) (r : Ready) : t.readyPacket p ep part r = s.readyPacket p ep part r := by
  rw [State.readyPacket, State.readyPacket, State.controlPacket, State.controlPacket, h.domain, h.endpoint]

variable {c : Coll}

theorem routed_congr (h : SameRoutes s t) {i : Nat} : Routed t p c i n ↔ Routed s p c i n := by
  rw [Routed, Routed, h.hopOf]

/-- READYs to ranks that have a route: each is under way, and nothing else has changed. -/
structure ReadysOut (s t : State) (p : Nat) (c : Coll) (rs : List Nat) : Prop where
  evolves : Evolves 34359738370 s t
  routes : SameRoutes s t
  flows : Flows s t
  sent : ∀ i ∈ rs, ∀ n, Routed s p c i n → ReadySent s t p c i n

theorem sendReady_routed {i : Nat} (hdom : s.domain ≠ 0) (hr : Routed s p c i n) : (s.sendReady p c i).2 = false ∧
    ReadysOut s (s.sendReady p c i).1 p c [i] := by
  have hsend := sendPacket_routed (p := p) (k := s.readyPacket p (c.members.getD i (0, 0)).1 (c.members.getD i (0, 0)).2 c.mine) hdom hr none
  rw [State.sendReady, hsend]
  refine ⟨rfl, State.sendOn_evolves .., sendOn_routes .., sendOn_flows .., fun j hj m hm => ?_⟩
  obtain rfl := List.mem_singleton.1 hj
  have hout : Hop.out m = .out n := hm.symm.trans hr
  obtain rfl := Hop.out.inj hout
  exact sendOn_carried s m (k := { s.readyPacket p (c.members.getD j (0, 0)).1 (c.members.getD j (0, 0)).2 c.mine with hops := 31 })
    (show 1 < 4 by decide)

/-- READYs to several ranks, all with a route. -/
theorem sendReadys_routed : ∀ (rs : List Nat) (s : State), s.domain ≠ 0 → (∀ i ∈ rs, ∃ n, Routed s p c i n) →
    (s.sendReadys p c rs).2 = false ∧ ReadysOut s (s.sendReadys p c rs).1 p c rs
  | [], s, _, _ => ⟨rfl, .refl, .refl s, .refl s, fun _ h => by cases h⟩
  | i :: rs, s, hdom, hr => by
    obtain ⟨n, hn⟩ := hr i (List.mem_cons_self ..)
    obtain ⟨hno, hfirst⟩ := sendReady_routed hdom hn
    have hroutes := hfirst.routes
    obtain ⟨hno', hrest⟩ := sendReadys_routed rs (s.sendReady p c i).1 (hroutes.domain ▸ hdom) fun j hj => by
      obtain ⟨m, hm⟩ := hr j (List.mem_cons_of_mem _ hj)
      exact ⟨m, (routed_congr hroutes).2 hm⟩
    have hcons : s.sendReadys p c (i :: rs) = (s.sendReady p c i).1.sendReadys p c rs := by
      unfold State.sendReadys
      rw [List.foldl_cons]
      dsimp only
      rw [hno]
      rfl
    rw [hcons]
    refine ⟨hno', hrest.evolves.app hfirst.evolves rfl, hroutes.trans hrest.routes, hfirst.flows.trans hrest.flows, fun j hj m hm => ?_⟩
    rcases List.mem_cons.1 hj with rfl | hj
    · exact Carried.flows (hfirst.sent j (List.mem_singleton.2 rfl) m hm) hrest.flows (show 1 < 4 by decide)
    · have hsent := hrest.sent j hj m ((routed_congr hroutes).2 hm)
      rw [ReadySent, readyPacket_congr hroutes] at hsent
      exact hsent

/-! #### The plan and the member's own part -/

/-- A plan fills in what the descriptor and its tables say; only an ORDER_GATHER may have no elements. -/
theorem planColl_spec {a : List Byte} {c0 : Coll} (h : s.planColl p c0 a = .inr c) :
    (∃ split orders digest m srcs reads writes, c = { c0 with
      split := split
      orders := orders
      mine := { c0.mine with digest := digest, orders := m }
      srcs := srcs
      reads := reads
      writes := writes }) ∧ (c0.mine.op = .orderGather ∨ c0.e ≠ 0) := by
  unfold State.planColl at h
  dsimp only at h
  split at h
  · cases h
  · next hform =>
    split at h
    · cases h
    · split at h
      · cases h
      · cases h
        refine ⟨⟨_, _, _, _, _, _, _, rfl⟩, Classical.byContradiction fun hno => ?_⟩
        obtain ⟨hop, he⟩ := not_or.1 hno
        simp [firstFail, formIf, Decidable.not_not.1 he, hop] at hform
        split at hform <;> cases hform

/-- A member's own part touches its accumulators, or what it holds for the ring. -/
theorem ownPart_coll (s : State) (c : Coll) : ∃ acc held, (s.ownPart c).2 = { c with
    acc := acc
    held := held } := by
  unfold State.ownPart
  split
  · exact ⟨_, _, rfl⟩
  · split
    · exact ⟨_, _, rfl⟩
    · exact ⟨_, _, rfl⟩
  · exact ⟨_, _, rfl⟩
  · exact ⟨_, _, rfl⟩

/-! #### Nothing moves before a peer is ready -/

theorem sendStages_unready (hr : c.ready = []) (gather : Bool) (k : Nat) : s.sendStages p c gather k = (s, c, false) := by
  cases k with
  | zero => rfl
  | succ k => simp [State.sendStages, hr]

/-- A collective as it begins: no peer is ready, nothing is placed or passed on, no stage is sent. -/
structure Unmoved (c : Coll) : Prop where
  ready : c.ready = []
  stage : c.stage = 0
  stage2 : c.stage2 = 0
  placed : c.placed = 0
  passed : c.passed = 0
  final : c.mine.op = .orderGather → c.final = false
  causes : c.causes = []
  peers : 2 ≤ c.n ∧ c.rank < c.n
  elems : c.mine.op = .orderGather ∨ c.e ≠ 0

theorem collGo_unready (h : Unmoved c) : ∃ f, s.collGo p c = (s, { c with final := f }, none) ∧ (c.mine.op = .orderGather → f = false) := by
  have hsend (b : Bool) (d : Coll) (hd : d.ready = []) := sendStages_unready (s := s) (p := p) hd b d.n
  have hall : c.allReady = false := by
    have := h.peers.1
    simp only [Coll.allReady, h.ready, List.length_nil, beq_eq_false_iff_ne]
    omega
  have hany : (c.ready.any fun e => e.1 == c.nextRank) = false := by simp [h.ready]
  unfold State.collGo
  cases hop : c.mine.op with
  | broadcast => exact ⟨c.final, by simp [State.passOn, hany], fun e => by cases e⟩
  | allGather => exact ⟨c.final, by simp [hsend true c h.ready], fun e => by cases e⟩
  | orderGather => exact ⟨c.final, by simp [hall], fun _ => h.final hop⟩
  | reduceScatter => exact ⟨c.full, by simp [hsend false c h.ready, hop], fun e => by cases e⟩
  | allReduce =>
    refine ⟨c.full, ?_, fun e => by cases e⟩
    simp only [hsend false c h.ready, Bool.false_eq_true, if_false, hop]
    rw [sendStages_unready (by exact h.ready)]
    cases c.full <;> rfl

theorem isDone_unmoved (h : Unmoved c) : c.isDone = false := by
  obtain ⟨hn, hrank⟩ := h.peers
  have hnext : c.nextRank ≠ c.rank := by
    unfold Coll.nextRank
    rcases Nat.lt_or_ge (c.rank + 1) c.n with hlt | hge
    · rw [Nat.mod_eq_of_lt hlt]
      omega
    · have he : c.rank + 1 = c.n := by omega
      rw [he, Nat.mod_self]
      omega
  have hsent : decide (c.n ≤ c.stage + 1) = false := by
    rw [h.stage]
    exact decide_eq_false (by omega)
  have hsent2 : decide (c.n ≤ c.stage2 + 1) = false := by
    rw [h.stage2]
    exact decide_eq_false (by omega)
  unfold Coll.isDone
  dsimp only
  rw [hsent, hsent2]
  split
  · exact Bool.and_false _
  · rw [Bool.and_false, Bool.false_and]
  · rfl
  · next hop =>
    have he : c.e ≠ 0 := h.elems.resolve_left fun e => by rw [hop] at e; cases e
    have hblocks : 0 ≠ c.blocks := by
      have : 0 < c.blocks := Nat.div_pos (by omega) (by decide)
      omega
    rw [h.placed, h.passed, beq_eq_false_iff_ne.2 hblocks, Bool.or_false, Bool.or_false, Bool.and_eq_false_iff]
    by_cases hroot : c.rank = c.mine.root
    · exact .inr (beq_eq_false_iff_ne.2 (hroot ▸ hnext))
    · exact .inl (beq_eq_false_iff_ne.2 hroot)
  · next hop =>
    rw [h.final hop]
    rfl

/-- The collective with its accumulators complete or not. -/
theorem unmoved_final (h : Unmoved c) {f : Bool} (hf : c.mine.op = .orderGather → f = false) : Unmoved { c with final := f } :=
  ⟨h.ready, h.stage, h.stage2, h.placed, h.passed, hf, h.causes, h.peers, h.elems⟩

/-- A step of a collective that has just begun changes its record alone. -/
theorem collStep_unready (h : Unmoved c) : ∃ f, s.collStep p c = s.putColl p { c with final := f } := by
  obtain ⟨f, hgo, hf⟩ := collGo_unready (s := s) (p := p) h
  refine ⟨f, ?_⟩
  unfold State.collStep
  dsimp only
  rw [hgo]
  dsimp only
  rw [isDone_unmoved (unmoved_final h hf), if_neg Bool.false_ne_true]

/-! #### A collective that passes its checks runs (R373) -/

/-- What the beginning of a collective leaves: its record, the queues and groups as they were, and READYs under way. -/
structure Began (s t : State) (p : Nat) (c : Coll) : Prop where
  coll : ∃ c', (t.part p).coll c.key = some c' ∧ c'.mine = c.mine ∧ c'.causes = []
  queues : t.queues = s.queues
  collGroups : (t.part p).collGroups = (s.part p).collGroups
  sent : ∀ i ∈ c.peers, ∀ n, Routed s p c i n → ReadySent s t p c i n

/-- The member's own part, before its record stands in the partition. -/
def State.ownState (s : State) (c : Coll) : State :=
  ((if 1 < c.srcs.length then { s with free := s.free + 8 * c.blocks } else s).ownPart c).1

theorem ownState_evolves (s : State) (c : Coll) : Evolves 29425668 s (s.ownState c) := by
  refine (State.ownPart_evolves ..).app (.ite ?_ .refl) rfl
  exact .free .refl rfl

/-- The collective stands among those that run. -/
def State.entered (s : State) (p : Nat) (c : Coll) : State := s.modPart p fun x => { x with
  colls := x.colls ++ [c] }

theorem entered_coll (hnew : (s.part p).coll c.key = none) : ((s.entered p c).part p).coll c.key = some c := by
  rw [State.entered, State.modPart, State.part_setPart, Part.coll, List.find?_append]
  rw [Part.coll] at hnew
  rw [hnew]
  simp

theorem putColl_coll {c' : Coll} (hc : (s.part p).coll c.key = some c) (hkey : c'.key = c.key) :
    ((s.putColl p c').part p).coll c.key = some c' := by
  rw [State.putColl, State.modPart, State.part_setPart, Part.coll]
  exact find_replaced (key := Coll.key) (List.mem_of_find?_eq_some hc) hkey

/-- READYs that a collective does not await stay held. -/
def State.dropHeld (s : State) (p : Nat) (c : Coll) : State := s.modPart p fun x => { x with
  heldReady := x.heldReady.filter fun h => !(h.group == c.mine.group && h.tag == c.mine.tag) }

theorem runColl_begins (h : Unmoved c) (hdom : s.domain ≠ 0) (hrouted : ∀ i ∈ c.peers, ∃ n, Routed s p c i n)
    (hnew : (s.part p).coll c.key = none)
    (hheld : ∀ h ∈ (s.part p).heldReady, ¬ (h.group = c.mine.group ∧ h.tag = c.mine.tag)) : Began s (s.runColl p c) p c := by
  obtain ⟨acc, held, hown⟩ := ownPart_coll (if 1 < c.srcs.length then { s with free := s.free + 8 * c.blocks } else s) c
  obtain ⟨d, hd⟩ : ∃ d : Coll, d = { c with
    acc := acc
    held := held } := ⟨_, rfl⟩
  have hown' := hown.trans hd.symm
  have hdmine : d.mine = c.mine := by rw [hd]
  have hdkey : d.key = c.key := by rw [Coll.key, Coll.key, hdmine]
  have hdpeers : d.peers = c.peers := by rw [hd]; rfl
  have hdmove : Unmoved d := by
    rw [hd]
    exact ⟨h.ready, h.stage, h.stage2, h.placed, h.passed, h.final, h.causes, h.peers, h.elems⟩
  have hdroute (u : State) (i n : Nat) : Routed u p d i n ↔ Routed u p c i n := by rw [hd]; rfl
  obtain ⟨w, hw⟩ : ∃ w, w = (s.ownState c).entered p d := ⟨_, rfl⟩
  have hev := ownState_evolves s c
  have hquads : Keeps Part.quads s w := by
    rw [hw]
    exact (Keeps.of_evolves hev rfl).trans (.modPart p fun _ => rfl)
  have hroutes : SameRoutes s w := by
    refine .of_ports ?_ ?_ hquads ?_
    · rw [hw]; exact hev.same .regs rfl
    · rw [hw]; exact hev.same .routes rfl
    · rw [hw]; exact hev.same .ports rfl
  have hwpart : w.part p = { s.part p with
      colls := (s.part p).colls ++ [d] } := by
    rw [hw, State.entered, State.modPart, State.part_setPart, part_congr (hev.same .parts rfl)]
  obtain ⟨hno, hout⟩ := sendReadys_routed (c := d) d.peers w (hroutes.domain ▸ hdom) fun i hi => by
    obtain ⟨n, hn⟩ := hrouted i (hdpeers ▸ hi)
    exact ⟨n, (hdroute ..).2 ((routed_congr hroutes).2 hn)⟩
  obtain ⟨u, hu⟩ : ∃ u, u = (w.sendReadys p d d.peers).1 := ⟨_, rfl⟩
  rw [← hu] at hout
  have hupart : u.part p = w.part p := part_congr (hout.evolves.same .parts rfl) p
  have hmine : (u.part p).heldReady.filter (fun h => h.group == d.mine.group && h.tag == d.mine.tag) = [] := by
    rw [hupart, hwpart, hdmine, List.filter_eq_nil_iff]
    intro h hh hboth
    exact hheld h hh (by simpa using hboth)
  have hcoll : ((u.dropHeld p d).part p).coll d.key = some d := by
    rw [State.dropHeld, State.modPart, State.part_setPart, hupart, hw]
    refine entered_coll ?_
    rw [hdkey, part_congr (hev.same .parts rfl)]
    exact hnew
  obtain ⟨f, hstep⟩ := collStep_unready (s := u.dropHeld p d) (p := p) hdmove
  have hrun : s.runColl p c = (u.dropHeld p d).putColl p { d with final := f } := by
    rw [← hstep]
    unfold State.runColl
    dsimp only
    rw [hown']
    have hw' : State.modPart ((if 1 < c.srcs.length then { s with free := s.free + 8 * c.blocks } else s).ownPart c).1 p
        (fun x => { x with
          colls := x.colls ++ [d] }) = w := hw.symm
    rw [hw', hno, ← hu, hmine, if_neg Bool.false_ne_true, List.foldl_nil]
    have hcoll' : ((u.modPart p fun x => { x with
        heldReady := x.heldReady.filter fun h => !(h.group == d.mine.group && h.tag == d.mine.tag) }).part p).coll d.key = some d := hcoll
    rw [hcoll']
    dsimp only
    rw [hdmove.causes]
    rfl
  rw [hrun]
  have hput := putColl_coll (c' := { d with final := f }) hcoll rfl
  rw [hdkey] at hput
  refine ⟨⟨_, hput, hdmine, hdmove.causes⟩, ?_, ?_, fun i hi n hn => ?_⟩
  · exact (hout.evolves.same .queues rfl).trans ((show w.queues = (s.ownState c).queues from hw ▸ rfl).trans (hev.same .queues rfl))
  · rw [State.putColl, State.modPart, State.part_setPart, State.dropHeld, State.modPart, State.part_setPart, hupart, hwpart]
  · have hi' : i ∈ d.peers := by
      rw [hdpeers]
      exact hi
    have hn' : Routed w p d i n := (hdroute w i n).2 ((routed_congr (c := c) hroutes).2 hn)
    have hsent : ReadySent w u p d i n := hout.sent i hi' n hn'
    rw [ReadySent, readyPacket_congr hroutes, hdmine, show d.members = c.members by rw [hd]] at hsent
    exact Carried.flows (t := (u.dropHeld p d).putColl p { d with final := f }) hsent (.of_same rfl rfl) (show 1 < 4 by decide)

end

/-! #### From the descriptor to the running collective (R371, R379) -/

section
variable {s : State} {q code : Nat} {op : CollOp} {r : Running} {c : Coll}

/-- The group that a descriptor names. -/
def State.collGroupOf (s : State) (q : Nat) (r : Running) : CollGroup :=
  tget CollGroup.none (s.part (s.queuePart q)).collGroups (aGroup r.args)

theorem modWork_eq (s : State) (q : Nat) (f : Work → Work) : ∃ qs, s.modWork q f = { s with queues := qs } := by
  unfold State.modWork
  dsimp only
  split
  · exact ⟨s.queues, rfl⟩
  · exact ⟨_, rfl⟩

/-- What the plan keeps of the descriptor. -/
theorem coll_of_mayBegin (h : MayBegin s q code op r c) : Unmoved c ∧ c.mine.group = aGroup r.args ∧ c.mine.tag = aTag r.args := by
  obtain ⟨⟨split, orders, digest, m, srcs, reads, writes, hc⟩, helems⟩ := planColl_spec h.plan
  refine ⟨⟨?_, ?_, ?_, ?_, ?_, fun _ => ?_, ?_, h.peers, ?_⟩, ?_, ?_⟩
  case refine_8 =>
    rw [hc]
    exact helems
  all_goals
    rw [hc]
    rfl

/-- A descriptor that may begin enters with its tag, in a state that differs in queues and counters alone. -/
theorem collBegins_enters (h : MayBegin s q code op r c) : ∃ qs cs, collBegins q code op s =
    .next (({ s with
      queues := qs
      counters := cs } : State).enterColl (s.queuePart q) (s.collGroupOf q r) c) ∧
    (tget SubQ.reset qs q).running = some { r with work := { r.work with started := true } } := by
  obtain ⟨hq, hop⟩ := h.runs
  obtain ⟨hrunning, _, _, _⟩ := runningOp_some hop
  have hwork := running_modWork hrunning fun w => { w with started := true }
  obtain ⟨qs, hqs⟩ := modWork_eq s q fun w => { w with started := true }
  rw [hqs] at hwork
  obtain ⟨u, hu⟩ : ∃ u : State, u = { s with queues := qs } := ⟨_, rfl⟩
  obtain ⟨cs, hcs⟩ := State.countReads_eq u (s.collTables (s.queuePart q) op r.args (s.collGroupOf q r).members.length)
  obtain ⟨cs', hcs'⟩ := State.countReads_eq ({ u with counters := cs } : State) (c.accesses.filter fun x =>
    !(s.collTables (s.queuePart q) op r.args (s.collGroupOf q r).members.length).contains x)
  refine ⟨qs, cs', ?_, hwork⟩
  have hbegin : u.beginColl q op r = ({ u with counters := cs' } : State).enterColl (s.queuePart q) (s.collGroupOf q r) c := by
    have hpart : u.part (s.queuePart q) = s.part (s.queuePart q) := by rw [hu]; rfl
    have hp : u.queuePart q = s.queuePart q := by rw [hu]; rfl
    have hcheck : firstFail [(reservedAt r.args 128 collFields).map fun o => (stOpForm, resultAt o true),
        collStarts (s.part (s.queuePart q)) op r.args (s.collGroupOf q r).rank] = none := by
      rw [h.form, State.collGroupOf, h.starts]
      rfl
    have hnew : u.newColl (s.queuePart q) q op r (s.collGroupOf q r) = s.newColl (s.queuePart q) q op r (s.collGroupOf q r) := by
      rw [hu]; rfl
    have htables : u.collTables (s.queuePart q) op r.args (s.newColl (s.queuePart q) q op r (s.collGroupOf q r)).n =
        s.collTables (s.queuePart q) op r.args (s.collGroupOf q r).members.length := by rw [hu]; rfl
    have hread : u.badAccess (s.collTables (s.queuePart q) op r.args (s.collGroupOf q r).members.length) = none := by
      rw [hu]; exact h.tables
    have hplan : u.planColl (s.queuePart q) (s.newColl (s.queuePart q) q op r (s.collGroupOf q r)) r.args = .inr c := by
      rw [hu]; exact h.plan
    have haccess : ({ u with counters := cs } : State).badAccess c.accesses = none := by rw [hu]; exact h.access
    have hgroup : tget CollGroup.none (s.part (s.queuePart q)).collGroups (aGroup r.args) = s.collGroupOf q r := rfl
    have hloaded : (s.collGroupOf q r).loaded = true := h.loaded
    have hfresh : (s.collGroupOf q r).tags.contains (aTag r.args).toNat = false := h.fresh
    unfold State.beginColl
    simp only [hp, hpart, hgroup, hcheck, hloaded, Bool.not_true, Bool.false_eq_true, if_false, hfresh, hnew, htables, hread, hplan,
      hcs, haccess, hcs']
  rw [collBegins, onRunning, onQueue, if_pos hq, hop]
  dsimp only
  rw [h.first, if_neg Bool.false_ne_true, hqs, ← hu, hbegin, hu]

/-- The tag counts as used, and ABORTs that the key awaited are dropped. -/
def State.tagged (s : State) (p : Nat) (g : CollGroup) (c : Coll) : State :=
  (s.modPart p fun x => { x with
    collGroups := tput x.collGroups c.mine.group { g with tags := addTag g.tags c.mine.tag.toNat } }).modPart p fun x => { x with
      heldAbort := x.heldAbort.filter fun m => !(collKey m.group m.milestone m.tag == c.key) }

theorem tagged_part (s : State) (p : Nat) (g : CollGroup) (c : Coll) : (s.tagged p g c).part p = { s.part p with
    collGroups := tput (s.part p).collGroups c.mine.group { g with tags := addTag g.tags c.mine.tag.toNat }
    heldAbort := (s.part p).heldAbort.filter fun m => !(collKey m.group m.milestone m.tag == c.key) } := by
  rw [State.tagged, State.modPart, State.part_setPart, State.modPart, State.part_setPart]

theorem tagged_keeps (s : State) (p : Nat) (g : CollGroup) (c : Coll) : Keeps Part.quads s (s.tagged p g c) := by
  have hgroups : Keeps Part.quads s (s.modPart p fun x => { x with
      collGroups := tput x.collGroups c.mine.group { g with tags := addTag g.tags c.mine.tag.toNat } }) := .modPart p fun _ => rfl
  have haborts (u : State) : Keeps Part.quads u (u.modPart p fun x => { x with
      heldAbort := x.heldAbort.filter fun m => !(collKey m.group m.milestone m.tag == c.key) }) := .modPart p fun _ => rfl
  exact hgroups.trans (haborts _)

/-- With no ABORT held for its key a collective runs. -/
theorem enterColl_runs {p : Nat} (g : CollGroup) (h : ∀ m ∈ (s.part p).heldAbort, collKey m.group m.milestone m.tag ≠ c.key) :
    s.enterColl p g c = (s.tagged p g c).runColl p c := by
  have hnone : (s.part p).heldAbort.filter (fun m => collKey m.group m.milestone m.tag == c.key) = [] := by
    rw [List.filter_eq_nil_iff]
    exact fun m hm hk => h m hm (by simpa using hk)
  unfold State.enterColl
  dsimp only
  rw [State.modPart, State.part_setPart, hnone]
  rfl

theorem addTag_contains (ts : List Nat) (t : Nat) : (addTag ts t).contains t = true := by
  have hmem : t ∈ (ts ++ [t]).drop (ts.length + 1 - 1024) := by
    rw [List.drop_append_of_le_length (by omega)]
    exact List.mem_append_right _ (List.mem_singleton.2 rfl)
  exact List.contains_iff_mem.2 hmem

/-- A descriptor that may begin does so, whatever its operation. -/
theorem collBegins_begun (h : MayBegin s q code op r c) : ∃ t, collBegins q code op s = .next t ∧ Begun s q r c t := by
  obtain ⟨hmove, hgroup, htag⟩ := coll_of_mayBegin h
  obtain ⟨_, _, hdone, _⟩ := runningOp_some h.runs.2
  obtain ⟨qs, cs, hexec, hqueue⟩ := collBegins_enters h
  obtain ⟨u, hu⟩ : ∃ u : State, u = { s with
    queues := qs
    counters := cs } := ⟨_, rfl⟩
  rw [← hu] at hexec
  generalize hp : s.queuePart q = p at hexec
  have hpart : u.part p = s.part p := by rw [hu]; rfl
  have habort := h.noAbort
  have hready := h.noReady
  have hnew := h.unknown
  have hrouted := h.routed
  rw [hp] at habort hready hnew hrouted
  rw [enterColl_runs (s := u) (p := p) _ (by rw [hpart]; exact habort)] at hexec
  obtain ⟨v, hv⟩ : ∃ v, v = u.tagged p (s.collGroupOf q r) c := ⟨_, rfl⟩
  have hvpart := tagged_part u p (s.collGroupOf q r) c
  rw [← hv] at hexec hvpart
  have hkeep : Keeps Part.quads s v := by
    have hsame : Keeps Part.quads s u := .of_parts (by rw [hu])
    rw [hv]
    exact hsame.trans (tagged_keeps ..)
  have hroutes : SameRoutes s v := .of_ports (by rw [hv, hu]; rfl) (by rw [hv, hu]; rfl) hkeep (by rw [hv, hu]; rfl)
  have hbegan : Began v (v.runColl p c) p c := by
    refine runColl_begins hmove (hroutes.domain ▸ h.domain) (fun i hi => ?_) ?_ ?_
    · obtain ⟨n, hn⟩ := hrouted i hi
      exact ⟨n, (routed_congr hroutes).2 hn⟩
    · rw [hvpart, hpart]
      exact hnew
    · rw [hvpart, hpart]
      exact hready
  obtain ⟨hcoll, hqueues, hgroups, hsent⟩ := hbegan
  refine ⟨_, hexec, ⟨{ r with work := { r.work with started := true } }, ?_, rfl, hdone, rfl⟩, ?_, ?_, fun i hi n hn => ?_⟩
  · rw [State.queue, hqueues, show v.queues = qs by rw [hv, hu]; rfl]
    exact hqueue
  · rw [hp]
    exact hcoll
  · rw [hp, hgroups, hvpart, tget_tput_self, ← htag]
    rw [addTag_contains]
  · rw [hp] at hn ⊢
    have hn' : Routed v p c i n := (routed_congr (c := c) hroutes).2 hn
    have hready : ReadySent v (v.runColl p c) p c i n := hsent i hi n hn'
    rw [ReadySent, readyPacket_congr hroutes] at hready
    exact hready

end

/-- Settles O32: the five operations begin alike. -/
theorem collectiveBeginsWithReadyToEveryPeer : Obligations.CollectiveBeginsWithReadyToEveryPeer := by
  unfold Obligations.CollectiveBeginsWithReadyToEveryPeer
  exact fun s q r c => ⟨collBegins_begun, collBegins_begun, collBegins_begun, collBegins_begun, collBegins_begun⟩

end Sys2Proof.Machine
end

section
/-! ### READYs and data of a running collective (R371 to R375) -/

namespace Sys2Proof.Machine

open Sys2Proof Sys2Proof.Safety

section
variable {s t : State} {p : Nat} {c d e : Coll}

/-! #### What a step of a collective keeps of its record -/

/-- The member's own READY, those that agreed, and the accumulators are as before. -/
structure SameColl (c d : Coll) : Prop where
  mine : d.mine = c.mine
  ready : d.ready = c.ready
  acc : d.acc = c.acc
  cnt : d.cnt = c.cnt

theorem SameColl.refl (c : Coll) : SameColl c c := ⟨rfl, rfl, rfl, rfl⟩

theorem SameColl.trans (h1 : SameColl c d) (h2 : SameColl d e) : SameColl c e :=
  ⟨h2.mine.trans h1.mine, h2.ready.trans h1.ready, h2.acc.trans h1.acc, h2.cnt.trans h1.cnt⟩

theorem SameColl.key (h : SameColl c d) : d.key = c.key := by rw [Coll.key, Coll.key, h.mine]

theorem sendData_keeps (s : State) (p : Nat) (c : Coll) (tgt : Nat) (stage : FlitStage) (os : List (Nat × List Byte)) :
    Keeps Part.colls s (s.sendData p c tgt stage os).1 := by
  unfold State.sendData
  have hfold : ∀ (l : List (Nat × List Byte)) (x : State × Bool), Keeps Part.colls x.1 (l.foldl (fun t o =>
      ((t.1.sendPacket p stage (t.1.dataPacket p c tgt o)).1, t.2 || (t.1.sendPacket p stage (t.1.dataPacket p c tgt o)).2)) x).1 := by
    intro l
    induction l with
    | nil => exact fun _ => .refl
    | cons o l ih =>
      intro x
      rw [List.foldl_cons]
      exact Keeps.trans (.sendPacket (fun _ _ => rfl) x.1 p stage (x.1.dataPacket p c tgt o))
        (ih (_, x.2 || (x.1.sendPacket p stage (x.1.dataPacket p c tgt o)).2))
  exact hfold os (s, false)

/-- Sending a stage, if any, and then the stages after it. -/
theorem sendStages_succ (s : State) (p : Nat) (c : Coll) (gather : Bool) (k : Nat) :
    s.sendStages p c gather (k + 1) = (s, c, false) ∨ ∃ tgt stage os d, SameColl c d ∧
      (s.sendStages p c gather (k + 1) = ((s.sendData p c tgt stage os).1, d, true) ∨
        s.sendStages p c gather (k + 1) = (s.sendData p c tgt stage os).1.sendStages p d gather k) := by
  have hstage : SameColl c { c with stage := c.stage + 1 } := ⟨rfl, rfl, rfl, rfl⟩
  have hstage2 : SameColl c { c with stage2 := c.stage2 + 1 } := ⟨rfl, rfl, rfl, rfl⟩
  cases gather with
  | false =>
    rw [State.sendStages]
    simp only [Bool.false_eq_true, if_false]
    split
    · exact .inl rfl
    · refine .inr ⟨(c.rank + c.stage + 1) % c.n, some (c.key.1, c.key.2, c.stage), s.stageData c false ((c.rank + c.stage + 1) % c.n), _,
        hstage, ?_⟩
      split
      · exact .inl rfl
      · exact .inr rfl
  | true =>
    rw [State.sendStages]
    simp only [if_true]
    split
    · exact .inl rfl
    · refine .inr ⟨(c.rank + c.stage2 + 1) % c.n, some (c.key.1, c.key.2, c.n + c.stage2),
        s.stageData c true ((c.rank + c.stage2 + 1) % c.n), _, hstage2, ?_⟩
      split
      · exact .inl rfl
      · exact .inr rfl

theorem sendStages_spec (p : Nat) (gather : Bool) : ∀ (k : Nat) (s : State) (c : Coll),
    Keeps Part.colls s (s.sendStages p c gather k).1 ∧ SameColl c (s.sendStages p c gather k).2.1
  | 0, s, c => ⟨.refl, .refl c⟩
  | k + 1, s, c => by
    rcases sendStages_succ s p c gather k with h | ⟨tgt, stage, os, d, hd, h | h⟩
    · rw [h]
      exact ⟨.refl, .refl c⟩
    · rw [h]
      exact ⟨sendData_keeps .., hd⟩
    · obtain ⟨hk, hc⟩ := sendStages_spec p gather k (s.sendData p c tgt stage os).1 d
      rw [h]
      exact ⟨(sendData_keeps ..).trans hk, hd.trans hc⟩

theorem passOn_spec (s : State) (p : Nat) (c : Coll) : Keeps Part.colls s (s.passOn p c).1 ∧ SameColl c (s.passOn p c).2.1 := by
  unfold State.passOn
  split
  · exact ⟨sendData_keeps .., rfl, rfl, rfl, rfl⟩
  · exact ⟨.refl, .refl c⟩

theorem openInbox_coll (s : State) (c : Coll) : SameColl c (s.openInbox c).2 := by
  have hfold : ∀ (l : List Packet) (x : State × Coll), SameColl c x.2 → SameColl c (l.foldl (fun u k =>
      match c.rankOf k with
      | some r => u.1.placeOrders u.2 r k
      | none => u) x).2 := by
    intro l
    induction l with
    | nil => exact fun _ h => h
    | cons k l ih =>
      intro x hx
      refine ih _ ?_
      dsimp only
      split
      · exact hx.trans ⟨rfl, rfl, rfl, rfl⟩
      · exact hx
  exact hfold c.held _ ⟨rfl, rfl, rfl, rfl⟩

theorem collGo_spec (s : State) (p : Nat) (c : Coll) : Keeps Part.colls s (s.collGo p c).1 ∧ SameColl c (s.collGo p c).2.1 := by
  unfold State.collGo
  dsimp only
  split
  · exact passOn_spec ..
  · exact sendStages_spec ..
  · split
    · exact ⟨.refl, .refl c⟩
    · split
      · exact ⟨.refl, .refl c⟩
      · split
        · exact sendStages_spec ..
        · obtain ⟨hk, hc⟩ := sendStages_spec p false c.n (s.openInbox c).1 (s.openInbox c).2
          exact ⟨.trans (.of_evolves (State.openInbox_evolves ..) rfl) hk, (openInbox_coll s c).trans hc⟩
  · obtain ⟨hk, hc⟩ := sendStages_spec p false c.n s c
    have hfin : SameColl c { (s.sendStages p c false c.n).2.1 with final := (s.sendStages p c false c.n).2.1.full } :=
      hc.trans ⟨rfl, rfl, rfl, rfl⟩
    split
    · exact ⟨hk, hc⟩
    · split
      · obtain ⟨hk', hc'⟩ := sendStages_spec p true
          ({ (s.sendStages p c false c.n).2.1 with final := (s.sendStages p c false c.n).2.1.full } : Coll).n
          (s.sendStages p c false c.n).1 { (s.sendStages p c false c.n).2.1 with final := (s.sendStages p c false c.n).2.1.full }
        exact ⟨hk.trans hk', hfin.trans hc'⟩
      · exact ⟨hk, hfin⟩

/-- Only an ORDER_GATHER writes memory as it goes on. -/
theorem collGo_mem (s : State) (p : Nat) (h : c.mine.op ≠ .orderGather) : (s.collGo p c).1.mem = s.mem := by
  have hstages (gather : Bool) (k : Nat) (u : State) (d : Coll) : (u.sendStages p d gather k).1.mem = u.mem :=
    (State.sendStages_evolves ..).same .mem rfl
  unfold State.collGo
  dsimp only
  split
  · exact (State.passOn_evolves ..).same .mem rfl
  · exact hstages ..
  · next hop => exact absurd hop h
  · split
    · exact hstages ..
    · split
      · exact (hstages ..).trans (hstages ..)
      · exact hstages ..

theorem noteGathered_keeps (s : State) (p : Nat) (c : Coll) : Keeps Part.colls s (s.noteGathered p c) := by
  unfold State.noteGathered
  split
  · exact .modPart p fun _ => rfl
  · exact .refl

/-- A collective of the key is in the partition. -/
def Part.runs (x : Part) (k : Nat × Nat) : Prop := ∃ d ∈ x.colls, d.key = k

theorem runs_of_coll {x : Part} {k : Nat × Nat} (h : x.coll k = some d) : x.runs k :=
  ⟨d, List.mem_of_find?_eq_some h, by simpa using List.find?_some h⟩

theorem coll_keeps (h : Keeps Part.colls s t) (k : Nat × Nat) : (t.part p).coll k = (s.part p).coll k := by
  rw [Part.coll, Part.coll, h.same p]

theorem putColl_found (h : (s.part p).runs c.key) : ((s.putColl p c).part p).coll c.key = some c := by
  obtain ⟨f, hf, hkey⟩ := h
  have hfind := find_replaced (key := Coll.key) hf (c' := c) hkey.symm
  rw [hkey] at hfind
  rw [State.putColl, State.modPart, State.part_setPart, Part.coll]
  exact hfind

theorem collRaise_found (h : (s.part p).runs c.key) (st : Nat) : ((s.collRaise p c st).part p).coll c.key =
    some { c with causes := c.causes ++ [(st, c.rank)] } := by
  have hkeep : Keeps Part.colls (s.putColl p { c with causes := c.causes ++ [(st, c.rank)] }) (s.collRaise p c st) :=
    .sendAbort (fun _ _ => rfl) _ p c st
  have hkey : ({ c with causes := c.causes ++ [(st, c.rank)] } : Coll).key = c.key := SameColl.key ⟨rfl, rfl, rfl, rfl⟩
  have hput := putColl_found (s := s) (p := p) (c := { c with causes := c.causes ++ [(st, c.rank)] }) (by rw [hkey]; exact h)
  rw [hkey] at hput
  rw [coll_keeps hkeep, hput]

/-- What a step leaves of a collective that runs, if it still does. -/
theorem collStep_coll {c' : Coll} (hin : (s.part p).runs c.key) (h : ((s.collStep p c).part p).coll c.key = some c') :
    SameColl c c' := by
  obtain ⟨hkeep, hgo⟩ := collGo_spec s p c
  have hruns : ((s.collGo p c).1.part p).runs (s.collGo p c).2.1.key := by
    rw [Part.runs, hkeep.same p, hgo.key]
    exact hin
  have hput := putColl_found hruns
  have hraise := collRaise_found (runs_of_coll hput)
  rw [hgo.key] at hput hraise
  unfold State.collStep at h
  dsimp only at h
  split at h
  · next st _ =>
    rw [hraise st] at h
    cases h
    exact hgo.trans ⟨rfl, rfl, rfl, rfl⟩
  · split at h
    · rw [State.finish_part, coll_keeps (noteGathered_keeps ..), Part.coll, State.dropColl, State.modPart, State.part_setPart] at h
      have hin := List.mem_of_find?_eq_some h
      have hkey : c'.key = c.key := by simpa using List.find?_some h
      simp [hkey] at hin
    · rw [hput] at h
      cases h
      exact hgo

theorem collStep_mem (s : State) (p : Nat) (h : c.mine.op ≠ .orderGather) : (s.collStep p c).mem = s.mem := by
  have hgo := collGo_mem s p h
  unfold State.collStep
  dsimp only
  split
  · exact ((State.collRaise_evolves ..).same .mem rfl).trans hgo
  · split
    · rw [State.finish_mem, (State.noteGathered_evolves ..).same .mem rfl]
      exact hgo
    · exact hgo

end

/-! #### READY (R373) -/

section
variable {s : State} {p : Nat} {r : Ready} {c : Coll}

theorem exec_readyReceive (hp : p < 4) (hin : (s.part p).inService = true) (hdom : s.domain ≠ 0) :
    exec (.readyReceive p r) s = .next (s.readyIn p r) := by
  change execReadyReceive p r s = _
  simp only [execReadyReceive, onQuad_of_lt hp, hin, Bool.not_true, Bool.false_eq_true, if_false, hdom]

theorem readyIn_unknown (hcoll : (s.part p).coll (collKey r.group r.milestone r.tag) = none)
    (htag : (s.part p).collTag r.group r.tag = none) : s.readyIn p r =
      if (s.part p).doneKeys.contains (collKey r.group r.milestone r.tag) then s
      else s.modPart p fun y => { y with
        heldReady := y.heldReady ++ [r] } := by
  simp only [State.readyIn, hcoll, htag, Option.orElse_none]

section
variable (hcoll : (s.part p).coll (collKey r.group r.milestone r.tag) = some c) (hlt : r.rank < c.n) (hne : r.rank ≠ c.rank)
  (hfirst : ∀ e ∈ c.ready, e.1 ≠ r.rank)
include hcoll hlt hne hfirst

theorem readyIn_known : s.readyIn p r = (readyFault c.mine r).elim
    (if c.causes.isEmpty then (s.putColl p { c with ready := c.ready ++ [(r.rank, r.orders)] }).collStep p
        { c with ready := c.ready ++ [(r.rank, r.orders)] }
      else s.putColl p { c with ready := c.ready ++ [(r.rank, r.orders)] }) fun st => s.collRaise p c st := by
  have hgo : (c.n ≤ r.rank || r.rank = c.rank || c.ready.any fun e => e.1 == r.rank) = false := by
    simp only [Bool.or_eq_false_iff, decide_eq_false_iff_not, List.any_eq_false]
    exact ⟨⟨by omega, hne⟩, fun e he => by simpa using hfirst e he⟩
  simp only [State.readyIn, hcoll, Option.orElse_some, State.readyFor, hgo, Bool.false_eq_true, if_false]
  cases readyFault c.mine r <;> rfl

/-- One that disagrees makes the member abort. -/
theorem readyIn_disagrees {st : Nat} (hst : readyFault c.mine r = some st) :
    ∃ c', ((s.readyIn p r).part p).coll (collKey r.group r.milestone r.tag) = some c' ∧ c'.causes = c.causes ++ [(st, c.rank)] := by
  have hkey : c.key = collKey r.group r.milestone r.tag := by simpa using List.find?_some hcoll
  have hruns := runs_of_coll hcoll
  rw [← hkey] at hruns ⊢
  rw [readyIn_known hcoll hlt hne hfirst, hst]
  exact ⟨_, collRaise_found hruns st, rfl⟩

/-- One that agrees is kept with its order count. -/
theorem readyIn_agrees (hok : readyFault c.mine r = none) {c' : Coll}
    (hc' : ((s.readyIn p r).part p).coll (collKey r.group r.milestone r.tag) = some c') : (r.rank, r.orders) ∈ c'.ready := by
  obtain ⟨d, hd⟩ : ∃ d, d = { c with ready := c.ready ++ [(r.rank, r.orders)] } := ⟨_, rfl⟩
  have hkey : c.key = collKey r.group r.milestone r.tag := by simpa using List.find?_some hcoll
  have hdkey : d.key = collKey r.group r.milestone r.tag := by
    rw [← hkey, hd, Coll.key, Coll.key]
  have hready : (r.rank, r.orders) ∈ d.ready := by
    rw [hd]
    exact List.mem_append_right _ (List.mem_singleton.2 rfl)
  have hput : ((s.putColl p d).part p).coll d.key = some d := putColl_found (hdkey ▸ runs_of_coll hcoll)
  rw [readyIn_known hcoll hlt hne hfirst, hok, Option.elim_none, ← hd, ← hdkey] at hc'
  split at hc'
  · rw [(collStep_coll (runs_of_coll hput) hc').ready]
    exact hready
  · rw [hput] at hc'
    cases hc'
    exact hready

end

/-- READY goes again to the peers that are silent, and to no other. -/
theorem readyResend_sends (hp : p < 4) {g : Nat} {tag : Word} (hc : (s.part p).collTag g tag = some c) (hcauses : c.causes = [])
    (hdom : s.domain ≠ 0) {rs : List Nat}
    (hrs : rs = c.peers.filter fun i => !(c.ready.any fun e => e.1 == i) && !c.heard.contains i)
    (hrouted : ∀ i ∈ c.peers, ∃ n, Routed s p c i n) : Answers (.readyResend p g tag) s fun t => t = (s.sendReadys p c rs).1 ∧
      ∀ i ∈ rs, ∀ n, Routed s p c i n → ReadySent s t p c i n := by
  obtain ⟨hno, hout⟩ := sendReadys_routed (c := c) rs s hdom fun i hi => hrouted i (List.mem_filter.1 (hrs ▸ hi)).1
  refine ⟨(s.sendReadys p c rs).1, ?_, rfl, hout.sent⟩
  change execReadyResend p g tag s = _
  simp only [execReadyResend, onQuad_of_lt hp, hc, hcauses, List.isEmpty_nil, Bool.not_true, Bool.false_eq_true, if_false, ← hrs, hno]

end

/-! #### Data (R372, R375) -/

section
variable {s t : State} {p rk b : Nat} {k : Packet} {rest : List Packet} {c : Coll}

theorem SameData.writeWire (h : SameData s t) (f : TFmt) (base e b : Nat) (w : List Byte) :
    SameData (s.writeWire f base e b w) (t.writeWire f base e b w) := by
  unfold State.writeWire
  dsimp only
  split
  · exact (h.writeMem ..).writeMem ..
  · exact h.writeMem ..

theorem copyBlocks_mem (h : SameData s t) {d : Coll} (hdst : d.dst = c.dst) (hmine : d.mine = c.mine) (f : TFmt) (first : Nat)
    (ws : List (List Byte)) : (t.copyBlocks d f first ws).1.mem = (s.copyBlocks c f first ws).1.mem := by
  have hfold : ∀ (l : List (List Byte × Nat)) (u v : State), SameData u v →
      SameData (l.foldl (fun t e => t.writeWire f c.dst c.e (first + e.2) e.1) u)
        (l.foldl (fun t e => t.writeWire f c.dst c.e (first + e.2) e.1) v) := by
    intro l
    induction l with
    | nil => exact fun _ _ h => h
    | cons e l ih => exact fun u v h => ih _ _ (h.writeWire ..)
  have he : d.e = c.e := by rw [Coll.e, Coll.e, hmine]
  rw [State.copyBlocks, State.copyBlocks, hdst, he]
  exact (hfold _ s t h).mem

theorem finalBlock_mem (h : SameData s t) {d : Coll} (hd : d.dst = c.dst ∧ d.mine = c.mine ∧ d.split = c.split ∧ d.rank = c.rank)
    (b : Nat) (vs : List Word) : (t.finalBlock d b vs).mem = (s.finalBlock c b vs).mem := by
  obtain ⟨hdst, hmine, hsplit, hrank⟩ := hd
  unfold State.finalBlock
  simp only [Coll.outF, Coll.owned, Coll.e, Coll.hi, Coll.lo, hdst, hmine, hsplit, hrank]
  split
  · exact (h.writeWire ..).mem
  · exact (h.writeWire ..).mem

theorem chunk_one {z : Nat} {bs : List Byte} (hz : 0 < z) (h : bs.length = z) : chunk z bs = [bs] := by
  obtain ⟨n, hn⟩ : ∃ n, bs.length = n + 1 := ⟨bs.length - 1, by omega⟩
  have hne : bs.isEmpty = false := by
    cases bs with
    | nil => simp at hn
    | cons b bs => rfl
  have hrest : chunks z n ([] : List Byte) = [] := by cases n <;> rfl
  rw [chunk, hn, chunks, hne, if_neg Bool.false_ne_true, ← h, List.take_length, List.drop_length, h, hrest]

theorem wireSize_pos (f : TFmt) : 0 < wireSize f := by cases f <;> decide

/-- The delivered packet is taken. -/
def State.takeDelivered (s : State) (p : Nat) (rest : List Packet) : State := s.modPart p fun x => { x with
  delivered := rest }

theorem takeDelivered_colls (s : State) (p : Nat) (rest : List Packet) : ((s.takeDelivered p rest).part p).colls = (s.part p).colls := by
  rw [State.takeDelivered, State.modPart, State.part_setPart]

/-- The collective that a packet belongs to. -/
def Part.packetColl (x : Part) (k : Packet) : Option Coll := x.colls.find? fun c =>
  c.mine.group == k.group && c.mine.tag.toNat == k.tag && c.mine.milestone.toNat % 256 == k.mtag

theorem exec_collDataReceive_none (hp : p < 4) (hdel : (s.part p).delivered = k :: rest) (hfound : (s.part p).packetColl k = none) :
    exec (.collDataReceive p) s = .next (s.takeDelivered p rest) := by
  have hfind := takeDelivered_colls s p rest
  have hnone : ((s.takeDelivered p rest).part p).packetColl k = none := by rw [Part.packetColl, hfind]; exact hfound
  rw [Part.packetColl, State.takeDelivered] at hnone
  change execCollDataReceive p s = _
  simp only [execCollDataReceive, onQuad_of_lt hp, hdel, hnone]
  rfl

section
variable (hp : p < 4) (hdel : (s.part p).delivered = k :: rest) (hfound : (s.part p).packetColl k = some c)
  (hrank : c.rankOf k = some rk) (hne : rk ≠ c.rank) (hcauses : c.causes = [])
include hp hdel hfound hrank hne hcauses

theorem exec_collDataReceive : exec (.collDataReceive p) s =
    .next ((((s.takeDelivered p rest).collData c rk k).1.putColl p ((s.takeDelivered p rest).collData c rk k).2).collStep p
      ((s.takeDelivered p rest).collData c rk k).2) := by
  have hfind := takeDelivered_colls s p rest
  have hsome : ((s.takeDelivered p rest).part p).packetColl k = some c := by rw [Part.packetColl, hfind]; exact hfound
  rw [Part.packetColl, State.takeDelivered] at hsome
  have hgo : (!c.causes.isEmpty || rk = c.rank) = false := by simp [hcauses, hne]
  change execCollDataReceive p s = _
  simp only [execCollDataReceive, onQuad_of_lt hp, hdel, hsome, hrank, hgo, Bool.false_eq_true, if_false]
  rfl

/-- The collective with the bytes that a rank has sent. -/
def Coll.hearing (c : Coll) (rk : Nat) (k : Packet) : Coll := { c with
  got := tset 0 c.got rk (tget 0 c.got rk + k.payload.length)
  heard := if c.heard.contains rk then c.heard else rk :: c.heard }

omit hp hdel hfound hrank hne hcauses in
theorem addBlocks_one {a : List Word} (ha : tfind c.acc b = some a) (w : List Byte) :
    let v := List.zipWith add32 a (wireVals c.inF a.length w)
    s.addBlocks c b [w] = (if tget 0 c.cnt b + 1 + 1 = c.n then (s.stage c b v).finalBlock c b v else s.stage c b v, { c with
      acc := tput c.acc b v
      cnt := tset 0 c.cnt b (tget 0 c.cnt b + 1) }) := by
  simp [State.addBlocks, ha]

theorem collDataReceive_adds {a : List Word} (hop : c.mine.op = .reduceScatter) (hlen : k.payload.length = wireSize c.inF)
    (hoff : k.offset = b * wireSize c.inF) (ha : tfind c.acc b = some a) : Answers (.collDataReceive p) s fun t =>
      (∀ c', (t.part p).coll c.key = some c' → tfind c'.acc b = some (List.zipWith add32 a (wireVals c.inF a.length k.payload)) ∧
        tget 0 c'.cnt b = tget 0 c.cnt b + 1) ∧
      (c.mine.outFmt ≠ 0 → t.mem = if tget 0 c.cnt b + 2 = c.n then
        (s.finalBlock c b (List.zipWith add32 a (wireVals c.inF a.length k.payload))).mem else s.mem) := by
  have hexec := exec_collDataReceive hp hdel hfound hrank hne hcauses
  have hfirst : k.offset / wireSize c.inF = b := by rw [hoff, Nat.mul_div_cancel _ (wireSize_pos _)]
  obtain ⟨v, hv⟩ : ∃ v, v = List.zipWith add32 a (wireVals c.inF a.length k.payload) := ⟨_, rfl⟩
  obtain ⟨d, hd⟩ : ∃ d, d = c.hearing rk k := ⟨_, rfl⟩
  obtain ⟨u, hu⟩ : ∃ u, u = s.takeDelivered p rest := ⟨_, rfl⟩
  have hdata : u.collData c rk k = u.addBlocks d b [k.payload] := by
    unfold State.collData
    dsimp only
    rw [hop]
    dsimp only
    rw [hfirst, chunk_one (wireSize_pos _) hlen, hd]
    rfl
  have hacc : d.acc = c.acc := by rw [hd]; rfl
  have hcnt : d.cnt = c.cnt := by rw [hd]; rfl
  have hmine : d.mine = c.mine := by rw [hd]; rfl
  have hinF : d.inF = c.inF := by rw [Coll.inF, Coll.inF, hmine]
  have hn : d.n = c.n := by rw [hd]; rfl
  obtain ⟨e, he⟩ : ∃ e, e = { d with
    acc := tput d.acc b v
    cnt := tset 0 d.cnt b (tget 0 d.cnt b + 1) } := ⟨_, rfl⟩
  obtain ⟨w, hw⟩ : ∃ w, w = if tget 0 d.cnt b + 1 + 1 = d.n then (u.stage d b v).finalBlock d b v else u.stage d b v := ⟨_, rfl⟩
  have hadd : u.collData c rk k = (w, e) := by
    have hone := addBlocks_one (s := u) (c := d) (b := b) (by rw [hacc]; exact ha) k.payload
    rw [hdata, hone, hinF, ← hv, ← hw, ← he]
  rw [← hu, hadd] at hexec
  have hekey : e.key = c.key := by rw [Coll.key, Coll.key, he, ← hmine]
  have hwev : Evolves 29425664 u w := by
    rw [hw]
    refine .ite ?_ (State.stage_evolves ..)
    exact (State.finalBlock_evolves ..).app (State.stage_evolves ..) rfl
  have hruns : (w.part p).runs e.key := by
    refine ⟨c, ?_, hekey.symm⟩
    rw [part_congr (hwev.same .parts rfl), hu, takeDelivered_colls]
    exact List.mem_of_find?_eq_some hfound
  have heop : e.mine.op ≠ .orderGather := by
    rw [he]
    dsimp only
    rw [hmine, hop]
    decide
  rw [← hv]
  refine ⟨_, hexec, fun c' hc' => ?_, fun hfmt => ?_⟩
  · rw [← hekey] at hc'
    have hsame := collStep_coll (runs_of_coll (putColl_found hruns)) hc'
    rw [hsame.acc, hsame.cnt, he]
    dsimp only
    rw [hcnt, hacc, tset, if_neg (Nat.succ_ne_zero _)]
    exact ⟨tfind_tput_self .., tget_tput_self ..⟩
  · have hstage : u.stage d b v = u := if_neg (by rw [hmine]; exact hfmt)
    have hdata : SameData s u := by rw [hu]; exact ⟨rfl, rfl, rfl, rfl⟩
    rw [collStep_mem _ _ heop, (State.putColl_evolves w p e).same .mem rfl, hw, hcnt, hn, hstage]
    split
    · exact finalBlock_mem hdata (by rw [hd]; exact ⟨rfl, rfl, rfl, rfl⟩) b v
    · exact hdata.mem

theorem collDataReceive_copies (hop : c.mine.op = .allGather) : Answers (.collDataReceive p) s fun t =>
    t.mem = (s.copyBlocks c c.inF (c.lo rk + k.offset / wireSize c.inF) (chunk (wireSize c.inF) k.payload)).1.mem := by
  have hexec := exec_collDataReceive hp hdel hfound hrank hne hcauses
  obtain ⟨u, hu⟩ : ∃ u, u = s.takeDelivered p rest := ⟨_, rfl⟩
  have hdata : u.collData c rk k = u.copyBlocks (c.hearing rk k) c.inF (c.lo rk + k.offset / wireSize c.inF)
      (chunk (wireSize c.inF) k.payload) := by
    unfold State.collData
    dsimp only
    rw [hop]
    rfl
  have hsame : SameData s u := by rw [hu]; exact ⟨rfl, rfl, rfl, rfl⟩
  have hmem := copyBlocks_mem (c := c) (d := c.hearing rk k) hsame rfl rfl c.inF (c.lo rk + k.offset / wireSize c.inF)
    (chunk (wireSize c.inF) k.payload)
  have hmine : (u.collData c rk k).2.mine.op ≠ .orderGather := by
    rw [hdata, State.copyBlocks]
    dsimp only [Coll.hearing]
    rw [hop]
    decide
  rw [← hu] at hexec
  refine ⟨_, hexec, ?_⟩
  dsimp only
  rw [collStep_mem _ _ hmine, (State.putColl_evolves ..).same .mem rfl, hdata, hmem]

end

end

/-- Settles O33: what a READY, its resend and a data packet do in each case. -/
theorem readysAreComparedAndDataAdded : Obligations.ReadysAreComparedAndDataAdded := by
  unfold Obligations.ReadysAreComparedAndDataAdded
  refine ⟨fun s p r c hp => ⟨fun hin hdom => ?_, fun hin hdom hcoll htag => ?_, fun hin hdom hcoll hlt hne hfirst => ?_,
    fun hc hcauses hdom hrouted => readyResend_sends hp hc hcauses hdom rfl hrouted⟩, fun s p rk b k rest c a hp hdel => ?_⟩
  · change execReadyReceive p r s = _
    simp only [execReadyReceive, onQuad_of_lt hp, hin, Bool.not_true, Bool.false_eq_true, if_false, hdom, if_true]
  · rw [exec_readyReceive hp hin hdom, readyIn_unknown hcoll htag]
  · have hexec := exec_readyReceive (r := r) hp hin hdom
    exact ⟨fun st hst => ⟨_, hexec, readyIn_disagrees hcoll hlt hne hfirst hst⟩,
      fun hok => ⟨_, hexec, fun c' hc' => readyIn_agrees hcoll hlt hne hfirst hok hc'⟩⟩
  · exact ⟨exec_collDataReceive_none hp hdel, fun hfound hrank hne hcauses =>
      ⟨collDataReceive_adds hp hdel hfound hrank hne hcauses, collDataReceive_copies hp hdel hfound hrank hne hcauses⟩⟩

end Sys2Proof.Machine
end

section
/-! ### A pull by a module whose register disagrees with its pairing (R535, R544) -/

namespace Sys2Proof.Machine

open Sys2Proof Sys2Proof.Safety

/-- A twin that counts as paired and mirrors, over a live port T in domain 1, while bit 0 of its register TW_CFG reads 0. -/
def pairedNotEnabled : State :=
  { State.reset with
    powered := true
    parts := [(0, { Part.absent with st := .inService, quads := [3] })]
    regs := [(regKey 2 0 0x220 0, 2 ^ 16)]
    ports := [(8, { Port.down with st := 2 })]
    twin := { State.reset.twin with st := .paired, mirroring := true } }

/-- The write that asks for the pull also sets bit 0, and the module announces itself by a flit. -/
theorem pairedNotEnabled_announces : (match exec (.twinPull .owner (2 ^ 28 + 1)) pairedNotEnabled with
    | .next t => t.out.length
    | _ => 0) = 1 := by decide +kernel

/-- Refutes O59: nothing ties the enable bit of TW_CFG to the state of the pairing, and a write that sets the bit together with
PULL sends a flit, so that the output is not as before. -/
theorem not_twinImagesAreHeldAndReturned : ¬ Obligations.TwinImagesAreHeldAndReturned := by
  unfold Obligations.TwinImagesAreHeldAndReturned
  intro h
  obtain ⟨hpaired, -⟩ := h pairedNotEnabled 0 (2 ^ 28 + 1) [] (by decide) rfl (by decide) (by decide) ⟨rfl, rfl⟩
  obtain ⟨-, -, -, hpull, -⟩ := hpaired rfl
  obtain ⟨t, ht, hout, -⟩ := (hpull (by decide) (by decide)).2 rfl
  have hflit := pairedNotEnabled_announces
  rw [ht] at hflit
  change t.out.length = 1 at hflit
  rw [hout] at hflit
  cases hflit

end Sys2Proof.Machine
end

section
/-! ### The twin's pairing over a live port T (R535 to R541): what carries its messages -/

namespace Sys2Proof.Machine

open Sys2Proof Sys2Proof.Safety

/-! #### Owners of the hubs -/

/-- Every hub has the owner that it had. -/
structure SameOwners (s t : State) : Prop where
  owner : ∀ k, t.owner k = s.owner k

namespace SameOwners

section
variable {s t u : State}

theorem refl : SameOwners s s := ⟨fun _ => rfl⟩
theorem trans (h : SameOwners s t) (k : SameOwners t u) : SameOwners s u := ⟨fun j => (k.owner j).trans (h.owner j)⟩
theorem of_parts (h : t.parts = s.parts) : SameOwners s t := ⟨fun _ => by rw [State.owner, State.owner, h]⟩
theorem ite {c : Prop} [Decidable c] (h : SameOwners s t) (k : SameOwners s u) : SameOwners s (if c then t else u) := by
  split <;> assumption

/-- A partition that is replaced by one of its state and quadrants owns what it owned. -/
theorem setPart (p : Nat) {x : Part} (hst : x.st = (s.part p).st) (hq : x.quads = (s.part p).quads) : SameOwners s (s.setPart p x) := by
  refine ⟨fun k => find_tput (fun v hv => ?_) fun hv => ?_⟩
  · have hpart : s.part p = v := by rw [State.part, tget, hv]; rfl
    dsimp only
    rw [hst, hq, hpart]
  · have hpart : s.part p = Part.absent := by rw [State.part, tget, hv]; rfl
    dsimp only
    rw [hst, hpart]
    rfl

theorem modPart (p : Nat) {f : Part → Part} (hst : ∀ x, (f x).st = x.st) (hq : ∀ x, (f x).quads = x.quads) :
    SameOwners s (s.modPart p f) := .setPart p (hst _) (hq _)

theorem eqPut (s : State) (p code : Nat) (fs : List (Nat × Nat × Nat)) : SameOwners s (s.eqPut p code fs) := by
  refine .trans (.setPart p ?_ ?_) (.of_parts rfl)
  all_goals rfl

theorem eqFlush (s : State) (p : Nat) : SameOwners s (s.eqFlush p) :=
  .ite .refl (.trans (.eqPut ..) (.modPart p (fun _ => rfl) fun _ => rfl))

theorem eqEvent (s : State) (p code : Nat) (fs : List (Nat × Nat × Nat)) : SameOwners s (s.eqEvent p code fs) := by
  refine .trans (.eqFlush s p) (.ite (.eqPut ..) (.trans ?_ (.of_parts ((State.count_evolves ..).same .parts rfl))))
  exact .modPart p (fun _ => rfl) fun _ => rfl

/-- An event leaves every hub with its owner. -/
theorem raiseM (s : State) (p code : Nat) (fs ms : List (Nat × Nat × Nat)) : SameOwners s (s.raiseM p code fs ms) :=
  .trans (.eqEvent ..) (.of_parts ((State.pushRecord_evolves ..).same .parts rfl))
theorem raise (s : State) (p code : Nat) (fs : List (Nat × Nat × Nat)) : SameOwners s (s.raise p code fs) := .raiseM s p code fs []

end

end SameOwners

/-! #### Messages of the twin -/

/-- Registers and owners are the same, so the twin's packets take the same form, and what was under way still is. -/
structure SameRoad (s t : State) : Prop where
  regs : t.regs = s.regs
  owners : SameOwners s t
  flows : Flows s t

/-- Port T is up, and the module is in a rack domain. -/
structure Linked (s : State) : Prop where
  live : (s.port portT).live = true
  domain : s.domain ≠ 0

section
variable {s t u : State} {kind vc tag : Nat} {msg : List Byte}

theorem SameRoad.trans (h : SameRoad s t) (k : SameRoad t u) : SameRoad s u :=
  ⟨k.regs.trans h.regs, h.owners.trans k.owners, h.flows.trans k.flows⟩

theorem SameRoad.of_evolves {m : Nat} (h : Evolves m s t) (howners : SameOwners s t) (hregs : m.testBit 14 = false)
    (hflows : Flows s t) : SameRoad s t := ⟨h.same .regs hregs, howners, hflows⟩

theorem domain_congr (h : t.regs = s.regs) : t.domain = s.domain := regf_congr h ..
theorem endpoint_congr (h : t.regs = s.regs) : t.endpoint = s.endpoint := regf_congr h ..
theorem twCfg_congr (h : t.regs = s.regs) (lo w : Nat) : t.twCfg lo w = s.twCfg lo w := regf_congr h ..

theorem SameRoad.twinPacket (h : SameRoad s t) (o : Nat × List Byte) :
    t.twinPacket kind vc tag o = s.twinPacket kind vc tag o := by
  rw [State.twinPacket, State.twinPacket, domain_congr h.regs, endpoint_congr h.regs, twCfg_congr h.regs, State.twinPart, State.twinPart,
    h.owners.owner]

theorem slotImage_congr (hmem : t.mem = s.mem) (hregs : t.regs = s.regs) (i : Nat) : t.slotImage i = s.slotImage i := by
  have hslot : t.mirrorSlot i = s.mirrorSlot i := by
    simp only [State.mirrorSlot, State.mirrorRegion, regf_congr hregs]
  rw [State.slotImage, State.slotImage, hslot, hmem]

/-- A message on its way stays on its way. -/
theorem Sent.onward (h : Sent s kind vc tag msg) (hst : SameRoad s t) (hvc : vc < 4) : Sent t kind vc tag msg := by
  intro e he
  rw [hst.twinPacket]
  exact Carried.flows (h e he) hst.flows hvc

theorem Linked.congr (h : Linked s) (hregs : t.regs = s.regs) (hports : t.ports = s.ports) : Linked t := by
  refine ⟨?_, domain_congr hregs ▸ h.domain⟩
  have hport : t.port portT = s.port portT := congrArg (tget Port.down · portT) hports
  rw [hport]
  exact h.live

theorem sendOn_foldl_flows {α : Type} (n vc : Nat) (f : α → List Byte) (l : List α) (u : State) :
    Flows u (l.foldl (fun t e => t.sendOn n vc ownInput none (f e)) u) := by
  induction l generalizing u with
  | nil => exact .refl u
  | cons e l ih => exact (sendOn_flows ..).trans (ih _)

theorem sendOn_foldl_carried {α : Type} (n : Nat) {vc : Nat} (hvc : vc < 4) {f : α → Packet} (hf : ∀ e, (f e).vc = vc) (l : List α)
    (u : State) : ∀ e ∈ l, Carried (l.foldl (fun t e => t.sendOn n vc ownInput none (f e).bytes) u) n (f e) := by
  induction l generalizing u with
  | nil => exact fun _ h => nomatch h
  | cons a l ih =>
    intro e he
    rcases List.mem_cons.1 he with rfl | he
    · have hsend := sendOn_carried u n (k := f e) (hf e ▸ hvc)
      rw [hf e] at hsend
      exact Carried.flows hsend (sendOn_foldl_flows n vc (fun e => (f e).bytes) l _) (hf e ▸ hvc)
    · exact ih _ e he

/-- Over a live port T in a domain, every message of the twin goes on its way. -/
theorem twinSend_sends (h : Linked s) (hvc : vc < 4) : Sent (s.twinSend kind vc tag msg) kind vc tag msg := by
  have hst : (s.port portT).st ≠ 0 := by
    intro h0
    have hlive := h.live
    rw [Port.live, h0] at hlive
    exact Bool.noConfusion hlive
  have hev := State.twinSend_evolves s kind vc tag msg
  have hroad : ∀ o, (s.twinSend kind vc tag msg).twinPacket kind vc tag o = s.twinPacket kind vc tag o := by
    intro o
    rw [State.twinPacket, State.twinPacket, domain_congr (hev.same .regs rfl), endpoint_congr (hev.same .regs rfl),
      twCfg_congr (hev.same .regs rfl), State.twinPart, State.twinPart, (SameOwners.of_parts (hev.same .parts rfl)).owner]
  intro e he
  rw [hroad, State.twinSend, if_neg hst, if_neg h.domain]
  exact sendOn_foldl_carried portT hvc (fun _ => rfl) _ s e he

theorem pairingSend_sends (h : Linked s) (k : Nat) (bs : List Byte) : PairingSent (s.pairingSend k bs) k bs :=
  twinSend_sends h (by decide)

theorem pairingSend_twin (s : State) (k : Nat) (bs : List Byte) : (s.pairingSend k bs).twin = s.twin :=
  (State.pairingSend_evolves ..).same .twin rfl

/-- A step of the handshake. -/
theorem pairStep_spec (h : Linked s) (n k : Nat) (bs : List Byte) :
    (s.pairStep n k bs).twin = { s.twin with progress := n } ∧ PairingSent (s.pairStep n k bs) k bs := by
  have hlink : Linked { s with twin := { s.twin with progress := n } } := h.congr rfl rfl
  exact ⟨pairingSend_twin .., pairingSend_sends hlink k bs⟩

/-- A handshake that fails leads back, and the peer is told the reason. -/
theorem pairFail_spec {p : Nat} (hp : s.twinPart = some p) (h : Linked s) (r : Nat) :
    (s.pairFail r).twin = { s.twin with st := s.twin.from_, progress := 0 } ∧ PairingSent (s.pairFail r) 5 [BitVec.ofNat 8 r] := by
  have hfail : s.pairFail r = (({ s with twin := { s.twin with st := s.twin.from_, progress := 0 } }).raise p evTwinPairFail
      [(24, 1, r)]).pairingSend 5 [BitVec.ofNat 8 r] := by
    rw [State.pairFail, State.onTwin, hp]
  have hev := State.raise_evolves { s with twin := { s.twin with st := s.twin.from_, progress := 0 } } p evTwinPairFail [(24, 1, r)]
  rw [hfail]
  generalize hv : ({ s with twin := { s.twin with st := s.twin.from_, progress := 0 } }).raise p evTwinPairFail [(24, 1, r)] = v
  rw [hv] at hev
  refine ⟨(pairingSend_twin v 5 _).trans (hev.same .twin rfl), ?_⟩
  exact pairingSend_sends (h.congr (hev.same .regs rfl) (hev.same .ports rfl)) 5 _

/-- The return of the held image is sent. -/
theorem sendReturn_spec (h : Linked s) {i : Nat} (hi : s.twin.held = some i) :
    Sent s.sendReturn 5 2 1 (s.slotImage i) ∧ s.sendReturn.twin = { s.twin with
      returnDue := false
      returnSent := true } := by
  rw [State.sendReturn, hi]
  exact ⟨twinSend_sends (h.congr rfl rfl) (by decide), (State.imageSend_evolves ..).same .twin rfl⟩

end

end Sys2Proof.Machine
end

section
/-! ### Pairing, loss and detaching of the twin (R535 to R541) -/

namespace Sys2Proof.Machine

open Sys2Proof Sys2Proof.Safety

/-! #### Messages of the handshake -/

section
variable {s : State} {p : Nat}

theorem twinMessage_linked (h : Linked s) (r : Result) : s.twinMessage r = r := if_neg h.domain

/-- What a handshake that fails for reason `r` leaves. -/
def FailedPairing (s : State) (r : Nat) (t : State) : Prop :=
  t.twin.st = s.twin.from_ ∧ t.twin.progress = 0 ∧ PairingSent t 5 [BitVec.ofNat 8 r]

theorem pairFail_failed (hp : s.twinPart = some p) (h : Linked s) (r : Nat) : FailedPairing s r (s.pairFail r) := by
  obtain ⟨htwin, hsent⟩ := pairFail_spec hp h r
  exact ⟨by rw [htwin], by rw [htwin], hsent⟩

theorem pairingTimeout_fails (hp : s.twinPart = some p) (h : Linked s) (hst : s.twin.st = .pairing) :
    Answers .pairingTimeout s (FailedPairing s 0) :=
  ⟨_, if_pos hst, pairFail_failed hp h 0⟩

/-- A HELLO in its place of the handshake, by its three checks. -/
theorem exec_hello (h : Linked s) (hst : s.twin.st = .pairing) (hprog : s.twin.progress = 0) (m : HelloMsg) :
    exec (.hello m) s = if m.endpoint ≠ s.twCfg 16 12 ∨ m.domain ≠ s.domain then .next (s.pairFail 2)
      else if s.regf 2 3 0x36C 0 16 = 0 then .next (s.pairFail 3)
      else .next (({ s with twin := { s.twin with noncePeer := slice m.nonce 0 32, peerSerial := slice m.serial 0 16 } }).pairStep 1 2
        (Config.aliasChain 0 s.sec.meas.flatten ++ Config.aliasChain 1 s.sec.meas.flatten)) := by
  change execHello m s = _
  rw [execHello, twinMessage_linked h]
  simp only [hst, hprog, bne_self_eq_false, Bool.or_self, Bool.false_eq_true, if_false, Bool.or_eq_true, bne_iff_ne]

theorem exec_chain (h : Linked s) (hst : s.twin.st = .pairing) (hprog : s.twin.progress = 1) (ed ml : List Byte) :
    exec (.chain ed ml) s = if Config.chainReachesRoot 0 ed && Config.chainReachesRoot 1 ml
      then .next (({ s with twin := { s.twin with peerChains := (ed, ml) } }).pairStep 2 3 s.identity)
      else .next (s.pairFail 1) := by
  change execChain ed ml s = _
  rw [execChain, twinMessage_linked h]
  simp only [hst, hprog, bne_self_eq_false, Bool.or_self, Bool.false_eq_true, if_false, Bool.not_eq_true', ite_not,
    ← Bool.not_eq_true]

theorem exec_ident (h : Linked s) (hst : s.twin.st = .pairing) (hprog : s.twin.progress = 2) (rec : List Byte) :
    exec (.ident rec) s = if s.identSigned rec then
        if slice rec 64 32 = s.twin.nonceOwn ∧ field rec 10 2 % 4096 = s.endpoint then .next (s.pairStep 3 4 [1]) else .next (s.pairFail 2)
      else .next (s.pairFail 1) := by
  change execIdent rec s = _
  rw [execIdent, twinMessage_linked h]
  by_cases hsig : s.identSigned rec = true
  · by_cases hfresh : slice rec 64 32 = s.twin.nonceOwn ∧ field rec 10 2 % 4096 = s.endpoint
    · simp [hst, hprog, hsig, hfresh]
    · rw [if_pos hsig, if_neg hfresh]
      simp only [hst, hprog, hsig, bne_self_eq_false, Bool.or_self, Bool.false_eq_true, if_false, Bool.not_true, Bool.or_eq_true,
        bne_iff_ne]
      exact if_pos (Classical.not_and_iff_not_or_not.1 hfresh)
  · simp [hst, hprog, hsig]

/-- The pairing is done: a module that was holding an image of its peer sends it back first. -/
theorem pairDone_spec (h : Linked s) :
    (s.twin.from_ = .unpaired ∨ s.twin.held = none → (s.pairDone p).twin = { s.twin with
      st := .paired
      progress := 4
      peerEp := s.twCfg 16 12 }) ∧
    (∀ i, s.twin.from_ = .holding → s.twin.held = some i →
      (s.pairDone p).twin.st = .returning ∧ Sent (s.pairDone p) 5 2 1 (s.slotImage i)) := by
  refine ⟨fun hno => ?_, fun i hfrom hheld => ?_⟩
  · have hback : (s.twin.from_ == .holding && s.twin.held.isSome) = false := by
      rcases hno with h | h <;> rw [h] <;> simp
    rw [State.pairDone]
    simp only [hback, Bool.false_eq_true, if_false]
    exact (State.raise_evolves ..).same .twin rfl
  · have hback : (s.twin.from_ == .holding && s.twin.held.isSome) = true := by rw [hfrom, hheld]; rfl
    rw [State.pairDone]
    simp only [hback, if_true]
    have hev := State.raise_evolves { s with twin := { s.twin with st := .returning, progress := 4, peerEp := s.twCfg 16 12 } } p
      evTwinPaired [(24, 2, s.twCfg 16 12), (32, 16, leNat s.twin.peerSerial)]
    generalize State.raise _ p evTwinPaired _ = u at hev
    have htwin := hev.same .twin rfl
    have hmem := hev.same .mem rfl
    obtain ⟨hsent, htw⟩ := sendReturn_spec (h.congr (hev.same .regs rfl) (hev.same .ports rfl)) (i := i) (by rw [htwin]; exact hheld)
    have himage : u.slotImage i = s.slotImage i := slotImage_congr hmem (hev.same .regs rfl) i
    exact ⟨by rw [htw, htwin], himage ▸ hsent⟩

theorem exec_confirm (h : Linked s) (hp : s.twinPart = some p) (hst : s.twin.st = .pairing) (hprog : s.twin.progress = 3) :
    exec (.confirm true) s = .next (s.pairDone p) := by
  change execConfirm true s = _
  rw [execConfirm, twinMessage_linked h]
  simp [hst, hprog, State.onTwin, hp]

theorem exec_confirm_no (h : Linked s) (hst : s.twin.st = .pairing) :
    exec (.confirm false) s = .next (s.useFree.pairFail (s.freeVal.toNat % 4)) := by
  change execConfirm false s = _
  rw [execConfirm, twinMessage_linked h]
  simp [hst]

/-! #### Heartbeats and the loss of the peer -/

/-- A peer that is lost leaves the module holding what it holds; nothing is mirrored any more. -/
theorem twinLost_spec (hst : s.twin.st = .paired ∨ s.twin.st = .returning) (r : Nat) : let t := s.twinLost r
    t.twin.st = .holding ∧ t.twin.held = s.twin.held ∧ t.twin.heldMs = s.twin.heldMs ∧ t.twin.mirroring = false := by
  intro t
  have hno : (s.twin.st != .paired && s.twin.st != .returning) = false := by
    rcases hst with h | h <;> rw [h] <;> rfl
  have hend : s.endMirrors.twin = { s.twin with
      mirroring := false
      mirrorsDue := []
      returnDue := false
      pullDue := false
      returnSent := false } := by
    unfold State.endMirrors
    dsimp only
    split <;> rfl
  have htwin : t.twin = { s.endMirrors.twin with st := .holding } := by
    change (s.twinLost r).twin = _
    rw [State.twinLost]
    simp only [hno, Bool.false_eq_true, if_false]
    split
    · exact (State.raise_evolves ..).same .twin rfl
    · rfl
  rw [htwin, hend]
  exact ⟨rfl, rfl, rfl, rfl⟩

theorem exec_heartbeatReceive (h : Linked s) (b : Heartbeat) : exec (.heartbeatReceive b) s =
    .next (if b.detaching then ({ s with twin := { s.twin with peerState := b.state } }).twinLost 2
      else { s with twin := { s.twin with peerState := b.state } }) := by
  change execHeartbeatReceive b s = _
  rw [execHeartbeatReceive, twinMessage_linked h]
  simp only [h.live, Bool.not_true, Bool.false_eq_true, if_false]

theorem heartbeatSend_sends (hp : s.twinPart = some p) (h : Linked s) (hon : s.twin.st ≠ .unpaired ∨ s.twin.detaching = true) :
    Answers .heartbeatSend s fun t => t.twin.hbSeq = (s.twin.hbSeq + 1) % 2 ^ 32 ∧
      Sent t 3 3 0 (block 24 [(0, 1, twinCode s.twin.st), (1, 1, b2n s.twin.detaching), (4, 4, s.twin.hbSeq),
        (8, 8, (s.part p).milestone.toNat), (16, 8, s.twin.heldMs.toNat)]) := by
  have hlink : Linked { s with twin := { s.twin with hbSeq := (s.twin.hbSeq + 1) % 2 ^ 32 } } := h.congr rfl rfl
  refine ⟨({ s with twin := { s.twin with hbSeq := (s.twin.hbSeq + 1) % 2 ^ 32 } }).heartbeatSend
    ⟨twinCode s.twin.st, (s.part p).milestone, s.twin.hbSeq, s.twin.heldMs, s.twin.detaching⟩, ?_, ?_, ?_⟩
  · change execHeartbeatSend s = _
    have hoff : ¬ (s.twin.st = .unpaired && !s.twin.detaching) = true := by
      rcases hon with h | h <;> simp [h]
    rw [execHeartbeatSend]
    simp only [hp]
    rw [if_neg hoff]
  · rw [State.heartbeatSend, (State.twinSend_evolves ..).same .twin rfl]
  · rw [State.heartbeatSend]
    exact twinSend_sends hlink (by decide)

end

/-! #### Writes of TW_CFG -/

section
variable {s : State} {p : Nat}

/-- What TW_CFG does by bit 0, with `o` the state before the write. -/
def State.twinSwitch (s o : State) (w : Nat) : State :=
  if bit w 0 then (if o.twCfg 0 1 == 1 then s else s.announce portT 0).seekTwin
  else if o.twCfg 0 1 == 1 then s.unpairTwin else s

/-- What TW_CFG does. -/
def State.twinConfig (s o : State) (w : Nat) : State := if bit w 28 then (s.twinSwitch o w).pullTwin else s.twinSwitch o w

theorem regAction_twin (s o : State) (v : Via) (w : Nat) : s.regAction o v 2 3 0x360 0 w = s.twinConfig o w := by
  rw [State.regAction, if_neg (by decide), if_neg (by decide)]
  rfl

theorem pullTwin_not_paired (h : s.twin.st ≠ .paired) : s.pullTwin = s := by
  rw [State.pullTwin, if_pos (bne_iff_ne.2 h)]

/-- The owner's write of TW_CFG: the register takes it and acts, and a held field that it meets is recorded. -/
theorem regWrite_twin (s : State) (w : Word) : Evolves 549755813892
    ((s.beforeAction .owner 2 3 0x360 0 w.toNat).twinConfig s w.toNat) (s.regWrite .owner 2 3 0x360 w.toNat) := by
  have hreached : (s.reached .owner 2 3 0x360).isEmpty = false := by
    rw [State.reached]
    rfl
  rw [regWrite_stages (i := 0) rfl hreached w.isLt]
  change Evolves _ _ (if _ then ((s.beforeAction .owner 2 3 0x360 0 w.toNat).regAction s .owner 2 3 0x360 0 w.toNat).fieldHeld .owner 2 3
    0x360 w.toNat else (s.beforeAction .owner 2 3 0x360 0 w.toNat).regAction s .owner 2 3 0x360 0 w.toNat)
  rw [regAction_twin]
  split
  · exact State.mgmtRecord_evolves ..
  · exact .refl

theorem exec_twinWrite (hpow : s.powered = true) (w : Word) :
    writeVia .owner .hd 3 0x360 w s = .next (s.regWrite .owner 2 3 0x360 w.toNat) := by
  have hopen : s.viaOpen .owner = true := by simp [State.viaOpen, hpow]
  exact writeVia_run (v := .owner) (kind := .hd) (fun _ h => nomatch h) hopen (by decide)

theorem twinConfig_regs (s o : State) (w : Nat) : (s.twinConfig o w).regs = s.regs := by
  have hswitch : Evolves 171798757894 s (s.twinSwitch o w) :=
    .ite (.trans (.ite .refl ((State.announce_evolves ..).mono rfl)) ((State.seekTwin_evolves ..).mono rfl))
      (.ite ((State.unpairTwin_evolves ..).mono rfl) .refl)
  have hall : Evolves 171798757894 s (s.twinConfig o w) := .ite (hswitch.trans ((State.pullTwin_evolves ..).mono rfl)) hswitch
  exact hall.same .regs rfl

/-- Once the register has taken the write, its bit 0 is the write's. -/
theorem twCfg_beforeTwin (s : State) (w : Word) :
    (s.beforeAction .owner 2 3 0x360 0 w.toNat).twCfg 0 1 = b2n (w.toNat.testBit 0) := by
  have hmem : (⟨0x360, 0, 1, .rw, 0x0, .hd3, .tenant, .free⟩ : RegField) ∈ s.reached .owner 2 3 0x360 := List.mem_filter.2 ⟨by decide, rfl⟩
  have hfield := regf_regWrite (i := 0) rfl hmem w.isLt (by decide) rfl
  rw [← bits_one, ← hfield]
  exact (regf_congr (((regWrite_twin s w).same .regs rfl).trans (twinConfig_regs ..)) ..).symm

/-- Before TW_CFG acts, the link, the identity and the twin are as they were. -/
theorem beforeTwin (s : State) (w : Nat) : let u := s.beforeAction .owner 2 3 0x360 0 w
    u.domain = s.domain ∧ u.endpoint = s.endpoint ∧ u.ports = s.ports ∧ u.parts = s.parts ∧ u.twin = s.twin := by
  intro u
  have hev := beforeAction_evolves s .owner 2 3 0x360 0 w
  have hid : u.reg 2 0 0x220 = s.reg 2 0 0x220 := reg_beforeAction_other (by decide)
  exact ⟨congrArg (bits · 16 16) hid, congrArg (bits · 0 12) hid, hev.same .ports rfl, hev.same .parts rfl, hev.same .twin rfl⟩

/-- A module that may seek its peer starts a handshake with HELLO. -/
theorem seekTwin_sends (h : Linked s) (hp : s.twinPart = some p) (hst : s.twin.st = .unpaired) (hen : s.twCfg 0 1 = 1)
    (hin : (s.part p).inService = true) : let t := s.seekTwin
    t.twin.st = .pairing ∧ t.twin.from_ = .unpaired ∧ t.twin.progress = 0 ∧ t.twin.nonceOwn.length = 32 ∧
    PairingSent t 1 (natLe 2 s.endpoint ++ natLe 2 s.domain ++ slice Config.serial 0 16 ++ t.twin.nonceOwn) := by
  have hseek : s.seekTwin = ({ s with
      free := s.free + 4
      twin := { s.twin with st := .pairing, from_ := .unpaired, progress := 0, nonceOwn := s.nonce, noncePeer := [], peerChains := ([], []),
                            detaching := false } }).pairingSend 1
        (natLe 2 s.endpoint ++ natLe 2 s.domain ++ slice Config.serial 0 16 ++ s.nonce) := by
    simp [State.seekTwin, hp, hst, hen, h.live, hin]
  have htwin := (congrArg State.twin hseek).trans (pairingSend_twin ..)
  have hlink : Linked { s with
      free := s.free + 4
      twin := { s.twin with st := .pairing, from_ := .unpaired, progress := 0, nonceOwn := s.nonce, noncePeer := [], peerChains := ([], []),
                            detaching := false } } := h.congr rfl rfl
  have hnonce : s.nonce.length = 32 := by
    simp [State.nonce, List.range_succ, length_natLe]
  intro t
  change t.twin = _ at htwin
  rw [htwin]
  refine ⟨rfl, rfl, rfl, hnonce, ?_⟩
  change PairingSent s.seekTwin 1 _
  rw [hseek]
  exact pairingSend_sends hlink 1 _

theorem twinEnable_seeks (hpow : s.powered = true) (h : Linked s) (hp : s.twinPart = some p) (hst : s.twin.st = .unpaired)
    (hin : (s.part p).inService = true) {w : Word} (hw : w.toNat.testBit 0 = true) : Answers (.twinEnable .owner w) s fun t =>
      t.twin.st = .pairing ∧ t.twin.from_ = .unpaired ∧ t.twin.progress = 0 ∧ t.twin.nonceOwn.length = 32 ∧
      PairingSent t 1 (natLe 2 s.endpoint ++ natLe 2 s.domain ++ slice Config.serial 0 16 ++ t.twin.nonceOwn) := by
  refine ⟨_, exec_twinWrite hpow w, ?_⟩
  have hev := regWrite_twin s w
  have hcfg := twCfg_beforeTwin s w
  obtain ⟨hdom, hep, hports, hparts, htwin⟩ := beforeTwin s w.toNat
  generalize s.beforeAction .owner 2 3 0x360 0 w.toNat = u at hev hcfg hdom hep hports hparts htwin
  have hann : Evolves 2 u (if s.twCfg 0 1 == 1 then u else u.announce portT 0) := .ite .refl (State.announce_evolves ..)
  have hswitch : u.twinSwitch s w.toNat = (if s.twCfg 0 1 == 1 then u else u.announce portT 0).seekTwin := if_pos hw
  generalize (if s.twCfg 0 1 == 1 then u else u.announce portT 0) = v at hann hswitch
  have hlinku : Linked u := by
    refine ⟨?_, hdom ▸ h.domain⟩
    have hport : u.port portT = s.port portT := congrArg (tget Port.down · portT) hports
    rw [hport]
    exact h.live
  have hlink : Linked v := hlinku.congr (hann.same .regs rfl) (hann.same .ports rfl)
  have hpartv := (hann.same .parts rfl).trans hparts
  obtain ⟨hpair, hfrom, hprog, hlen, hsent⟩ := seekTwin_sends (p := p) hlink
    (((SameOwners.of_parts hpartv).owner 3).trans hp) (by rw [hann.same .twin rfl, htwin, hst])
    (by rw [twCfg_congr (hann.same .regs rfl), hcfg, hw]; rfl) (by rw [part_congr hpartv]; exact hin)
  rw [endpoint_congr (hann.same .regs rfl), hep, domain_congr (hann.same .regs rfl), hdom] at hsent
  have hconfig : u.twinConfig s w.toNat = v.seekTwin := by
    have hno : v.seekTwin.pullTwin = v.seekTwin := pullTwin_not_paired (by rw [hpair]; decide)
    rw [State.twinConfig, hswitch, hno, ite_self]
  rw [hconfig] at hev
  dsimp only
  rw [hev.same .twin rfl]
  exact ⟨hpair, hfrom, hprog, hlen, Sent.onward hsent
    (.of_evolves hev (.of_parts (hev.same .parts rfl)) rfl (.of_evolves hev rfl rfl)) (by decide)⟩

/-- A twin that is unpaired forgets its images, and no reader of its mirrors stays. -/
theorem unpairTwin_spec (hp : s.twinPart = some p) : let t := s.unpairTwin
    t.twin.st = .unpaired ∧ t.twin.detaching = true ∧ t.twin.held = none ∧ t.twin.mirroring = false ∧
      ∀ r ∈ (t.part p).readers, r.owner ≠ mirrorOwner := by
  refine ⟨rfl, rfl, rfl, rfl, fun r hr => ?_⟩
  have hend : s.endMirrors = ({ s with twin := { s.twin with
      mirroring := false, mirrorsDue := [], returnDue := false, pullDue := false, returnSent := false } }).modPart p
        fun x => x.dropMirror none := by
    rw [State.endMirrors, hp]
  have hpart : s.unpairTwin.part p = (s.part p).dropMirror none := by
    change s.endMirrors.part p = _
    rw [hend]
    exact State.part_setPart ..
  rw [hpart] at hr
  simpa [Part.dropMirror] using (List.mem_filter.1 hr).2

theorem twinDetach_unpairs (hpow : s.powered = true) (hp : s.twinPart = some p) (hen : s.twCfg 0 1 = 1) {w : Word}
    (hw : w.toNat.testBit 0 = false) : Answers (.twinDetach .owner w) s fun t =>
      t.twin.st = .unpaired ∧ t.twin.detaching = true ∧ t.twin.held = none ∧ t.twin.mirroring = false ∧
        ∀ r ∈ (t.part p).readers, r.owner ≠ mirrorOwner := by
  refine ⟨_, exec_twinWrite hpow w, ?_⟩
  have hev := regWrite_twin s w
  obtain ⟨-, -, -, hparts, -⟩ := beforeTwin s w.toNat
  generalize s.beforeAction .owner 2 3 0x360 0 w.toNat = u at hev hparts
  have hconfig : u.twinConfig s w.toNat = u.unpairTwin := by
    have hno : u.unpairTwin.pullTwin = u.unpairTwin := pullTwin_not_paired fun h => nomatch h
    have hb : bit w.toNat 0 = false := hw
    have hswitch : u.twinSwitch s w.toNat = u.unpairTwin := by
      simp [State.twinSwitch, hb, hen]
    rw [State.twinConfig, hswitch, hno, ite_self]
  rw [hconfig] at hev
  dsimp only
  rw [hev.same .twin rfl, part_congr (hev.same .parts rfl)]
  exact unpairTwin_spec (((SameOwners.of_parts hparts).owner 3).trans hp)

end

end Sys2Proof.Machine
end

section
/-! ### The twin pairs, holds and detaches (R535 to R541) -/

namespace Sys2Proof.Machine

open Sys2Proof Sys2Proof.Safety

section
variable {s : State} {p : Nat}

/-- The identity record of a handshake: header, serial, both nonces, device, digest and the two signatures. -/
theorem length_identity (hown : s.twin.nonceOwn.length = 32) (hpeer : s.twin.noncePeer.length = 32) : s.identity.length = 3597 := by
  have hhead : (block 16 [(0, 4, 0x59545749), (4, 2, 1), (6, 2, s.endpoint), (8, 2, s.domain), (10, 2, s.twCfg 16 12)]).length = 16 :=
    length_block (by simp)
  simp only [State.identity, List.length_append, length_slice, length_sha512, hhead, hown, hpeer]

/-- HELLO, CHAIN, IDENT and CONFIRM in their places of the handshake, and one that takes too long. -/
theorem handshake_steps (hp : s.twinPart = some p) (h : Linked s) (hst : s.twin.st = .pairing) (m : HelloMsg) (ed ml rec : List Byte) :
    let x := s.twin
    (x.progress = 0 →
      (m.endpoint = s.twCfg 16 12 → m.domain = s.domain → s.regf 2 3 0x36C 0 16 ≠ 0 → Answers (.hello m) s fun t =>
        t.twin = { x with noncePeer := slice m.nonce 0 32, peerSerial := slice m.serial 0 16, progress := 1 } ∧
        PairingSent t 2 (Config.aliasChain 0 s.sec.meas.flatten ++ Config.aliasChain 1 s.sec.meas.flatten)) ∧
      (m.endpoint ≠ s.twCfg 16 12 ∨ m.domain ≠ s.domain → Answers (.hello m) s (FailedPairing s 2)) ∧
      (m.endpoint = s.twCfg 16 12 → m.domain = s.domain → s.regf 2 3 0x36C 0 16 = 0 → Answers (.hello m) s (FailedPairing s 3))) ∧
    (x.progress = 1 → Answers (.chain ed ml) s fun t => if Config.chainReachesRoot 0 ed && Config.chainReachesRoot 1 ml
      then t.twin.progress = 2 ∧ t.twin.peerChains = (ed, ml) ∧ PairingSent t 3 s.identity else FailedPairing s 1 t) ∧
    (x.progress = 2 →
      let fresh := slice rec 64 32 = x.nonceOwn ∧ field rec 10 2 % 4096 = s.endpoint
      (fresh → Answers (.ident rec) s fun t => if s.identSigned rec then t.twin = { x with progress := 3 } ∧ PairingSent t 4 [1]
        else FailedPairing s 1 t) ∧
      (¬ fresh → Answers (.ident rec) s fun t => if s.identSigned rec then FailedPairing s 2 t else FailedPairing s 1 t)) ∧
    (x.progress = 3 →
      (x.from_ = .unpaired ∨ x.held = none → Answers (.confirm true) s fun t => t.twin.st = .paired ∧ t.twin.progress = 4 ∧
        t.twin.peerEp = s.twCfg 16 12) ∧
      (∀ i, x.from_ = .holding → x.held = some i → Answers (.confirm true) s fun t => t.twin.st = .returning ∧
        Sent t 5 2 1 (s.slotImage i))) ∧
    Answers (.confirm false) s (fun t => t.twin.st = x.from_ ∧ ∃ r, PairingSent t 5 [r]) := by
  have hfail (r : Nat) := pairFail_failed hp h r
  refine ⟨fun hprog => ⟨fun hep hdom hreg => ?_, fun hbad => ?_, fun hep hdom hreg => ?_⟩, fun hprog => ?_, fun hprog => ?_,
    fun hprog => ⟨fun hno => ?_, fun i hfrom hheld => ?_⟩, ?_⟩
  · have hok : ¬ (m.endpoint ≠ s.twCfg 16 12 ∨ m.domain ≠ s.domain) := by simp [hep, hdom]
    refine ⟨_, (exec_hello h hst hprog m).trans ((if_neg hok).trans (if_neg hreg)), ?_⟩
    have hlink : Linked { s with twin := { s.twin with noncePeer := slice m.nonce 0 32, peerSerial := slice m.serial 0 16 } } :=
      h.congr rfl rfl
    exact pairStep_spec hlink 1 2 _
  · exact ⟨_, (exec_hello h hst hprog m).trans (if_pos hbad), hfail 2⟩
  · have hok : ¬ (m.endpoint ≠ s.twCfg 16 12 ∨ m.domain ≠ s.domain) := by simp [hep, hdom]
    exact ⟨_, (exec_hello h hst hprog m).trans ((if_neg hok).trans (if_pos hreg)), hfail 3⟩
  · have hexec := exec_chain h hst hprog ed ml
    split at hexec
    · next hroot =>
      have hlink : Linked { s with twin := { s.twin with peerChains := (ed, ml) } } := h.congr rfl rfl
      obtain ⟨htwin, hsent⟩ := pairStep_spec hlink 2 3 s.identity
      exact ⟨_, hexec, by simp only [hroot, if_true]; exact ⟨by rw [htwin], by rw [htwin], hsent⟩⟩
    · next hroot => exact ⟨_, hexec, by simp only [hroot, if_false]; exact hfail 1⟩
  · have hexec := exec_ident h hst hprog rec
    refine ⟨fun hfresh => ?_, fun hfresh => ?_⟩
    · rw [if_pos hfresh] at hexec
      split at hexec
      · next hsig => exact ⟨_, hexec, by simp only [hsig, if_true]; exact pairStep_spec h 3 4 [1]⟩
      · next hsig => exact ⟨_, hexec, by simp only [hsig, if_false]; exact hfail 1⟩
    · rw [if_neg hfresh] at hexec
      split at hexec
      · next hsig => exact ⟨_, hexec, by simp only [hsig, if_true]; exact hfail 2⟩
      · next hsig => exact ⟨_, hexec, by simp only [hsig, if_false]; exact hfail 1⟩
  · have htwin := (pairDone_spec (p := p) h).1 hno
    exact ⟨_, exec_confirm h hp hst hprog, by rw [htwin], by rw [htwin], by rw [htwin]⟩
  · exact ⟨_, exec_confirm h hp hst hprog, (pairDone_spec (p := p) h).2 i hfrom hheld⟩
  · obtain ⟨hback, -, hsent⟩ := pairFail_failed (s := s.useFree) hp (h.congr rfl rfl) (s.freeVal.toNat % 4)
    exact ⟨_, exec_confirm_no h hst, hback, _, hsent⟩

theorem only_twin (s : State) (x : Twin) : Only [.twin] s { s with twin := x } := by
  intro c hc
  cases c
  case twin => simp at hc
  all_goals rfl

/-- A peer that is silent or detaches is lost. -/
theorem peer_lost (h : Linked s) (hst : s.twin.st = .paired ∨ s.twin.st = .returning) (b : Heartbeat) {c : Instr}
    (hc : c = .twinHeartbeatMiss ∨ c = .heartbeatReceive b ∧ b.detaching = true) : Answers c s fun t =>
      t.twin.st = .holding ∧ t.twin.held = s.twin.held ∧ t.twin.heldMs = s.twin.heldMs ∧ t.twin.mirroring = false := by
  rcases hc with rfl | ⟨rfl, hdet⟩
  · exact ⟨_, rfl, twinLost_spec hst 0⟩
  · have hexec := exec_heartbeatReceive h b
    rw [if_pos hdet] at hexec
    exact ⟨_, hexec, twinLost_spec (s := { s with twin := { s.twin with peerState := b.state } }) hst 2⟩

end

/-- Settles O58, message by message: each goes over the live port T, and each check of the handshake leads on or back. -/
theorem twinPairsHoldsAndDetaches : Obligations.TwinPairsHoldsAndDetaches := by
  unfold Obligations.TwinPairsHoldsAndDetaches
  intro s p w m ed ml rec b hp hpow hlive hdom x bit failed reaches chains
  have hlink : Linked s := ⟨hlive, hdom⟩
  refine ⟨fun hb hst hin => twinEnable_seeks hpow hlink hp hst hin hb, fun hb hen => twinDetach_unpairs hpow hp hen hb, fun hst => ?_,
    heartbeatSend_sends hp hlink, fun hdet => ?_, fun hst c hc => peer_lost hlink hst b hc, fun h1 h2 => ?_, fun hdet => ?_⟩
  · obtain ⟨hhello, hchain, hident, hyes, hno⟩ := handshake_steps hp hlink hst m ed ml rec
    exact ⟨pairingTimeout_fails hp hlink hst, hhello, fun hprog => ⟨length_identity, hchain hprog⟩, hident, hyes, hno⟩
  · have hexec := exec_heartbeatReceive hlink b
    rw [hdet] at hexec
    exact ⟨_, hexec, rfl, only_twin _ _⟩
  · have hno : (s.twin.st != .paired && s.twin.st != .returning) = true := by simp [show s.twin.st ≠ _ from h1, show s.twin.st ≠ _ from h2]
    exact congrArg Host.Outcome.next (if_pos hno)
  · have hon : ¬ (!s.twin.detaching) = true := by simp [show s.twin.detaching = true from hdet]
    refine ⟨_, if_neg hon, ?_, ?_⟩
    · exact (State.announce_evolves ..).same .twin rfl
    · exact congrArg State.out (if_pos (c := (s.port 8).live = true) hlive)

end Sys2Proof.Machine
end

section
/-! ### Refresh, probe and reserve programming (R184 to R207, R220) -/

namespace Sys2Proof.Machine

open Sys2Proof Sys2Proof.Safety

/-- The tile, come to rest. -/
def Tile.atIdle (x : Tile) : Tile := { x with st := .idle }

/-- The tile, no longer scanned. -/
def Tile.scanOver (x : Tile) : Tile := { x with scanning := false }

/-- The tile, all of whose weights are written. -/
def Tile.allDone (x : Tile) : Tile := { x with
  wasBypassed := false
  rewritten := [] }

/-! #### The tile that a place serves -/

/-- The role of a tile rests on owners, maps and the retirement table. -/
theorem role_congr {s u : State} (howners : SameOwners s u) (hlayers : Keeps Part.layers s u) (hretire : u.retire = s.retire) (t : Nat) :
    u.role t = s.role t := by
  have hserved : u.servedBy t = s.servedBy t := by
    unfold State.servedBy State.retireEntry
    rw [hretire]
  have hmap : ∀ p, (u.part p).layers = (s.part p).layers := hlayers.same
  simp only [State.role, howners.owner, hserved, hmap]

section
variable {s : State} {t p i : Nat} {l : Layer} {e : TileEntry}

theorem modTile_orders (s : State) (t k : Nat) {f : Tile → Tile} (hf : ∀ x, (f x).orders = x.orders) :
    ((s.modTile t f).tile k).orders = (s.tile k).orders := s.modTile_keeps (π := Tile.orders) t k hf

/-- A tile without a retirement or an order that waits comes to rest at IDLE. -/
theorem toIdle_rests (hretire : (s.tile t).retireReq = false) (hrole : s.role t = some (p, l, i, e))
    (horders : ∀ k, (s.tile k).orders = []) : s.toIdle t = s.modTile t Tile.atIdle := by
  have hreq : ((s.modTile t Tile.atIdle).tile t).retireReq = false := by rw [State.tile_modTile]; exact hretire
  have hnone : ((s.modTile t Tile.atIdle).tile e.tile).orders = [] :=
    (modTile_orders s t e.tile (f := Tile.atIdle) fun _ => rfl).trans (horders _)
  have hrole' : (s.modTile t Tile.atIdle).role t = some (p, l, i, e) := hrole
  rw [State.toIdle]
  split
  · next hr => exact absurd (hr.symm.trans hrole') (by simp)
  · next hr =>
    cases hr.symm.trans hrole'
    refine (if_neg ?_).trans (if_pos ?_)
    · exact fun h => Bool.noConfusion (hreq.symm.trans h)
    · exact congrArg List.isEmpty hnone

/-! #### A scan begins -/

theorem startScan_tile (s : State) (t load : Nat) : (s.startScan t load).tile t = { s.tile t with
    scanning := true
    probeCols := 0
    probeRows := 0
    probeDevs := 0
    scanToll := 1 } := State.tile_setTile ..

theorem refreshStart_scans {d : Nat} {x : Tile} (hd : d < 8) (hturn : (s.refreshTurn d).find? (fun e => s.refreshMay e.1) = some (t, x))
    (hawake : x.dormant = false) (hscan : s.regf 0 (tileDie t) 0x90 28 1 = 1) : Answers (.refreshStart d) s fun u =>
      (u.tile t).st = .program ∧ (u.tile t).refresh = true ∧ (u.tile t).due = none ∧ (u.tile t).scanning = true := by
  have hexec : exec (.refreshStart d) s = .next (s.beginRefresh t) := by
    change execRefreshStart d s = _
    rw [execRefreshStart, onDie, if_pos hd, hturn]
    simp only [hawake, Bool.false_eq_true, if_false]
  refine ⟨_, hexec, ?_⟩
  have hbegin : s.beginRefresh t = (s.modTile t fun x => { x with
      st := .program
      refresh := true
      begun := true
      due := none
      urgent := false
      ready := false
      flagTime := if x.called then x.flagTime else s.ltime }).startScan t (((s.role t).map fun r => r.2.2.2.load).getD 15) :=
    if_pos hscan
  dsimp only
  rw [hbegin, startScan_tile, State.tile_modTile]
  exact ⟨rfl, rfl, rfl, rfl⟩

theorem probeStart_scans {d : Nat} {x : Tile} (hd : d < 8) (hroom : ((s.tilesOf d).filter fun e => e.2.st == .probe).length < 16)
    (hfirst : (s.tilesOf d).find? (fun e => s.probeMay e.1) = some (t, x)) (hawake : x.dormant = false) :
    Answers (.probeStart d) s fun u => ∃ v : State, u = v.settleRoads ∧ (v.tile t).st = .probe ∧
      (v.tile t).scanning = true ∧ (v.tile t).flagged = false ∧ (v.tile t).probeReq = false ∧ (v.tile t).checks = [] := by
  have hexec : exec (.probeStart d) s = .next (((s.modTile ((s.servedBy t).getD t) Tile.bypassedNow).modTile t fun y => { y with
      st := .probe
      flagged := false
      probeReq := false
      checks := [] }).startScan t (((s.role t).map fun r => r.2.2.2.load).getD 15)).settleRoads := by
    change execProbeStart d s = _
    rw [execProbeStart, onDie, if_pos hd, if_neg (Nat.not_le.2 hroom), hfirst]
    simp only [hawake, Bool.false_eq_true, if_false]
  refine ⟨_, hexec, _, rfl, ?_⟩
  rw [startScan_tile, State.tile_modTile]
  exact ⟨rfl, rfl, rfl, rfl, rfl⟩

/-! #### A scan ends -/

/-- The end of a probe, but for a refresh, is reported, and the tile goes to IDLE. -/
theorem endProbe_reports (hrole : s.role t = some (p, l, i, e)) (hrefresh : (s.tile t).refresh = false) : ∃ v : State,
    s.endProbe t = (v.modTile t Tile.scanOver).toIdle t ∧ v.role t = some (p, l, i, e) ∧ ∀ k, v.tile k = s.tile k := by
  let x := s.tile t
  have hraise := State.raiseM_evolves s p evTileRepaired [(24, 2, l.num), (26, 1, x.outcomeCode)]
    [(32, 4, e.tile), (36, 2, x.probeCols), (38, 2, x.probeRows), (40, 4, x.probeDevs)]
  have howners := SameOwners.raiseM s p evTileRepaired [(24, 2, l.num), (26, 1, x.outcomeCode)]
    [(32, 4, e.tile), (36, 2, x.probeCols), (38, 2, x.probeRows), (40, 4, x.probeDevs)]
  have hlayers : Keeps Part.layers s _ := .raiseM (fun _ _ _ => rfl) s p evTileRepaired [(24, 2, l.num), (26, 1, x.outcomeCode)]
    [(32, 4, e.tile), (36, 2, x.probeCols), (38, 2, x.probeRows), (40, 4, x.probeDevs)]
  have hend : s.endProbe t = (((s.raiseM p evTileRepaired [(24, 2, l.num), (26, 1, x.outcomeCode)]
      [(32, 4, e.tile), (36, 2, x.probeCols), (38, 2, x.probeRows), (40, 4, x.probeDevs)]).logFault
        (faultRecord x.flagTime e.tile x.outcomeCode x.probeCols x.probeRows)).modTile t Tile.scanOver).toIdle t := by
    rw [State.endProbe, hrole]
    simp only [hrefresh, Bool.false_and, Bool.false_eq_true, if_false]
    rfl
  generalize s.raiseM p evTileRepaired _ _ = u at hraise howners hlayers hend
  have hlog := State.logFault_evolves u (faultRecord x.flagTime e.tile x.outcomeCode x.probeCols x.probeRows)
  generalize u.logFault _ = v at hlog hend
  refine ⟨v, hend, (role_congr (howners.trans (.of_parts (hlog.same .parts rfl))) (hlayers.trans (.of_evolves hlog rfl)) ?_ t).trans hrole,
    fun k => tile_congr ((hlog.same .tiles rfl).trans (hraise.same .tiles rfl)) ?_ k⟩
  · exact (hlog.same .retire rfl).trans (hraise.same .retire rfl)
  · exact (hlog.same .tileDef rfl).trans (hraise.same .tileDef rfl)

/-- The probe of a tile that is not being refreshed ends at IDLE. -/
theorem endProbe_rests (hrole : s.role t = some (p, l, i, e)) (hrefresh : (s.tile t).refresh = false)
    (hretire : (s.tile t).retireReq = false) (horders : ∀ k, (s.tile k).orders = []) :
    (s.endProbe t).tile t = (s.tile t).scanOver.atIdle := by
  obtain ⟨v, hend, hroles, htiles⟩ := endProbe_reports hrole hrefresh
  have hrest : (v.modTile t Tile.scanOver).toIdle t = (v.modTile t Tile.scanOver).modTile t Tile.atIdle := by
    refine toIdle_rests (p := p) (l := l) (i := i) (e := e) ?_ hroles fun k => ?_
    · rw [State.tile_modTile, htiles]
      exact hretire
    · rw [modTile_orders v t k (f := Tile.scanOver) fun _ => rfl, htiles, horders]
  rw [hend, hrest, State.tile_modTile, State.tile_modTile, htiles]

theorem probeScanDone_exec {meas : List (Nat × Nat × Int)} {reads : List (Nat × Nat × Nat × Nat)} (hex : tileExists t = true)
    (hrole : s.role t = some (p, l, i, e)) (hscan : (s.tile t).scanning = true) (htoll : (s.tile t).scanToll = 2)
    (hbatch : (s.tile t).batchToll = 0) (hjobs : (s.tile t).jobs = []) :
    exec (.probeScanDone t meas reads) s =
      let u := s.setTile t { s.tile t with scanToll := 0 }
      if (s.tile t).retireReq then .next (u.retireNow p t e.tile 6).settleRoads
      else
        let f := classifyScan (atLeast1 (u.regf 0 (tileDie t) 0x90 8 8)) (atLeast1 (u.regf 0 (tileDie t) 0x90 16 8))
          (u.deviations t (runsOf e.widths) (l.narrowAddr i) meas)
        if adcFault (atLeast1 (u.regf 0 (tileDie t) 0x90 24 4)) f.cols then .next (u.retireNow p t e.tile 4).settleRoads
        else .next (u.repairScan p t l i e f reads).settleRoads := by
  change execProbeScanDone t meas reads s = _
  rw [execProbeScanDone, onTile, if_pos hex, hrole]
  simp [hscan, htoll, hbatch, hjobs]

theorem atLeast1_ne_zero (n : Nat) : atLeast1 n ≠ 0 := by
  unfold atLeast1
  omega

theorem classifyScan_nil (a b : Nat) : classifyScan (atLeast1 a) (atLeast1 b) [] = ⟨[], [], []⟩ := by
  simp [classifyScan, atLeast1_ne_zero]

theorem adcFault_nil (n : Nat) : adcFault (atLeast1 n) [] = false := by
  simp [adcFault, atLeast1_ne_zero]

/-- A scan that finds no deviation, with no work for the tile, ends the probe. -/
theorem probeScanDone_clean {meas : List (Nat × Nat × Int)} {reads : List (Nat × Nat × Nat × Nat)} (hex : tileExists t = true)
    (hrole : s.role t = some (p, l, i, e)) (hscan : (s.tile t).scanning = true) (htoll : (s.tile t).scanToll = 2)
    (hbatch : (s.tile t).batchToll = 0) (hjobs : (s.tile t).jobs = []) (hretire : (s.tile t).retireReq = false)
    (hwork : (s.tile t).work = []) (hrefresh : (s.tile t).refresh = false) (horders : ∀ k, (s.tile k).orders = [])
    (hclean : s.deviations t (runsOf e.widths) (l.narrowAddr i) meas = []) :
    Answers (.probeScanDone t meas reads) s fun u => ∃ v : State, u = v.settleRoads ∧ (v.tile t).st = .idle ∧
      (v.tile t).scanning = false ∧ (v.tile t).scanToll = 0 ∧ (v.tile t).cells = (s.tile t).cells := by
  have hexec := probeScanDone_exec (meas := meas) (reads := reads) hex hrole hscan htoll hbatch hjobs
  let u := s.setTile t { s.tile t with scanToll := 0 }
  have hu : u.tile t = { s.tile t with scanToll := 0 } := State.tile_setTile ..
  have hclean' : u.deviations t (runsOf e.widths) (l.narrowAddr i) meas = [] := by
    rw [← hclean, State.deviations, State.deviations, hu]
    rfl
  have horders' (k : Nat) : (u.tile k).orders = [] :=
    (modTile_orders s t k (f := fun x => { x with scanToll := 0 }) fun _ => rfl).trans (horders k)
  have hrepair : u.repairScan p t l i e ⟨[], [], []⟩ reads = (u.setTile t (u.tile t)).endProbe t := by
    have hnone : (u.tile t).work.isEmpty = true := by rw [hu, hwork]; rfl
    have hall (f : Tile → Nat → Tile × Option Nat) : repairAll f [] (u.tile t) = (u.tile t, none) := rfl
    rw [State.repairScan]
    simp only [hall, Option.isSome_none, Bool.false_eq_true, if_false, List.foldl_nil, hnone, if_true]
  have hset (k : Nat) : (u.setTile t (u.tile t)).tile k = u.tile k := by
    by_cases hk : k = t
    · rw [hk, State.tile_setTile]
    · exact State.tile_setTile_other _ _ _ _ hk
  change exec _ s = (if _ then _ else if adcFault _ (classifyScan _ _ (u.deviations t (runsOf e.widths) (l.narrowAddr i) meas)).cols
    then _ else .next (u.repairScan p t l i e (classifyScan _ _ (u.deviations t (runsOf e.widths) (l.narrowAddr i) meas)) reads).settleRoads)
    at hexec
  rw [hretire, if_neg Bool.false_ne_true, hclean', classifyScan_nil, adcFault_nil, if_neg Bool.false_ne_true, hrepair] at hexec
  have hend := endProbe_rests (s := u.setTile t (u.tile t)) (t := t) (p := p) (l := l) (i := i) (e := e) hrole
    (by rw [hset, hu, hrefresh]) (by rw [hset, hu, hretire]) fun k => by rw [hset, horders']
  exact ⟨_, hexec, _, rfl, by rw [hend]; rfl, by rw [hend]; rfl, by rw [hend, hset, hu]; rfl, by rw [hend, hset, hu]; rfl⟩

theorem probeScanDone_retires {meas : List (Nat × Nat × Int)} {reads : List (Nat × Nat × Nat × Nat)} (hex : tileExists t = true)
    (hrole : s.role t = some (p, l, i, e)) (hscan : (s.tile t).scanning = true) (htoll : (s.tile t).scanToll = 2)
    (hbatch : (s.tile t).batchToll = 0) (hjobs : (s.tile t).jobs = []) (hretire : (s.tile t).retireReq = true) :
    Answers (.probeScanDone t meas reads) s fun u => ∃ v : State, u = v.settleRoads ∧
      (v.tile t).st = .retired ∧ (v.tile t).scanning = false := by
  have hexec := (probeScanDone_exec (meas := meas) (reads := reads) hex hrole hscan htoll hbatch hjobs).trans (if_pos hretire)
  have hphase := State.retireNow_phase (s.setTile t { s.tile t with scanToll := 0 }) p t e.tile 6
  exact ⟨_, hexec, _, rfl, congrArg (·.1) hphase, congrArg (·.2) hphase⟩

theorem repairDone_rests (hex : tileExists t = true) (hrole : s.role t = some (p, l, i, e)) (hscan : (s.tile t).scanning = true)
    (hset : (s.tile t).settled = true) (hrefresh : (s.tile t).refresh = false) (hretire : (s.tile t).retireReq = false)
    (horders : ∀ k, (s.tile k).orders = []) : Answers (.repairDone t) s fun u =>
      ∃ v : State, u = v.settleRoads ∧ (v.tile t).st = .idle ∧ (v.tile t).scanning = false := by
  have hexec : exec (.repairDone t) s = .next (s.endProbe t).settleRoads := by
    change execRepairDone t s = _
    rw [execRepairDone, onTile, if_pos hex, hscan, hset]
    rfl
  have hend := endProbe_rests hrole hrefresh hretire horders
  exact ⟨_, hexec, _, rfl, by rw [hend]; rfl, by rw [hend]; rfl⟩

/-! #### A refresh or a reserve is written -/

/-- What a tile whose weights have all been written anew shows. -/
def Tile.Fresh (y : Tile) : Prop :=
  y.st = .idle ∧ y.refresh = false ∧ y.reserveProg = false ∧ y.trim = 0x4000 ∧ y.age = 0 ∧
    y.aIdeal = 0 ∧ y.aMeas = 0 ∧ y.aZero = 0 ∧ y.driftN = 0

theorem markRefs_kept (x : Tile) : x.markRefs.orders = x.orders ∧ x.markRefs.retireReq = x.retireReq := by
  unfold Tile.markRefs
  split <;> exact ⟨rfl, rfl⟩

/-- Once all is written, the tile rests at IDLE, trimmed and young. -/
theorem written_fresh {x : Tile} {u : State} (hx : ∃ y, x = { (s.tile t).renewed with mark := y }) (htiles : u.tiles = s.tiles)
    (hdef : u.tileDef = s.tileDef) (hrole : u.role t = some (p, l, i, e)) (hretire : (s.tile t).retireReq = false)
    (horders : ∀ k, (s.tile k).orders = []) :
    (((u.setTile t x).allWritten t).toIdle t).retire = u.retire ∧ (((u.setTile t x).allWritten t).toIdle t |>.tile t).Fresh := by
  obtain ⟨y, rfl⟩ := hx
  obtain ⟨hord, hreq⟩ := markRefs_kept (s.tile t)
  let x : Tile := { (s.tile t).renewed with mark := y }
  let w : Nat := ((u.setTile t x).servedBy t).getD t
  have hw : (u.setTile t x).allWritten t = (u.setTile t x).modTile w Tile.allDone := rfl
  have htile : ((u.setTile t x).allWritten t).tile t = (if t = w then x.allDone else x) := by
    rw [hw]
    by_cases h : t = w
    · rw [if_pos h, ← h, State.tile_modTile, State.tile_setTile]
    · rw [if_neg h, State.modTile, State.tile_setTile_other _ _ _ _ h, State.tile_setTile]
  have hsame (k : Nat) : (((u.setTile t x).allWritten t).tile k).orders = [] := by
    rw [hw, modTile_orders _ w k (f := Tile.allDone) fun _ => rfl]
    by_cases h : k = t
    · rw [h, State.tile_setTile]
      exact hord.trans (horders t)
    · rw [State.tile_setTile_other _ _ _ _ h, tile_congr htiles hdef, horders]
  have hrest : ((u.setTile t x).allWritten t).toIdle t = ((u.setTile t x).allWritten t).modTile t Tile.atIdle := by
    refine toIdle_rests (p := p) (l := l) (i := i) (e := e) ?_ hrole hsame
    rw [htile]
    split <;> exact hreq.trans hretire
  change (((u.setTile t x).allWritten t).toIdle t).retire = u.retire ∧ (((u.setTile t x).allWritten t).toIdle t |>.tile t).Fresh
  rw [hrest, State.tile_modTile, htile]
  refine ⟨rfl, ?_⟩
  split <;> exact ⟨rfl, rfl, rfl, rfl, rfl, rfl, rfl, rfl, rfl⟩

theorem refreshComplete_rests (hex : tileExists t = true) (hrole : s.role t = some (p, l, i, e)) (hrefresh : (s.tile t).refresh = true)
    (hscan : (s.tile t).scanning = false) (hst : (s.tile t).st = .program) (hset : (s.tile t).settled = true)
    (hretire : (s.tile t).retireReq = false) (horders : ∀ k, (s.tile k).orders = []) : Answers (.refreshComplete t) s fun u =>
      ∃ v : State, u = v.settleRoads.refreshProbes t ∧ (v.tile t).Fresh := by
  have hexec : exec (.refreshComplete t) s =
      .next ((((s.setTile t (s.tile t).renewed).allWritten t).toIdle t).settleRoads.refreshProbes t) := by
    change execRefreshComplete t s = _
    rw [execRefreshComplete, onTile, if_pos hex]
    simp only [hrefresh, hscan, hst, hset, Bool.not_false, Bool.and_self, beq_self_eq_true, if_true]
  exact ⟨_, hexec, _, rfl, (written_fresh (x := (s.tile t).renewed) ⟨_, rfl⟩ rfl rfl hrole hretire horders).2⟩

theorem tget_tset_zero {m : SMap Nat} {k v : Nat} (hv : v ≠ 0) : tget 0 (tset 0 m k v) k = v := by
  rw [tset, if_neg hv, tget_tput_self]

/-- A reserve that serves a place goes on serving it once it is programmed. -/
theorem setRetire_role (hrole : s.role t = some (p, l, i, e)) (hres : isReserve t = true) :
    (s.setRetire (tileDie t) (t % 65536 - 512 * 64) (s.retireEntry t) 1).role t = some (p, l, i, e) := by
  have hblock : 512 ≤ t / 64 % 1024 := of_decide_eq_true hres
  have hentry : (s.setRetire (tileDie t) (t % 65536 - 512 * 64) (s.retireEntry t) 1).retireEntry t = s.retireEntry t % 65536 + 65536 := by
    have hkey : tileDie t * 1024 + t % 65536 - 512 * 64 = tileDie t * 1024 + (t % 65536 - 512 * 64) := by omega
    rw [State.retireEntry, State.setRetire, hkey, tget_tset_zero (by omega), Nat.one_mul]
  have hlow : bits (s.retireEntry t % 65536 + 65536) 0 16 = bits (s.retireEntry t) 0 16 := by
    rw [bits, bits, Nat.shiftRight_zero, Nat.shiftRight_zero]
    omega
  have hhigh : bits (s.retireEntry t % 65536 + 65536) 16 2 = 1 := by
    rw [bits, Nat.shiftRight_eq_div_pow]
    omega
  have hserved : (s.setRetire (tileDie t) (t % 65536 - 512 * 64) (s.retireEntry t) 1).servedBy t =
      some (tileDie t * 65536 + bits (s.retireEntry t) 0 16) := by
    rw [State.servedBy, if_pos hres, hentry]
    dsimp only
    rw [hhigh, hlow]
    rfl
  have hold : s.servedBy t = some (tileDie t * 65536 + bits (s.retireEntry t) 0 16) := by
    rw [State.servedBy, if_pos hres]
    dsimp only
    split
    · rfl
    · next hno =>
      have hnone : s.servedBy t = none := by
        rw [State.servedBy, if_pos hres]
        exact if_neg hno
      rw [State.role, hnone] at hrole
      cases hown : s.owner (tileDie t / 2) <;> rw [hown] at hrole <;> cases hrole
  rw [← hrole, State.role, State.role, hserved, hold]
  rfl

theorem reserveProgrammed_rests (hex : tileExists t = true) (hrole : s.role t = some (p, l, i, e))
    (hprog : (s.tile t).reserveProg = true) (hst : (s.tile t).st = .program) (hset : (s.tile t).settled = true)
    (hres : isReserve t = true) (hretire : (s.tile t).retireReq = false) (horders : ∀ k, (s.tile k).orders = []) :
    Answers (.reserveProgrammed t) s fun u => ∃ v : State, u = v.settleRoads ∧ (v.tile t).Fresh ∧
      tget 0 v.retire (tileDie t * 1024 + (t % 65536 - 32768)) = s.retireEntry t % 65536 + 65536 := by
  let u := s.setRetire (tileDie t) (t % 65536 - 512 * 64) (s.retireEntry t) 1
  have hexec : exec (.reserveProgrammed t) s =
      .next (((u.setTile t { (s.tile t).renewed with mark := 0 }).allWritten t).toIdle t).settleRoads := by
    change execReserveProgrammed t s = _
    rw [execReserveProgrammed, onTile, if_pos hex]
    simp only [hprog, hst, hset, Bool.and_self, beq_self_eq_true, if_true]
    rfl
  obtain ⟨hkeep, hfresh⟩ := written_fresh (u := u) (x := { (s.tile t).renewed with mark := 0 }) ⟨0, rfl⟩ rfl rfl
    (setRetire_role hrole hres) hretire horders
  refine ⟨_, hexec, _, rfl, hfresh, ?_⟩
  rw [hkeep]
  have hentry : s.retireEntry t % 65536 + 1 * 65536 ≠ 0 := by omega
  exact tget_tset_zero hentry

end

/-- Settles O40, command by command: a scan begins or ends, or what was to be written is written, and the roads move on. -/
theorem refreshProbeAndReserveEndAtIdle : Obligations.RefreshProbeAndReserveEndAtIdle := by
  unfold Obligations.RefreshProbeAndReserveEndAtIdle
  intro s d t meas reads hd hex x fresh
  refine ⟨refreshStart_scans hd, probeStart_scans hd, fun p l i e hrole horders => ⟨probeScanDone_retires hex hrole, fun hretire =>
    ⟨fun hscan htoll hbatch hjobs hwork hrefresh hclean => ?_, fun hscan hset hrefresh => ?_, fun hrefresh hscan hst hset => ?_,
      fun hprog hst hset hres => ?_⟩⟩⟩
  · exact probeScanDone_clean hex hrole hscan htoll hbatch hjobs hretire hwork hrefresh horders hclean
  · exact repairDone_rests hex hrole hscan hset hrefresh hretire horders
  · exact refreshComplete_rests hex hrole hrefresh hscan hst hset hretire horders
  · exact reserveProgrammed_rests hex hrole hprog hst hset hres hretire horders

end Sys2Proof.Machine
end

section
/-! ### A programming batch (R154 to R166) -/

namespace Sys2Proof.Machine

open Sys2Proof Sys2Proof.Safety

/-! #### The devices of the batch are written -/

/-- One device of a batch: the tile, whether its list of stuck devices was full, and the energy taken. -/
def batchDevice (readings : List (List Nat)) (a : Tile × Bool × Nat) (d : Device × Nat) : Tile × Bool × Nat :=
  let w := a.1.writeOne d.1 (readings.getD d.2 [])
  (w.1, a.2.1 || w.2.1, a.2.2 + w.2.2)

/-- The same with the row of the first weight that met a full list. -/
def batchRow (readings : List (List Nat)) (a : Tile × Option Nat × Nat) (d : Device × Nat) : Tile × Option Nat × Nat :=
  let y := a.1.writeOne d.1 (readings.getD d.2 [])
  (y.1, if y.2.1 && a.2.1.isNone then (a.1.jobs[d.1.job]?).map (·.prow) else a.2.1, a.2.2 + y.2.2)

theorem batchDevice_full (readings : List (List Nat)) (ds : List (Device × Nat)) (x : Tile) (n : Nat) :
    (ds.foldl (batchDevice readings) (x, true, n)).2.1 = true := by
  induction ds generalizing x n with
  | nil => rfl
  | cons d ds ih =>
    rw [List.foldl_cons, batchDevice, Bool.true_or]
    exact ih ..

/-- While no list is full, no row is noted. -/
theorem batchRow_none {readings : List (List Nat)} {ds : List (Device × Nat)} {x : Tile} {n : Nat}
    (h : (ds.foldl (batchDevice readings) (x, false, n)).2.1 = false) : ds.foldl (batchRow readings) (x, none, n) =
      ((ds.foldl (batchDevice readings) (x, false, n)).1, none, (ds.foldl (batchDevice readings) (x, false, n)).2.2) := by
  induction ds generalizing x n with
  | nil => rfl
  | cons d ds ih =>
    rw [List.foldl_cons, batchDevice, Bool.false_or] at h
    rw [List.foldl_cons, List.foldl_cons, batchDevice, batchRow, Bool.false_or]
    cases hfull : (x.writeOne d.1 (readings.getD d.2 [])).2.1 with
    | true =>
      rw [hfull, batchDevice_full] at h
      cases h
    | false =>
      rw [hfull] at h
      exact ih h

/-! #### Finished weights leave the batch -/

/-- What the devices of a tile show. -/
structure Devices where
  cells : SMap Cell
  stuck : List Nat
  unverified : List Nat
  life : Nat
  period : Nat
  jobs : List Job

def Tile.devices (x : Tile) : Devices := ⟨x.cells, x.stuck, x.unverified, x.life, x.period, x.jobs⟩

section
variable {s : State} {t p i : Nat} {l : Layer} {e : TileEntry}

/-- Whether an order has changed the digits of a rewrite without one meanwhile. -/
def State.changedSince (s : State) (l : Layer) (i row : Nat) (r : Run) (j : Job) : Bool :=
  j.order.isNone && s.runDigits (l.narrowAddr i) row r != j.held

/-- The copies of a written weight. -/
def State.copyWeight (s : State) (t : Nat) (l : Layer) (i : Nat) (e : TileEntry) (j : Job) (row : Nat) (r : Run) : State :=
  if s.changedSince l i row r j then s
  else (s.setRunDigits (l.narrowAddr i) row r j.digits).writeMeasured (s.jobLayer l j) i e t row r

/-- A tile notes whether a weight is exact. -/
def Tile.noteExact (j : Job) (key : Nat) (y : Tile) : Tile :=
  { y with inexact := if digitsValue j.digits = j.value then tdel y.inexact key else tput y.inexact key j.value }

/-- A tile that was bypassed notes which weights are written anew. -/
def Tile.noteRewritten (y : Tile) (key : Nat) : Tile :=
  if y.wasBypassed then { y with rewritten := key :: y.rewritten.filter (· != key) } else y

theorem noteRewritten_known (key : Nat) (y : Tile) : (y.noteRewritten key).known = y.known := by
  unfold Tile.noteRewritten
  split <;> rfl

/-- A written weight, before its order counts as applied. -/
def State.keepWeight (s : State) (t : Nat) (l : Layer) (i : Nat) (e : TileEntry) (j : Job) (row : Nat) (r : Run) : State :=
  ((((s.copyWeight t l i e j row r).modTile t (Tile.noteExact j (row * 1024 + r.col))).markKnown e.tile row r.col).modTile e.tile
    (·.noteRewritten (row * 1024 + r.col)))

theorem weightDone_eq {j : Job} {row : Nat} {r : Run} (hrow : (s.tile t).lrow j.prow = some row)
    (hrun : runAt (runsOf e.widths) j.col = some r) : s.weightDone t l i e j =
      j.order.elim (s.keepWeight t l i e j row r) fun o => (s.keepWeight t l i e j row r).applied o := by
  rw [State.weightDone, hrow, hrun]
  cases h : j.order <;> simp only [State.keepWeight, State.copyWeight, State.changedSince, h] <;> rfl

theorem weightDone_absent {j : Job} (h : (s.tile t).lrow j.prow = none ∨ runAt (runsOf e.widths) j.col = none) :
    s.weightDone t l i e j = s := by
  rw [State.weightDone]
  split
  · next row r hrow hrun => rcases h with h | h <;> simp_all
  · rfl

theorem copyWeight_evolves (s : State) (t : Nat) (l : Layer) (i : Nat) (e : TileEntry) (j : Job) (row : Nat) (r : Run) :
    Evolves 29425664 s (s.copyWeight t l i e j row r) :=
  .ite .refl (.trans (State.setRunDigits_evolves ..) (State.writeMeasured_evolves ..))

theorem markKnown_keeps (s : State) (pl row col : Nat) : KeepsTile Tile.devices s (s.markKnown pl row col) := .modTile pl fun _ => rfl

theorem keepWeight_keeps (s : State) (t : Nat) (l : Layer) (i : Nat) (e : TileEntry) (j : Job) (row : Nat) (r : Run) :
    KeepsTile Tile.devices s (s.keepWeight t l i e j row r) := by
  have hcopy : KeepsTile Tile.devices s (s.copyWeight t l i e j row r) := .of_evolves (copyWeight_evolves ..) rfl rfl
  have hexact (u : State) (key : Nat) : KeepsTile Tile.devices u (u.modTile t (Tile.noteExact j key)) := .modTile t fun _ => rfl
  have hnote (u : State) (key : Nat) : KeepsTile Tile.devices u (u.modTile e.tile (·.noteRewritten key)) := by
    refine .modTile e.tile fun y => ?_
    unfold Tile.noteRewritten
    split <;> rfl
  exact ((hcopy.trans (hexact ..)).trans (markKnown_keeps ..)).trans (hnote ..)

theorem keepWeight_evolves (s : State) (t : Nat) (l : Layer) (i : Nat) (e : TileEntry) (j : Job) (row : Nat) (r : Run) :
    Evolves 96534528 s (s.keepWeight t l i e j row r) :=
  ((((copyWeight_evolves ..).mono rfl).trans ((State.modTile_evolves ..).mono rfl)).trans ((State.markKnown_evolves ..).mono rfl)).trans
    ((State.modTile_evolves ..).mono rfl)

/-- A finished weight leaves every device as it is. -/
theorem weightDone_keeps (s : State) (t : Nat) (l : Layer) (i : Nat) (e : TileEntry) (j : Job) :
    KeepsTile Tile.devices s (s.weightDone t l i e j) := by
  cases hrow : (s.tile t).lrow j.prow with
  | none =>
    rw [weightDone_absent (.inl hrow)]
    exact .refl
  | some row =>
    cases hrun : runAt (runsOf e.widths) j.col with
    | none =>
      rw [weightDone_absent (.inr hrun)]
      exact .refl
    | some r =>
      rw [weightDone_eq hrow hrun]
      cases j.order with
      | none => exact keepWeight_keeps ..
      | some o => exact (keepWeight_keeps ..).trans (.of_evolves (State.applied_evolves ..) rfl rfl)

/-- A finished weight counts as applied for its order, and its place is known. -/
theorem weightDone_applied {j : Job} {row : Nat} {r : Run} {o : Nat × Nat} (hrow : (s.tile t).lrow j.prow = some row)
    (hrun : runAt (runsOf e.widths) j.col = some r) (ho : j.order = some o) (hq : o.2 < 65536) : let u := s.weightDone t l i e j
      (u.queue o.2).running.map (·.work.n0) = (s.queue o.2).running.map (·.work.n0 + 1) ∧
      (u.tile e.tile).known.contains (row * 1024 + r.col) = true := by
  have hdone : s.weightDone t l i e j = (s.keepWeight t l i e j row r).modWork o.2 fun w => { w with n0 := w.n0 + 1 } := by
    rw [weightDone_eq hrow hrun, ho]
    exact if_neg (Nat.not_le.2 hq)
  have hqueue : (s.keepWeight t l i e j row r).queue o.2 = s.queue o.2 := 
    queue_congr ((keepWeight_evolves ..).same .queues rfl) _
  have hknown : ((s.keepWeight t l i e j row r).tile e.tile).known.contains (row * 1024 + r.col) = true := by
    rw [State.keepWeight, State.tile_modTile, noteRewritten_known, State.markKnown, State.tile_modTile]
    exact List.contains_iff_mem.2 List.mem_cons_self
  generalize s.keepWeight t l i e j row r = u at hdone hqueue hknown
  intro v
  change v = _ at hdone
  rw [hdone]
  have htile : (u.modWork o.2 fun w => { w with n0 := w.n0 + 1 }).tile e.tile = u.tile e.tile :=
    tile_congr ((State.modWork_evolves ..).same .tiles rfl) ((State.modWork_evolves ..).same .tileDef rfl) _
  refine ⟨?_, by rw [htile]; exact hknown⟩
  rw [← hqueue]
  cases hr : (u.queue o.2).running with
  | none =>
    rw [State.modWork, hr, hr]
    rfl
  | some r => rw [running_modWork hr]; rfl

/-! #### The next batch -/

/-- Finished weights leave the tile's batch. -/
def Tile.leaveDone (y : Tile) : Tile := { y with jobs := y.jobs.filter fun j => !j.isDone }

/-- Once finished weights have left and others stay, the next batch opens and asks its toll. -/
theorem nextBatch_eq (h : (s.tile t).jobs.any (fun j => !j.isDone) = true) : s.nextBatch t l i e =
    ((((((s.tile t).jobs.filter Job.isDone).filter (·.stage == 0)).foldl (fun u j => u.weightDone t l i e j) s).modTile t
      Tile.leaveDone).openStage t l i e).askBatch t l := by
  have hkeep : KeepsTile Tile.devices s
      ((((s.tile t).jobs.filter Job.isDone).filter (·.stage == 0)).foldl (fun u j => u.weightDone t l i e j) s) :=
    .foldl .refl fun _ _ => weightDone_keeps ..
  rw [State.nextBatch]
  refine if_neg fun hempty => ?_
  have hjobs : ((((((s.tile t).jobs.filter Job.isDone).filter (·.stage == 0)).foldl (fun u j => u.weightDone t l i e j) s).modTile t
      Tile.leaveDone).tile t).jobs = (s.tile t).jobs.filter fun j => !j.isDone := by
    rw [State.tile_modTile]
    exact congrArg (fun d : Devices => d.jobs.filter fun j => !j.isDone) (hkeep.same t)
  obtain ⟨j, hj, hdone⟩ := List.any_eq_true.1 h
  have hnone := hjobs.symm.trans (List.isEmpty_iff.1 hempty)
  exact absurd (List.filter_eq_nil_iff.1 hnone j hj) (by simpa using hdone)

theorem openStage_jobs (s : State) (t : Nat) (l : Layer) (i : Nat) (e : TileEntry) :
    ∃ f : Job → Job, s.openStage t l i e = s.setTile t { s.tile t with jobs := (s.tile t).jobs.map f } := ⟨_, rfl⟩

theorem askBatch_prog (s : State) (t : Nat) (l : Layer) : ((s.askBatch t l).gate (tileDie t)).prog = (s.gate (tileDie t)).prog := by
  rw [State.askBatch, State.askToll, State.gate_setGate]
  rfl

/-- What the next batch leaves of the tile and of its bucket. -/
theorem nextBatch_spec (h : (s.tile t).jobs.any (fun j => !j.isDone) = true) : let x := s.tile t; let v := s.nextBatch t l i e
    let y := v.tile t
    y.cells = x.cells ∧ y.stuck = x.stuck ∧ y.unverified = x.unverified ∧ y.life = x.life ∧ y.period = x.period ∧ y.batchToll = 1 ∧
      y.jobs.length = (x.jobs.filter fun j => !j.isDone).length ∧ (v.gate (tileDie t)).prog = (s.gate (tileDie t)).prog ∧
      ∀ j o row run, x.jobs.filter Job.isDone = [j] → j.stage = 0 → j.order = some o → o.2 < 65536 → x.lrow j.prow = some row →
        runAt (runsOf e.widths) j.col = some run →
        (v.queue o.2).running.map (·.work.n0) = (s.queue o.2).running.map (·.work.n0 + 1) ∧
        (v.tile e.tile).known.contains (row * 1024 + run.col) = true := by
  intro x v
  have hv : v = _ := nextBatch_eq h
  let dones := (x.jobs.filter Job.isDone).filter (·.stage == 0)
  let u := dones.foldl (fun u j => u.weightDone t l i e j) s
  have hkeep : KeepsTile Tile.devices s u := .foldl .refl fun _ _ => weightDone_keeps ..
  have hev : Evolves 96535552 s u := .foldl .refl fun _ _ => State.weightDone_evolves ..
  have hu : u = dones.foldl (fun u j => u.weightDone t l i e j) s := rfl
  change v = ((u.modTile t Tile.leaveDone).openStage t l i e).askBatch t l at hv
  clear_value u
  obtain ⟨f, hopen⟩ := openStage_jobs (u.modTile t Tile.leaveDone) t l i e
  rw [hopen, State.tile_modTile] at hv
  let w := (u.modTile t Tile.leaveDone).setTile t { (u.tile t).leaveDone with jobs := (u.tile t).leaveDone.jobs.map f }
  have htile : v.tile t = { w.tile t with batchToll := 1 } := hv ▸ State.tile_setTile ..
  have hw : w.tile t = { (u.tile t).leaveDone with jobs := (u.tile t).leaveDone.jobs.map f } := State.tile_setTile ..
  have hdev (g : Devices → Prop) (hg : g x.devices) : g (u.tile t).devices := (hkeep.same t).symm ▸ hg
  refine ⟨?_, ?_, ?_, ?_, ?_, ?_, ?_, ?_, fun j o row run hj hst ho hq hrow hrun => ?_⟩
  · rw [htile, hw]; exact hdev (·.cells = x.cells) rfl
  · rw [htile, hw]; exact hdev (·.stuck = x.stuck) rfl
  · rw [htile, hw]; exact hdev (·.unverified = x.unverified) rfl
  · rw [htile, hw]; exact hdev (·.life = x.life) rfl
  · rw [htile, hw]; exact hdev (·.period = x.period) rfl
  · rw [htile]
  · rw [htile, hw]
    dsimp only
    rw [List.length_map]
    exact hdev (fun d => (d.jobs.filter fun j => !j.isDone).length = _) rfl
  · have hgate : (v.gate (tileDie t)).prog = (u.gate (tileDie t)).prog := by
      have hgates : w.gates = u.gates := ((State.modTile_evolves ..).trans (State.setTile_evolves ..)).same .gates rfl
      rw [hv, askBatch_prog, State.gate, State.gate, hgates]
    rw [hgate, State.gate, hev.same .gates rfl]
    rfl
  · have hone : u = s.weightDone t l i e j := by
      rw [hu]
      change (((x.jobs.filter Job.isDone).filter (·.stage == 0)).foldl (fun u j => u.weightDone t l i e j) s) = _
      rw [hj]
      simp [hst]
    obtain ⟨hqueue, hknown⟩ := weightDone_applied hrow hrun ho hq
    rw [← hone] at hqueue hknown
    have hkeeps : KeepsTile Tile.known u v := by
      have hleave : KeepsTile Tile.known u (u.modTile t Tile.leaveDone) := .modTile t fun _ => rfl
      have hset : KeepsTile Tile.known (u.modTile t Tile.leaveDone) w := .setTile t (by rw [State.tile_modTile])
      have hask : KeepsTile Tile.known w (w.modTile t fun y => { y with batchToll := 1 }) := .modTile t fun _ => rfl
      have htoll : KeepsTile Tile.known (w.modTile t fun y => { y with batchToll := 1 }) v := hv ▸ ⟨fun _ => rfl⟩
      exact (hleave.trans hset).trans (hask.trans htoll)
    have hqueues : v.queue o.2 = u.queue o.2 := by
      rw [hv]
      exact queue_congr (((State.modTile_evolves ..).trans (State.setTile_evolves ..)).mono rfl |>.trans
        (State.askBatch_evolves ..) |>.same .queues rfl) _
    rw [hqueues, hkeeps.same]
    exact ⟨hqueue, hknown⟩

end

/-! #### The batch -/

section
variable {s : State} {t p i : Nat} {l : Layer} {e : TileEntry} {readings : List (List Nat)}

/-- A batch that fills no list of stuck devices and moves no row settles its toll and goes on to the next batch. -/
theorem runBatch_settles {x : Tile} {n : Nat} {b : Bool}
    (hf : (s.batchOf t l).zipIdx.foldl (batchDevice readings) (s.tile t, false, standingPj) = (x, b, n)) (hfull : b = false)
    (hmove : x.jobs.find? x.mustMove = none) : ∃ (u : State) (r : Nat), s.runBatch t l i e readings = u.nextBatch t l i e ∧
      u.tile t = { x with batchToll := 0, raise := r } ∧ (∀ q, u.queue q = s.queue q) ∧ (u.gate (tileDie t)).prog =
        min (programCap : Int) ((s.gate (tileDie t)).prog + ((s.batchToll t l : Int) - (n : Int)) * bucketUnit) := by
  subst hfull
  have hrow := batchRow_none (congrArg (·.2.1) hf)
  rw [hf] at hrow
  change (s.batchOf t l).zipIdx.foldl (fun (a : Tile × Option Nat × Nat) d =>
    let y := a.1.writeOne d.1 (readings.getD d.2 [])
    (y.1, if y.2.1 && a.2.1.isNone then (a.1.jobs[d.1.job]?).map (·.prow) else a.2.1, a.2.2 + y.2.2)) (s.tile t, none, standingPj) =
      (x, none, n) at hrow
  have hrun : s.runBatch t l i e readings = (((s.settleToll t (s.batchToll t l) n).setTile t { x with batchToll := 0 }).setRaise
      (s.batchView t) t).nextBatch t l i e := by
    rw [State.runBatch]
    dsimp only
    rw [hrow]
    dsimp only
    rw [hmove]
  refine ⟨_, _, hrun, (State.tile_modTile ..).trans (by rw [State.tile_setTile]), fun q => rfl, ?_⟩
  have hgates : (((s.settleToll t (s.batchToll t l) n).setTile t { x with batchToll := 0 }).setRaise (s.batchView t) t).gates =
      (s.settleToll t (s.batchToll t l) n).gates := ((State.setTile_evolves ..).trans (State.setRaise_evolves ..)).same .gates rfl
  rw [State.gate, hgates, ← State.gate, State.settleToll, State.gate_setGate]

end

/-- Settles O39: the devices written are those of the batch, and finished weights leave it. -/
theorem programBatchWritesItsDevices : Obligations.ProgramBatchWritesItsDevices := by
  unfold Obligations.ProgramBatchWritesItsDevices
  intro s t p i l e readings hex hrole hwide htoll hjobs f y g hfull hmove hrest
  obtain ⟨u, r, hrun, hu, hqueue, hgate⟩ := runBatch_settles (i := i) (e := e) (readings := readings) (x := y) (n := f.2.2) rfl hfull hmove
  clear_value y
  have hexec : exec (.programBatch t readings) s = .next ((s.runBatch t l i e readings).finishPrograms p).settleRoads := by
    change execProgramBatch t readings s = _
    rw [execProgramBatch, onTile, if_pos hex, hrole]
    have hno : (s.narrowOnly l e.tile && !(s.tile e.tile).orders.isEmpty) = false := by
      rw [Bool.eq_false_iff]
      simpa using hwide
    have hsome : (s.tile t).jobs.isEmpty = false := by simpa using hjobs
    simp only [hno, htoll, hsome, Bool.false_eq_true, if_false, Bool.not_false, decide_true, Bool.and_self, if_true]
  refine ⟨_, hexec, s.runBatch t l i e readings, rfl, ?_⟩
  have hnext := nextBatch_spec (s := u) (t := t) (i := i) (l := l) (e := e) (by rw [hu]; exact hrest)
  rw [hu, hgate, ← hrun] at hnext
  obtain ⟨h1, h2, h3, h4, h5, h6, h7, h8, h9⟩ := hnext
  refine ⟨h1, h2, h3, h4, h5, h6, h7, h8, fun j o row run hj hst ho hq hrow hrun => ?_⟩
  rw [← hqueue]
  exact h9 j o row run hj hst ho hq hrow hrun

end Sys2Proof.Machine
end

section
/-! ### A PROGRAM behind another one that ends, over tiles that start out with orders (R165, R195) -/

namespace Sys2Proof.Machine

open Sys2Proof Sys2Proof.Safety

/-- A PROGRAM that has begun, with opcode 0x30 and every other field 0. -/
def bareProgram (w : Work) : Running := ⟨block 64 [(0, 1, 0x30)], [], true, none, w⟩

/-- Two PROGRAMs of partition 0: that of queue 0 has handed out its orders, of layer 0 with tile 5, and that of queue 1 has an empty
inbox. No tile has been touched, and the tiles of die 0 start out with an order of queue 1. -/
def ordersByDefault : State :=
  { State.reset with
    parts := [(0, { Part.absent with st := .inService, quads := [0], layers := [readLayer [] [⟨5, 0, 0, 0, 0, 0⟩]] })]
    queues := [(0, { SubQ.reset with running := some (bareProgram { Work.none with started := true, todo := [0] }) }),
      (1, { SubQ.reset with running := some (bareProgram Work.none) })]
    hbm := (List.range 6).map fun m => (m, { Stack.reset with online := true })
    tileDef := [(0, { Tile.fresh with orders := [(0, 1)] })] }

/-- The end of the first PROGRAM touches tile 5, which now holds an order of the second, so that the second one runs on. -/
theorem ordersByDefault_runs_on : (match exec (.program 1) ordersByDefault with
    | .next t => (t.queue 1).running.map (·.done)
    | _ => none) = some none := by decide +kernel

/-- Refutes O38: tiles that have not been touched are not among those that hold no order of the queue, and a PROGRAM whose orders
are all refused runs on. -/
theorem not_programRefusesOrHandsOutOrders : ¬ Obligations.ProgramRefusesOrHandsOutOrders := by
  unfold Obligations.ProgramRefusesOrHandsOutOrders
  intro h
  obtain ⟨hrefused, -⟩ := h ordersByDefault 1 (bareProgram Work.none) ⟨by decide, by decide +kernel⟩ rfl (by decide +kernel) (by decide +kernel)
    (by decide +kernel) (by decide +kernel) (by decide +kernel) (by decide +kernel) (by decide +kernel) (by decide +kernel)
  obtain ⟨t, ht, r, hr, hdone⟩ := hrefused (by decide +kernel)
  have hruns := ordersByDefault_runs_on
  rw [ht] at hruns
  change (t.queue 1).running.map (·.done) = some none at hruns
  rw [hr, Option.map_some, hdone] at hruns
  cases hruns

end Sys2Proof.Machine
end

section
/-! ### Segments and products of a tile (R63 to R67, R113, R246) -/

namespace Sys2Proof.Machine

open Sys2Proof Sys2Proof.Safety

/-! #### What a running descriptor is asked by its tokens -/

/-- A projection of every running descriptor is the same in two states. -/
structure KeepsRunning {β : Type} (π : Running → β) (s t : State) : Prop where
  same : ∀ q, (t.queue q).running.map π = (s.queue q).running.map π

/-- What a token needs of its descriptor. -/
structure Asked where
  began : Bool
  done : Option (Nat × List Byte)
  desc : List Byte
  gen : Nat
  layers : List Layer

def Running.asked (r : Running) : Asked := ⟨r.began, r.done, r.desc, r.work.gen, r.work.layers⟩

namespace KeepsRunning

section
variable {β : Type} {π : Running → β} {s t u : State}

theorem refl : KeepsRunning π s s := ⟨fun _ => rfl⟩
theorem trans (h : KeepsRunning π s t) (k : KeepsRunning π t u) : KeepsRunning π s u := ⟨fun q => (k.same q).trans (h.same q)⟩
theorem of_queues (h : t.queues = s.queues) : KeepsRunning π s t := ⟨fun q => by rw [queue_congr h]⟩
theorem of_evolves {m : Nat} (h : Evolves m s t) (hm : m.testBit 10 = false) : KeepsRunning π s t := .of_queues (h.same .queues hm)

theorem modWork (q : Nat) {f : Work → Work} (hf : ∀ r, π { r with work := f r.work } = π r) : KeepsRunning π s (s.modWork q f) := by
  refine ⟨fun j => ?_⟩
  by_cases hj : j = q
  · subst hj
    cases hr : (s.queue j).running with
    | none => rw [State.modWork, hr, hr]
    | some r => rw [running_modWork hr, Option.map_some, Option.map_some, hf]
  · cases hr : (s.queue q).running with
    | none => rw [State.modWork, hr]
    | some r => rw [State.modWork, hr, State.queue_setQueue_other _ _ _ _ hj]

theorem tokLayer (h : KeepsRunning Running.asked s t) (k : Token) : t.tokLayer k = s.tokLayer k := by
  have hview (u : State) : u.tokLayer k = ((u.queue k.q).running.map Running.asked).elim none fun a =>
      if a.began && a.done.isNone && a.gen == k.gen then findLayer a.layers k.layer else none := by
    rw [State.tokLayer]
    cases (u.queue k.q).running <;> rfl
  rw [hview, hview, h.same]

theorem runningOp (h : KeepsRunning Running.asked s t) (q op : Nat) :
    (t.runningOp q op).map Running.asked = (s.runningOp q op).map Running.asked := by
  have hview (u : State) : (u.runningOp q op).map Running.asked = ((u.queue q).running.map Running.asked).bind fun a =>
      if a.began && a.done.isNone && dOpcode a.desc == op then some a else none := by
    rw [State.runningOp]
    cases (u.queue q).running with
    | none => rfl
    | some r =>
      change (if r.began && r.done.isNone && dOpcode r.desc == op then some r else none).map _ =
        if r.began && r.done.isNone && dOpcode r.desc == op then some r.asked else none
      split <;> rfl
  rw [hview, hview, h.same]

theorem runningProduct (h : KeepsRunning Running.asked s t) (q : Nat) :
    (t.runningProduct q).map Running.asked = (s.runningProduct q).map Running.asked := by
  have hview (u : State) : (u.runningProduct q).map Running.asked =
      ((u.runningOp q 0x10).map Running.asked).orElse fun _ => (u.runningOp q 0x11).map Running.asked := by
    rw [State.runningProduct]
    cases u.runningOp q 0x10 <;> rfl
  rw [hview, hview, h.runningOp, h.runningOp]

end

end KeepsRunning

section
variable {s v : State} {t pl j p i : Nat} {l : Layer} {e : TileEntry} {a : Partial}

/-! #### Samples -/

theorem clampI_bounds {lo hi : Int} (h : lo ≤ hi) (x : Int) : lo ≤ clampI lo hi x ∧ clampI lo hi x ≤ hi := by
  rw [clampI]
  omega

theorem sample_bounds {x : Vec} {n g : Nat} {dev : List (Nat × Int)} :
    ∀ c ∈ s.sample t l x n g dev, -512 ≤ c.2 ∧ c.2 ≤ 511 ∧ c.2 ≠ 0 ∧ c.1 < 1152 := by
  intro c hc
  obtain ⟨j, hj, hcode⟩ := List.mem_filterMap.1 hc
  dsimp only at hcode
  split at hcode
  · cases hcode
  · next hne =>
    cases hcode
    obtain ⟨hlo, hhi⟩ := clampI_bounds (lo := -512) (hi := 511) (by decide) _
    exact ⟨hlo, hhi, hne, List.mem_range.1 hj⟩

theorem takeBank_prods (x : Tile) : x.takeBank.prods = x.prods := by
  unfold Tile.takeBank
  split
  · rfl
  · split <;> rfl

theorem askSegment_tile (s : State) (t : Nat) (l : Layer) (load : Nat) (x : Prod) (k : Nat) : (s.askSegment t l load x).tile k = s.tile k := by
  unfold State.askSegment
  split <;> rfl

/-- A product whose segment `g` is sampled, with `rest` still to come. -/
def Prod.sampled (x : Prod) (g : Nat) (rest : List Nat) (codes : SMap Int) : Prod :=
  { x with
    todo := rest
    toll := if rest.isEmpty then 0 else 1
    codes := x.codes ++ [(g, codes)] }

theorem segmentSample_samples {x : Prod} {g : Nat} {rest : List Nat} {dev : List (Nat × Int)} (hex : tileExists t = true)
    (hfirst : (s.tile t).prods.find? (fun p => !p.todo.isEmpty) = some x) (hl : s.tokLayer x.vec.tok = some l) (htodo : x.todo = g :: rest)
    (htoll : x.toll = 2) : Answers (.segmentSample t dev) s fun s' => (s'.tile t).prods =
      updateFirst (fun p => !p.todo.isEmpty) (fun _ => x.sampled g rest (s.sample t l x.vec x.n g dev)) (s.tile t).prods := by
  have hexec : exec (.segmentSample t dev) s = .next ((s.modTile t fun y =>
      (y.takeBank).modDriving fun _ => x.sampled g rest (s.sample t l x.vec x.n g dev)).askSegment t l
        (((s.role t).map fun r => r.2.2.2.load).getD 15) (x.sampled g rest (s.sample t l x.vec x.n g dev))) := by
    change execSegmentSample t dev s = _
    rw [execSegmentSample, onTile, if_pos hex, hfirst]
    dsimp only
    rw [hl, htodo]
    dsimp only
    rw [if_neg (by simp [htoll])]
    rfl
  refine ⟨_, hexec, ?_⟩
  dsimp only
  rw [askSegment_tile, State.tile_modTile]
  exact congrArg _ (takeBank_prods _)

/-! #### What stages 1 to 6 leave of a tile -/

/-- What the chains of a tile hold, and whether it is retired or asked to be. -/
structure Passing where
  partials : List Partial
  pool : List PoolAcc
  retireReq : Bool
  retired : Bool

def Tile.passing (x : Tile) : Passing := ⟨x.partials, x.pool, x.retireReq, x.st == .retired⟩

theorem drift_passing (x : Tile) (l : Layer) (p : Prod) (refs : List (Int × Nat)) : (x.drift l p refs).passing = x.passing := by
  have hfold (ux : Int) (ok : List ((Int × Nat) × Nat)) : ∀ x : Tile, (ok.foldl (fun (y : Tile) e =>
      let d := refDigit (1088 + e.2)
      if d = 0 then { y with aZero := acc64 y.aZero e.1.1.natAbs }
      else { y with
        aIdeal := acc64 y.aIdeal (d.natAbs * ux.natAbs : Nat)
        aMeas := acc64 y.aMeas (e.1.1 * (d * ux).sign) }) x).passing = x.passing := by
    induction ok with
    | nil => exact fun _ => rfl
    | cons e ok ih =>
      intro x
      rw [List.foldl_cons, ih]
      dsimp only
      split <;> rfl
  unfold Tile.drift
  dsimp only
  split
  · rfl
  · exact hfold _ _ x

theorem flag_keeps (s : State) (p t num g : Nat) : KeepsTile Tile.passing s (s.flag p t num g) := by
  have hcount (u : State) (k d o lo n i : Nat) : KeepsTile Tile.passing u (u.count k d o lo n i) :=
    .of_evolves (State.count_evolves ..) rfl rfl
  have hraise (u : State) (p c : Nat) (fs ms : List (Nat × Nat × Nat)) : KeepsTile Tile.passing u (u.raiseM p c fs ms) :=
    .of_evolves (State.raiseM_evolves ..) rfl rfl
  have hmod (u : State) (b : Bool) (n : Nat) : KeepsTile Tile.passing u (u.modTile t fun y => { y with
      flagged := y.flagged || b
      flagTime := if y.flagged then y.flagTime else n }) := .modTile t fun _ => rfl
  unfold State.flag
  dsimp only
  split
  · exact .refl
  · exact ((hcount ..).trans (hmod ..)).trans (hraise ..)

/-- The stages leave what the chains hold. -/
theorem edgeStages_keeps (s : State) (p t : Nat) (l : Layer) (e : TileEntry) (x : Prod) :
    KeepsTile Tile.passing s (s.edgeStages p t l e x).1 := by
  have hcount (u : State) (k d o lo n i : Nat) : KeepsTile Tile.passing u (u.count k d o lo n i) :=
    .of_evolves (State.count_evolves ..) rfl rfl
  have hwork (u : State) (q : Nat) (f : Work → Work) : KeepsTile Tile.passing u (u.modWork q f) :=
    .of_evolves (State.modWork_evolves ..) rfl rfl
  have hdrift (u : State) (refs : List (Int × Nat)) (c : SMap Check) :
      KeepsTile Tile.passing u (u.modTile t fun y => { y.drift l x refs with checks := c }) :=
    .modTile t fun y => drift_passing y l x refs
  have hflags (u : State) (gs : List Nat) : KeepsTile Tile.passing u (gs.foldl (fun u g => u.flag p t l.num g) u) :=
    .foldl .refl fun _ _ => flag_keeps ..
  exact ((((((hcount ..).trans (hcount ..)).trans (hcount ..)).trans (hcount ..)).trans (hcount ..)).trans (hwork ..)).trans
    ((hdrift ..).trans (hflags ..))

/-- The stages leave what tokens ask of their descriptors. -/
theorem edgeStages_asked (s : State) (p t : Nat) (l : Layer) (e : TileEntry) (x : Prod) :
    KeepsRunning Running.asked s (s.edgeStages p t l e x).1 := by
  have hcount (u : State) (k d o lo n i : Nat) : KeepsRunning Running.asked u (u.count k d o lo n i) :=
    .of_evolves (State.count_evolves ..) rfl
  have hwork (u : State) (n : Nat) : KeepsRunning Running.asked u (u.modWork x.vec.tok.q fun w => { w with clips := w.clips + n }) :=
    .modWork _ fun _ => rfl
  have hdrift (u : State) (f : Tile → Tile) : KeepsRunning Running.asked u (u.modTile t f) := .of_evolves (State.modTile_evolves ..) rfl
  have hflags (u : State) (gs : List Nat) : KeepsRunning Running.asked u (gs.foldl (fun u g => u.flag p t l.num g) u) :=
    .of_evolves (.foldl .refl fun _ _ => State.flag_evolves ..) rfl
  exact ((((((hcount ..).trans (hcount ..)).trans (hcount ..)).trans (hcount ..)).trans (hcount ..)).trans (hwork ..)).trans
    ((hdrift ..).trans (hflags ..))

theorem freeBanks_kept (x : Tile) : x.freeBanks.passing = x.passing ∧ x.freeBanks.prods = x.prods := by
  unfold Tile.freeBanks
  split <;> exact ⟨rfl, rfl⟩

/-- A tile that is not to be retired settles at most to IDLE. -/
theorem settleTile_kept (h : (s.tile t).retireReq = false) : Evolves 67108864 s (s.settleTile t) ∧
    KeepsTile Tile.passing s (s.settleTile t) ∧ ((s.settleTile t).tile t).prods = (s.tile t).prods := by
  rw [State.settleTile]
  split
  · next hidle =>
    have hactive : (s.tile t).st = .active := by
      simp only [h, Bool.and_false, Bool.or_false, Bool.and_eq_true, beq_iff_eq] at hidle
      exact hidle.1.1
    dsimp only
    rw [h, if_neg Bool.false_ne_true]
    refine ⟨State.setTile_evolves .., .setTile t ?_, by rw [State.tile_setTile]⟩
    rw [Tile.passing, Tile.passing, hactive, h]
    rfl
  · exact ⟨.refl, .refl, rfl⟩

/-- The product that has passed leaves its tile. -/
def State.popProd (s : State) (t : Nat) (rest : List Prod) : State :=
  (s.modTile t fun y => Tile.freeBanks { y with prods := rest }).settleTile t

theorem popProd_kept (h : (s.tile t).retireReq = false) (rest : List Prod) : Evolves 67108864 s (s.popProd t rest) ∧
    KeepsTile Tile.passing s (s.popProd t rest) ∧ ((s.popProd t rest).tile t).prods = rest := by
  have hfree : KeepsTile Tile.passing s (s.modTile t fun y => Tile.freeBanks { y with prods := rest }) :=
    .modTile t fun y => (freeBanks_kept _).1
  have hreq : ((s.modTile t fun y => Tile.freeBanks { y with prods := rest }).tile t).retireReq = false :=
    (congrArg Passing.retireReq (hfree.same t)).trans h
  obtain ⟨hev, hkeep, hprods⟩ := settleTile_kept hreq
  refine ⟨(State.modTile_evolves ..).trans hev, hfree.trans hkeep, hprods.trans ?_⟩
  rw [State.tile_modTile]
  exact (freeBanks_kept _).2

/-! #### A product that its one position closes -/

/-- A packet that its closing tile holds is not sent on. -/
theorem forwardOne_closing (hone : (s.tile pl).partials = [a]) (hl : s.tokLayer a.tok = some l) (hentry : l.entryOf pl = some (j, e))
    (hlast : e.pos + 1 = l.chainLen) (hpos : a.pos = e.pos) : s.forwardOne pl = none := by
  rw [State.forwardOne, hone]
  simp [hl, hentry, hlast, hpos]

/-- The single packet of a chain of one position is a product that is ready. -/
theorem readyProduct_single (hone : (s.tile pl).partials = [a]) (hl : s.tokLayer a.tok = some l) (hentry : l.entryOf pl = some (j, e))
    (hgot : a.got = true) (hpos : a.pos = 0) (hlen : l.chainLen = 1) (hpool : (s.tile pl).pool.find? (·.of a.tok) = none)
    (hidx : a.tok.idx = 0) (hpre : l.preload = 0) : s.readyProduct pl = some (l, e, a.tok, a.vals, none) := by
  have hsum : chainCombine [a.vals] = a.vals := rfl
  rw [State.readyProduct, hone]
  simp [hl, hentry, hgot, hpos, hlen, hpool, hidx, hpre, hsum]

theorem readyProduct_none (hnone : (s.tile pl).partials = []) : s.readyProduct pl = none := by
  rw [State.readyProduct, hnone]
  rfl

/-- With nothing to preload, to pool or to copy, a product closes by sending its activated outputs. -/
theorem closeProduct_single {r : Running} {k : Token} {vals : List OutVal} (hr : s.runningProduct k.q = some r) (hpre : l.preload = 0)
    (hcopy : l.preact = false) (hpool : l.pool = 0) (hout : l.outFmt < 3) (hfind : (s.tile pl).pool.find? (·.of k) = none) :
    ∃ x : Tile, x.partials = (s.tile pl).partials.filter (fun a => a.tok != k) ∧ x.st = (s.tile pl).st ∧
      s.closeProduct pl l e k vals none = (s.setTile pl x).sendResult pl ((s.setTile pl x).physTile pl % 65536)
        ((s.setTile pl x).bypassed l pl) l (windowToken (dOpcode r.desc) l k)
        (vals.map fun v => { v with val := activate l.act l.actTable (add32 v.val 0) }) := by
  have hnocopy (vs : List OutVal) : s.preactCopy k l e.chain vs = s := by
    rw [State.preactCopy, hr]
    simp [hcopy]
  have hloads : (vals.map fun v => { v with val := add32 v.val (preloadOf l e none v) }) = vals.map fun v => { v with val := add32 v.val 0 } := by
    simp only [preloadOf, hpre]
  have hwin : l.window = 1 := by rw [Layer.window, if_pos hpool]
  have hne : l.outFmt ≠ 3 := by omega
  have hacc (vs : List OutVal) : poolAdd l.pool [] vs = vs := rfl
  have hend (n : Nat) (vs : List OutVal) : poolEnd l.pool n vs = vs := by rw [hpool]; rfl
  refine ⟨{ s.tile pl with
    pool := ?_
    partials := (s.tile pl).partials.filter fun a => a.tok != k
    sums := ?_
    normAcc := ?_ }, rfl, rfl, ?_⟩
  rotate_left 3
  · rw [State.closeProduct]
    dsimp only
    rw [hloads, hnocopy, hr, hfind]
    simp only [hwin, Nat.mod_one, beq_self_eq_true, Bool.true_or, Bool.not_true, Bool.false_eq_true, if_false, if_neg hne,
      Option.getD_none, hacc, hend, List.map_map]
    rfl

/-! #### What is sent is on the roads -/

/-- A packet that is sent to some places is on its way to each of them. -/
theorem send_onRoads {d src dst size : Nat} {cargo : Cargo} {dsts : List Nat} {onward : List (Nat × List Nat)} (h : dst ∈ dsts) :
    OnRoads (s.setRoad d ((s.road d).send src cargo size dsts onward)) d dst cargo := by
  have hne : dsts.isEmpty = false := by
    rw [List.isEmpty_eq_false_iff]
    exact List.ne_nil_of_mem h
  have hroad (x : Road) : (s.setRoad d x).road d = x := by simp [State.road, State.setRoad]
  refine .inl ⟨(s.road d).next, ⟨cargo.lane, size, dsts.map fun d => (d, size), cargo, onward⟩, ?_, rfl, ?_⟩
  · rw [hroad, Road.send, hne]
    exact tfind_tput_self ..
  · simpa using h

theorem sendResult_onRoads (s : State) (pl from_ : Nat) (byp : Bool) (l : Layer) (k : Token) (vals : List OutVal) :
    OnRoads (s.sendResult pl from_ byp l k vals) (tileDie pl)
      (dstCode (bridgeEnd (bridgeFor (tileDie pl) (tileDie pl) (endBlock from_))) pl) (.result k vals) := by
  rw [State.sendResult]
  dsimp only
  split
  · have hroad (x : Road) : (s.setRoad (tileDie pl) x).road (tileDie pl) = x := by simp [State.road, State.setRoad]
    refine .inr ⟨⟨2, dataFlits (vals.length * l.fmt.size), [], .result k vals, []⟩, rfl, ?_⟩
    rw [hroad]
    exact List.mem_append_right _ (List.mem_singleton.2 rfl)
  · exact send_onRoads (List.mem_singleton.2 rfl)

theorem sendResult_tile (s : State) (pl from_ : Nat) (byp : Bool) (l : Layer) (k : Token) (vals : List OutVal) (i : Nat) :
    (s.sendResult pl from_ byp l k vals).tile i = s.tile i := by
  rw [State.sendResult]
  dsimp only
  split <;> rfl

/-- The place that serves a position rests on whether its tile is retired. -/
theorem physTile_congr (hretire : v.retire = s.retire) (h : ((v.tile pl).st == .retired) = ((s.tile pl).st == .retired)) :
    v.physTile pl = s.physTile pl := by
  have hreserve (n : Nat) : v.reserveFor pl n = s.reserveFor pl n := by rw [State.reserveFor, State.reserveFor, hretire]
  have hst : ((v.tile pl).st = .retired) ↔ ((s.tile pl).st = .retired) := by
    rw [← beq_iff_eq, h, beq_iff_eq]
  simp only [State.physTile, hreserve, hst]

/-- The one product of a position that closes it leaves as its result rows. -/
theorem advance_single {r : Running} (hone : (s.tile pl).partials = [a]) (hl : s.tokLayer a.tok = some l)
    (hentry : l.entryOf pl = some (j, e)) (hgot : a.got = true) (he : e.pos = 0) (hpos : a.pos = 0) (hlen : l.chainLen = 1)
    (hfind : (s.tile pl).pool.find? (·.of a.tok) = none) (hidx : a.tok.idx = 0) (hpre : l.preload = 0)
    (hr : s.runningProduct a.tok.q = some r) (hcopy : l.preact = false) (hpool : l.pool = 0) (hout : l.outFmt < 3) :
    OnRoads (s.advance pl) (tileDie pl)
      (dstCode (bridgeEnd (bridgeFor (tileDie pl) (tileDie pl) (endBlock (s.physTile pl % 65536)))) pl)
      (.result (windowToken (dOpcode r.desc) l a.tok)
        (a.vals.map fun v => { v with val := activate l.act l.actTable (add32 v.val 0) })) := by
  have hforward := forwardOne_closing hone hl hentry (by rw [he, hlen]) (hpos.trans he.symm)
  have hready := readyProduct_single hone hl hentry hgot hpos hlen hfind hidx hpre
  obtain ⟨x, hxp, hxs, hclose⟩ := closeProduct_single (e := e) (vals := a.vals) hr hpre hcopy hpool hout hfind
  have hempty : ((s.closeProduct pl l e a.tok a.vals none).tile pl).partials = [] := by
    rw [hclose, sendResult_tile, State.tile_setTile, hxp, hone]
    simp
  have hadvance : s.advance pl = s.closeProduct pl l e a.tok a.vals none := by
    rw [State.advance, hone]
    simp only [List.length_singleton, State.forwardAll, hforward, State.closeAll, hready, readyProduct_none hempty]
  have hplace : (s.setTile pl x).physTile pl = s.physTile pl := physTile_congr rfl (by rw [State.tile_setTile, hxs])
  rw [hadvance, hclose, hplace]
  exact sendResult_onRoads ..

/-! #### The edge pipeline -/

/-- A product that passes the edge unit joins the packets of its position. -/
def State.passProd (s : State) (p t : Nat) (l : Layer) (e : TileEntry) (x : Prod) (rest : List Prod) : State :=
  ((s.edgeStages p t l e x).1.popProd t rest).modTile e.tile fun y => { y with
    partials := y.partials ++ [⟨x.vec.tok, e.pos, true, (l.outputsOf e (s.columns t l x).data x.tau x.vec.b).map (·.1)⟩] }

theorem exec_edgePipeline {l0 : Layer} {x : Prod} {rest : List Prod} (hex : tileExists t = true) (hprods : (s.tile t).prods = x :: rest)
    (htodo : x.todo = []) (hl : s.tokLayer x.vec.tok = some l) (hrole : s.role t = some (p, l0, i, e)) :
    exec (.edgePipeline t) s = .next ((s.passProd p t l e x rest).advance e.tile).settleRoads := by
  change execEdgePipeline t s = _
  rw [execEdgePipeline, onTile, if_pos hex, hprods]
  dsimp only
  rw [htodo, if_neg (by decide), hl, hrole]
  rfl

/-- What passing the edge unit leaves of the tile, of the chains and of the descriptors. -/
theorem passProd_spec {x : Prod} {rest : List Prod} (hreq : (s.tile t).retireReq = false) : let u := s.passProd p t l e x rest
    (u.tile t).prods = rest ∧
    (u.tile e.tile).passing = { (s.tile e.tile).passing with
      partials := (s.tile e.tile).partials ++
        [⟨x.vec.tok, e.pos, true, (l.outputsOf e (s.columns t l x).data x.tau x.vec.b).map (·.1)⟩] } ∧
    u.retire = s.retire ∧ KeepsRunning Running.asked s u := by
  intro u
  have hkeep := edgeStages_keeps s p t l e x
  have hasked := edgeStages_asked s p t l e x
  have hev := State.edgeStages_evolves s p t l e x
  have hu : u = (((s.edgeStages p t l e x).1.popProd t rest).modTile e.tile fun y => { y with
    partials := y.partials ++ [⟨x.vec.tok, e.pos, true, (l.outputsOf e (s.columns t l x).data x.tau x.vec.b).map (·.1)⟩] }) := rfl
  clear_value u
  generalize (s.edgeStages p t l e x).1 = w at hkeep hasked hev hu
  obtain ⟨hpev, hpkeep, hpprods⟩ := popProd_kept ((congrArg Passing.retireReq (hkeep.same t)).trans hreq) rest
  generalize w.popProd t rest = z at hpev hpkeep hpprods hu
  have hpass := (hpkeep.same e.tile).trans (hkeep.same e.tile)
  subst hu
  refine ⟨?_, ?_, ?_, ?_⟩
  · have hprods : KeepsTile Tile.prods z (z.modTile e.tile fun y => { y with
      partials := y.partials ++ [⟨x.vec.tok, e.pos, true, (l.outputsOf e (s.columns t l x).data x.tau x.vec.b).map (·.1)⟩] }) :=
      .modTile _ fun _ => rfl
    exact (hprods.same t).trans hpprods
  · rw [State.tile_modTile, ← hpass]
    exact congrArg (fun ps => Passing.mk (ps ++ _) _ _ _) (congrArg Passing.partials hpass)
  · exact ((State.modTile_evolves ..).same .retire rfl).trans ((hpev.same .retire rfl).trans (hev.same .retire rfl))
  · exact hasked.trans ((KeepsRunning.of_evolves hpev rfl).trans (.of_evolves (State.modTile_evolves ..) rfl))

end

/-- Settles O21: the segment sampled joins its product's codes, and a product that passes the edge unit goes on from its position. -/
theorem segmentsAreSampledAndProductsPassedOn : Obligations.SegmentsAreSampledAndProductsPassedOn := by
  unfold Obligations.SegmentsAreSampledAndProductsPassedOn
  refine ⟨fun s t g dev p l rest hex hfirst hl htodo htoll => ⟨sample_bounds, segmentSample_samples hex hfirst hl htodo htoll⟩,
    fun s t p i l l0 e x rest hex hprods htodo hl hrole hreq => ?_⟩
  obtain ⟨hrest, hpass, hretire, hasked⟩ := passProd_spec (p := p) (l := l) (e := e) (x := x) (rest := rest) hreq
  have hexec := exec_edgePipeline hex hprods htodo hl hrole
  generalize s.passProd p t l e x rest = u at hrest hpass hretire hasked hexec
  refine ⟨_, hexec, u, rfl, hrest, congrArg Passing.partials hpass, fun j r hr hentry hpos hlen hpre hcopy hpool hout hnone hfind hidx => ?_⟩
  have hone := congrArg Passing.partials hpass
  rw [hnone, List.nil_append] at hone
  obtain ⟨r', hr', hdesc⟩ := Option.map_eq_some_iff.1 ((hasked.runningProduct x.vec.tok.q).trans (congrArg (Option.map Running.asked) hr))
  have hplace : u.physTile e.tile = s.physTile e.tile := physTile_congr hretire (congrArg Passing.retired hpass)
  have hsent := advance_single hone ((hasked.tokLayer _).trans hl) hentry rfl hpos hpos hlen
    ((congrArg (fun y : Passing => y.pool.find? (·.of x.vec.tok)) hpass).trans hfind) hidx hpre hr' hcopy hpool hout
  rw [hplace, show r'.desc = r.desc from congrArg Asked.desc hdesc] at hsent
  exact hsent

end Sys2Proof.Machine
end

section
/-! ### A packet that meets its chain link again once its tile is noted (R207, R211, R238) -/

namespace Sys2Proof.Machine

open Sys2Proof Sys2Proof.Safety

/-- Roads that have been used are not forgotten. -/
structure RoadsStay (s t : State) : Prop where
  stay : s.roads ≠ [] → t.roads ≠ []

namespace RoadsStay

section
variable {s t u : State}

theorem refl : RoadsStay s s := ⟨id⟩
theorem trans (h : RoadsStay s t) (k : RoadsStay t u) : RoadsStay s u := ⟨k.stay ∘ h.stay⟩
theorem of_evolves {m : Nat} (h : Evolves m s t) (hm : m.testBit 30 = false) : RoadsStay s t := ⟨fun hs => h.same .roads hm ▸ hs⟩
theorem ite {c : Prop} [Decidable c] (h : RoadsStay s t) (k : RoadsStay s u) : RoadsStay s (if c then t else u) := by
  split <;> assumption
theorem foldl {α : Type} {f : State → α → State} (l : List α) (k : ∀ v a, RoadsStay v (f v a)) : RoadsStay s (l.foldl f s) := by
  induction l generalizing s with
  | nil => exact .refl
  | cons a l ih => exact (k s a).trans ih

end

/-! A road that is put to use is noted. -/

theorem tput_ne_nil {α : Type} (m : SMap α) (i : Nat) (v : α) : tput m i v ≠ [] := by
  cases m with
  | nil => exact List.cons_ne_nil _ _
  | cons e m =>
    obtain ⟨k, w⟩ := e
    unfold tput
    split
    · exact List.cons_ne_nil _ _
    · split <;> exact List.cons_ne_nil _ _

theorem setRoad (s : State) (d : Nat) (x : Road) : RoadsStay s (s.setRoad d x) := ⟨fun _ => tput_ne_nil _ _ _⟩

theorem sendFrom (s : State) (d e : Nat) (cargo : Cargo) (size : Nat) (l : Layer) (pls : List Nat) :
    RoadsStay s (s.sendFrom d e cargo size l pls) := .ite .refl (.setRoad ..)

theorem sendDown (s : State) (d : Nat) (cargo : Cargo) (size : Nat) (l : Layer) (pls : List Nat) :
    RoadsStay s (s.sendDown d cargo size l pls) := .ite .refl (.setRoad ..)

theorem sendResult (s : State) (pl from_ : Nat) (byp : Bool) (l : Layer) (k : Token) (vals : List OutVal) :
    RoadsStay s (s.sendResult pl from_ byp l k vals) := .ite (.setRoad ..) (.setRoad ..)

theorem sendPiece (s : State) (d e : Nat) (byp : Bool) (piece : Piece) (size : Nat) (m : Layer) (pls : List Nat) :
    RoadsStay s (s.sendPiece d e byp piece size m pls) :=
  .trans (.trans (.ite (.sendDown ..) (.sendFrom ..)) (.ite .refl (.ite (.setRoad ..) (.setRoad ..))))
    (.ite .refl (.ite (.setRoad ..) (.setRoad ..)))

theorem sendPieces (s : State) (l m : Layer) (k : Token) (d from_ : Nat) (byp : Bool) (chain first : Nat) (vals : List OutVal) :
    RoadsStay s (s.sendPieces l m k d from_ byp chain first vals) := by
  refine .foldl _ fun t j => ?_
  split
  · exact .refl
  · exact .trans (.of_evolves (State.countEdge_evolves ..) rfl) (.sendPiece ..)

/-! Products and packets. -/

theorem closeProduct (s : State) (pl : Nat) (l : Layer) (e : TileEntry) (k : Token) (sum : List OutVal) (res : Option Residual) :
    RoadsStay s (s.closeProduct pl l e k sum res) := by
  unfold State.closeProduct
  extract_lets r op count pre u out x old acc first ends vals v w from_
  have hv : RoadsStay s v := .trans (.of_evolves (State.preactCopy_evolves ..) rfl) (.of_evolves (State.setTile_evolves ..) rfl)
  refine hv.trans (.ite .refl (.ite ?_ (.sendResult ..)))
  split
  · exact .refl
  · exact .sendPieces ..

theorem closeAll (pl : Nat) : ∀ (n : Nat) (s : State), RoadsStay s (s.closeAll n pl)
  | 0, _ => .refl
  | n + 1, s => by
    unfold State.closeAll
    split
    · exact .refl
    · exact .trans (.closeProduct ..) (closeAll pl n _)

theorem sendPartial (s : State) (l : Layer) (e f : TileEntry) (a : Partial) : RoadsStay s (s.sendPartial l e f a) :=
  .ite (.of_evolves (State.modTile_evolves ..) rfl) (.ite (.sendDown ..) (.sendFrom ..))

theorem forwardOne {s t : State} {pl : Nat} (h : s.forwardOne pl = some t) : RoadsStay s t := by
  have hset (x : Tile) : RoadsStay s (s.setTile pl x) := .of_evolves (State.setTile_evolves ..) rfl
  obtain ⟨a, -, ha⟩ := List.exists_of_findSome?_eq_some h
  split at ha
  · split at ha
    · cases ha
      exact hset _
    · cases ha
  · split at ha
    · split at ha
      · obtain ⟨y, -, rfl⟩ := Option.map_eq_some_iff.1 ha
        exact hset y
      · cases ha
    · split at ha
      · split at ha
        · cases ha
        · cases ha
          exact (hset _).trans (.sendPartial ..)
      · cases ha

theorem forwardAll (pl : Nat) : ∀ (n : Nat) (s : State), RoadsStay s (s.forwardAll n pl)
  | 0, _ => .refl
  | n + 1, s => by
    unfold State.forwardAll
    split
    · exact .refl
    · next t ht => exact .trans (.forwardOne ht) (forwardAll pl n t)

theorem advance (s : State) (pl : Nat) : RoadsStay s (s.advance pl) := .trans (.forwardAll ..) (.closeAll ..)

theorem runBypass (s : State) (l : Layer) (i : Nat) (e : TileEntry) (v : Vec) : RoadsStay s (s.runBypass l i e v) := by
  have hmod (u : State) (f : Tile → Tile) : RoadsStay u (u.modTile e.tile f) := .of_evolves (State.modTile_evolves ..) rfl
  have hwork (u : State) (f : Work → Work) : RoadsStay u (u.modWork v.tok.q f) := .of_evolves (State.modWork_evolves ..) rfl
  exact ((((of_evolves (State.keepSums_evolves ..) rfl).trans (hwork ..)).trans (hmod ..)).trans (hmod ..)).trans (.advance ..)

theorem assemble (pl : Nat) : ∀ (n : Nat) (s : State), RoadsStay s (s.assemble n pl)
  | 0, _ => .refl
  | n + 1, s => by
    unfold State.assemble
    split
    · exact .refl
    · next l i e v _ =>
      have hmod : RoadsStay s (s.modTile pl fun y => { y with pieces := y.pieces.filter fun b => b.vec.tok != v.tok }) :=
        .of_evolves (State.modTile_evolves ..) rfl
      exact .ite (hmod.trans (.trans (.runBypass ..) (assemble pl n _)))
        (.ite .refl (hmod.trans (.trans (.of_evolves (State.takeVector_evolves ..) rfl) (assemble pl n _))))

theorem takePiece (s : State) (pl : Nat) (a : Piece) : RoadsStay s (s.takePiece pl a) := by
  have hmod (f : Tile → Tile) : RoadsStay s (s.modTile pl f) := .of_evolves (State.modTile_evolves ..) rfl
  exact (hmod _).trans (.assemble ..)

/-! Results and the end of products. -/

theorem retireTile (s : State) (t cause : Nat) : RoadsStay s (s.retireTile t cause) := by
  have hset (u : State) (x : Tile) : RoadsStay u (u.setTile t x) := .of_evolves (State.setTile_evolves ..) rfl
  have hmod (u : State) (pl : Nat) (f : Tile → Tile) : RoadsStay u (u.modTile pl f) := .of_evolves (State.modTile_evolves ..) rfl
  have hdrop (u : State) : RoadsStay u (u.dropRequests t) := .of_evolves (State.dropRequests_evolves ..) rfl
  have hres (u : State) : RoadsStay u (if isReserve t then u.retireReserve t else u) :=
    .ite (.of_evolves (State.retireReserve_evolves ..) rfl) .refl
  have hdivert (u : State) (pl : Nat) : RoadsStay u (u.divertSlots pl) := by
    refine .trans (hmod ..) (.foldl _ fun v x => ?_)
    split
    · exact .sendFrom ..
    · exact .refl
  unfold State.retireTile
  extract_lets x served moved u v
  have hv : RoadsStay s v := ((hset ..).trans (hdrop _)).trans (hres _)
  clear_value served
  cases served with
  | none => exact hv.trans (.of_evolves (State.reportRetired_evolves ..) rfl)
  | some pl =>
    have hgive := hmod v pl fun y => { y with orders := x.ordersInJobs ++ y.orders }
    exact (hv.trans hgive).trans ((hdivert ..).trans (.of_evolves (State.replaceTile_evolves ..) rfl))

theorem settleTile (s : State) (t : Nat) : RoadsStay s (s.settleTile t) := by
  have hset (u : State) (x : Tile) : RoadsStay u (u.setTile t x) := .of_evolves (State.setTile_evolves ..) rfl
  exact .ite (.ite ((hset ..).trans (.retireTile ..)) (hset ..)) .refl

theorem endProducts (s : State) (q st : Nat) : RoadsStay s (s.endProducts q st) := by
  have hnorms (r : Running) : RoadsStay s (if dPhase r.desc = 1 then s.collectNorms r.work else s) :=
    .ite (.of_evolves (State.collectNorms_evolves ..) rfl) .refl
  have hdrop (u : State) : RoadsStay u { u with
      tiles := u.tiles.map fun (e : Nat × Tile) => (e.1, e.2.dropProducts q)
      roads := u.roads.map fun (e : Nat × Road) => (e.1, e.2.drop fun k => k.q == q) } :=
    ⟨fun h => by simpa using h⟩
  unfold State.endProducts
  split
  · exact .refl
  · exact ((hnorms _).trans (hdrop _)).trans (.trans (.foldl _ fun _ _ => .settleTile ..) (.of_evolves (State.finish_evolves ..) rfl))

theorem writeRow (s : State) (q row : Nat) (l : Layer) (r : Running) (vs : List Word) : RoadsStay s (s.writeRow q row l r vs) := by
  have hfinish (u : State) : RoadsStay u (u.finishProducts q) := by
    unfold State.finishProducts
    split
    · exact .refl
    · exact .ite (.endProducts ..) .refl
  have hwork (u : State) (f : Work → Work) : RoadsStay u (u.modWork q f) := .of_evolves (State.modWork_evolves ..) rfl
  unfold State.writeRow
  dsimp only
  split
  · split
    · exact .endProducts ..
    · exact .trans (.trans (.trans (.of_evolves (State.writeAll_evolves ..) rfl) (.of_evolves (State.countRow_evolves ..) rfl)) (hwork ..))
        (hfinish _)
  · exact .of_evolves (State.finish_evolves ..) rfl

theorem putOutputs (s : State) (k : Token) (l : Layer) (vals : List OutVal) : RoadsStay s (s.putOutputs k l vals) := by
  have hwork (u : State) (f : Work → Work) : RoadsStay u (u.modWork k.q f) := .of_evolves (State.modWork_evolves ..) rfl
  unfold State.putOutputs
  split
  · exact .refl
  · exact (hwork ..).trans (.ite (.writeRow ..) .refl)

/-! The roads run. -/

theorem arrive (s : State) (d dst : Nat) (p : RoadPkt) : RoadsStay s (s.arrive d dst p) := by
  have hmod (u : State) (pl : Nat) (f : Tile → Tile) : RoadsStay u (u.modTile pl f) := .of_evolves (State.modTile_evolves ..) rfl
  have honward : RoadsStay s (s.goOn d p) := by
    unfold State.goOn
    split
    · exact .refl
    · exact .foldl _ fun t e => .ite (.sendDown ..) .refl
  unfold State.arrive
  refine .ite honward ?_
  split
  · exact .refl
  · dsimp only
    split
    · exact .putOutputs ..
    · split
      · exact .refl
      · refine .ite (.sendFrom ..) (.ite (.sendDown ..) (.ite (.sendFrom ..) ?_))
        split
        · exact .ite (.runBypass ..) (.of_evolves (State.takeVector_evolves ..) rfl)
        · exact .ite (.takePiece ..) (hmod ..)
        · exact (hmod ..).trans (.ite (.advance ..) .refl)
        · exact .refl

theorem takeDue (s : State) (d : Nat) : RoadsStay s (s.takeDue d) :=
  .ite .refl (.trans (.setRoad ..) (.foldl _ fun _ _ => .arrive ..))

theorem rollRoads (s : State) : RoadsStay s s.rollRoads := .foldl _ fun _ _ => .ite .refl (.setRoad ..)

theorem runRoads : ∀ (n : Nat) (s : State), RoadsStay s (s.runRoads n)
  | 0, _ => .refl
  | n + 1, s => by
    unfold State.runRoads
    exact .trans (.rollRoads s) (.ite .refl (.trans (.foldl _ fun _ _ => .takeDue ..) (runRoads n _)))

theorem settleRoads (s : State) : RoadsStay s s.settleRoads := runRoads _ s

end RoadsStay

/-- A die that carries a packet has a road in use. -/
theorem roads_of_onRoads {s : State} {d dst : Nat} {c : Cargo} (h : OnRoads s d dst c) : s.roads ≠ [] := by
  intro hnone
  have hroad : s.road d = Road.empty := by rw [State.road, hnone]; rfl
  rcases h with ⟨k, p, hk, -⟩ | ⟨p, -, hp⟩
  · rw [hroad] at hk
    cases hk
  · rw [hroad] at hp
    cases hp

/-- A chain of two positions on neighbouring tiles. -/
def pairLayer : Layer := { readLayer [] [⟨20, 0, 0, 0, 0, 0⟩, ⟨21, 1, 0, 0, 0, 0⟩] with chainLen := 2 }

/-- The packet of the first position. -/
def pairPacket : Partial := ⟨⟨0, 0, 0, 0, 0, 0, 0⟩, 0, false, []⟩

/-- Fifteen tiles and tile 21 are called for a probe. Tile 20 has not been touched; the tiles of its die start out called, scanned and
with a packet to take. -/
def sixteenthCalled : State :=
  { State.reset with
    parts := [(0, { Part.absent with st := .inService, quads := [0], layers := [pairLayer] })]
    queues := [(0, { SubQ.reset with running := some ⟨block 64 [(0, 1, 0x10)], [], true, none, { Work.none with layers := [pairLayer] }⟩ })]
    tiles := ((List.range 15).map fun k => (k, { Tile.fresh with flagged := true })) ++ [(21, { Tile.fresh with flagged := true })]
    tileDef := [(0, { Tile.fresh with flagged := true, scanning := true, partials := [pairPacket] })] }

/-- Tile 21 is to be probed, so the chain link is not used. -/
theorem sixteenthCalled_not_linked : sixteenthCalled.linked pairLayer 20 21 = false := by decide +kernel

/-- Once tile 20 is noted, sixteen tiles come before tile 21, and the packet goes by the chain link: nothing is on the roads. -/
theorem sixteenthCalled_links : (match exec (.partialPacket 20) sixteenthCalled with
    | .next t => t.roads.isEmpty
    | _ => false) = true := by decide +kernel

/-- Refutes O22: the link is judged before the tile of the packet is noted, and a packet that goes by the link is not on the roads. -/
theorem not_packetsMoveAndPiecesWaitForTheRest : ¬ Obligations.PacketsMoveAndPiecesWaitForTheRest := by
  unfold Obligations.PacketsMoveAndPiecesWaitForTheRest
  rintro ⟨h, -⟩
  obtain ⟨hmoves, -⟩ := h sixteenthCalled 20 0 0 0 pairLayer pairLayer ⟨20, 0, 0, 0, 0, 0⟩ pairPacket (by decide) (by decide +kernel)
    (by decide +kernel) (by decide +kernel) (by decide +kernel) (by decide +kernel)
  obtain ⟨t, ht, u, rfl, -, hsent⟩ := (hmoves (by decide)).1 ⟨21, 1, 0, 0, 0, 0⟩ (by decide +kernel) (by decide) (by decide +kernel)
  rw [if_neg (by rw [sixteenthCalled_not_linked]; decide)] at hsent
  have hused := (RoadsStay.settleRoads u).stay (roads_of_onRoads hsent)
  have hlinks := sixteenthCalled_links
  rw [ht] at hlinks
  exact hused (List.isEmpty_iff.1 hlinks)

end Sys2Proof.Machine
end

section
/-! ### Vectors on their way from a gradient die (R138, R245, R249) -/

namespace Sys2Proof.Machine

open Sys2Proof Sys2Proof.Safety

/-! #### A road keeps what it carries -/

/-- A packet that is numbered on the road, or has arrived, and is meant for `dst`. -/
def Road.Holds (r : Road) (dst : Nat) (c : Cargo) : Prop :=
  (∃ k p, k < r.next ∧ tfind r.pkts k = some p ∧ p.cargo = c ∧ dst ∈ p.left.map (·.1)) ∨
    ∃ p : RoadPkt, p.cargo = c ∧ (dst, p) ∈ r.due

section
variable {r : Road} {dst src size : Nat} {c cargo : Cargo} {dsts : List Nat} {onward : List (Nat × List Nat)}

theorem Road.Holds.send (h : r.Holds dst c) : (r.send src cargo size dsts onward).Holds dst c := by
  unfold Road.send
  split
  · exact h
  · rcases h with ⟨k, p, hk, hfind, hp⟩ | hdue
    · exact .inl ⟨k, p, Nat.lt_succ_of_lt hk, (tfind_tput_other (Nat.ne_of_lt hk) _ _).trans hfind, hp⟩
    · exact .inr hdue

theorem Road.send_holds (h : dst ∈ dsts) : (r.send src cargo size dsts onward).Holds dst cargo := by
  have hne : dsts.isEmpty = false := by
    rw [List.isEmpty_eq_false_iff]
    exact List.ne_nil_of_mem h
  rw [Road.send, hne]
  exact .inl ⟨r.next, ⟨cargo.lane, size, dsts.map fun d => (d, size), cargo, onward⟩, Nat.lt_succ_self _, tfind_tput_self .., rfl,
    by simpa using h⟩

theorem Road.Holds.more_due (h : r.Holds dst c) (ps : List (Nat × RoadPkt)) : Road.Holds { r with due := r.due ++ ps } dst c := by
  rcases h with h | ⟨p, hc, hp⟩
  · exact .inl h
  · exact .inr ⟨p, hc, List.mem_append_left _ hp⟩

end

theorem onRoads_of_holds {s : State} {d dst : Nat} {c : Cargo} (h : (s.road d).Holds dst c) : OnRoads s d dst c := by
  rcases h with ⟨k, p, _, hp⟩ | hdue
  · exact .inl ⟨k, p, hp⟩
  · exact .inr hdue

/-! #### Sending down -/

section
variable {α : Type} {f : State → α → State} {R P : State → Prop}

theorem foldl_keeps (hP : ∀ t a, P t → P (f t a)) (l : List α) : ∀ t : State, P t → P (l.foldl f t) := by
  induction l with
  | nil => exact fun _ h => h
  | cons b l ih => exact fun t h => ih _ (hP t b h)

/-- What one step brings about, and the others keep, holds after all of them. -/
theorem foldl_reaches (hR : ∀ t a, R t → R (f t a)) (hP : ∀ t a, P t → P (f t a)) {a : α} (ha : ∀ t, R t → P (f t a)) (l : List α) :
    ∀ t : State, a ∈ l → R t → P (l.foldl f t) := by
  induction l with
  | nil => exact fun _ h => nomatch h
  | cons b l ih =>
    intro t hmem ht
    rcases List.mem_cons.1 hmem with rfl | hmem
    · exact foldl_keeps hP l _ (ha t ht)
    · exact ih _ hmem (hR t b ht)

end

section
variable {s t : State} {d dst size : Nat} {c cargo : Cargo} {l : Layer} {pls : List Nat}

theorem road_setRoad (s : State) (d : Nat) (x : Road) : (s.setRoad d x).road d = x := by simp [State.road, State.setRoad]

theorem road_setRoad_other (s : State) {d j : Nat} (x : Road) (h : j ≠ d) : (s.setRoad d x).road j = s.road j := by
  simp [State.road, State.setRoad, tget_tput_other _ _ h]

/-- The bypass, and the tile that serves a position, rest on the tiles and the retirement table. -/
theorem bypassed_congr (htiles : t.tiles = s.tiles) (hdef : t.tileDef = s.tileDef) (hretire : t.retire = s.retire) (l : Layer) (k : Nat) :
    t.bypassed l k = s.bypassed l k := by
  have htile (k : Nat) : t.tile k = s.tile k := tile_congr htiles hdef k
  have hturn (k : Nat) : t.probeTurn k = s.probeTurn k := by
    unfold State.probeTurn State.tilesOf
    rw [htiles]
  have hdiv (k : Nat) : t.diverted k = s.diverted k := by
    rw [State.diverted, State.diverted, htile, hturn]
  have hreserve (n : Nat) : t.reserveFor k n = s.reserveFor k n := by rw [State.reserveFor, State.reserveFor, hretire]
  rw [State.bypassed, State.bypassed, htile, hreserve, hdiv]
  simp only [hdiv]

theorem downDst_congr (htiles : t.tiles = s.tiles) (hdef : t.tileDef = s.tileDef) (hretire : t.retire = s.retire) (l : Layer) (k : Nat) :
    downDst t l k = downDst s l k := by
  have hplace : t.physTile k = s.physTile k := physTile_congr hretire (by rw [tile_congr htiles hdef])
  rw [downDst, downDst, bypassed_congr htiles hdef hretire, hplace]

theorem sendDown_keeps {d' : Nat} (h : (s.road d').Holds dst c) : ((s.sendDown d cargo size l pls).road d').Holds dst c := by
  unfold State.sendDown
  dsimp only
  split
  · exact h
  · by_cases hd : d' = d
    · subst hd
      rw [road_setRoad]
      exact (h.send.send).more_due _
    · rw [road_setRoad_other _ _ hd]
      exact h

theorem bridgeFor_same (d b : Nat) : bridgeFor d d b = 0 ∨ bridgeFor d d b = 1 := by
  rw [bridgeFor, if_pos rfl, nearerBridge]
  split
  · exact .inr rfl
  · exact .inl rfl

/-- What is sent down to some places of a die is on its way to each of them. -/
theorem sendDown_holds {pl : Nat} (h : pl ∈ pls) : ((s.sendDown d cargo size l pls).road d).Holds (downDst s l pl) cargo := by
  have hne : ¬ pls.isEmpty = true := fun he => List.ne_nil_of_mem h (List.isEmpty_iff.1 he)
  unfold State.sendDown downDst
  dsimp only
  rw [if_neg hne, road_setRoad]
  split
  · next hby => exact .inr ⟨_, rfl, List.mem_append_right _ (List.mem_map.2 ⟨pl, List.mem_filter.2 ⟨h, hby⟩, rfl⟩)⟩
  · next hby =>
    have hmem : ∀ k, bridgeFor d d (endBlock (s.physTile pl % 65536)) = k → dstCode (s.physTile pl % 65536) pl ∈
        (pls.filter fun pl => !s.bypassed l pl && bridgeFor d d (endBlock (s.physTile pl % 65536)) == k).map
          fun pl => dstCode (s.physTile pl % 65536) pl :=
      fun k hk => List.mem_map.2 ⟨pl, List.mem_filter.2 ⟨h, by simp [hby, hk]⟩, rfl⟩
    refine Road.Holds.more_due ?_ _
    rcases bridgeFor_same d (endBlock (s.physTile pl % 65536)) with hk | hk
    · exact (Road.send_holds (hmem 0 hk)).send
    · exact Road.send_holds (hmem 1 hk)

/-- The part of a row that the positions `j` of the layer take on die `d`. -/
def sendPart (l : Layer) (k : Token) (r : SrcRow) (j : Nat) (t : State) (d : Nat) : State :=
  t.sendDown d (.vector (r.vec l k j)) vectorFlits l (((l.tiles.filter fun e => e.pos == j).map (·.tile)).filter fun pl => tileDie pl == d)

/-- The part of a row that the positions `j` of the layer take, die by die. -/
def sendPos (l : Layer) (k : Token) (r : SrcRow) (t : State) (j : Nat) : State :=
  ((((l.tiles.filter fun e => e.pos == j).map (·.tile)).map tileDie).eraseDups).foldl (sendPart l k r j) t

theorem sendRow_eq (s : State) (l : Layer) (k : Token) (r : SrcRow) :
    s.sendRow l k r = (List.range l.blocks).foldl (sendPos l k r) s := rfl

theorem sendRow_keeps {k : Token} {r : SrcRow} {d' : Nat} (h : (s.road d').Holds dst c) : ((s.sendRow l k r).road d').Holds dst c := by
  rw [sendRow_eq]
  refine foldl_keeps (P := fun t => (t.road d').Holds dst c) (fun t j ht => ?_) _ s h
  exact foldl_keeps (P := fun t => (t.road d').Holds dst c) (fun u d hu => sendDown_keeps hu) _ t ht

/-- A row is sent to every position of its layer. -/
theorem sendRow_holds {k : Token} {r : SrcRow} {e : TileEntry} (he : e ∈ l.tiles) (hpos : e.pos < l.blocks) :
    ((s.sendRow l k r).road (tileDie e.tile)).Holds (downDst s l e.tile) (.vector (r.vec l k e.pos)) := by
  have hR (j : Nat) (t : State) (d : Nat) (ht : Evolves 1073741824 s t) : Evolves 1073741824 s (sendPart l k r j t d) :=
    ht.trans (State.sendDown_evolves ..)
  have hP (j : Nat) (t : State) (d : Nat) (ht : (t.road (tileDie e.tile)).Holds (downDst s l e.tile) (.vector (r.vec l k e.pos))) :
      ((sendPart l k r j t d).road (tileDie e.tile)).Holds (downDst s l e.tile) (.vector (r.vec l k e.pos)) := sendDown_keeps ht
  have hmine : e.tile ∈ (l.tiles.filter fun f => f.pos == e.pos).map (·.tile) :=
    List.mem_map.2 ⟨e, List.mem_filter.2 ⟨he, by simp⟩, rfl⟩
  have hsend (t : State) (ht : Evolves 1073741824 s t) :
      ((sendPart l k r e.pos t (tileDie e.tile)).road (tileDie e.tile)).Holds (downDst s l e.tile) (.vector (r.vec l k e.pos)) := by
    rw [← downDst_congr (ht.same .tiles rfl) (ht.same .tileDef rfl) (ht.same .retire rfl)]
    exact sendDown_holds (List.mem_filter.2 ⟨hmine, by simp⟩)
  rw [sendRow_eq]
  refine foldl_reaches (R := fun t => Evolves 1073741824 s t)
    (P := fun t => (t.road (tileDie e.tile)).Holds (downDst s l e.tile) (.vector (r.vec l k e.pos)))
    (fun t j ht => ?_) (fun t j ht => ?_) (a := e.pos) (fun t ht => ?_) _ s (List.mem_range.2 hpos) .refl
  · exact foldl_keeps (hR j) _ _ ht
  · exact foldl_keeps (hP j) _ _ ht
  · exact foldl_reaches (hR e.pos) (hP e.pos) hsend _ _ (List.mem_eraseDups.2 (List.mem_map.2 ⟨_, hmine, rfl⟩)) ht

/-! #### A launch -/

/-- A product descriptor that waits for result rows does not end. -/
theorem finishProducts_busy {q : Nat} {r : Running} (hr : (s.queue q).running = some r) (hrows : r.work.rows ≠ []) :
    s.finishProducts q = s := by
  have hprod : s.runningProduct q = none ∨ s.runningProduct q = some r := by
    simp only [State.runningProduct, State.runningOp, hr]
    split <;> split <;> simp
  unfold State.finishProducts
  rcases hprod with h | h
  · rw [h]
  · rw [h]
    simp [hrows]

/-- Rows that are launched are sent to all positions of their layers, and the descriptor waits for its result rows. -/
theorem launch_spec {q stride total st : Nat} {r : Running} {rows : List (Layer × Token × SrcRow)} {roots out : List Nat}
    {slotAt pre : Option Nat} {areas : List (Nat × Nat)} (hr : (s.queue q).running = some r) (hout : out ≠ []) : ∃ v : State,
      s.launch q rows roots out stride total st slotAt pre areas = v.settleRoads ∧
      (∃ r', (v.queue q).running = some r' ∧ r'.desc = r.desc ∧ r'.done = r.done ∧ r'.work.started = true ∧ r'.work.rows = out) ∧
      ∀ x ∈ rows, ∀ e ∈ x.1.tiles, e.pos < x.1.blocks →
        OnRoads v (tileDie e.tile) (downDst v x.1 e.tile) (.vector (x.2.2.vec x.1 x.2.1 e.pos)) := by
  unfold State.launch
  extract_lets data u w
  have hu : u.queue q = s.queue q := by
    have hqueues : u.queues = s.queues := by
      cases slotAt with
      | none => rfl
      | some a => exact (State.writeMem_evolves ..).same .queues rfl
    exact queue_congr hqueues q
  have hw := running_modWork (hu ▸ hr) fun w => { w with
    started := true
    rows := out
    todo := roots
    n0 := (pre.map (· + 1)).getD 0
    n1 := stride
    n2 := total
    slotState := st
    areas := areas }
  change (w.queue q).running = _ at hw
  clear_value w
  have hev : Evolves 1073741824 w (rows.foldl (fun t r => t.sendRow r.1 r.2.1 r.2.2) w) := .foldl .refl fun _ _ => State.sendRow_evolves ..
  have hrun := (congrArg SubQ.running (queue_congr (hev.same .queues rfl) q)).trans hw
  have hstay : (rows.foldl (fun t r => t.sendRow r.1 r.2.1 r.2.2) w).finishProducts q = rows.foldl (fun t r => t.sendRow r.1 r.2.1 r.2.2) w := by
    refine finishProducts_busy hrun ?_
    exact hout
  refine ⟨_, congrArg State.settleRoads hstay, ⟨_, hrun, rfl, rfl, rfl, rfl⟩, fun x hx e he hpos => onRoads_of_holds ?_⟩
  rw [downDst_congr (hev.same .tiles rfl) (hev.same .tileDef rfl) (hev.same .retire rfl)]
  refine foldl_reaches (R := fun t => Evolves 1073741824 w t)
    (P := fun t => (t.road (tileDie e.tile)).Holds (downDst w x.1 e.tile) (.vector (x.2.2.vec x.1 x.2.1 e.pos)))
    (fun t y ht => ht.trans (State.sendRow_evolves ..)) (fun t y ht => sendRow_keeps ht) (a := x) (fun t ht => ?_) _ w hx .refl
  rw [← downDst_congr (ht.same .tiles rfl) (ht.same .tileDef rfl) (ht.same .retire rfl)]
  exact sendRow_holds he hpos

end

/-! #### FORWARD and DISPATCH -/

section
variable {s u : State} {q : Nat} {r : Running}

theorem badAccess_countReads (s : State) (xs ys : List (Bool × Place × Nat)) : (s.countReads xs).badAccess ys = s.badAccess ys := by
  obtain ⟨c, h⟩ := s.countReads_eq xs
  rw [h]
  rfl

theorem queues_productSlots {xs : List (Bool × Place × Nat)} {p phase slot len pre n st : Nat} {ckpt : Bool} {a b : Option Nat}
    (h : (s.countReads xs).productSlots p phase slot len ckpt pre n = .inr (u, st, a, b)) : u.queues = s.queues :=
  ((State.productSlots_evolves h).same .queues rfl).trans (s.countReads_queues xs)

theorem exec_forward_start (hrun : Runs s q 0x10 r) (h : r.work.started = false) : exec (.forward q) s = .next (s.startForward q r) := by
  change execForward q s = _
  rw [execForward, onRunning_run hrun, h]
  rfl

theorem exec_dispatch_start (hrun : Runs s q 0x11 r) (h : r.work.started = false) :
    exec (.dispatch q) s = .next (s.startDispatch q r) := by
  change execDispatch q s = _
  rw [execDispatch, onRunning_run hrun, h]
  rfl

end

/-- Settles O18, by `launch_spec`: what both descriptors do after their checks is a launch. -/
theorem forwardAndDispatchSendTheirRows : Obligations.ForwardAndDispatchSendTheirRows := by
  unfold Obligations.ForwardAndDispatchSendTheirRows
  dsimp only
  constructor
  · intro s u q st r l slotAt preAt hrun hstarted hl hfmt hsrc hdst hacc hslots hwrite hout
    obtain ⟨hr, -, hdone, -⟩ := runningOp_some hrun.2
    have hform : (bits (field r.desc 54 1) 0 2 == 3) = false := beq_false_of_ne (Nat.ne_of_lt hfmt)
    have hexec := exec_forward_start hrun hstarted
    unfold State.startForward at hexec
    dsimp only at hexec
    rw [hl] at hexec
    dsimp only at hexec
    simp only [firstFail, formIf, hform, Part.badRange, hsrc, hdst, if_true, Bool.false_eq_true, if_false] at hexec
    rw [State.access_of_pass hacc, hslots] at hexec
    dsimp only at hexec
    rw [State.slotsWritable, State.access_of_pass ((badAccess_countReads ..).trans hwrite)] at hexec
    simp only [State.countReads_mem] at hexec
    have hqueues : (if preAt.isSome = true then u.noteSlot (s.queuePart q) (if l.preact = true then field r.desc 52 2 else 65535) 1
        (field r.desc 28 3 + 1) l.outputs else u).queues = s.queues := by
      split
      · exact ((State.noteSlot_evolves ..).same .queues rfl).trans (queues_productSlots hslots)
      · exact queues_productSlots hslots
    obtain ⟨v, hv, ⟨r', hr', hdesc, hdone', hwork⟩, hroads⟩ := launch_spec ((congrArg SubQ.running (queue_congr hqueues q)).trans hr)
      (mt List.range_eq_nil.1 (Nat.ne_of_gt hout))
    refine ⟨_, hexec, v, hv, ⟨r', hr', hdesc, hdone'.trans hdone, hwork⟩, fun i hi e he hpos => ?_⟩
    exact hroads _ (List.mem_map.2 ⟨i, List.mem_range.2 hi, rfl⟩) e he hpos
  · intro s u q st r slotAt preAt hrun hstarted hfmt hlist hplace hdisp hsrc hdst hacc hslots hwrite hout
    obtain ⟨hr, -, hdone, -⟩ := runningOp_some hrun.2
    have hform : (bits (field r.desc 58 1) 0 2 == 3) = false := beq_false_of_ne (Nat.ne_of_lt hfmt)
    have hexec := exec_dispatch_start hrun hstarted
    unfold State.startDispatch at hexec
    dsimp only at hexec
    simp only [firstFail, formIf, hform, Part.badRange, hlist, hplace, Option.map_none, if_true, Bool.false_eq_true, if_false] at hexec
    rw [hdisp] at hexec
    simp only [hsrc, hdst, if_true] at hexec
    rw [State.access_of_pass hacc, hslots] at hexec
    dsimp only at hexec
    rw [State.slotsWritable, State.access_of_pass ((badAccess_countReads ..).trans hwrite)] at hexec
    simp only [State.countReads_mem] at hexec
    obtain ⟨v, hv, ⟨r', hr', hdesc, hdone', hwork⟩, hroads⟩ :=
      launch_spec ((congrArg SubQ.running (queue_congr (queues_productSlots hslots) q)).trans hr) hout
    refine ⟨_, hexec, v, hv, ⟨r', hr', hdesc, hdone'.trans hdone, hwork⟩, fun k hk e he hpos => ?_⟩
    exact hroads _ (List.mem_map.2 ⟨k, hk, rfl⟩) e he hpos

end Sys2Proof.Machine
end
